-- ==== Sys2Proof/Word.lean ====
section
/-! DEFINITION. Word.lean: the words of the lane memory port (R194, R211). -/

namespace Sys2Proof

/-- One byte of lane memory or of a serial frame. -/
abbrev Byte := BitVec 8

/-- One 16-bit word of the memory port (R194). -/
abbrev Word := BitVec 16

/-- A 32-bit quantity, two consecutive words, low word first (R211). -/
abbrev DWord := BitVec 32

end Sys2Proof
end

