-- ==== Sys2Proof/Syntax.lean ====
section
/-! DEFINITION. Syntax.lean: the commands of the block, one constructor per row of spec/opcode_table.json, with what each
carries from outside: a written register value, a sample's readings, the answer of a device on a link. -/

namespace Sys2Proof

/-- The discrete inputs of section 1.1, in the order of its table. -/
inductive Input where
  | beamR | beamF | plateIn | plateOut | presence | estop | key | ok | retry | skip | pause
deriving DecidableEq, Repr

/-- The raw levels of the eleven discrete inputs at one sample. `true` is INTERRUPTED for a beam, ACTIVE for a plate switch,
PRESENCE and ESTOP, SERVICE for KEY, PRESSED for a mechanic's key (section 1.1). -/
structure Levels where
  beamR : Bool
  beamF : Bool
  plateIn : Bool
  plateOut : Bool
  presence : Bool
  estop : Bool
  key : Bool
  ok : Bool
  retry : Bool
  skip : Bool
  pause : Bool
deriving DecidableEq, Repr

/-- The nine converter values of one sample, each a signed 16-bit number (R1). -/
structure Raws where
  tqL : Word
  tqR : Word
  ldL : Word
  ldR : Word
  pr1 : Word
  pr2 : Word
  pr3 : Word
  pr4 : Word
  ss : Word
deriving DecidableEq, Repr

/-- The pulses each pulse input gave since the previous sample (R1, R7). -/
structure Pulses where
  spdL : Nat
  spdR : Nat
  slpL : Nat
  slpR : Nat
deriving DecidableEq, Repr

/-- What the lane shows the sample engine at one sample (R1). -/
structure SampleInput where
  raws : Raws
  levels : Levels
  pulses : Pulses
deriving DecidableEq, Repr

/-- How the read of one stored NV word came back: undisturbed, with one more bit wrong, with two bits wrong, or not at all
(R14). The stored word and this together give one of the four results of R14. -/
inductive NvReply where
  | clean | single | double | silent
deriving DecidableEq, Repr

/-- What the NV device did with one word it was given to write: completed it, left the old word, or left an uncorrectable
error (R178). -/
inductive WordWrite where
  | done | kept | corrupt
deriving DecidableEq, Repr, Inhabited

/-- What the NV device did with the two words of a write (R17, R178). -/
structure NvCut where
  first : WordWrite
  second : WordWrite
deriving DecidableEq, Repr, Inhabited

/-- The journal modes of R195 and R202. -/
inductive JournalMode where
  | blocking | overwrite
deriving DecidableEq, Repr

/-- A side of the lane. -/
inductive Side where
  | left | right
deriving DecidableEq, Repr

/-- The commands: one constructor per row of spec/opcode_table.json, in the table's order. A command without operands acts on
what the state holds: a taking takes the lowest pending slot, an expiry the timer or count that has run out. -/
inductive Instr where
  /-- POWER_ON. The operand is what the NV device did with a write that the loss of power cut short, if one was in flight. -/
  | powerOn (cut : NvCut)
  /-- SET_JOURNAL_MODE: the journal mode field of a LANECTL write. -/
  | setJournalMode (mode : JournalMode)
  /-- SET_ATTENTION_MASK: the mask field of a LANECTL write. -/
  | setAttentionMask (mask : Byte)
  /-- LANE_RESET: the lane reset command bit of a LANECTL write. -/
  | laneReset
  /-- POST: a write to POST, bit n names slot n. -/
  | post (mask : Word)
  /-- ABORT: a write to ABORT, bit n names slot n. -/
  | abort (mask : Word)
  /-- JACK: a write to JACK. -/
  | jack (value : Word)
  /-- ATTN_WRITE: a write to ATTN. -/
  | attnWrite (value : Word)
  /-- REGISTER_WRITE_IGNORED: a write to IDENT or above 0x400B. -/
  | registerWriteIgnored (addr value : Word)
  /-- BAD_KIND: the taking of a slot whose kind is none of the nine. -/
  | badKind
  /-- CLEAR_FAULTS: its taking. -/
  | clearFaults
  /-- DISCARD_ATTEMPT: its taking. -/
  | discardAttempt
  /-- SET_TIME: its taking. -/
  | setTime
  /-- ZERO: its taking. -/
  | zero
  /-- CALIBRATE: its taking. -/
  | calibrate
  /-- RUN_PLAN: its taking. -/
  | runPlan
  /-- DRIVE_TEST: its taking. -/
  | driveTest
  /-- COMPOSE: its taking. -/
  | compose
  /-- PRINT: its taking. -/
  | print
  /-- SAMPLE: one sample of the sample engine. -/
  | sample (i : SampleInput)
  /-- SETTLED_CHANGE of one discrete input. -/
  | settledChange (i : Input)
  /-- SEATED. -/
  | seated
  /-- EXIT_WINDOW_EXPIRY. -/
  | exitWindowExpiry
  /-- SLIP_WINDOW_END. -/
  | slipWindowEnd
  /-- NO_PULSE of one side. -/
  | noPulse (side : Side)
  /-- SPINUP_STALL. -/
  | spinupStall
  /-- SLIP_STOP. -/
  | slipStop
  /-- LOW_SPEED_STALL. -/
  | lowSpeedStall
  /-- ROLLERS_AT_REST. -/
  | rollersAtRest
  /-- STOP_TIMEOUT. -/
  | stopTimeout
  /-- DRIVE_TEST_TIMER_EXPIRY. -/
  | driveTestTimerExpiry
  /-- ZERO_CAPTURE_END. -/
  | zeroCaptureEnd
  /-- WEIGH_WINDOW_END. -/
  | weighWindowEnd
  /-- START_WINDOW_EXPIRY. -/
  | startWindowExpiry
  /-- OVALITY_SETTLE_END. -/
  | ovalitySettleEnd
  /-- HOLD_COMPLETE. -/
  | holdComplete
  /-- OVALITY_LIMIT. -/
  | ovalityLimit
  /-- OPEN_WINDOW_EXPIRY. -/
  | openWindowExpiry
  /-- SERVICE_RELEASE. -/
  | serviceRelease
  /-- SERVICE_RUN_LIMIT. -/
  | serviceRunLimit
  /-- PARK_WINDOW_EXPIRY. -/
  | parkWindowExpiry
  /-- PARK_RELEASE. -/
  | parkRelease
  /-- PARK_RUN_LIMIT. -/
  | parkRunLimit
  /-- CROSSING_TIMEOUT. -/
  | crossingTimeout
  /-- CAL_READ_DONE: how the read came back. -/
  | calReadDone (reply : NvReply)
  /-- NV_READ_TIMEOUT. -/
  | nvReadTimeout
  /-- CALIBRATE_WRITE_DONE: what the device did with the zero word and the gain word, and whether it answered throughout. -/
  | calibrateWriteDone (cut : NvCut) (answered : Bool)
  /-- CALIBRATE_WRITE_TIMEOUT: what the device did with the two words. -/
  | calibrateWriteTimeout (cut : NvCut)
  /-- NV_PORT_RELEASED: what the device did with the two words of the broken-off write. -/
  | nvPortReleased (cut : NvCut)
  /-- NV_RELEASE_TIMEOUT: what the device did with the two words of the broken-off write. -/
  | nvReleaseTimeout (cut : NvCut)
  /-- COUNTER_READ_DONE: how the reads of the high and the low word came back. -/
  | counterReadDone (high low : NvReply)
  /-- COUNTER_READ_TIMEOUT. -/
  | counterReadTimeout
  /-- COUNTER_WRITE_DONE: what the device did with the high word and the low word, and whether it answered throughout. -/
  | counterWriteDone (cut : NvCut) (answered : Bool)
  /-- COUNTER_WRITE_TIMEOUT: what the device did with the two words. -/
  | counterWriteTimeout (cut : NvCut)
  /-- DISPLAY_REFRESH. -/
  | displayRefresh
  /-- DISPLAY_FRAME_SENT. -/
  | displayFrameSent
  /-- REPEAT_MARK_LAPSE. -/
  | repeatMarkLapse
  /-- PRINTER_FRAME_SENT. -/
  | printerFrameSent
  /-- PRINTER_REPLY: the status byte that arrived. -/
  | printerReply (byte : Byte)
  /-- PRINTER_REPLY_TIMEOUT. -/
  | printerReplyTimeout
  /-- BUSY_RESEND. -/
  | busyResend
  /-- POLL_TIMER_EXPIRY. -/
  | pollTimerExpiry
  /-- STALE_TIMER_EXPIRY. -/
  | staleTimerExpiry
  /-- GAUGE_UPDATE. -/
  | gaugeUpdate
  /-- LANE_TIME_TICK: one millisecond of lane time. -/
  | laneTimeTick
deriving DecidableEq, Repr

end Sys2Proof
end

