-- ==== Sys2Proof/Decode.lean ====
section
/-! DEFINITION. Decode.lean: the commands that a word spells. The rows of spec/opcode_table.json give no bits, so no word spells a
row by itself; a write to a register spells commands by the register's address and the written value (R194, R195). -/

namespace Sys2Proof

/-- The command a word spells by the table's bits: the table gives bits to no row. -/
def decodeTableWord (_nbits _w : Nat) : Option Instr := none

/-- The journal mode field of a LANECTL value (R211: bit 1). -/
def journalModeField (value : Word) : JournalMode := if value.toNat.testBit 1 then .overwrite else .blocking

/-- The attention mask field of a LANECTL value (R211: bits 15 to 8). -/
def attentionMaskField (value : Word) : Byte := value.extractLsb' 8 8

/-- The commands a write to a register makes, in the order in which they are taken: a write to LANECTL sets the journal mode and
the attention mask and then, with bit 0 set, performs the lane reset (R194, R195, R211). An odd address is no word address. -/
def registerCommands (addr value : Word) : List Instr :=
  if addr.toNat % 2 = 1 then []
  else if addr.toNat = 0x4002 then
    [.setJournalMode (journalModeField value), .setAttentionMask (attentionMaskField value)]
      ++ (if value.toNat.testBit 0 then [.laneReset] else [])
  else if addr.toNat = 0x4004 then [.post value]
  else if addr.toNat = 0x4006 then [.abort value]
  else if addr.toNat = 0x4008 then [.jack value]
  else if addr.toNat = 0x400A then [.attnWrite value]
  else if addr.toNat = 0x4000 ∨ 0x400B < addr.toNat then [.registerWriteIgnored addr value]
  else []

end Sys2Proof
end

