-- ==== Sys2Proof/Config.lean ====
section
/-! DEFINITION. Config.lean: what the part fixes (identification, NV contents as delivered) and what the manual leaves
free: the columns and spellings of a printed line, and what the NV device makes of a write that reached its limit. -/

namespace Sys2Proof

/-- What one printed field says (R184). An absent figure is printed as two hyphens. -/
inductive PrintField where
  /-- the heading of line 1 -/
  | heading
  /-- the word COPY on line 1 of a COPY job -/
  | copyWord
  /-- the characters of the vehicle identifier -/
  | characters (l : List Byte)
  /-- a number or the code of a named value -/
  | figure (v : Int)
  /-- a field that has no value -/
  | absent
deriving DecidableEq, Repr

/-- The lines of a printed certificate, in the order of the table of R184. -/
inductive LineKind where
  | headingLine | vehicleLine | fillLine | limitsLine | axleFirst | axleSecond | massLine | serviceLine | parkingLine
  | overallLine | numberLine | checkLine
deriving DecidableEq, Repr

/-- FREE VALUE. How much wider than its least width a column of a line is (R184: columns of fixed position and width, which are not
given). -/
opaque Config.columnSlack : LineKind → Nat → Nat

/-- FREE VALUE. How far into its column a field is printed, where it is shorter than the column (R184). -/
opaque Config.columnIndent : LineKind → Nat → Nat

/-- FREE VALUE. How a field of a line is spelled in a column of a width, with the spaces that fill the column, in characters less 32
(R184 gives the spelling of an absent field, of the word COPY and of text alone). -/
opaque Config.spelling : LineKind → Nat → PrintField → (width : Nat) → Vector (Fin 95) width

/-- FREE VALUE. What the NV device has made of the two words of a write that reached its 20 ms limit, by the millisecond, where no
command says it (R17, R18, R178). -/
opaque Config.cutAtLimit : Nat → NvCut

/-- IDENT bits 15 to 8 (R211). -/
def Config.partCode : Nat := 0x46

/-- IDENT bits 7 to 2 (R211). -/
def Config.revision : Nat := 1

/-- DESIGN CHOICE: the zero word of every stored calibration record of the NV store as delivered. -/
def Config.deliveredZero : Word := 0

/-- DESIGN CHOICE: the gain word of every stored calibration record as delivered, unit gain by the formula of R2. -/
def Config.deliveredGain : Word := 4096

/-- DESIGN CHOICE: the plate-length word of the stored lane identity as delivered, in mm. -/
def Config.deliveredPlateLength : Word := 1000

end Sys2Proof
end

