-- ==== Sys2Proof/Machine/State.lean ====
section
/-! DEFINITION. Machine/State.lean: everything the manual gives the part to hold, block by block, as plain data, and its
value after power-on. -/

namespace Sys2Proof.Machine

/-! ## Named values -/

/-- Lane mode (R22). -/
inductive LaneMode where
  | failsafe | service | normal
deriving DecidableEq, Repr

/-- Drive state (section 2.4). -/
inductive DriveState where
  | off | spinup | run | stopping | lockout
deriving DecidableEq, Repr

/-- Direction of a side (R3, R32). -/
inductive Direction where
  | forward | reverse
deriving DecidableEq, Repr

/-- Owner of a spin (section 2.4). -/
inductive Owner where
  | sequencer | driveTest
deriving DecidableEq, Repr

/-- Direction mode of a start command (section 2.5). -/
inductive DirMode where
  | normal | contra
deriving DecidableEq, Repr

/-- Stop reason (section 2.4). -/
inductive StopReason where
  | slipL | slipR | slipBoth | stall | unseat | presence | estop | mode | commanded | laneReset
deriving DecidableEq, Repr

/-- Lockout cause (section 2.4). -/
inductive LockCause where
  | estop | driveFault
deriving DecidableEq, Repr

/-- Why a start command was refused (R33). -/
inductive StartRefusal where
  | lockedOut | notOff | mode | estop | presence | notSeated
deriving DecidableEq, Repr

/-- A light beam: BEAM_R before the rollers, BEAM_F after them (section 2.1). -/
inductive Beam where
  | rear | front
deriving DecidableEq, Repr

/-- The beam record of the tracker (R27). -/
inductive BeamRecord where
  | empty
  | rearOpen (load follower : Bool)
  | frontOpen (follower : Bool)
deriving DecidableEq, Repr

/-- When the beam tracker is to (re)start: R31 names the first analog sample after power-on and the first sample after a lane
reset. -/
inductive TrackerStart where
  | none | atAnalogSample | atSample
deriving DecidableEq, Repr

/-- Axle status (R50). -/
inductive AxleStatus where
  | empty | pending | inTest | done | skipped
deriving DecidableEq, Repr

/-- Skip reason (R50). -/
inductive SkipReason where
  | mechanic | rolledThrough | aborted
deriving DecidableEq, Repr

/-- End reason of an attempt or a parking run (R53). -/
inductive EndReason where
  | slipL | slipR | slipBoth | release | runLimit | unseat | stall | presence | estop | abort | pause
deriving DecidableEq, Repr

/-- Ramp outcome (R53). -/
inductive RampOutcome where
  | good | fast | weak | notAssessed
deriving DecidableEq, Repr

/-- Projection flag (R53). -/
inductive ProjFlag where
  | atReference | lowPressure | locked
deriving DecidableEq, Repr

/-- Phase of the brake run unit (section 4.1). -/
inductive Phase where
  | idle | armed | ovality | serviceOnset | serviceRamp | serviceRun | parkOnset | parkRun
deriving DecidableEq, Repr

/-- Step within OVALITY (section 4.1). -/
inductive OvalityStep where
  | onsetWait | settle | hold | releaseWait
deriving DecidableEq, Repr

/-- The prompt the unit holds for the display (R71). -/
inductive Prompt where
  | none | release | apply | hold | repeatApply | applyParking
deriving DecidableEq, Repr

/-- Crossing state of the plate unit (R113). -/
inductive Crossing where
  | idle | forwardOn | reverseOn
deriving DecidableEq, Repr

/-- Sequencer state (section 7.2). -/
inductive SeqState where
  | idle | approach | weigh | spinup | ovality | serviceOnset | serviceRamp | serviceRun | parkOnset | parkRun
  | spindown | review | exitWait | paused | complete | aborted
deriving DecidableEq, Repr

/-- Held exit (section 7.2). -/
inductive HeldExit where
  | none | forward | backward
deriving DecidableEq, Repr

/-- Retest offer (section 7.2). -/
inductive RetestOffer where
  | result | offerRetest
deriving DecidableEq, Repr

/-- Unit code of a display field (R155). -/
inductive UnitCode where
  | absent | dan | kg | kpa | percent | count
deriving DecidableEq, Repr

/-- Item verdict (section 9.2). -/
inductive Verdict where
  | pass | fail | notTested | invalid | notRequested
deriving DecidableEq, Repr

/-- Overall verdict (R169). -/
inductive Overall where
  | pass | fail | incomplete
deriving DecidableEq, Repr

/-- State of a certificate record (R170). -/
inductive RecordState where
  | empty | composing | issued | archived
deriving DecidableEq, Repr

/-- State of a print job (section 10). -/
inductive JobState where
  | queued | printing | done | cancelled | failed
deriving DecidableEq, Repr

/-- Class of a print job (R182). -/
inductive JobClass where
  | original | copy
deriving DecidableEq, Repr

/-- State of the printer link (section 10). -/
inductive LinkState where
  | ready | sending | waitReply | pausedPaper | offline
deriving DecidableEq, Repr

/-- The nine request kinds (R198). -/
inductive Kind where
  | clearFaults | discardAttempt | setTime | zero | calibrate | runPlan | driveTest | compose | print
deriving DecidableEq, Repr

/-- The request unit's own record of a slot (section 11.2). -/
inductive Held where
  | free | posted | active (k : Kind)
deriving DecidableEq, Repr

/-- Outcome of a request (R211). -/
inductive ReqOutcome where
  | ok | refusedMode | refusedState | refusedBusy | badParam | badKind | failed | aborted | reset
deriving DecidableEq, Repr

/-- Detail of an outcome (R211). `param` is the parameter or field number of BAD_PARAM. -/
inductive Detail where
  | none
  | planActive | testActive | zeroActive | calibrateActive | composeActive | kindActive | driveNotOff | vehiclePresent
  | lockedOut | notOff | mode | estop | presence | notSeated
  | slipL | slipR | slipBoth | stall | unseat | driveFault
  | certified | inTest | listEmpty | noPlan | issued | job | noRecord | counterFull
  | nvError | lateAbort | withdrawn | empty | composing | spoolFull | crc | printerFault | noReply | lateCancel
  | param (n : Nat)
deriving DecidableEq, Repr

/-- Start cause shown in IDENT (R194). -/
inductive StartCause where
  | powerOn | laneReset
deriving DecidableEq, Repr

/-! ## Lane memory -/

/-- Lane memory: the bytes that do not read as zero, by rising address (R196: power-on clears it to zero). -/
abbrev Memory := List Host.Cell

/-! ## Time -/

/-- The model's own clock, from which the part's timers are counted (R70, R199). -/
structure Clock where
  /-- samples taken since power-on -/
  sampleNo : Nat
  /-- milliseconds since power-on; no SET_TIME changes it -/
  ms : Nat
deriving DecidableEq, Repr

/-! ## Sample engine -/

/-- A calibration record (R14). -/
structure CalRecord where
  zero : Int
  gain : Int
  valid : Bool
deriving DecidableEq, Repr

/-- One analog channel: its raw value at the most recent sample, filter history (oldest first) and filtered value (R4). -/
structure Channel where
  raw : Int
  history : List Int
  filtered : Int
deriving DecidableEq, Repr

/-- The fault flags of one indexed channel (section 1.5). -/
structure FaultFlags where
  overRange : Bool
  openWire : Bool
  noPulse : Bool
deriving DecidableEq, Repr

/-- A discrete input: debounced level and change count (R5). -/
structure DiscreteInput where
  level : Bool
  count : Nat
deriving DecidableEq, Repr

/-- The capture of a ZERO (R20): samples taken, and the sums of TQ_L, TQ_R, LD_L, LD_R and SS. -/
structure ZeroCapture where
  slot : Nat
  count : Nat
  sums : List Int
deriving DecidableEq, Repr

/-- A CALIBRATE in progress (R16 to R18). -/
structure CalibrateOp where
  slot : Nat
  channel : Nat
  zero : Int
  gain : Int
  lateAbort : Bool
deriving DecidableEq, Repr

/-- The sample engine. -/
structure Engine where
  mode : LaneMode
  cals : List CalRecord
  chans : List Channel
  faults : List FaultFlags
  inputs : List DiscreteInput
  /-- a first sample has been taken since power-on (R5) -/
  started : Bool
  /-- the power-on calibration load is in progress (R15) -/
  loading : Bool
  /-- the zero word of the record being loaded, absent when it could not be read (R15) -/
  loadZero : Option Int
  /-- samples in the slip window in progress (R7) -/
  windowSamples : Nat
  /-- pulses counted in the slip window in progress (R7) -/
  pulses : Pulses
  slipL : Option Nat
  slipR : Option Nat
  /-- Pd of both sides in the most recent window that has ended (R7, R40) -/
  lastPd : Option (Nat × Nat)
  noPulseL : Nat
  noPulseR : Nat
  capture : Option ZeroCapture
  calib : Option CalibrateOp
deriving DecidableEq, Repr

/-! ## NV port and store -/

/-- One stored NV word with its check code: in agreement with it, one bit off (the corrected word is given), or two bits off
(R14). -/
inductive NvWord where
  | clean (w : Word)
  | single (w : Word)
  | double
deriving DecidableEq, Repr

/-- The serial EEPROM on the lane board: nine calibration records (zero word, gain word), the plate-length word of the lane
identity, and the certificate counter (R14, R113, R176). -/
structure NvStore where
  cals : List (NvWord × NvWord)
  identity : NvWord
  counterHigh : NvWord
  counterLow : NvWord
deriving DecidableEq, Repr

/-- What the NV port is doing (R15, R17, R18, R176, R178). -/
inductive NvOp where
  /-- reading word k of the load: 0 to 17 the calibration words, 18 the identity -/
  | loadWord (k : Nat)
  | calWrite (channel : Nat) (zero gain : Word)
  | counterRead
  | counterWrite (value : Nat)
  /-- a CALIBRATE write broken off by a lane reset -/
  | brokenCal (channel : Nat) (zero gain : Word)
  /-- a counter write broken off by a lane reset -/
  | brokenCounter (value : Nat)
deriving DecidableEq, Repr

/-- The NV port: the store, the operation in flight with the millisecond it started, and one waiting (R18). -/
structure Nv where
  store : NvStore
  op : Option NvOp
  started : Nat
  waiting : Option NvOp
deriving DecidableEq, Repr

/-! ## Seating detector and roller drive -/

/-- The seating detector (section 2.1). -/
structure Seating where
  seated : Bool
  qualify : Nat
  lastBeam : Option Beam
  /-- the exit window: closed, or the samples since it opened -/
  exitWindow : Option Nat
  record : BeamRecord
  /-- the beam tracker is active (R27) -/
  active : Bool
  restart : TrackerStart
deriving DecidableEq, Repr

/-- The roller drive (section 2.4) and its motor outputs. -/
structure Drive where
  state : DriveState
  /-- the energise outputs of both sides (R32) -/
  energised : Bool
  dirL : Direction
  dirR : Direction
  owner : Option Owner
  slipLimit : Nat
  stopReason : Option StopReason
  lockCause : Option LockCause
  estopSeen : Bool
  spinupCount : Nat
  overL : Nat
  overR : Nat
  lowL : Nat
  lowR : Nat
  restCount : Nat
  stopCount : Nat
deriving DecidableEq, Repr

/-- An ACTIVE DRIVE_TEST (R42 to R44): its test timer while it runs, and its outcome once decided. -/
structure DriveTest where
  slot : Nat
  duration : Nat
  timer : Option Nat
  decided : Option (ReqOutcome × Detail)
deriving DecidableEq, Repr

/-! ## Axle table -/

/-- One axle entry of a plan record, as stored (section 7.1, R211). -/
structure PlanAxle where
  tests : Word
  kind : Word
  channel : Word
  p0 : Word
  pref : Word
  coupling : Word
  mark : Word
deriving DecidableEq, Repr

/-- A plan record, as stored (section 7.1, R211). -/
structure Plan where
  vehicle : List Byte
  presence : Word
  limitsRow : Word
  axleCount : Word
  refMass : Word
  slipLimit : Word
  startWindow : Word
  closeWindow : Word
  openWindow : Word
  holdTime : Word
  maxViolations : Word
  axles : List PlanAxle
deriving DecidableEq, Repr

/-- A row of the limits table, as stored (R164). -/
structure LimitsRow where
  minService : Word
  minParking : Word
  maxImbalance : Word
  maxOvality : Word
  slipMin : Word
  slipMax : Word
deriving DecidableEq, Repr

/-- The side-slip field (R51). -/
structure SideSlip where
  value : Option Int
  uncentred : Bool
  missed : Bool
  void : Bool
deriving DecidableEq, Repr

/-- An attempt record (R53). -/
structure Attempt where
  peakL : Int
  peakR : Int
  pressL : Option Int
  pressR : Option Int
  projL : Option Int
  projR : Option Int
  flagL : Option ProjFlag
  flagR : Option ProjFlag
  imbalance : Option Int
  ovalityL : Option Int
  ovalityR : Option Int
  axleOvality : Option Int
  reason : EndReason
  ramp : RampOutcome
  sensor : Bool
  noOnset : Bool
  unsteady : Bool
  time : DWord
deriving DecidableEq, Repr

/-- A parking result (R54). -/
structure Parking where
  peakL : Int
  peakR : Int
  reason : EndReason
  time : DWord
deriving DecidableEq, Repr

/-- An axle record (R50 to R54). The attempt list is bottom first. -/
structure AxleRecord where
  status : AxleStatus
  skip : Option SkipReason
  weightL : Option Int
  weightR : Option Int
  sideSlip : SideSlip
  parking : Option Parking
  attempts : List Attempt
  overflow : Bool
  violations : Nat
deriving DecidableEq, Repr

/-- The axle table (R48). -/
structure AxleTable where
  plan : Plan
  limits : LimitsRow
  axleCount : Nat
  cursor : Nat
  plateCount : Nat
  certified : Bool
  runId : Nat
  records : List AxleRecord
deriving DecidableEq, Repr

/-- One side of a stability window (section 3.6). -/
structure WeighSide where
  sum : Int
  greatest : Int
  least : Int
  overRange : Bool
deriving DecidableEq, Repr

/-- A weighing in progress (R60): its axle, the samples since SEATED, whether a window is being gathered, and its sides. -/
structure Weighing where
  axle : Nat
  count : Nat
  gathering : Bool
  left : WeighSide
  right : WeighSide
deriving DecidableEq, Repr

/-! ## Brake run unit -/

/-- The runs named for a spin (R68). -/
structure Runs where
  ovality : Bool
  service : Bool
  parking : Bool
deriving DecidableEq, Repr

/-- The plan values read at arming (R68). -/
structure ArmValues where
  startWindow : Nat
  closeWindow : Nat
  openWindow : Nat
  holdTime : Nat
  maxViolations : Nat
  air : Bool
  /-- the index of the axle's pressure channel, 4 to 7 -/
  channel : Option Nat
  p0 : Int
  pref : Int
  planMark : Int
deriving DecidableEq, Repr

/-- Greatest and least force of a side over the hold (R77). -/
structure Extremes where
  fmax : Int
  fmin : Int
deriving DecidableEq, Repr

/-- The brake run unit (section 4.1). -/
structure RunUnit where
  phase : Phase
  step : OvalityStep
  axle : Nat
  runs : Runs
  arm : ArmValues
  /-- reference sample of the start window in progress -/
  waitRef : Nat
  /-- first sample of the onset wait in progress -/
  waitBegan : Nat
  releaseMark : Bool
  parkExpiries : Nat
  ovalityOnset : Nat
  holdRef : Nat
  serviceOnset : Nat
  rampMark : Int
  ramp : RampOutcome
  releaseCount : Nat
  /-- peaks of the attempt part are being tracked (R82) -/
  tracking : Bool
  peakL : Int
  peakR : Int
  pressL : Option Int
  pressR : Option Int
  extL : Option Extremes
  extR : Option Extremes
  ovalityL : Option Int
  ovalityR : Option Int
  axleOvality : Option Int
  unsteady : Bool
  worst : Option Int
  tqFaultSeen : Bool
  openSeen : Bool
  /-- the fixed attempt that waits for a parking run on the same spin (R88) -/
  held : Option Attempt
  parkOnset : Nat
  parkPeakL : Int
  parkPeakR : Int
  parkRelease : Nat
deriving DecidableEq, Repr

/-! ## Plate unit, sequencer, display -/

/-- The plate unit (R113); its plate count is the table's. -/
structure Plate where
  crossing : Crossing
  d0 : Int
  follower : Bool
  ref : Nat
  length : Option Nat
deriving DecidableEq, Repr

/-- The test sequencer (section 7.2); its cursor is the table's. -/
structure Sequencer where
  state : SeqState
  reviewMarks : List Bool
  heldExit : HeldExit
  parkingOwed : Bool
  refusal : Option StartRefusal
  offer : RetestOffer
deriving DecidableEq, Repr

/-- A composed display frame: its message number and its bytes in the order sent (R152). -/
structure Frame where
  message : Nat
  bytes : List Byte
deriving DecidableEq, Repr

/-- The display link (chapter 8). A timer holds the millisecond at which it expires. -/
structure Display where
  sending : Option Frame
  waiting : Option Frame
  refresh : Option Nat
  period : Nat
  repeatMark : Option Nat
  lastMessage : Nat
deriving DecidableEq, Repr

/-! ## Certificates -/

/-- What an axle line takes from the top attempt (R171). -/
structure TopFigures where
  reason : EndReason
  ramp : RampOutcome
  sensor : Bool
  noOnset : Bool
  unsteady : Bool
  peakL : Int
  peakR : Int
  projL : Option Int
  projR : Option Int
  flagL : Option ProjFlag
  flagR : Option ProjFlag
  imbalance : Option Int
  axleOvality : Option Int
deriving DecidableEq, Repr

/-- An axle line of a certificate (R171). -/
structure AxleLine where
  status : AxleStatus
  skip : Option SkipReason
  weightL : Option Int
  weightR : Option Int
  attemptCount : Nat
  overflow : Bool
  top : Option TopFigures
  parkPeakL : Int
  parkPeakR : Int
  parkReason : Option EndReason
  sideSlip : SideSlip
  imbalanceVerdict : Verdict
  ovalityVerdict : Verdict
  sideSlipVerdict : Verdict
deriving DecidableEq, Repr

/-- A certificate record (R171). -/
structure CertRecord where
  state : RecordState
  number : Nat
  time : DWord
  runId : Nat
  vehicle : List Byte
  limitsRow : Word
  limits : LimitsRow
  axleCount : Nat
  lines : List AxleLine
  mass : Option Nat
  serviceEff : Option Nat
  serviceVerdict : Verdict
  parkingEff : Option Nat
  parkingVerdict : Verdict
  overall : Overall
  checkWord : Word
  printCount : Nat
deriving DecidableEq, Repr

/-- Where a COMPOSE stands (section 9.4). -/
inductive ComposeStage where
  | reading | writing (value : Nat)
deriving DecidableEq, Repr

/-- An ACTIVE COMPOSE (R175 to R179). -/
structure ComposeOp where
  slot : Nat
  target : Nat
  stage : ComposeStage
  /-- the outcome is decided ABORTED (R179) -/
  aborted : Bool
  /-- an ABORT came too late (R179) -/
  lateAbort : Bool
deriving DecidableEq, Repr

/-- The certificate composer. -/
structure Composer where
  records : List CertRecord
  lastIssued : Nat
  op : Option ComposeOp
deriving DecidableEq, Repr

/-! ## Print spool and printer link -/

/-- A print job (chapter 10). -/
structure Job where
  slot : Nat
  record : Nat
  cls : JobClass
  noRetry : Bool
  state : JobState
  cancelMark : Bool
  linesTaken : Nat
deriving DecidableEq, Repr

/-- What a frame on the printer line is (R185). -/
inductive WireFrame where
  | line (bytes : List Byte)
  | poll (bytes : List Byte)
deriving DecidableEq, Repr

/-- The print spool and printer link (chapter 10). A timer holds the millisecond at which it expires. -/
structure Printer where
  jobs : List Job
  link : LinkState
  /-- the frame on the line -/
  wire : Option WireFrame
  /-- the line in hand is the CANCELLED line (R192) -/
  cancelLine : Bool
  /-- the text of the line in hand -/
  text : List Byte
  sequence : Byte
  crcResends : Nat
  noReplies : Nat
  replyTimer : Option Nat
  /-- a poll's reply window is open (R186) -/
  pollWindow : Bool
  pollTimer : Option Nat
  /-- the 200 ms hold after BUSY (R187) -/
  busyTimer : Option Nat
deriving DecidableEq, Repr

/-! ## Request unit and journal -/

/-- The journal's indices, totals and timers (R202 to R205). -/
structure Journal where
  mode : JournalMode
  put : BitVec 8
  ack : BitVec 8
  produced : DWord
  stored : DWord
  dropped : DWord
  overwritten : DWord
  /-- entries dropped since the previous entry was written -/
  gap : Nat
  staleTimer : Option Nat
deriving DecidableEq, Repr

/-- The attention register, its mask and the attention line (R195, R207). -/
structure Attention where
  bits : Byte
  mask : Byte
  line : Bool
deriving DecidableEq, Repr

/-- The gauge record's counts (R208). -/
structure Gauge where
  samples : Nat
  sequence : Word
  skipped : Word
deriving DecidableEq, Repr

/-! ## The machine -/

/-- The whole part, and the queue of commands that wait. -/
structure State where
  pending : List Instr
  mem : Memory
  clk : Clock
  time : DWord
  cause : StartCause
  slots : List Held
  jr : Journal
  att : Attention
  gauge : Gauge
  eng : Engine
  nv : Nv
  seat : Seating
  drv : Drive
  dtest : Option DriveTest
  tab : AxleTable
  weigh : Option Weighing
  run : RunUnit
  plate : Plate
  seq : Sequencer
  disp : Display
  comp : Composer
  prn : Printer
deriving DecidableEq, Repr

/-- There is no fault: the manual names no event at which the part stops. Safe. -/
inductive Fault where
deriving DecidableEq, Repr

/-- Why a command could have no meaning. -/
inductive Refusal where
  /-- Raised by `exec` alone, for a command that has no meaning yet; no command is without one. Safe. -/
  | notModelled (mnemonic : String)
deriving DecidableEq, Repr

/-! ## Values after power-on -/

/-- A plan record of zeros (R66). -/
def Plan.zero : Plan where
  vehicle := List.replicate 20 0
  presence := 0
  limitsRow := 0
  axleCount := 0
  refMass := 0
  slipLimit := 0
  startWindow := 0
  closeWindow := 0
  openWindow := 0
  holdTime := 0
  maxViolations := 0
  axles := List.replicate 8 ⟨0, 0, 0, 0, 0, 0, 0⟩

/-- A limits row of zeros (R66). -/
def LimitsRow.zero : LimitsRow := ⟨0, 0, 0, 0, 0, 0⟩

/-- An axle record with the given status and nothing else (R64, R66). -/
def AxleRecord.cleared (st : AxleStatus) : AxleRecord where
  status := st
  skip := none
  weightL := none
  weightR := none
  sideSlip := ⟨none, false, false, false⟩
  parking := none
  attempts := []
  overflow := false
  violations := 0

/-- The empty axle table with a given run identifier (R66, R67). -/
def AxleTable.emptied (runId : Nat) : AxleTable where
  plan := Plan.zero
  limits := LimitsRow.zero
  axleCount := 0
  cursor := 0
  plateCount := 0
  certified := false
  runId := runId
  records := List.replicate 8 (AxleRecord.cleared .empty)

/-- The brake run unit IDLE with all counts, marks, peaks and times 0 or clear (R93); of its step, its axle and its copy of the plan values no
rule says more (log entry 34). -/
def RunUnit.cleared : RunUnit where
  phase := .idle
  step := .onsetWait
  axle := 0
  runs := ⟨false, false, false⟩
  arm := ⟨0, 0, 0, 0, 0, false, none, 0, 0, 0⟩
  waitRef := 0
  waitBegan := 0
  releaseMark := false
  parkExpiries := 0
  ovalityOnset := 0
  holdRef := 0
  serviceOnset := 0
  rampMark := 0
  ramp := .notAssessed
  releaseCount := 0
  tracking := false
  peakL := 0
  peakR := 0
  pressL := none
  pressR := none
  extL := none
  extR := none
  ovalityL := none
  ovalityR := none
  axleOvality := none
  unsteady := false
  worst := none
  tqFaultSeen := false
  openSeen := false
  held := none
  parkOnset := 0
  parkPeakL := 0
  parkPeakR := 0
  parkRelease := 0

/-- The sequencer IDLE with its own state cleared (R149). -/
def Sequencer.cleared (st : SeqState) : Sequencer where
  state := st
  reviewMarks := List.replicate 8 false
  heldExit := .none
  parkingOwed := false
  refusal := none
  offer := .result

/-- An EMPTY certificate record with zero contents (R180). -/
def CertRecord.cleared (st : RecordState) : CertRecord where
  state := st
  number := 0
  time := 0
  runId := 0
  vehicle := []
  limitsRow := 0
  limits := LimitsRow.zero
  axleCount := 0
  lines := []
  mass := none
  serviceEff := none
  serviceVerdict := .pass
  parkingEff := none
  parkingVerdict := .pass
  overall := .pass
  checkWord := 0
  printCount := 0

/-- The NV store as delivered: the counter of a board that has issued no certificate is 0 (R176). -/
def NvStore.delivered : NvStore where
  cals := List.replicate 9 (.clean Config.deliveredZero, .clean Config.deliveredGain)
  identity := .clean Config.deliveredPlateLength
  counterHigh := .clean 0
  counterLow := .clean 0

/-- The sample engine after power-on (R23). -/
def Engine.atPowerOn : Engine where
  mode := .failsafe
  cals := List.replicate 9 ⟨0, 0, false⟩
  chans := List.replicate 9 ⟨0, [], 0⟩
  faults := List.replicate 11 ⟨false, false, false⟩
  inputs := List.replicate 11 ⟨false, 0⟩
  started := false
  loading := true
  loadZero := none
  windowSamples := 0
  pulses := ⟨0, 0, 0, 0⟩
  slipL := none
  slipR := none
  lastPd := none
  noPulseL := 0
  noPulseR := 0
  capture := none
  calib := none

/-- The roller drive after power-on (R45). -/
def Drive.atPowerOn : Drive where
  state := .off
  energised := false
  dirL := .forward
  dirR := .forward
  owner := none
  slipLimit := 0
  stopReason := none
  lockCause := none
  estopSeen := false
  spinupCount := 0
  overL := 0
  overR := 0
  lowL := 0
  lowR := 0
  restCount := 0
  stopCount := 0

/-- The part after power-on with a given NV store and queue. Lane memory is cleared to zero (R196) but for the header word
that shows the printer link OFFLINE (R193, R211). -/
def State.powered (store : NvStore) (pending : List Instr) : State where
  pending := pending
  mem := [(8, 4)]
  clk := ⟨0, 0⟩
  time := 0
  cause := .powerOn
  slots := List.replicate 16 .free
  jr := ⟨.blocking, 0, 0, 0, 0, 0, 0, 0, none⟩
  att := ⟨0, 0, false⟩
  gauge := ⟨0, 0, 0⟩
  eng := Engine.atPowerOn
  nv := ⟨store, some (.loadWord 0), 0, none⟩
  seat := ⟨false, 0, none, none, .empty, false, .atAnalogSample⟩
  drv := Drive.atPowerOn
  dtest := none
  tab := AxleTable.emptied 0
  weigh := none
  run := RunUnit.cleared
  plate := ⟨.idle, 0, false, 0, none⟩
  seq := Sequencer.cleared .idle
  disp := ⟨none, none, none, 0, none, 0⟩
  comp := ⟨List.replicate 4 (CertRecord.cleared .empty), 0, none⟩
  prn := ⟨[], .offline, none, false, [], 0, 0, 0, none, false, none, none⟩

/-- The machine right after reset: power-on with the NV store as delivered and no command waiting. -/
def State.reset : State := State.powered NvStore.delivered []

/-! ## Updates of one part of the state -/

def State.setPending (s : State) (x : List Instr) : State := { s with pending := x }
def State.setMem (s : State) (x : Memory) : State := { s with mem := x }
def State.setClk (s : State) (x : Clock) : State := { s with clk := x }
def State.setTime (s : State) (x : DWord) : State := { s with time := x }
def State.setCause (s : State) (x : StartCause) : State := { s with cause := x }
def State.setSlots (s : State) (x : List Held) : State := { s with slots := x }
def State.setJr (s : State) (x : Journal) : State := { s with jr := x }
def State.setAtt (s : State) (x : Attention) : State := { s with att := x }
def State.setGauge (s : State) (x : Gauge) : State := { s with gauge := x }
def State.setEng (s : State) (x : Engine) : State := { s with eng := x }
def State.setNv (s : State) (x : Nv) : State := { s with nv := x }
def State.setSeat (s : State) (x : Seating) : State := { s with seat := x }
def State.setDrv (s : State) (x : Drive) : State := { s with drv := x }
def State.setDtest (s : State) (x : Option DriveTest) : State := { s with dtest := x }
def State.setTab (s : State) (x : AxleTable) : State := { s with tab := x }
def State.setWeigh (s : State) (x : Option Weighing) : State := { s with weigh := x }
def State.setRun (s : State) (x : RunUnit) : State := { s with run := x }
def State.setPlate (s : State) (x : Plate) : State := { s with plate := x }
def State.setSeq (s : State) (x : Sequencer) : State := { s with seq := x }
def State.setDisp (s : State) (x : Display) : State := { s with disp := x }
def State.setComp (s : State) (x : Composer) : State := { s with comp := x }
def State.setPrn (s : State) (x : Printer) : State := { s with prn := x }

end Sys2Proof.Machine
end

