-- ==== Sys2Proof/Machine/Ops.lean ====
section
/-! DEFINITION. Machine/Ops.lean: reading and writing lane memory, and small reads and writes of lists held in the state. -/

namespace Sys2Proof.Machine

/-! ## Words and bytes (R211: little-endian, a 32-bit value low word first) -/

/-- A word from a count, modulo 2^16. -/
def word (n : Nat) : Word := BitVec.ofNat 16 n

/-- A signed value as a two's complement word (R211). -/
def signedWord (i : Int) : Word := BitVec.ofInt 16 i

/-- Two values in one word, the first in the low byte (R206). -/
def bytePair (lo hi : Nat) : Word := BitVec.ofNat 16 (lo % 256 + 256 * (hi % 256))

/-- The low byte of a word. -/
def lowByte (w : Word) : Byte := w.extractLsb' 0 8

/-- The high byte of a word. -/
def highByte (w : Word) : Byte := w.extractLsb' 8 8

/-- The low word of a 32-bit value. -/
def lowWord (d : DWord) : Word := d.extractLsb' 0 16

/-- The high word of a 32-bit value. -/
def highWord (d : DWord) : Word := d.extractLsb' 16 16

/-- Whether bit n of a word is set. -/
def bitOf (w : Word) (n : Nat) : Bool := w.toNat.testBit n

/-- A word with bit k set where the k-th entry of the list is true (presence words and flag words, R211). -/
def flagWord (l : List Bool) : Word :=
  BitVec.ofNat 16 (l.foldr (fun b n => 2 * n + b.toNat) 0)

/-! ## Lane memory -/

/-- The byte at an address; an address that is not listed reads 0 (R196). -/
def Memory.readByte : Memory → Nat → Byte
  | [], _ => 0
  | (k, v) :: m, a => if k = a then v else Memory.readByte m a

/-- Writes one byte, keeping addresses rising and no zero listed. -/
def Memory.writeByte : Memory → Nat → Byte → Memory
  | [], a, b => if b = 0 then [] else [(a, b)]
  | (k, v) :: m, a, b =>
    if a < k then (if b = 0 then (k, v) :: m else (a, b) :: (k, v) :: m)
    else if a = k then (if b = 0 then m else (a, b) :: m)
    else (k, v) :: Memory.writeByte m a b

/-- The canonical form: addresses strictly rising, no entry equal to what an unlisted address reads as. -/
abbrev Memory.wf (m : Memory) : Prop :=
  m.Pairwise (fun x y => x.1 < y.1) ∧ ∀ c ∈ m, c.2 ≠ 0

/-- The word at an even address, low byte first (R211). -/
def Memory.readWord (m : Memory) (a : Nat) : Word :=
  (Memory.readByte m (a + 1)).append (Memory.readByte m a)

/-- The 32-bit value at an address, low word first (R211). -/
def Memory.readDWord (m : Memory) (a : Nat) : DWord :=
  (Memory.readWord m (a + 2)).append (Memory.readWord m a)

/-- Writes one word, low byte first (R211). -/
def Memory.writeWord (m : Memory) (a : Nat) (w : Word) : Memory :=
  Memory.writeByte (Memory.writeByte m a (lowByte w)) (a + 1) (highByte w)

/-- Writes consecutive words from an address on. -/
def Memory.writeWords (m : Memory) (a : Nat) : List Word → Memory
  | [] => m
  | w :: ws => Memory.writeWords (Memory.writeWord m a w) (a + 2) ws

/-- Writes, of consecutive words from an address on, those that differ between an old and a new image (R196: a word is
rewritten at the event that changes the state behind it). -/
def Memory.writeChanged (m : Memory) (a : Nat) : List Word → List Word → Memory
  | o :: os, n :: ns => Memory.writeChanged (if o = n then m else Memory.writeWord m a n) (a + 2) os ns
  | _, _ => m

/-- Reads n consecutive words from an address on. -/
def Memory.readWords (m : Memory) (a : Nat) : Nat → List Word
  | 0 => []
  | n + 1 => Memory.readWord m a :: Memory.readWords m (a + 2) n

/-- Reads n consecutive bytes from an address on. -/
def Memory.readBytes (m : Memory) (a : Nat) : Nat → List Byte
  | 0 => []
  | n + 1 => Memory.readByte m a :: Memory.readBytes m (a + 1) n

/-! ## Entries of the lists in the state -/

/-- An absent calibration record, read outside the nine channels. -/
def noCal : CalRecord := ⟨0, 0, false⟩

/-- An absent channel, read outside the nine channels. -/
def noChannel : Channel := ⟨0, [], 0⟩

/-- No fault flags. -/
def noFaults : FaultFlags := ⟨false, false, false⟩

/-- The filtered value of an analog channel (R4, R11). -/
def State.filtered (s : State) (i : Nat) : Int := (s.eng.chans.getD i noChannel).filtered

/-- The fault flags of an indexed channel (section 1.5). -/
def State.faultsOf (s : State) (i : Nat) : FaultFlags := s.eng.faults.getD i noFaults

/-- The axle record with index k. -/
def State.record (s : State) (k : Nat) : AxleRecord := s.tab.records.getD k (AxleRecord.cleared .empty)

/-- Replaces the axle record with index k. -/
def State.setRecord (s : State) (k : Nat) (r : AxleRecord) : State :=
  s.setTab { s.tab with records := s.tab.records.set k r }

/-- The plan entry of the axle with index k (R48: read from the plan copy). -/
def State.planAxle (s : State) (k : Nat) : PlanAxle := s.tab.plan.axles.getD k ⟨0, 0, 0, 0, 0, 0, 0⟩

/-- The certificate record with index k. -/
def State.cert (s : State) (k : Nat) : CertRecord := s.comp.records.getD k (CertRecord.cleared .empty)

/-- Replaces the certificate record with index k. -/
def State.setCert (s : State) (k : Nat) (c : CertRecord) : State :=
  s.setComp { s.comp with records := s.comp.records.set k c }

/-- The top attempt of an axle record (R56). -/
def AxleRecord.top (r : AxleRecord) : Option Attempt := r.attempts.getLast?

/-- The place of a discrete input in the table of section 1.1. -/
def inputIndex : Input → Nat
  | .beamR => 0
  | .beamF => 1
  | .plateIn => 2
  | .plateOut => 3
  | .presence => 4
  | .estop => 5
  | .key => 6
  | .ok => 7
  | .retry => 8
  | .skip => 9
  | .pause => 10

/-- A discrete input (R5). -/
def State.input (s : State) (i : Input) : DiscreteInput := s.eng.inputs.getD (inputIndex i) ⟨false, 0⟩

/-- The debounced level of a discrete input (R5). -/
def State.level (s : State) (i : Input) : Bool := (s.input i).level

/-- The input's raw level has differed for five consecutive samples, so that its change settles at this sample (R5). -/
def State.settles (s : State) (i : Input) : Bool := decide (5 ≤ (s.input i).count)

/-- The input settles to INTERRUPTED, ACTIVE, SERVICE or PRESSED at this sample. -/
def State.settlesOn (s : State) (i : Input) : Bool := s.settles i && !s.level i

/-- The level the input has at this sample, a change that settles at it included (R5). -/
def State.levelNow (s : State) (i : Input) : Bool := if s.settles i then !s.level i else s.level i

/-- The slot of the ACTIVE request of a kind, the lowest if there are several (R198). -/
def State.activeSlot (s : State) (k : Kind) : Option Nat := s.slots.findIdx? (fun h => h == .active k)

/-- Whether a request of a kind is ACTIVE. -/
def State.kindActive (s : State) (k : Kind) : Bool := s.slots.any (fun h => h == .active k)

/-- Milliseconds elapsed since a reference sample (R70: 5 ms times the samples since it). -/
def State.elapsed (s : State) (ref : Nat) : Nat := 5 * (s.clk.sampleNo - ref)

/-- A timer has run out (R157, R188, R189, R205): its millisecond has come. -/
def State.expired (s : State) (timer : Option Nat) : Bool :=
  match timer with
  | none => false
  | some t => decide (t ≤ s.clk.ms)

/-- A timer that expires a number of milliseconds from now. -/
def State.timerIn (s : State) (ms : Nat) : Option Nat := some (s.clk.ms + ms)

end Sys2Proof.Machine
end

