-- ==== Sys2Proof/Machine/Codes.lean ====
section
/-! DEFINITION. Machine/Codes.lean: the code of every enumerated field (R211): its table's code, or the place of the value in
the list where the manual first gives the set. -/

namespace Sys2Proof.Machine

/-- R211. -/
def codeOfMode : LaneMode → Nat
  | .failsafe => 0 | .service => 1 | .normal => 2

/-- Section 2.4. -/
def codeOfDrive : DriveState → Nat
  | .off => 0 | .spinup => 1 | .run => 2 | .stopping => 3 | .lockout => 4

/-- Section 2.4. -/
def codeOfOwner : Owner → Nat
  | .sequencer => 0 | .driveTest => 1

/-- Section 2.5. -/
def codeOfDirMode : DirMode → Nat
  | .normal => 0 | .contra => 1

/-- R211. -/
def codeOfStop : StopReason → Nat
  | .slipL => 0 | .slipR => 1 | .slipBoth => 2 | .stall => 3 | .unseat => 4 | .presence => 5 | .estop => 6 | .mode => 7
  | .commanded => 8 | .laneReset => 9

/-- R211: no stop reason is 0xFFFF. -/
def codeOfStop? : Option StopReason → Nat
  | none => 0xFFFF
  | some r => codeOfStop r

/-- Section 2.4. -/
def codeOfLock : LockCause → Nat
  | .estop => 0 | .driveFault => 1

/-- R50. -/
def codeOfStatus : AxleStatus → Nat
  | .empty => 0 | .pending => 1 | .inTest => 2 | .done => 3 | .skipped => 4

/-- R50. -/
def codeOfSkip : SkipReason → Nat
  | .mechanic => 0 | .rolledThrough => 1 | .aborted => 2

/-- R53. -/
def codeOfEnd : EndReason → Nat
  | .slipL => 0 | .slipR => 1 | .slipBoth => 2 | .release => 3 | .runLimit => 4 | .unseat => 5 | .stall => 6
  | .presence => 7 | .estop => 8 | .abort => 9 | .pause => 10

/-- R53. -/
def codeOfRamp : RampOutcome → Nat
  | .good => 0 | .fast => 1 | .weak => 2 | .notAssessed => 3

/-- R53. -/
def codeOfProj : ProjFlag → Nat
  | .atReference => 0 | .lowPressure => 1 | .locked => 2

/-- Section 7.2. -/
def codeOfSeq : SeqState → Nat
  | .idle => 0 | .approach => 1 | .weigh => 2 | .spinup => 3 | .ovality => 4 | .serviceOnset => 5 | .serviceRamp => 6
  | .serviceRun => 7 | .parkOnset => 8 | .parkRun => 9 | .spindown => 10 | .review => 11 | .exitWait => 12
  | .paused => 13 | .complete => 14 | .aborted => 15

/-- R211: the unit codes of the display frame. -/
def codeOfUnit : UnitCode → Nat
  | .absent => 0 | .dan => 1 | .kg => 2 | .kpa => 3 | .percent => 4 | .count => 5

/-- Section 9.2. -/
def codeOfVerdict : Verdict → Nat
  | .pass => 0 | .fail => 1 | .notTested => 2 | .invalid => 3 | .notRequested => 4

/-- R171: PASS, FAIL or INCOMPLETE. -/
def codeOfOverall : Overall → Nat
  | .pass => 0 | .fail => 1 | .incomplete => 2

/-- R211: the state word of a certificate record. -/
def codeOfRecord : RecordState → Nat
  | .empty => 0 | .composing => 1 | .issued => 2 | .archived => 3

/-- Section 10. -/
def codeOfJob : JobState → Nat
  | .queued => 0 | .printing => 1 | .done => 2 | .cancelled => 3 | .failed => 4

/-- Section 10. -/
def codeOfClass : JobClass → Nat
  | .original => 0 | .copy => 1

/-- Section 10. -/
def codeOfLink : LinkState → Nat
  | .ready => 0 | .sending => 1 | .waitReply => 2 | .pausedPaper => 3 | .offline => 4

/-- R211: the kind word of a request slot. -/
def codeOfKind : Kind → Nat
  | .clearFaults => 1 | .discardAttempt => 2 | .setTime => 3 | .zero => 4 | .calibrate => 5 | .runPlan => 6
  | .driveTest => 7 | .compose => 8 | .print => 9

/-- R211. -/
def codeOfOutcome : ReqOutcome → Nat
  | .ok => 0 | .refusedMode => 1 | .refusedState => 2 | .refusedBusy => 3 | .badParam => 4 | .badKind => 5 | .failed => 6
  | .aborted => 7 | .reset => 8

/-- R211: the table of details; a BAD_PARAM carries the parameter or field number. -/
def codeOfDetail : Detail → Nat
  | .none => 0
  | .planActive => 1 | .testActive => 2 | .zeroActive => 3 | .calibrateActive => 4 | .composeActive => 5
  | .kindActive => 6 | .driveNotOff => 7 | .vehiclePresent => 8
  | .lockedOut => 9 | .notOff => 10 | .mode => 11 | .estop => 12 | .presence => 13 | .notSeated => 14
  | .slipL => 15 | .slipR => 16 | .slipBoth => 17 | .stall => 18 | .unseat => 19 | .driveFault => 20
  | .certified => 21 | .inTest => 22 | .listEmpty => 23 | .noPlan => 24 | .issued => 25 | .job => 26 | .noRecord => 27
  | .counterFull => 28
  | .nvError => 29 | .lateAbort => 30 | .withdrawn => 31 | .empty => 32 | .composing => 33 | .spoolFull => 34
  | .crc => 35 | .printerFault => 36 | .noReply => 37 | .lateCancel => 38
  | .param n => n

/-- The detail that names a refused start (R42). -/
def detailOfRefusal : StartRefusal → Detail
  | .lockedOut => .lockedOut | .notOff => .notOff | .mode => .mode | .estop => .estop | .presence => .presence
  | .notSeated => .notSeated

/-- The detail that names a stop reason (R43). A COMMANDED or LANE_RESET stop never decides a DRIVE_TEST (R43, R45). -/
def detailOfStop : StopReason → Detail
  | .slipL => .slipL | .slipR => .slipR | .slipBoth => .slipBoth | .stall => .stall | .unseat => .unseat
  | .presence => .presence | .estop => .estop | .mode => .mode | .commanded => .none | .laneReset => .none

/-- The end reason a stop of the drive gives a run (R85); a LANE_RESET stop discards the run instead (R93). -/
def endOfStop : StopReason → EndReason
  | .slipL => .slipL | .slipR => .slipR | .slipBoth => .slipBoth | .stall => .stall | .unseat => .unseat
  | .presence => .presence | .estop => .estop | .mode => .abort | .commanded => .abort | .laneReset => .abort

/-- A slip stop (R36). -/
def isSlip : StopReason → Bool
  | .slipL | .slipR | .slipBoth => true
  | .stall | .unseat | .presence | .estop | .mode | .commanded | .laneReset => false

/-! ## Journal event codes (R206) -/

def evRequestDone : Nat := 1
def evPostIgnored : Nat := 2
def evFaultSet : Nat := 3
def evFaultCleared : Nat := 4
def evNvCorrected : Nat := 5
def evModeChanged : Nat := 6
def evDriveState : Nat := 7
def evSeated : Nat := 8
def evUnseated : Nat := 9
def evPassForward : Nat := 10
def evPassBackward : Nat := 11
def evExitForward : Nat := 12
def evExitBackward : Nat := 13
def evExitUnclear : Nat := 14
def evWeighed : Nat := 15
def evWeighUnstable : Nat := 16
def evAttemptDone : Nat := 17
def evRampViolation : Nat := 18
def evPlateResult : Nat := 19
def evPlateVoid : Nat := 20
def evPlateMissed : Nat := 21
def evPlateTimeout : Nat := 22
def evPlateExtra : Nat := 23
def evSeqState : Nat := 24
def evKey : Nat := 25
def evCertIssued : Nat := 26
def evPrintState : Nat := 27
def evPrinterState : Nat := 28
def evNvError : Nat := 29
def evDiscardEmpty : Nat := 30

end Sys2Proof.Machine
end

