-- ==== Sys2Proof/Machine/Operands.lean ====
section
/-! DEFINITION. Machine/Operands.lean: integer division and clamping (R94), and reading request parameters, the plan record
and the limits table from lane memory (R211). -/

namespace Sys2Proof.Machine

/-! ## Arithmetic -/

/-- A quotient rounded to nearest, a half away from zero (R94); the divisor is positive. -/
def roundDiv (n d : Int) : Int :=
  if 0 ≤ n then (2 * n + d) / (2 * d) else -((2 * (-n) + d) / (2 * d))

/-- A quotient truncated toward zero (R94). -/
def truncDiv (n d : Int) : Int := Int.tdiv n d

/-- Clamped to a..b (section 4.2). -/
def clamp (a b x : Int) : Int := if x < a then a else if b < x then b else x

/-! ## Request slots (R211) -/

/-- The address of a request slot: sixteen slots of 64 bytes from 0x0200, slot numbers taken modulo 16. -/
def slotBase (n : Nat) : Nat := 0x0200 + 64 * (n % 16)

/-- The state word codes FREE 0, READY 1, POSTED 2, ACTIVE 3, DONE 4. -/
def wordReady : Word := 1
def wordPosted : Word := 2
def wordActive : Word := 3
def wordDone : Word := 4

/-- The state word of a slot. -/
def State.slotState (s : State) (n : Nat) : Word := Memory.readWord s.mem (slotBase n)

/-- The kind word of a slot. -/
def State.slotKind (s : State) (n : Nat) : Nat := (Memory.readWord s.mem (slotBase n + 2)).toNat

/-- Parameter word k of a slot. -/
def State.param (s : State) (n k : Nat) : Word := Memory.readWord s.mem (slotBase n + 0x0C + 2 * k)

/-- A 32-bit parameter of a slot. -/
def State.paramD (s : State) (n : Nat) : DWord := Memory.readDWord s.mem (slotBase n + 0x0C)

/-- What the request unit holds of a slot. -/
def State.held (s : State) (n : Nat) : Held := s.slots.getD n .free

/-! ## The plan record (R211: 0x0600) and the limits table (0x0800) -/

/-- Reads the plan entry at an address. -/
def readPlanAxle (m : Memory) (a : Nat) : PlanAxle where
  tests := Memory.readWord m a
  kind := Memory.readWord m (a + 2)
  channel := Memory.readWord m (a + 4)
  p0 := Memory.readWord m (a + 6)
  pref := Memory.readWord m (a + 8)
  coupling := Memory.readWord m (a + 10)
  mark := Memory.readWord m (a + 12)

/-- Reads the plan record of lane memory as it stands (R127). -/
def readPlan (m : Memory) : Plan where
  vehicle := Memory.readBytes m 0x0600 20
  presence := Memory.readWord m 0x0614
  limitsRow := Memory.readWord m 0x0616
  axleCount := Memory.readWord m 0x0618
  refMass := Memory.readWord m 0x061A
  slipLimit := Memory.readWord m 0x061C
  startWindow := Memory.readWord m 0x061E
  closeWindow := Memory.readWord m 0x0620
  openWindow := Memory.readWord m 0x0622
  holdTime := Memory.readWord m 0x0624
  maxViolations := Memory.readWord m 0x0626
  axles := (List.range 8).map (fun k => readPlanAxle m (0x0628 + 14 * k))

/-- Reads a row of the limits table as stored (R164). -/
def readLimits (m : Memory) (row : Nat) : LimitsRow where
  minService := Memory.readWord m (0x0800 + 16 * row)
  minParking := Memory.readWord m (0x0802 + 16 * row)
  maxImbalance := Memory.readWord m (0x0804 + 16 * row)
  maxOvality := Memory.readWord m (0x0806 + 16 * row)
  slipMin := Memory.readWord m (0x0808 + 16 * row)
  slipMax := Memory.readWord m (0x080A + 16 * row)

/-! ## Plan fields -/

/-- The reference mass is present (R211: presence word of the plan record). -/
def Plan.hasRefMass (p : Plan) : Bool := bitOf p.presence 0

/-- The characters of the vehicle identifier: up to the first zero byte or 20 (section 7.1). -/
def Plan.identifier (p : Plan) : List Byte := p.vehicle.takeWhile (fun b => b != 0)

/-- The slip limit of the plan, 0 standing for 30 (section 7.1). -/
def Plan.slipPercent (p : Plan) : Nat := if p.slipLimit.toNat = 0 then 30 else p.slipLimit.toNat

/-- Tests wanted (R211: bit 0 WEIGH, 1 OVALITY, 2 SERVICE, 3 PARKING, 4 SIDE_SLIP). -/
def PlanAxle.wantsWeigh (a : PlanAxle) : Bool := bitOf a.tests 0
def PlanAxle.wantsOvality (a : PlanAxle) : Bool := bitOf a.tests 1
def PlanAxle.wantsService (a : PlanAxle) : Bool := bitOf a.tests 2
def PlanAxle.wantsParking (a : PlanAxle) : Bool := bitOf a.tests 3
def PlanAxle.wantsSideSlip (a : PlanAxle) : Bool := bitOf a.tests 4

/-- The runs of a first spin or a retest (R134). -/
def PlanAxle.runs (a : PlanAxle) : Runs := ⟨a.wantsOvality, a.wantsService, a.wantsParking⟩

/-- Some run is named. -/
def Runs.any (r : Runs) : Bool := r.ovality || r.service || r.parking

/-- The channel index of the axle's pressure channel: 4 to 7 for PR1 to PR4 (R211, R208). -/
def PlanAxle.pressure (a : PlanAxle) : Option Nat :=
  if 1 ≤ a.channel.toNat ∧ a.channel.toNat ≤ 4 then some (a.channel.toNat + 3) else none

/-- The brake kind is AIR. -/
def PlanAxle.isAir (a : PlanAxle) : Bool := a.kind.toNat == 1

/-- The direction mode of the axle's spins: CONTRA when COUPLED (R134). -/
def PlanAxle.dirMode (a : PlanAxle) : DirMode := if a.coupling.toNat = 1 then .contra else .normal

/-! ## The plan check (R127) -/

/-- x lies in a..b. -/
def inRange (a b x : Nat) : Bool := decide (a ≤ x) && decide (x ≤ b)

/-- The general fields in number order, each with whether it is in range. -/
def Plan.generalChecks (p : Plan) : List (Nat × Bool) :=
  [(1, !p.identifier.isEmpty && p.identifier.all (fun b => inRange 32 126 b.toNat)),
   (2, inRange 0 15 p.limitsRow.toNat),
   (3, inRange 1 8 p.axleCount.toNat),
   (4, true),
   (5, p.slipLimit.toNat == 0 || inRange 10 40 p.slipLimit.toNat),
   (6, inRange 5000 60000 p.startWindow.toNat),
   (7, inRange 500 5000 p.closeWindow.toNat),
   (8, inRange 2000 20000 p.openWindow.toNat && decide (p.closeWindow.toNat < p.openWindow.toNat)),
   (9, inRange 1000 5000 p.holdTime.toNat),
   (10, inRange 1 7 p.maxViolations.toNat)]

/-- The fields of the entry of axle k (1 to 8) in field order; fields 4 and 5 are checked for an AIR axle with a channel. -/
def PlanAxle.checks (k : Nat) (a : PlanAxle) : List (Nat × Bool) :=
  let air := a.isAir && a.pressure.isSome
  [(16 * k + 1, inRange 0 31 a.tests.toNat),
   (16 * k + 2, inRange 0 1 a.kind.toNat),
   (16 * k + 3, inRange 0 4 a.channel.toNat),
   (16 * k + 4, !air || inRange 0 200 a.p0.toNat),
   (16 * k + 5, !air || (inRange 100 1200 a.pref.toNat && decide (a.p0.toNat + 100 ≤ a.pref.toNat))),
   (16 * k + 6, inRange 0 1 a.coupling.toNat),
   (16 * k + 7, inRange 0 8000 a.mark.toNat)]

/-- The number of the first field out of range, none for a plan that passes (R127). -/
def Plan.firstBad (p : Plan) : Option Nat :=
  let axles := (p.axles.take p.axleCount.toNat).zipIdx.flatMap (fun x => PlanAxle.checks (x.2 + 1) x.1)
  ((p.generalChecks ++ axles).find? (fun c => !c.2)).map (fun c => c.1)

end Sys2Proof.Machine
end

