-- ==== Sys2Proof/Machine/Flags.lean ====
section
/-! DEFINITION. Machine/Flags.lean: the attention register, its mask and the attention line (R195, R207). -/

namespace Sys2Proof.Machine

/-- The bits of ATTN (R207, R211). -/
def attnReqDone : Byte := 0x01
def attnJournal : Byte := 0x02
def attnStale : Byte := 0x04
def attnLost : Byte := 0x08
def attnFault : Byte := 0x10
def attnLane : Byte := 0x20
def attnPrint : Byte := 0x40
def attnTimeWrap : Byte := 0x80

/-- The attention line: asserted while any bit set in ATTN is also set in the mask (R195). -/
def attentionLine (bits mask : Byte) : Bool := (bits &&& mask) != 0

/-- ATTN takes a value, and the line is re-evaluated (R195). -/
def State.setAttn (s : State) (bits : Byte) : State :=
  s.setAtt { s.att with bits := bits, line := attentionLine bits s.att.mask }

/-- Raises bits of ATTN (R207). -/
def State.raiseAttn (s : State) (bits : Byte) : State := s.setAttn (s.att.bits ||| bits)

/-- Clears the bits written as 1 and leaves the others (R207). -/
def State.clearAttn (s : State) (bits : Byte) : State := s.setAttn (s.att.bits &&& ~~~bits)

/-- The attention mask takes a value, and the line is re-evaluated (R195). -/
def State.setMask (s : State) (mask : Byte) : State :=
  s.setAtt { s.att with mask := mask, line := attentionLine s.att.bits mask }

end Sys2Proof.Machine
end

