-- ==== Sys2Proof/Machine/Journal.lean ====
section
/-! DEFINITION. Machine/Journal.lean: the journal ring, its totals, watermark and stale timer (R202 to R206), and the request
slots' completion (R200). -/

namespace Sys2Proof.Machine

/-- The journal count, (put - ack) mod 256 (R202). -/
def Journal.count (j : Journal) : Nat := (j.put - j.ack).toNat

/-- The journal watermark word of the header, 0 taken as 1 and a value above 128 as 128 (R204). -/
def State.watermark (s : State) : Nat :=
  let w := (Memory.readWord s.mem 0x040).toNat
  if w = 0 then 1 else if 128 < w then 128 else w

/-- What a load of the stale timer gives: the stale time word times 10 ms, 0 leaving it stopped (R205). -/
def State.staleLoad (s : State) : Option Nat :=
  let w := (Memory.readWord s.mem 0x042).toNat
  if w = 0 then none else s.timerIn (10 * w)

/-- The address of a ring position: 128 entries of 16 bytes from 0x1240 (R211). -/
def entryBase (i : Nat) : Nat := 0x1240 + 16 * (i % 128)

/-- The eight words of a journal entry (R211). -/
def entryWords (sequence : Word) (code axle gap : Nat) (time : DWord) (p1 p2 : Word) : List Word :=
  [sequence, word code, word axle, word gap, lowWord time, highWord time, p1, p2]

/-- The axle number of an entry as R30 states it: cursor + 1 while a RUN_PLAN is ACTIVE and the cursor is below the axle
count, 0 otherwise. -/
def State.planAxleNumber (s : State) : Nat :=
  if s.kindActive .runPlan && decide (s.tab.cursor < s.tab.axleCount) then s.tab.cursor + 1 else 0

/-- The entry that is written: the ring position, the totals and the gap count (R202). `full` is the OVERWRITE of a full
ring, which also moves ack on. -/
def Journal.written (j : Journal) (full : Bool) : Journal :=
  { j with
    put := j.put + 1
    ack := if full then j.ack + 1 else j.ack
    produced := j.produced + 1
    stored := j.stored + 1
    overwritten := if full then j.overwritten + 1 else j.overwritten
    gap := 0 }

/-- The entry that is dropped (R202). -/
def Journal.droppedEntry (j : Journal) : Journal :=
  { j with produced := j.produced + 1, dropped := j.dropped + 1, gap := min 65535 (j.gap + 1) }

/-- The ring is full in BLOCKING mode, so that an entry produced now is dropped (R202). -/
def Journal.blocks (j : Journal) : Bool := decide (128 ≤ j.count) && j.mode == .blocking

/-- After a written entry: the stale timer starts with the first one (R205), a count at or above the watermark raises
ATTN.JOURNAL (R204), and an overwritten entry raises ATTN.LOST (R202). -/
def State.afterWritten (s : State) (full first : Bool) : State :=
  let s := if first then s.setJr { s.jr with staleTimer := s.staleLoad } else s
  let s := if s.watermark ≤ s.jr.count then s.raiseAttn attnJournal else s
  if full then s.raiseAttn attnLost else s

/-- Produces a journal entry (R202). -/
def State.produce (s : State) (code axle : Nat) (p1 p2 : Word) : State :=
  if s.jr.blocks then
    (s.setJr s.jr.droppedEntry).raiseAttn attnLost
  else
    let full := decide (128 ≤ s.jr.count)
    let first := decide (s.jr.count = 0)
    let ws := entryWords (lowWord (s.jr.produced + 1)) code axle s.jr.gap s.time p1 p2
    let s := s.setMem (Memory.writeWords s.mem (entryBase s.jr.put.toNat) ws)
    (s.setJr (s.jr.written full)).afterWritten full first

/-- Produces an entry whose axle number is given as R30 states. -/
def State.produceHere (s : State) (code : Nat) (p1 p2 : Word) : State :=
  s.produce code s.planAxleNumber p1 p2

/-- Replaces what the request unit holds of a slot. -/
def State.setHeld (s : State) (n : Nat) (h : Held) : State := s.setSlots (s.slots.set n h)

/-- The six words of a result area: the result, then zeros (R211: bytes that no row names read 0). -/
def resultWords (l : List Word) : List Word := (l ++ List.replicate 6 0).take 6

/-- Writes outcome, detail, result area and the state word DONE into a slot, and the request unit lets it go (R200). -/
def State.finishSlot (s : State) (n : Nat) (o : ReqOutcome) (d : Detail) (result : List Word) : State :=
  let a := slotBase n
  let m := Memory.writeWord s.mem (a + 0x08) (word (codeOfOutcome o))
  let m := Memory.writeWord m (a + 0x0A) (word (codeOfDetail d))
  let m := Memory.writeWords m (a + 0x34) (resultWords result)
  let m := Memory.writeWord m a wordDone
  (s.setMem m).setHeld n .free

/-- The completion of a slot (R200): the slot is complete in lane memory, then the REQUEST_DONE entry, then
ATTN.REQ_DONE. DESIGN CHOICE (log entry 50): of a kind word above 255 the entry carries the low byte. -/
def State.complete (s : State) (n kind : Nat) (o : ReqOutcome) (d : Detail) (result : List Word) : State :=
  ((s.finishSlot n o d result).produce evRequestDone 0 (bytePair n kind)
    (bytePair (codeOfDetail d) (codeOfOutcome o))).raiseAttn attnReqDone

/-- The completion of the slot of a request of a known kind. -/
def State.completeKind (s : State) (n : Nat) (k : Kind) (o : ReqOutcome) (d : Detail) (result : List Word) : State :=
  s.complete n (codeOfKind k) o d result

/-- A request becomes ACTIVE (R198): the request unit's record and its image in the state word. -/
def State.activate (s : State) (n : Nat) (k : Kind) : State :=
  (s.setMem (Memory.writeWord s.mem (slotBase n) wordActive)).setHeld n (.active k)

end Sys2Proof.Machine
end

