-- ==== Sys2Proof/Machine/Images.lean ====
section
/-! DEFINITION. Machine/Images.lean: the images of the part's state in lane memory (R47, R170, R196, R211) and their
publication at the event that changes the state behind them. -/

namespace Sys2Proof.Machine

/-- A value or zero: an absent field's stored value is zero (section 4.3). -/
def orZero (o : Option Int) : Int := o.getD 0

/-- The code of an optional enumerated value, zero when it is absent (section 4.3). -/
def codeOr (f : α → Nat) (o : Option α) : Nat := (o.map f).getD 0

/-- Pads a list of words with zeros to a length (R211: bytes that no row names read 0). -/
def padWords (n : Nat) (l : List Word) : List Word := (l ++ List.replicate (n - l.length) 0).take n

/-- Pairs the bytes of a text into words, the first byte low (section 4.4). -/
def textWords : Nat → List Byte → List Word
  | 0, _ => []
  | n + 1, [] => 0 :: textWords n []
  | n + 1, [a] => bytePair a.toNat 0 :: textWords n []
  | n + 1, a :: b :: l => bytePair a.toNat b.toNat :: textWords n l

/-! ## Header (R211) -/

/-- The fault flag word of a channel: bit 0 OVER_RANGE, bit 1 OPEN, bit 2 NO_PULSE. -/
def faultWord (f : FaultFlags) : Word := flagWord [f.overRange, f.openWire, f.noPulse]

/-- The word 0x006 of the header: display link state and last message (R151). -/
def displayWord (s : State) : Word := bytePair (if s.disp.sending.isSome then 1 else 0) s.disp.lastMessage

/-- The words 0x000 to 0x03E of the header. -/
def headerWords (s : State) : List Word :=
  [word (codeOfMode s.eng.mode),
   word (codeOfSeq s.seq.state),
   word (codeOfDrive s.drv.state),
   displayWord s,
   word (codeOfLink s.prn.link),
   lowWord s.time, highWord s.time,
   word s.jr.put.toNat, word s.jr.ack.toNat,
   lowWord s.jr.produced, highWord s.jr.produced,
   lowWord s.jr.stored, highWord s.jr.stored,
   lowWord s.jr.dropped, highWord s.jr.dropped,
   lowWord s.jr.overwritten, highWord s.jr.overwritten]
  ++ (List.range 11).map (fun i => faultWord (s.faultsOf i))
  ++ [flagWord ((List.range 9).map (fun i => (s.eng.cals.getD i noCal).valid)),
      lowWord (BitVec.ofNat 32 s.comp.lastIssued), highWord (BitVec.ofNat 32 s.comp.lastIssued),
      word s.tab.plateCount]

/-- The 32-bit values of the header that change apart from lane time, each with its address. -/
def headerDWords (s : State) : List (Nat × DWord) :=
  [(0x0012, s.jr.produced), (0x0016, s.jr.stored), (0x001A, s.jr.dropped), (0x001E, s.jr.overwritten),
   (0x003A, BitVec.ofNat 32 s.comp.lastIssued)]

/-! ## Axle table (R211: 0x0900) -/

/-- A limits row as words in the order of R164. -/
def limitsWords (l : LimitsRow) : List Word :=
  [l.minService, l.minParking, l.maxImbalance, l.maxOvality, l.slipMin, l.slipMax]

/-- A plan entry as words. -/
def planAxleWords (a : PlanAxle) : List Word :=
  [a.tests, a.kind, a.channel, a.p0, a.pref, a.coupling, a.mark]

/-- The first 0x98 bytes of a plan record as words. -/
def planWords (p : Plan) : List Word :=
  textWords 10 p.vehicle
  ++ [p.presence, p.limitsRow, p.axleCount, p.refMass, p.slipLimit, p.startWindow, p.closeWindow, p.openWindow,
      p.holdTime, p.maxViolations]
  ++ p.axles.flatMap planAxleWords

/-- The table header, 256 bytes. -/
def tableHeaderWords (t : AxleTable) : List Word :=
  padWords 128
    ([word t.axleCount, word t.cursor, word t.plateCount, word t.certified.toNat, word t.runId, t.plan.limitsRow]
     ++ limitsWords t.limits ++ List.replicate 4 0 ++ planWords t.plan)

/-- An attempt, 32 bytes. -/
def attemptWords (a : Attempt) : List Word :=
  padWords 16
    [flagWord [a.pressL.isSome, a.pressR.isSome, a.projL.isSome, a.projR.isSome, a.flagL.isSome, a.flagR.isSome,
       a.imbalance.isSome, a.ovalityL.isSome, a.ovalityR.isSome, a.axleOvality.isSome],
     signedWord a.peakL, signedWord a.peakR, signedWord (orZero a.pressL), signedWord (orZero a.pressR),
     signedWord (orZero a.projL), signedWord (orZero a.projR),
     bytePair (codeOr codeOfProj a.flagL) (codeOr codeOfProj a.flagR),
     signedWord (orZero a.imbalance),
     bytePair (orZero a.ovalityL).toNat (orZero a.ovalityR).toNat,
     signedWord (orZero a.axleOvality),
     bytePair (codeOfEnd a.reason) (codeOfRamp a.ramp),
     flagWord [a.sensor, a.noOnset, a.unsteady],
     lowWord a.time, highWord a.time]

/-- The parking result of an axle record: peaks, end reason, lane time. -/
def parkingWords : Option Parking → List Word
  | none => [0, 0, 0, 0, 0]
  | some p => [signedWord p.peakL, signedWord p.peakR, word (codeOfEnd p.reason), lowWord p.time, highWord p.time]

/-- The plate flags: bit 0 UNCENTRED, 1 MISSED, 2 VOID. -/
def plateFlagWord (x : SideSlip) : Word := flagWord [x.uncentred, x.missed, x.void]

/-- An axle record, 256 bytes. -/
def recordWords (r : AxleRecord) : List Word :=
  padWords 128
    ([word (codeOfStatus r.status),
      flagWord [r.skip.isSome, r.weightL.isSome, r.weightR.isSome, r.sideSlip.value.isSome, r.parking.isSome],
      word (codeOr codeOfSkip r.skip), signedWord (orZero r.weightL), signedWord (orZero r.weightR),
      signedWord (orZero r.sideSlip.value), plateFlagWord r.sideSlip, word r.violations,
      word r.attempts.length, word r.overflow.toNat]
     ++ parkingWords r.parking ++ [0] ++ r.attempts.flatMap attemptWords)

/-- The axle table area, 2304 bytes. -/
def tableWords (t : AxleTable) : List Word :=
  tableHeaderWords t ++ (List.range 8).flatMap (fun k => recordWords (t.records.getD k (AxleRecord.cleared .empty)))

/-! ## Certificate records (R211: 0x1A40) -/

/-- An axle line, 64 bytes. -/
def axleLineWords (l : AxleLine) : List Word :=
  let top := l.top
  let num (f : TopFigures → Int) : Word := signedWord (orZero (top.map f))
  let opt (f : TopFigures → Option Int) : Option Int := top.bind f
  padWords 32
    [word (codeOfStatus l.status),
     word (codeOr codeOfSkip l.skip),
     flagWord [l.weightL.isSome, l.weightR.isSome, top.isSome, (opt (·.projL)).isSome, (opt (·.projR)).isSome,
       (top.bind (·.flagL)).isSome, (top.bind (·.flagR)).isSome, (opt (·.imbalance)).isSome,
       (opt (·.axleOvality)).isSome, l.parkReason.isSome, l.sideSlip.value.isSome, l.skip.isSome, top.isSome,
       top.isSome, top.isSome],
     signedWord (orZero l.weightL), signedWord (orZero l.weightR),
     bytePair l.attemptCount l.overflow.toNat,
     bytePair (codeOr codeOfEnd (top.map (·.reason))) (codeOr codeOfRamp (top.map (·.ramp))),
     flagWord ((top.map (fun t => [t.sensor, t.noOnset, t.unsteady])).getD []),
     num (·.peakL), num (·.peakR),
     signedWord (orZero (opt (·.projL))), signedWord (orZero (opt (·.projR))),
     bytePair (codeOr codeOfProj (top.bind (·.flagL))) (codeOr codeOfProj (top.bind (·.flagR))),
     signedWord (orZero (opt (·.imbalance))),
     signedWord (orZero (opt (·.axleOvality))),
     signedWord l.parkPeakL, signedWord l.parkPeakR, word (codeOr codeOfEnd l.parkReason),
     signedWord (orZero l.sideSlip.value),
     plateFlagWord l.sideSlip,
     bytePair (codeOfVerdict l.imbalanceVerdict) (codeOfVerdict l.ovalityVerdict),
     word (codeOfVerdict l.sideSlipVerdict)]

/-- A 32-bit number as two words, low word first. -/
def dwords (n : Nat) : List Word := [lowWord (BitVec.ofNat 32 n), highWord (BitVec.ofNat 32 n)]

/-- The words of a certificate record from the certificate number to the overall verdict, offsets 0x002 to 0x23F: the span of
the check word (R172). -/
def certSpanWords (c : CertRecord) : List Word :=
  dwords c.number ++ [lowWord c.time, highWord c.time, word c.runId] ++ textWords 10 c.vehicle ++ [c.limitsRow]
  ++ limitsWords c.limits ++ [word c.axleCount]
  ++ padWords 256 (c.lines.flatMap axleLineWords)
  ++ [flagWord [c.mass.isSome, c.serviceEff.isSome, c.parkingEff.isSome]]
  ++ dwords (c.mass.getD 0)
  ++ [word (c.serviceEff.getD 0), word (codeOfVerdict c.serviceVerdict), word (c.parkingEff.getD 0),
      word (codeOfVerdict c.parkingVerdict), word (codeOfOverall c.overall)]

/-- A certificate record, 1024 bytes. -/
def certWords (c : CertRecord) : List Word :=
  padWords 512 ([word (codeOfRecord c.state)] ++ certSpanWords c ++ [c.checkWord, word c.printCount])

/-- The address of a certificate record. -/
def certBase (k : Nat) : Nat := 0x1A40 + 1024 * k

/-! ## Publication -/

/-- Rewrites the words of certificate record k that changed. -/
def publishCert (old new : State) (m : Memory) (k : Nat) : Memory :=
  if old.cert k = new.cert k then m
  else Memory.writeChanged m (certBase k) (certWords (old.cert k)) (certWords (new.cert k))

/-- Rewrites both words of each 32-bit value of a list that changed (R196: one value stands behind its two words). -/
def Memory.writeChangedDWords (m : Memory) : List (Nat × DWord) → List (Nat × DWord) → Memory
  | o :: os, n :: ns =>
    Memory.writeChangedDWords (if o.2 = n.2 then m else Memory.writeWords m n.1 [lowWord n.2, highWord n.2]) os ns
  | _, _ => m

/-- The header after an event: each word is rewritten that changed, and both words of a 32-bit value that changed (R196). Of the words compared
here only the sequencer state's can be left and come back to within one command, and `State.putSeq` writes it at each change. -/
def publishHeader (old new : State) : Memory :=
  Memory.writeChangedDWords (Memory.writeChanged new.mem 0x0000 (headerWords old) (headerWords new)) (headerDWords old)
    (headerDWords new)

/-- Lane memory after an event that led from one state to another: each image word is rewritten if the state behind it has
changed (R47, R170, R196). -/
def publishedMem (old new : State) : Memory :=
  let m := publishHeader old new
  let m := if old.gauge.skipped = new.gauge.skipped then m else Memory.writeWord m 0x0046 new.gauge.skipped
  let m := if old.tab = new.tab then m
    else Memory.writeChanged m 0x0900 (tableWords old.tab) (tableWords new.tab)
  (List.range 4).foldl (publishCert old new) m

/-- The state an event leaves, its images in lane memory included. -/
def publish (old new : State) : State := new.setMem (publishedMem old new)

/-- Rewrites the whole image of the axle table (R64, R67). -/
def State.rewriteTable (s : State) : State := s.setMem (Memory.writeWords s.mem 0x0900 (tableWords s.tab))

/-- Rewrites n words of the image of axle record k from word i on, as one change of several fields does, equal ones included (R47: it
is written whole at its event). -/
def State.rewriteFields (s : State) (k i n : Nat) : State :=
  if k < 8 then
    s.setMem (Memory.writeWords s.mem (0x0A00 + 256 * k + 2 * i) (((recordWords (s.record k)).drop i).take n))
  else s

/-- Rewrites the presence word of axle record k and n words from word i on: a change of optional fields (R47, R211). -/
def State.rewriteOptional (s : State) (k i n : Nat) : State := (s.rewriteFields k 1 1).rewriteFields k i n

/-- Rewrites the 16 words of place j of the attempt list of axle record k, and word i of the record with them: the attempt count, word 8,
or the overflow flag, word 9 (R47: the push of an attempt is written whole). -/
def State.rewriteAttempt (s : State) (k j i : Nat) : State := (s.rewriteFields k i 1).rewriteFields k (16 + 16 * j) 16

/-- Rewrites the whole image of a certificate record (R170). -/
def State.rewriteCert (s : State) (k : Nat) : State :=
  s.setMem (Memory.writeWords s.mem (certBase k) (certWords (s.cert k)))

/-- Rewrites n words of the image of certificate record k from word i on, equal ones included. -/
def State.rewriteCertWords (s : State) (k i n : Nat) : State :=
  s.setMem (Memory.writeWords s.mem (certBase k + 2 * i) (((certWords (s.cert k)).drop i).take n))

/-- Rewrites the words of certificate record k that a fill writes, the lane time at 0x006 to the overall verdict at 0x23E: the state word, the
number, the check word and the print count are not among them (R171, R177). -/
def State.rewriteFill (s : State) (k : Nat) : State := s.rewriteCertWords k 3 285

/-- Rewrites the number and the check word of certificate record k, both halves of the number included (R171, R178). -/
def State.rewriteNumber (s : State) (k : Nat) : State :=
  let c := s.cert k
  s.setMem (Memory.writeWord (Memory.writeWords s.mem (certBase k + 2) (dwords c.number)) (certBase k + 0x240) c.checkWord)

/-- Rewrites the header's word of the display link, at the beginning of a frame (R151, R163). -/
def State.rewriteDisplay (s : State) : State := s.setMem (Memory.writeWord s.mem 0x0006 (displayWord s))

/-- Rewrites the whole header image, the skip count included (R196). -/
def State.rewriteHeader (s : State) : State :=
  s.setMem (Memory.writeWord (Memory.writeWords s.mem 0x0000 (headerWords s)) 0x0046 s.gauge.skipped)

/-- Lane time takes a value, and both its words in the header are rewritten (R196, R209). -/
def State.putTime (s : State) (v : DWord) : State :=
  (s.setTime v).setMem (Memory.writeWords s.mem 0x000A [lowWord v, highWord v])

/-- The sequencer's own state takes a value, and its word in the header is rewritten: each change of sequencer state is written, also where a
later event of the same command leads back to the state before (R156, R196). -/
def State.putSeq (s : State) (x : Sequencer) : State :=
  (s.setSeq x).setMem (Memory.writeWord s.mem 0x0002 (word (codeOfSeq x.state)))

/-- What a meaning answers: the next state with its images published. -/
def answer (old new : State) : Host.Outcome State Fault Refusal := .next (publish old new)

end Sys2Proof.Machine
end

