-- ==== Sys2Proof/Machine/Arithmetic.lean ====
section
/-! DEFINITION. Machine/Arithmetic.lean: the formulas of the Brake Arithmetic chapter (R94 to R112), the side-slip formula
(R117), the slip of a window (R8) and the two check codes (R153, R172). -/

namespace Sys2Proof.Machine

/-! ## Measurement formulas -/

/-- The range of an analog channel after scaling (section 1.1). -/
def channelRange (i : Nat) : Int × Int :=
  if i ≤ 1 then (0, 4000) else if i ≤ 3 then (0, 10000) else if i ≤ 7 then (0, 1200) else (-250, 250)

/-- The scaled value of a channel (R2, R3): (raw - zero) * gain / 4096 rounded to nearest, negated on a reversed side, then
clamped to the channel's range. -/
def scaledValue (i : Nat) (cal : CalRecord) (reversed : Bool) (raw : Int) : Int :=
  let v := roundDiv ((raw - cal.zero) * cal.gain) 4096
  clamp (channelRange i).1 (channelRange i).2 (if reversed then -v else v)

/-- The mean of a filter history, rounded to nearest (R4). -/
def meanOf (l : List Int) : Int := roundDiv l.sum l.length

/-- The slip of a side in per cent (R8): absent below a Pd of 20; truncated and clamped to 0..100. -/
def slipOf (pd ps : Nat) : Option Nat := if 20 ≤ pd then some (min 100 ((pd - ps) * 100 / pd)) else none

/-! ## Imbalance and ovality -/

/-- The imbalance of a sample, absent when it does not qualify (R96). -/
def imbalanceOf (fl fr : Int) : Option Int :=
  let big := max fl fr
  if 50 ≤ big then some (roundDiv (((fl - fr).natAbs : Int) * 100) big) else none

/-- The worst imbalance after a sample (R97). -/
def worstOf (worst d : Option Int) : Option Int :=
  match worst, d with
  | none, d => d
  | some w, none => some w
  | some w, some x => some (max w x)

/-- The ovality of a side from its extremes, absent below an Fmax of 50 daN (R98). -/
def ovalityOf (e : Extremes) : Option Int :=
  if 50 ≤ e.fmax then some (roundDiv ((e.fmax - e.fmin) * 100) e.fmax) else none

/-- The axle ovality: the larger of the side ovalities that are present (R99). -/
def axleOvalityOf (l r : Option Int) : Option Int :=
  match l, r with
  | none, r => r
  | some a, none => some a
  | some a, some b => some (max a b)

/-! ## Projection -/

/-- Whether an end reason is the side's own slip stop (R101). -/
def ownSlip (side : Side) (r : EndReason) : Bool :=
  match side with
  | .left => r == .slipL || r == .slipBoth
  | .right => r == .slipR || r == .slipBoth

/-- The projection of a side (R100 to R102): its projected value and its projection flag. -/
def projectionOf (air : Bool) (channel : Option Nat) (openSeen : Bool) (p0 pref : Int) (slipped : Bool)
    (peak : Int) (pm : Option Int) : Option Int × Option ProjFlag :=
  if !air || channel.isNone || openSeen then (none, none)
  else match pm with
    | none => (none, none)
    | some pm =>
      if slipped then (some peak, some .locked)
      else if pref ≤ pm then (some peak, some .atReference)
      else if pm - p0 < 100 then (none, some .lowPressure)
      else (some (clamp 0 9999 (roundDiv (peak * (pref - p0)) (pm - p0))), none)

/-! ## Whole-vehicle figures -/

/-- An end reason of a run that the brake itself ended (R105, R110). -/
def usableEnd : EndReason → Bool
  | .release | .runLimit | .slipL | .slipR | .slipBoth => true
  | .unseat | .stall | .presence | .estop | .abort | .pause => false

/-- A top attempt usable for the efficiency (R105). -/
def Attempt.usable (a : Attempt) : Bool := !a.sensor && usableEnd a.reason

/-- The braking force of an axle side: the projected value when present, the peak otherwise (R104). -/
def brakingForce (proj : Option Int) (peak : Int) : Int := proj.getD peak

/-- The braking force of both sides of an attempt (R104). -/
def Attempt.force (a : Attempt) : Int := brakingForce a.projL a.peakL + brakingForce a.projR a.peakR

/-- The records of the axles of the plan with their plan entries, in axle order. -/
def AxleTable.axles (t : AxleTable) : List (PlanAxle × AxleRecord) := (t.plan.axles.zip t.records).take t.axleCount

/-- The sum of a figure over a list, absent as soon as one is absent. -/
def sumAll : List (Option Int) → Option Int
  | [] => some 0
  | none :: _ => none
  | some x :: l => (sumAll l).map (fun t => x + t)

/-- The sum of both weights of an axle, absent when either is (R106). -/
def AxleRecord.weight (r : AxleRecord) : Option Int :=
  match r.weightL, r.weightR with
  | some a, some b => some (a + b)
  | _, _ => none

/-- The mass used (R106). -/
def AxleTable.massUsed (t : AxleTable) : Option Int :=
  if t.plan.hasRefMass then some t.plan.refMass.toNat
  else sumAll (t.axles.map (fun x => x.2.weight))

/-- An efficiency in 0.1 %: the sum of forces times 1,000,000, divided by m times 981, rounded to nearest and clamped to
0..9999 (R108, R110); absent when the mass is absent or 0 (R107). -/
def efficiencyOf (force mass : Option Int) : Option Int :=
  match force, mass with
  | some f, some m => if m = 0 then none else some (clamp 0 9999 (roundDiv (f * 1000000) (m * 981)))
  | _, _ => none

/-- The force of a service axle, absent without a usable top attempt (R108, R109). -/
def AxleRecord.serviceForce (r : AxleRecord) : Option Int :=
  match r.top with
  | some a => if a.usable then some a.force else none
  | none => none

/-- The parking force of a parking axle, absent without a usable parking result (R110). -/
def AxleRecord.parkingForce (r : AxleRecord) : Option Int :=
  match r.parking with
  | some p => if usableEnd p.reason then some (p.peakL + p.peakR) else none
  | none => none

/-- The service efficiency (R108, R109). -/
def AxleTable.serviceEfficiency (t : AxleTable) : Option Int :=
  let axles := t.axles.filter (fun x => x.1.wantsService)
  if axles.isEmpty then none else efficiencyOf (sumAll (axles.map (fun x => x.2.serviceForce))) t.massUsed

/-- The parking efficiency (R110). -/
def AxleTable.parkingEfficiency (t : AxleTable) : Option Int :=
  let axles := t.axles.filter (fun x => x.1.wantsParking)
  if axles.isEmpty then none else efficiencyOf (sumAll (axles.map (fun x => x.2.parkingForce))) t.massUsed

/-! ## Side-slip (R117) and ramp mark (R80) -/

/-- The side-slip of a forward crossing (R117). -/
def sideSlipOf (d0 d1 : Int) (length : Nat) : Int := clamp (-999) 999 (roundDiv ((d1 - d0) * 1000) length)

/-- The ramp mark: the plan's, or derived from the weights, or 500 daN (R80). -/
def rampMarkOf (planMark : Int) (weights : Option Int) : Int :=
  if planMark ≠ 0 then planMark
  else match weights with
    | some w => max 100 (truncDiv w 4)
    | none => 500

/-! ## Check codes -/

/-- One byte into the CRC-8 register with polynomial 0x07, most significant bit first (R153). -/
def crc8Step (reg byte : Byte) : Byte :=
  (List.range 8).foldl (fun (r : Byte) _ => if r.msb then (r <<< 1) ^^^ 0x07 else r <<< 1) (reg ^^^ byte)

/-- The CRC-8 of a list of bytes, initial value 0 (R153). -/
def crc8 (l : List Byte) : Byte := l.foldl crc8Step 0

/-- One byte into the CRC-16 register with polynomial 0x1021, most significant bit first (R172). -/
def crc16Step (reg : Word) (byte : Byte) : Word :=
  (List.range 8).foldl (fun (r : Word) _ => if r.msb then (r <<< 1) ^^^ 0x1021 else r <<< 1)
    (reg ^^^ (byte.append (0 : Byte)))

/-- The CRC-16 of a list of bytes, initial value 0xFFFF (R172). -/
def crc16 (l : List Byte) : Word := l.foldl crc16Step 0xFFFF

/-- The bytes of a list of words in ascending address order (R211). -/
def wordBytes (l : List Word) : List Byte := l.flatMap (fun w => [lowByte w, highByte w])

end Sys2Proof.Machine
end

