-- ==== Sys2Proof/Machine/Display.lean ====
section
/-! DEFINITION. Machine/Display.lean: the guidance display: prompt, message, frame and refresh timer (chapter 8, R71). -/

namespace Sys2Proof.Machine

/-- A run state of the sequencer (section 7.2). -/
def isRunState : SeqState → Bool
  | .ovality | .serviceOnset | .serviceRamp | .serviceRun | .parkOnset | .parkRun => true
  | .idle | .approach | .weigh | .spinup | .spindown | .review | .exitWait | .paused | .complete | .aborted => false

/-- The states from WEIGH to REVIEW (section 7.2). -/
def isWorkState : SeqState → Bool
  | .weigh | .spinup | .spindown | .review => true
  | .ovality | .serviceOnset | .serviceRamp | .serviceRun | .parkOnset | .parkRun => true
  | .idle | .approach | .exitWait | .paused | .complete | .aborted => false

/-- A state from APPROACH to PAUSED (section 7.8): every state but IDLE, COMPLETE and ABORTED. -/
def isPlanState : SeqState → Bool
  | .idle | .complete | .aborted => false
  | .approach | .weigh | .spinup | .spindown | .review | .exitWait | .paused => true
  | .ovality | .serviceOnset | .serviceRamp | .serviceRun | .parkOnset | .parkRun => true

/-- The prompt of the brake run unit (R71). -/
def RunUnit.prompt (r : RunUnit) : Prompt :=
  match r.phase with
  | .idle | .armed => .none
  | .ovality =>
    match r.step with
    | .onsetWait => if r.releaseMark then .apply else .release
    | .settle | .hold => .hold
    | .releaseWait => .release
  | .serviceOnset => if r.releaseMark then .apply else .release
  | .serviceRamp => .apply
  | .serviceRun => if r.ramp = .fast then .repeatApply else .apply
  | .parkOnset => if r.releaseMark then .applyParking else .release
  | .parkRun => .applyParking

/-- The message a start refusal selects in SPINUP (R159). -/
def spinupMessage : Option StartRefusal → Nat
  | none => 4
  | some .notOff => 2
  | some .presence => 17
  | some .lockedOut | some .estop | some .mode => 16
  | some .notSeated => 18

/-- The message a prompt selects in a run state (R159). A run state with no prompt holds no run; message 7 then keeps the
driver off the pedal. -/
def promptMessage : Prompt → Nat
  | .release => 7
  | .apply => 5
  | .hold => 6
  | .repeatApply => 9
  | .applyParking => 8
  | .none => 7

/-- The message of a frame: the first test of R159 that holds. -/
def State.message (s : State) : Nat :=
  if s.eng.loading then 19
  else if !isPlanState s.seq.state && (s.eng.mode == .failsafe || s.drv.state == .lockout) then 16
  else match s.seq.state with
    | .idle => 19
    | .complete => 14
    | .aborted => 15
    | st =>
      if s.level .estop || s.drv.state == .lockout then 16
      else if s.level .presence then 17
      else match st with
        | .approach => 1
        | .weigh => 3
        | .spinup => spinupMessage s.seq.refusal
        | .spindown => 2
        | .review => if s.seq.offer = .result then 10 else 11
        | .exitWait => 12
        | .paused => 13
        | .ovality | .serviceOnset | .serviceRamp | .serviceRun | .parkOnset | .parkRun => promptMessage s.run.prompt
        | .idle | .complete | .aborted => 19

/-- A numeric field: its value and unit, value 0 and ABSENT when there is none (R155). -/
def displayField (unit : UnitCode) : Option Int → Int × UnitCode
  | none => (0, .absent)
  | some v => (v, unit)

/-- The axle pressure shown with a message: the filtered value of the channel the entry of the axle under the cursor names
(R160). -/
def State.axlePressure (s : State) : Option Int := (s.planAxle s.tab.cursor).pressure.map s.filtered

/-- The numeric fields of a message (R160). -/
def State.messageFields (s : State) (m : Nat) : List (Int × UnitCode) :=
  let top := (s.record s.tab.cursor).top
  if m = 1 then [((s.tab.axleCount : Int), .count)]
  else if m = 3 then [(s.filtered 2, .kg), (s.filtered 3, .kg)]
  else if m = 5 ∨ m = 6 ∨ m = 7 ∨ m = 9 then
    [(s.filtered 0, .dan), (s.filtered 1, .dan), displayField .kpa s.axlePressure]
  else if m = 8 then [(s.filtered 0, .dan), (s.filtered 1, .dan)]
  else if m = 10 ∨ m = 11 then
    [displayField .percent (top.bind (·.imbalance)), displayField .percent (top.bind (·.axleOvality)),
     (((s.record s.tab.cursor).violations : Int), .count)]
  else []

/-- A force bar, force times 100 divided by 4000, truncated (R154). -/
def forceBar (f : Int) : Nat := (truncDiv (f * 100) 4000).toNat

/-- The blink flag (R161). -/
def State.blink (s : State) (m : Nat) : Bool := m == 9 || m == 16 || m == 17 || s.disp.repeatMark.isSome

/-- The three bytes of a numeric field: value low byte first, then the unit code (R211). -/
def fieldBytes (f : Int × UnitCode) : List Byte :=
  [lowByte (signedWord f.1), highByte (signedWord f.1), BitVec.ofNat 8 (codeOfUnit f.2)]

/-- The bytes of a frame (R152, R211): start byte, length, message, axle, bars, blink, field count, fields, CRC-8 over all
but the start byte (R153). -/
def frameBytes (message axle barL barR : Nat) (blink : Bool) (fields : List (Int × UnitCode)) : List Byte :=
  let body := [BitVec.ofNat 8 (6 + 3 * fields.length), BitVec.ofNat 8 message, BitVec.ofNat 8 axle,
     BitVec.ofNat 8 barL, BitVec.ofNat 8 barR, BitVec.ofNat 8 blink.toNat, BitVec.ofNat 8 fields.length]
    ++ fields.flatMap fieldBytes
  0xA5 :: (body ++ [crc8 body])

/-- The frame composed from the state as it stands (R154, R156, R159 to R161). -/
def State.composeFrame (s : State) : Frame :=
  let m := s.message
  ⟨m, frameBytes m s.planAxleNumber (forceBar (s.filtered 0)) (forceBar (s.filtered 1)) (s.blink m) (s.messageFields m)⟩

/-- The refresh period in force: 200 ms in SPINUP and RUN, 1000 ms otherwise (R157). -/
def refreshPeriod : DriveState → Nat
  | .spinup | .run => 200
  | .off | .stopping | .lockout => 1000

/-- The refresh timer is loaded with the period in force (R157). -/
def State.loadRefresh (s : State) : State :=
  s.setDisp { s.disp with refresh := s.timerIn (refreshPeriod s.drv.state), period := refreshPeriod s.drv.state }

/-- A reload at a change of drive state that changes the period; the timer is stopped before the first sample (R157,
R162). -/
def State.reloadRefresh (s : State) : State :=
  if s.disp.refresh.isSome && s.disp.period != refreshPeriod s.drv.state then s.loadRefresh else s

/-- A frame falls due: it is composed now, the refresh timer is reloaded, and the frame begins at once or becomes the waiting
frame (R151, R156 to R158). A frame that begins here finds the link IDLE, so the link state changes and `publish` writes the header's
word of the link whole. -/
def State.frameDue (s : State) : State :=
  let f := s.composeFrame
  let s := s.loadRefresh
  if s.disp.sending.isSome then s.setDisp { s.disp with waiting := some f }
  else s.setDisp { s.disp with sending := some f, lastMessage := f.message }

/-- The last byte of a frame has left the line: the waiting frame is sent, with the last message written in the header as it begins,
the same number included, or the link returns to IDLE (R151, R163). -/
def State.frameSent (s : State) : State :=
  match s.disp.waiting with
  | some f => (s.setDisp { s.disp with sending := some f, waiting := none, lastMessage := f.message }).rewriteDisplay
  | none => s.setDisp { s.disp with sending := none }

/-- A repeat of the prompt is handed over: the repeat mark stands for 2000 ms from now, and a frame falls due (R156, R161). -/
def State.promptRepeat (s : State) : State := (s.setDisp { s.disp with repeatMark := s.timerIn 2000 }).frameDue

/-- The sequencer has finished with an event that led from one state to another: if it changed its state, the start refusal
in SPINUP or the retest offer in REVIEW, one frame falls due (R156). -/
def frameAfter (old new : State) : State :=
  if new.seq.state ≠ old.seq.state
      ∨ (new.seq.state = .spinup ∧ new.seq.refusal ≠ old.seq.refusal)
      ∨ (new.seq.state = .review ∧ new.seq.offer ≠ old.seq.offer)
  then new.frameDue else new

/-! ## The steps of the display link -/

/-- DISPLAY_REFRESH (R157): the refresh timer has expired. -/
def execDisplayRefresh (s : State) : Host.Outcome State Fault Refusal :=
  answer s (if s.expired s.disp.refresh then s.frameDue else s)

/-- DISPLAY_FRAME_SENT (R151): a frame is on the line and its last byte has left it. -/
def execDisplayFrameSent (s : State) : Host.Outcome State Fault Refusal :=
  answer s (if s.disp.sending.isSome then s.frameSent else s)

/-- The repeat mark lapses (R161). -/
def State.lapseRepeat (s : State) : State := s.setDisp { s.disp with repeatMark := none }

/-- REPEAT_MARK_LAPSE (R161): 2000 ms have passed since the mark was set. -/
def execRepeatMarkLapse (s : State) : Host.Outcome State Fault Refusal :=
  answer s (if s.expired s.disp.repeatMark then s.lapseRepeat else s)

end Sys2Proof.Machine
end

