-- ==== Sys2Proof/Machine/SeqCore.lean ====
section
/-! DEFINITION. Machine/SeqCore.lean: a change of sequencer state, writes of an axle record's status, and how the sequencer
takes what the brake run unit and the drive hand it (R50, R130, R136). -/

namespace Sys2Proof.Machine

/-- Writes the status of an axle record; the skip reason is present exactly with SKIPPED (R50). Status, presence word and skip reason
are written whole (R47). -/
def State.setStatus (s : State) (k : Nat) (st : AxleStatus) (skip : Option SkipReason) : State :=
  (s.setRecord k { s.record k with status := st, skip := if st = .skipped then skip else none }).rewriteFields k 0 3

/-- The plate unit's crossing is discarded: IDLE with the follower cleared (R114). -/
def State.discardCrossing (s : State) : State :=
  s.setPlate { s.plate with crossing := .idle, follower := false }

/-- The states whose entry raises ATTN.LANE (R130). -/
def raisesLane : SeqState → Bool
  | .complete | .aborted | .paused => true
  | .idle | .approach | .weigh | .spinup | .ovality | .serviceOnset | .serviceRamp | .serviceRun | .parkOnset
  | .parkRun | .spindown | .review | .exitWait => false

/-- A change of sequencer state (R130): the held exit is cleared by an entry into APPROACH (R139), the repeat mark lapses when
the run states are left (R161), the header's word is written (R196), an open crossing is discarded at COMPLETE and ABORTED (R114), and the SEQ_STATE entry is
made before ATTN.LANE is raised. -/
def State.enterSeq (s : State) (n : SeqState) : State :=
  if s.seq.state = n then s
  else
    let old := s.seq.state
    let s := s.putSeq { s.seq with state := n, heldExit := if n = .approach then .none else s.seq.heldExit }
    let s := if isRunState old && !isRunState n then s.lapseRepeat else s
    let s := if isPlanState n then s else s.discardCrossing
    let s := s.produceHere evSeqState (word (codeOfSeq n)) (word (codeOfSeq old))
    if raisesLane n then s.raiseAttn attnLane else s

/-- The sequencer state of the same name as a phase of the brake run unit (R71). -/
def seqOfPhase : Phase → Option SeqState
  | .idle | .armed => none
  | .ovality => some .ovality
  | .serviceOnset => some .serviceOnset
  | .serviceRamp => some .serviceRamp
  | .serviceRun => some .serviceRun
  | .parkOnset => some .parkOnset
  | .parkRun => some .parkRun

/-- The sequencer follows a phase the unit hands it, in SPINUP and in the run states (R71, R136); one event of the
sequencer. -/
def State.handPhase (s : State) : State :=
  if s.seq.state = .spinup || isRunState s.seq.state then
    match seqOfPhase s.run.phase with
    | some st => frameAfter s (s.enterSeq st)
    | none => s
  else s

/-- The sequencer takes the end of a spin whose rollers are already stopping (R136): in a run state it records whether
parking is owed and enters SPINDOWN, in SPINDOWN it records the mark, elsewhere it ignores it. -/
def State.takeEndOfSpin (s : State) (owed : Bool) : State :=
  if isRunState s.seq.state then (s.setSeq { s.seq with parkingOwed := owed }).enterSeq .spindown
  else if s.seq.state = .spindown then s.setSeq { s.seq with parkingOwed := owed }
  else s

/-- The sequencer takes a stop of the drive: SPINUP and the run states go to SPINDOWN (R136); elsewhere it is ignored
(R140, R142, R148). -/
def State.takeDriveStop (s : State) : State :=
  if s.seq.state = .spinup || isRunState s.seq.state then s.enterSeq .spindown else s

/-- The retest offer from the top attempt of the axle under the cursor and the limits row copy (R138). -/
def State.offerNow (s : State) : RetestOffer :=
  match (s.record s.tab.cursor).top with
  | none => .result
  | some a =>
    let above (v : Option Int) (limit : Word) : Bool :=
      match v with
      | none => false
      | some x => decide ((limit.toNat : Int) < x)
    if above a.imbalance s.tab.limits.maxImbalance || above a.axleOvality s.tab.limits.maxOvality then .offerRetest
    else .result

end Sys2Proof.Machine
end

