-- ==== Sys2Proof/Machine/BrakeRun.lean ====
section
/-! DEFINITION. Machine/BrakeRun.lean: the brake run unit (chapter 4): arming, onset waits, peak tracking, the attempt record,
the parking result, and how a stop of the drive or a run-end command ends its runs. -/

namespace Sys2Proof.Machine

/-- F_L + F_R. -/
def State.forceSum (s : State) : Int := s.filtered 0 + s.filtered 1

/-- The sum is below 30 daN. -/
def State.released (s : State) : Bool := decide (s.forceSum < 30)

/-! ## Arming (R68) -/

/-- The plan values read at arming. -/
def State.armValues (s : State) (axle : Nat) : ArmValues :=
  let p := s.tab.plan
  let a := s.planAxle axle
  { startWindow := p.startWindow.toNat, closeWindow := p.closeWindow.toNat, openWindow := p.openWindow.toNat,
    holdTime := p.holdTime.toNat, maxViolations := p.maxViolations.toNat, air := a.isAir, channel := a.pressure,
    p0 := a.p0.toNat, pref := a.pref.toNat, planMark := a.mark.toNat }

/-- An arming is refused unless the unit is IDLE, and for OVALITY or SERVICE with the violation count at the maximum (R68,
R75). -/
def State.armRefused (s : State) (axle : Nat) (r : Runs) : Bool :=
  s.run.phase != .idle ||
    ((r.ovality || r.service) && decide (s.tab.plan.maxViolations.toNat ≤ (s.record axle).violations))

/-- An accepted arming (R68). -/
def State.armUnit (s : State) (axle : Nat) (r : Runs) : State :=
  s.setRun { RunUnit.cleared with phase := .armed, axle := axle, runs := r, arm := s.armValues axle }

/-- The unit returns to IDLE (R68, R69, R88, R93). -/
def State.idleUnit (s : State) : State := s.setRun RunUnit.cleared

/-! ## Onset waits (R73) -/

/-- A run unit in whose onset wait the sample with number n is the first; the mark is set there or already set (R73). -/
def RunUnit.beginWait (r : RunUnit) (n : Nat) (mark : Bool) : RunUnit :=
  { r with waitRef := n, waitBegan := n, releaseMark := mark }

/-- The onset of a wait at this sample: the mark was set at an earlier sample and the sum is 30 daN or more (R73). -/
def State.onsetNow (s : State) : Bool := s.run.releaseMark && !s.released

/-- The mark after this sample of a wait (R73). -/
def State.markNow (s : State) : State :=
  s.setRun { s.run with releaseMark := s.run.releaseMark || s.released }

/-! ## Peaks, extremes, watch marks -/

/-- Raises a peak to a greater force, and with it the pressure at peak (R82). -/
def raisePeak (peak : Int) (press : Option Int) (force : Int) (pressure : Option Int) : Int × Option Int :=
  if peak < force then (force, pressure) else (peak, press)

/-- The filtered value of the axle's pressure channel (section 4). -/
def State.runPressure (s : State) : Option Int := s.run.arm.channel.map s.filtered

/-- Peak tracking of the attempt part at one sample (R82). -/
def State.trackPeaks (s : State) : State :=
  let l := raisePeak s.run.peakL s.run.pressL (s.filtered 0) s.runPressure
  let r := raisePeak s.run.peakR s.run.pressR (s.filtered 1) s.runPressure
  s.setRun { s.run with tracking := true, peakL := l.1, pressL := l.2, peakR := r.1, pressR := r.2 }

/-- Peak tracking of the parking run at one sample (R91). -/
def State.trackParking (s : State) : State :=
  s.setRun { s.run with
    parkPeakL := max s.run.parkPeakL (s.filtered 0), parkPeakR := max s.run.parkPeakR (s.filtered 1) }

/-- The extremes of a side after a hold sample (R77). -/
def widenExtremes (e : Option Extremes) (f : Int) : Option Extremes :=
  match e with
  | none => some ⟨f, f⟩
  | some e => some ⟨max e.fmax f, min e.fmin f⟩

/-- The extremes of both sides at one hold sample (R77). -/
def State.trackExtremes (s : State) : State :=
  s.setRun { s.run with
    extL := widenExtremes s.run.extL (s.filtered 0), extR := widenExtremes s.run.extR (s.filtered 1) }

/-- The worst imbalance after one sample (R83, R97). -/
def State.trackImbalance (s : State) : State :=
  s.setRun { s.run with worst := worstOf s.run.worst (imbalanceOf (s.filtered 0) (s.filtered 1)) }

/-- Consecutive samples with the sum below 30 daN (R84, R91). -/
def State.countRelease (s : State) (n : Nat) : Nat := if s.released then n + 1 else 0

/-- The phases of the attempt part (R72). -/
def inAttemptPart : Phase → Bool
  | .ovality | .serviceOnset | .serviceRamp | .serviceRun => true
  | .idle | .armed | .parkOnset | .parkRun => false

/-- The watch marks at one sample (R72). -/
def State.watch (s : State) : State :=
  if inAttemptPart s.run.phase then
    let wire := match s.run.arm.channel with
      | some c => (s.faultsOf c).openWire
      | none => false
    s.setRun { s.run with
      tqFaultSeen := s.run.tqFaultSeen || (s.faultsOf 0).overRange || (s.faultsOf 1).overRange
      openSeen := s.run.openSeen || wire }
  else s

/-! ## Violation count (R75) -/

/-- Raises the violation count of the axle under test, at most to the maximum. -/
def State.raiseViolation (s : State) : State :=
  let r := s.record s.run.axle
  if s.run.arm.maxViolations ≤ r.violations then s else s.setRecord s.run.axle { r with violations := r.violations + 1 }

/-- Lowers the violation count of the axle under test by 1 if it is above 0. -/
def State.lowerViolation (s : State) : State :=
  let r := s.record s.run.axle
  s.setRecord s.run.axle { r with violations := r.violations - 1 }

/-- A violation: the count is raised and the RAMP_VIOLATION entry made, cause 0 START_WINDOW or 1 FAST (R74, R81). -/
def State.violation (s : State) (cause : Nat) : State :=
  let s := s.raiseViolation
  s.produce evRampViolation (s.run.axle + 1) (word cause) (word (s.record s.run.axle).violations)

/-! ## The attempt record (R87, R88) -/

/-- The contents of the attempt record at the end of the attempt part (R87); its lane time is set at the push. -/
def State.fixAttempt (s : State) (reason : EndReason) (noOnset : Bool) : Attempt :=
  let r := s.run
  let peakL := if noOnset then 0 else r.peakL
  let peakR := if noOnset then 0 else r.peakR
  let pressL := if noOnset then none else r.pressL
  let pressR := if noOnset then none else r.pressR
  let projL := projectionOf r.arm.air r.arm.channel r.openSeen r.arm.p0 r.arm.pref (ownSlip .left reason) peakL pressL
  let projR := projectionOf r.arm.air r.arm.channel r.openSeen r.arm.p0 r.arm.pref (ownSlip .right reason) peakR pressR
  { peakL := peakL, peakR := peakR, pressL := pressL, pressR := pressR
    projL := projL.1, projR := projR.1, flagL := projL.2, flagR := projR.2
    imbalance := if r.ramp = .fast then none else r.worst
    ovalityL := r.ovalityL, ovalityR := r.ovalityR, axleOvality := r.axleOvality
    reason := reason, ramp := r.ramp, sensor := r.tqFaultSeen, noOnset := noOnset, unsteady := r.unsteady
    time := s.time }

/-- The attempt list after a push (R55): a full list of three has its top entry replaced. -/
def pushOnto (l : List Attempt) (a : Attempt) : List Attempt :=
  if l.length < 3 then l ++ [a] else l.take 2 ++ [a]

/-- The push of an attempt onto an axle's list (R55), with the lane time of this moment, and its ATTEMPT_DONE entry (R88). -/
def State.pushAttempt (s : State) (axle : Nat) (a : Attempt) : State :=
  let a := { a with time := s.time }
  let r := s.record axle
  let l := pushOnto r.attempts a
  let s := s.setRecord axle { r with attempts := l, overflow := r.overflow || decide (3 ≤ r.attempts.length) }
  let s := s.rewriteAttempt axle (l.length - 1) (if r.attempts.length < 3 then 8 else 9)
  s.produce evAttemptDone (axle + 1) (bytePair (codeOfEnd a.reason) 0)
    (bytePair (flagWord [a.sensor, a.noOnset, a.unsteady]).toNat (codeOfRamp a.ramp))

/-- The parking result of the axle under test is replaced and written whole, with its ATTEMPT_DONE entry (R47, R54, R92). A run ended in PARK_ONSET
holds peaks 0. -/
def State.writeParking (s : State) (reason : EndReason) : State :=
  let pk := s.run.phase == .parkRun
  let axle := s.run.axle
  let s := s.setRecord axle { s.record axle with
    parking := some ⟨if pk then s.run.parkPeakL else 0, if pk then s.run.parkPeakR else 0, reason, s.time⟩ }
  let s := s.rewriteOptional axle 10 5
  s.produce evAttemptDone (axle + 1) (bytePair (codeOfEnd reason) 1) 0

/-- The held attempt of the spin, if there is one, is pushed (R88). -/
def State.pushHeld (s : State) : State :=
  match s.run.held with
  | some a => s.pushAttempt s.run.axle a
  | none => s

/-- A disturbance of the ovality hold: UNSTEADY is set (R78). -/
def State.disturb (s : State) : State := s.setRun { s.run with unsteady := true }

/-- The unit is in the settle or the hold (R78). DESIGN CHOICE (log entry 54): the step is the settle from the ovality onset sample on, so
a slip stop at that very sample is a disturbance. -/
def RunUnit.holding (r : RunUnit) : Bool := r.phase == .ovality && (r.step == .settle || r.step == .hold)

/-! ## Ends by a stop of the drive and by a run-end command -/

/-- The attempt part ends, with no parking run on this spin: the record is fixed and pushed, and the unit returns to IDLE
(R85, R86, R88). -/
def State.endAttempt (s : State) (reason : EndReason) : State :=
  (s.pushAttempt s.run.axle (s.fixAttempt reason false)).idleUnit

/-- The parking run ends: the result, then the held attempt, and the unit returns to IDLE (R91, R92). -/
def State.endParking (s : State) (reason : EndReason) : State := (s.writeParking reason).pushHeld.idleUnit

/-- Parking waits on the same spin and its wait began at this sample (R89). -/
def State.parkWithdrawn (s : State) : Bool :=
  s.run.phase == .parkOnset && s.run.held.isSome && s.run.waitBegan == s.clk.sampleNo

/-- A stop of the drive reaches the unit (R69, R78, R85, R89, R91). The drive is already STOPPING. DESIGN CHOICE (log entry 55): a slip
stop at the sample that completes the hold, taken after HOLD_COMPLETE, finds the hold ended: the ovalities stay, and UNSTEADY is
not set. DESIGN CHOICE (log entry 58): a stop by a slip, a settled input, STALL or UNSEAT finds the phase and the peaks that the
sample it arises at has left, an onset of that sample taken. -/
def State.runStop (s : State) (r : StopReason) : State :=
  match s.run.phase with
  | .idle => s
  | .armed => s.idleUnit
  | .ovality | .serviceOnset | .serviceRamp | .serviceRun =>
    let owed := isSlip r && s.run.runs.parking
    let s := if isSlip r && s.run.holding then s.disturb else s
    (s.endAttempt (endOfStop r)).takeEndOfSpin owed
  | .parkOnset =>
    if s.parkWithdrawn then s.pushHeld.idleUnit.takeEndOfSpin true
    else (s.endParking (endOfStop r)).takeEndOfSpin false
  | .parkRun => (s.endParking (endOfStop r)).takeEndOfSpin false

/-- A run-end command with end reason PAUSE or ABORT (R86); the end of the spin it hands back is ignored (R142, R144,
R147). -/
def State.runEnd (s : State) (reason : EndReason) : State :=
  match s.run.phase with
  | .idle => s
  | .armed => s.idleUnit
  | .ovality | .serviceOnset | .serviceRamp | .serviceRun => s.endAttempt reason
  | .parkOnset | .parkRun => s.endParking reason

end Sys2Proof.Machine
end

