-- ==== Sys2Proof/Machine/Drive.lean ====
section
/-! DEFINITION. Machine/Drive.lean: the roller drive (chapter 2): start commands, stops, the drive's entries into RUN, OFF and
LOCKOUT, and the DRIVE_TEST that may own a spin. -/

namespace Sys2Proof.Machine

/-- The DRIVE_STATE entry (R41). -/
def State.driveEntry (s : State) (p2 : Word) : State :=
  s.produceHere evDriveState (word (codeOfDrive s.drv.state)) p2

/-- The drive turns the rollers. -/
def isSpinning : DriveState → Bool
  | .spinup | .run => true
  | .off | .stopping | .lockout => false

/-! ## Starting (R33, R34) -/

/-- The first check of R33 that fails, none for a start that is taken. DESIGN CHOICE (log entry 74): ESTOP, PRESENCE and the lane mode are
read as the settled changes taken so far have left them, so a start that is issued before a change of the same sample is taken passes its
check and is stopped by the change. -/
def State.startRefusal (s : State) : Option StartRefusal :=
  if s.drv.state = .lockout then some .lockedOut
  else if s.drv.state ≠ .off then some .notOff
  else if s.eng.mode ≠ .normal then some .mode
  else if s.level .estop then some .estop
  else if s.level .presence then some .presence
  else if !s.seat.seated then some .notSeated
  else none

/-- A start that is taken (R34): owner, slip limit and directions recorded, motors energised, counts 0, SPINUP entered with its
entry (R41), and the refresh timer reloaded (R157). -/
def State.startDrive (s : State) (owner : Owner) (mode : DirMode) (limit : Nat) : State :=
  let s := s.setDrv { s.drv with
    state := .spinup, energised := true, dirL := .forward, dirR := if mode = .contra then .reverse else .forward
    owner := some owner, slipLimit := limit, spinupCount := 0, overL := 0, overR := 0, lowL := 0, lowR := 0 }
  s.reloadRefresh.driveEntry (bytePair (codeOfOwner owner) (codeOfDirMode mode))

/-! ## Stopping (R38) -/

/-- KEY settles to SERVICE at this sample and takes the lane mode away from NORMAL with it (R22, R38). -/
def State.modeLapses (s : State) : Bool := s.settlesOn .key && s.eng.mode == .normal

/-- The recorded reason of a stop: of the causes that arise at the same sample, the first of ESTOP, PRESENCE, MODE, UNSEAT,
the slip reason and STALL; a stop command is not tied to a sample (R38). -/
def State.stopCause (s : State) (r : StopReason) : StopReason :=
  match r with
  | .commanded => .commanded
  | .laneReset => .laneReset
  | .estop => .estop
  | .presence => if s.settlesOn .estop then .estop else .presence
  | .mode => if s.settlesOn .estop then .estop else if s.settlesOn .presence then .presence else .mode
  | .unseat | .slipL | .slipR | .slipBoth | .stall =>
    if s.settlesOn .estop then .estop else if s.settlesOn .presence then .presence
    else if s.modeLapses then .mode else r

/-- The drive's own part of a stop (R38): reason recorded, motors de-energised, ESTOP-seen mark clear, rest and stop counts 0,
STOPPING entered with its entry, and the refresh timer reloaded (R157). -/
def State.enterStopping (s : State) (r : StopReason) : State :=
  let s := s.setDrv { s.drv with
    state := .stopping, energised := false, stopReason := some r, estopSeen := false, restCount := 0, stopCount := 0 }
  s.reloadRefresh.driveEntry (word (codeOfStop r))

/-- A DRIVE_TEST takes the stop of its spin: an undecided outcome is decided FAILED with the stop reason, and its timer is
cancelled (R43). -/
def State.testStop (s : State) (r : StopReason) : State :=
  match s.dtest with
  | none => s
  | some t => s.setDtest (some { t with
      timer := none, decided := match t.decided with
        | some d => some d
        | none => some (.failed, detailOfStop r) })

/-- The owner of the spin takes the stop (R38). -/
def State.ownerStop (s : State) (r : StopReason) : State :=
  match s.drv.owner with
  | some .sequencer => s.takeDriveStop
  | some .driveTest => s.testStop r
  | none => s

/-- A stop that the sequencer itself commands as it leaves the work on an axle: it ignores the stop handed back to it (R142,
R144, R147). -/
def State.haltDrive (s : State) : State :=
  if isSpinning s.drv.state then (s.enterStopping .commanded).runStop .commanded else s

/-- A stop cause or a stop command (R38): it acts in SPINUP and RUN, and the stop is handed to the brake run unit and to the
owner. DESIGN CHOICE (log entry 48): the DRIVE_STATE entry of STOPPING comes first, and the unit takes the stop before the owner, so
that ATTEMPT_DONE precedes the SEQ_STATE entry of SPINDOWN. -/
def State.stopDrive (s : State) (r : StopReason) : State :=
  if isSpinning s.drv.state then
    let r := s.stopCause r
    ((s.enterStopping r).runStop r).ownerStop r
  else s

/-- A stop as one event of the sequencer (R156). -/
def State.stopEvent (s : State) (r : StopReason) : State := frameAfter s (s.stopDrive r)

/-! ## The end of a spin of the unit's own making (R88, R136) -/

/-- The unit hands the end of the spin to the sequencer, which in a run state records the parking-owed mark, commands the stop
if the drive is still in RUN, and enters SPINDOWN; one event of the sequencer. -/
def State.handEndOfSpin (s : State) (owed : Bool) : State :=
  if isRunState s.seq.state then
    let t := s.setSeq { s.seq with parkingOwed := owed }
    let t := if t.drv.state = .run then t.stopDrive .commanded else t
    frameAfter s (t.enterSeq .spindown)
  else s.takeEndOfSpin owed

/-- The attempt part ends by the unit's own condition with the drive in RUN (R76, R79, R84, R89): PARK_ONSET begins at this
sample when PARKING is named, otherwise the attempt is pushed and the spin ends. -/
def State.ownEnd (s : State) (reason : EndReason) (noOnset : Bool) : State :=
  let a := s.fixAttempt reason noOnset
  if s.run.runs.parking then
    let r := { s.run with phase := .parkOnset, held := some a, parkExpiries := 0 }
    (s.setRun (r.beginWait s.clk.sampleNo s.released)).handPhase
  else (s.pushAttempt s.run.axle a).idleUnit.handEndOfSpin false

/-- The parking run ends by the unit's own condition (R90 to R92). -/
def State.ownParkEnd (s : State) (reason : EndReason) : State := (s.endParking reason).handEndOfSpin false

/-- The parking run ends with both peaks 0 (R90). -/
def State.parkNoOnset (s : State) : State := s.ownParkEnd .runLimit

/-! ## DRIVE_TEST completion (R43) -/

/-- The DRIVE_TEST completes at the drive's entry into OFF or LOCKOUT with its decided outcome, DRIVE_FAULT overriding it
(R43). -/
def State.finishTest (s : State) (driveFault : Bool) : State :=
  match s.dtest with
  | none => s
  | some t =>
    let od := if driveFault then (ReqOutcome.failed, Detail.driveFault) else t.decided.getD (.failed, .none)
    (s.setDtest none).completeKind t.slot .driveTest od.1 od.2 []

end Sys2Proof.Machine
end

