-- ==== Sys2Proof/Machine/Sequencer.lean ====
section
/-! DEFINITION. Machine/Sequencer.lean: the test sequencer (chapter 7): the course of an axle from its SEATED report to its
exit, the mechanic's keys, completion and abort, and the drive's entries into RUN, OFF and LOCKOUT that it follows. -/

namespace Sys2Proof.Machine

/-- The axle cursor takes a value, which clears the held exit (R139). -/
def State.setCursor (s : State) (n : Nat) : State :=
  (s.setTab { s.tab with cursor := n }).setSeq { s.seq with heldExit := .none }

/-- The ACTIVE RUN_PLAN slot completes (R145, R147). -/
def State.completePlan (s : State) (o : ReqOutcome) (d : Detail) : State :=
  match s.activeSlot .runPlan with
  | some n => s.completeKind n .runPlan o d []
  | none => s

/-! ## Spinning the rollers (R134, R135) -/

/-- The sequencer's start command for the axle under the cursor: a refusal is noted, a start that is taken clears it (R134,
R135). -/
def State.issueStart (s : State) : State :=
  match s.startRefusal with
  | some r => s.setSeq { s.seq with refusal := some r }
  | none => (s.setSeq { s.seq with refusal := none }).startDrive .sequencer (s.planAxle s.tab.cursor).dirMode
      s.tab.plan.slipPercent

/-- A repeat of a refused start (R135). -/
def State.repeatStart (s : State) : State :=
  if s.seq.state = .spinup && s.seq.refusal.isSome then s.issueStart else s

/-- The review mark of the axle under the cursor is set (R136, R138). -/
def State.setReviewMark (s : State) : State :=
  s.setSeq { s.seq with reviewMarks := s.seq.reviewMarks.set s.tab.cursor true }

/-- The retest offer is evaluated (R138). -/
def State.evaluateOffer (s : State) : State := s.setSeq { s.seq with offer := s.offerNow }

/-- An entry into REVIEW (R138). -/
def State.enterReview (s : State) : State := (s.enterSeq .review).setReviewMark.evaluateOffer

/-- An entry into SPINUP (R134): the unit is armed with the named runs and a start command issued; an arming that is refused
leads to REVIEW. -/
def State.enterSpinup (s : State) (runs : Runs) : State :=
  let s := s.enterSeq .spinup
  if s.armRefused s.tab.cursor runs then s.enterReview else (s.armUnit s.tab.cursor runs).issueStart

/-! ## Leaving the rollers (R140, R145) -/

/-- An entry into COMPLETE (R145). -/
def State.enterComplete (s : State) : State := (s.enterSeq .complete).completePlan .ok .none

/-- The cursor is raised by 1; at the axle count the plan is complete (R132, R140). -/
def State.advanceCursor (s : State) (next : SeqState) : State :=
  let s := s.setCursor (s.tab.cursor + 1)
  if s.tab.axleCount ≤ s.tab.cursor then s.enterComplete else s.enterSeq next

/-- The forward exit of the axle under the cursor (R140). -/
def State.exitForward (s : State) : State :=
  let k := s.tab.cursor
  let s := if (s.record k).status = .skipped then s else s.setStatus k .done none
  s.advanceCursor .approach

/-- The backward exit of the axle under the cursor (R140). -/
def State.exitBackward (s : State) : State := s.enterSeq .approach

/-- An entry into EXIT_WAIT: a held exit of an axle that is not seated is acted on at once (R140). -/
def State.enterExitWait (s : State) : State :=
  let s := s.enterSeq .exitWait
  if s.seat.seated then s
  else match s.seq.heldExit with
    | .none => s
    | .forward => s.exitForward
    | .backward => s.exitBackward

/-- SPINDOWN is left, with the drive OFF, by the seat state and the parking-owed mark (R137). -/
def State.leaveSpindown (s : State) : State :=
  if s.seq.state = .spindown && s.drv.state == .off then
    let owed := s.seq.parkingOwed
    let t := s.setSeq { s.seq with parkingOwed := false }
    if !s.seat.seated then t.enterExitWait
    else if owed then t.enterSpinup ⟨false, false, true⟩
    else s.enterReview
  else s

/-! ## Reports of the seating detector -/

/-- Weighing of the axle under the cursor starts at this sample, which is sample 0 (R60). -/
def State.startWeighing (s : State) : State :=
  s.setWeigh (some ⟨s.tab.cursor, 0, false, ⟨0, 0, 0, false⟩, ⟨0, 0, 0, false⟩⟩)

/-- The next course of an axle whose SEATED report is taken in APPROACH (R131). -/
def State.axleCourse (s : State) : State :=
  let k := s.tab.cursor
  if s.seq.reviewMarks.getD k false then s.enterReview
  else if (s.planAxle k).wantsWeigh then (s.enterSeq .weigh).startWeighing
  else if (s.planAxle k).runs.any then s.enterSpinup (s.planAxle k).runs
  else s.enterExitWait

/-- The sequencer takes a SEATED report (R131, R135, R139). -/
def State.seqSeated (s : State) : State :=
  let clear (t : State) : State := t.setSeq { t.seq with heldExit := .none }
  if s.seq.state = .approach then ((clear s).setStatus s.tab.cursor .inTest none).axleCourse
  else if isPlanState s.seq.state then (clear s).repeatStart
  else s

/-- The sequencer takes an UNSEATED report (R133, R136, R139); a weighing in progress is abandoned by the weighing itself
(R63). -/
def State.seqUnseated (s : State) : State :=
  match s.seq.state with
  | .weigh | .review => s.enterExitWait
  | .spinup =>
    if s.drv.state = .spinup then s
    else ((if s.run.phase = .armed then s.idleUnit else s).enterSeq .spindown).leaveSpindown
  | .ovality | .serviceOnset | .serviceRamp | .serviceRun | .parkOnset | .parkRun | .spindown | .exitWait | .paused
  | .idle | .approach | .complete | .aborted => s

/-- The sequencer takes a pass (R132). -/
def State.seqPass (s : State) (forward : Bool) : State :=
  if s.seq.state = .approach then
    let k := s.tab.cursor
    if forward then
      let t := if (s.record k).status = .done then s else s.setStatus k .skipped (some .rolledThrough)
      t.advanceCursor .approach
    else if k = 0 then s
    else s.setCursor (k - 1)
  else s

/-- The sequencer takes an exit report (R139, R140). -/
def State.seqExit (s : State) (forward : Bool) : State :=
  if s.seq.state = .exitWait then (if forward then s.exitForward else s.exitBackward)
  else if isWorkState s.seq.state || s.seq.state = .paused then
    s.setSeq { s.seq with heldExit := if forward then .forward else .backward }
  else s

/-- The sequencer takes the completion of the weighing (R133). -/
def State.seqWeighed (s : State) : State :=
  if s.seq.state = .weigh then
    let runs := (s.planAxle s.tab.cursor).runs
    if runs.any then s.enterSpinup runs else s.enterExitWait
  else s

/-! ## Keys (R139, R141 to R144) -/

/-- Whether RETRY is taken in REVIEW (R139). -/
def State.retryTaken (s : State) : Bool :=
  let runs := (s.planAxle s.tab.cursor).runs
  runs.any && (decide ((s.record s.tab.cursor).violations < s.tab.plan.maxViolations.toNat)
    || !(runs.ovality || runs.service))

/-- The work on the axle under the cursor ends by the sequencer's own decision: the run, the spin, the weighing (R142 and R144,
steps 1 to 4; R147, steps 1 to 3). -/
def State.giveUpWork (s : State) (reason : EndReason) : State := ((s.runEnd reason).haltDrive).setWeigh none

/-- PAUSE in a state from WEIGH to REVIEW (R142). -/
def State.pauseWork (s : State) : State :=
  let s := s.giveUpWork .pause
  (s.setSeq { s.seq with parkingOwed := false }).enterSeq .paused

/-- SKIP in a state from WEIGH to REVIEW (R144). -/
def State.skipAxle (s : State) : State :=
  let s := s.giveUpWork .abort
  let s := s.setSeq { s.seq with parkingOwed := false }
  (s.setStatus s.tab.cursor .skipped (some .mechanic)).enterExitWait

/-- PAUSE in PAUSED (R143). -/
def State.resume (s : State) : State :=
  if s.seat.seated then (s.setSeq { s.seq with heldExit := .none }).enterReview
  else if s.seq.heldExit = .forward then s.exitForward
  else s.enterSeq .approach

/-- The sequencer takes a key event (R141). -/
def State.seqKey (s : State) (k : Input) : State :=
  match k with
  | .ok => if s.seq.state = .review then s.enterExitWait else s
  | .retry =>
    if s.seq.state = .review && s.retryTaken then s.enterSpinup (s.planAxle s.tab.cursor).runs else s
  | .skip => if isWorkState s.seq.state then s.skipAxle else s
  | .pause => if isWorkState s.seq.state then s.pauseWork else if s.seq.state = .paused then s.resume else s
  | .beamR | .beamF | .plateIn | .plateOut | .presence | .estop | .key => s

/-! ## Abort (R146, R147) -/

/-- The records that an abort of the plan writes: PENDING or IN_TEST (R147). -/
def AxleRecord.untested (r : AxleRecord) : Bool := r.status == .pending || r.status == .inTest

/-- The record of axle k is written SKIPPED / ABORTED if it is PENDING or IN_TEST; any other record keeps its status and reason, and
lane memory what the host reads of them (R47, R147). -/
def State.abortRecord (s : State) (k : Nat) : State :=
  if (s.record k).untested then s.setStatus k .skipped (some .aborted) else s

/-- The records below the axle count, in axle order, at an abort of the plan (R147). -/
def State.abortRecords (s : State) : State := (List.range s.tab.axleCount).foldl State.abortRecord s

/-- An abort of the plan (R146, R147); without a plan the cause is ignored (R148). -/
def State.abortPlan (s : State) (o : ReqOutcome) (d : Detail) : State :=
  if isPlanState s.seq.state then
    ((s.giveUpWork .abort).abortRecords.enterSeq .aborted).completePlan o d
  else s

/-! ## The drive's entries into RUN, OFF and LOCKOUT -/

/-- The first named run of a spin begins at the drive's entry to RUN, with the start window of its onset wait counted from
this sample and the watch marks examined at it (R69, R72, R73). -/
def State.beginRuns (s : State) : State :=
  if s.run.phase = .armed then
    let ph := if s.run.runs.ovality then Phase.ovality
      else if s.run.runs.service then Phase.serviceOnset else Phase.parkOnset
    (s.setRun (({ s.run with phase := ph, step := .onsetWait } : RunUnit).beginWait s.clk.sampleNo s.released)).watch
  else s

/-- The entry into RUN by its owner: the sequencer's spin begins its runs, sets the review mark and enters the run state
(R69, R136); a DRIVE_TEST starts its timer (R43). -/
def State.spinReachesRun (s : State) : State :=
  match s.drv.owner with
  | some .driveTest =>
    match s.dtest with
    | some t => s.setDtest (some { t with timer := s.timerIn t.duration })
    | none => s
  | some .sequencer | none =>
    let t := s.beginRuns
    if t.seq.state = .spinup then frameAfter s (match seqOfPhase t.run.phase with
      | some st => (t.enterSeq st).setReviewMark
      | none => t)
    else t

/-- The drive enters RUN (R35, R41, R157). -/
def State.driveRun (s : State) : State :=
  ((s.setDrv { s.drv with state := .run }).reloadRefresh.driveEntry 0).spinReachesRun

/-- The sequencer takes an entry of the drive into OFF or LOCKOUT: SPINDOWN may be left (R137) and a refused start is issued
again (R135). -/
def State.seqDriveEnds (s : State) : State :=
  if s.seq.state = .spindown then s.leaveSpindown else s.repeatStart

/-- The drive enters OFF (R39, R40): both directions FORWARD, its entry made, the DRIVE_TEST completed (R43), and the sequencer
told. DESIGN CHOICE (log entry 44): DRIVE_STATE comes before the REQUEST_DONE of a DRIVE_TEST. -/
def State.driveOff (s : State) (p2 : Word) : State :=
  let s := s.setDrv { s.drv with state := .off, dirL := .forward, dirR := .forward, lockCause := none }
  let s := (s.reloadRefresh.driveEntry p2).finishTest false
  frameAfter s s.seqDriveEnds

/-- The drive enters LOCKOUT (R38, R39, R45): its entry made, the DRIVE_TEST completed (R43), and the sequencer told.
DESIGN CHOICE (log entry 44): DRIVE_STATE comes before the REQUEST_DONE of a DRIVE_TEST. -/
def State.driveLockout (s : State) (cause : LockCause) : State :=
  let s := s.setDrv { s.drv with state := .lockout, lockCause := some cause }
  let s := (s.reloadRefresh.driveEntry (word (codeOfLock cause))).finishTest (cause == .driveFault)
  frameAfter s s.seqDriveEnds

end Sys2Proof.Machine
end

