-- ==== Sys2Proof/Machine/Plate.lean ====
section
/-! DEFINITION. Machine/Plate.lean: the plate unit (chapter 6): crossings, the side-slip result, reconciliation at a seating,
and the crossing limit. -/

namespace Sys2Proof.Machine

/-- A plan runs: a RUN_PLAN is ACTIVE and the sequencer is in none of IDLE, COMPLETE and ABORTED (R114). -/
def State.planRuns (s : State) : Bool := s.kindActive .runPlan && isPlanState s.seq.state

/-- The filtered plate displacement. -/
def State.displacement (s : State) : Int := s.filtered 8

/-- The plate count takes a value (R113). -/
def State.setPlateCount (s : State) (n : Nat) : State := s.setTab { s.tab with plateCount := n }

/-- The side-slip field of the axle record with index k takes a value (R51), and is written whole (R47). -/
def State.setSideSlip (s : State) (k : Nat) (x : SideSlip) : State :=
  (s.setRecord k { s.record k with sideSlip := x }).rewriteOptional k 5 2

/-- The words of the two directions in the entries of the plate unit: FORWARD 0, BACKWARD 1 (R206). -/
def directionWord (forward : Bool) : Word := if forward then 0 else 1

/-- The value word of a PLATE_RESULT without a plate length (R117). -/
def noResultWord : Word := signedWord (-32768)

/-- PLATE_EXTRA with the count after the crossing (R119, R120). -/
def State.plateExtra (s : State) (forward : Bool) : State :=
  s.produce evPlateExtra 0 (directionWord forward) (word s.tab.plateCount)

/-- An opened crossing, with its reference at this sample (R115, R121). -/
def State.openCrossing (s : State) (c : Crossing) : State :=
  s.setPlate { s.plate with
    crossing := c, follower := false, ref := s.clk.sampleNo
    d0 := if c = .forwardOn then s.displacement else s.plate.d0 }

/-- After a crossing's end: a follower opens the next crossing in the same direction (R121). -/
def State.afterCrossing (s : State) (c : Crossing) : State :=
  if s.plate.follower then s.openCrossing c else s.discardCrossing

/-- The end of a forward crossing (R116 to R118, R120). -/
def State.endForward (s : State) : State :=
  let n := s.tab.plateCount
  let d0 := s.plate.d0
  let s :=
    if n < s.tab.axleCount then
      match s.plate.length with
      | some l =>
        let v := sideSlipOf d0 s.displacement l
        let s := (s.setSideSlip n ⟨some v, decide (30 < d0.natAbs), false, false⟩).setPlateCount (n + 1)
        s.produce evPlateResult (n + 1) (signedWord v) (signedWord d0)
      | none => (s.setPlateCount (n + 1)).produce evPlateResult (n + 1) noResultWord (signedWord d0)
    else (s.setPlateCount (min 15 (n + 1))).plateExtra true
  s.afterCrossing .forwardOn

/-- A reverse crossing is held: the seated axle is the last counted one (R119). DESIGN CHOICE (log entry 66): the seat state alone is
read, so an axle that was seated before the RUN_PLAN was taken (R129) is held as well. -/
def State.crossingHeld (s : State) : Bool :=
  s.planRuns && s.seat.seated && s.tab.plateCount == s.tab.cursor + 1

/-- The end of a reverse crossing (R119). -/
def State.endReverse (s : State) : State :=
  let n := s.tab.plateCount
  let s :=
    if s.crossingHeld || n = 0 then s.plateExtra false
    else if n ≤ s.tab.axleCount then
      let f := (s.record (n - 1)).sideSlip
      let s := (s.setSideSlip (n - 1) { f with missed := false, void := true }).setPlateCount (n - 1)
      s.produce evPlateVoid n (word (n - 1)) 0
    else (s.setPlateCount (n - 1)).plateExtra false
  s.afterCrossing .reverseOn

/-- The follower is noted if a further wheel has reached the first switch (R115). -/
def State.noteFollower (s : State) (more : Bool) : State :=
  s.setPlate { s.plate with follower := s.plate.follower || more }

/-- The plate unit takes the settling of PLATE_IN, of PLATE_OUT, or of both at one sample, to ACTIVE (R114, R115). -/
def State.plateChange (s : State) (inOn outOn : Bool) : State :=
  if s.planRuns then
    match s.plate.crossing with
    | .idle =>
      if inOn && outOn then s
      else if inOn then s.openCrossing .forwardOn
      else if outOn then s.openCrossing .reverseOn
      else s
    | .forwardOn => if outOn then (s.noteFollower inOn).endForward else s.noteFollower inOn
    | .reverseOn => if inOn then (s.noteFollower outOn).endReverse else s.noteFollower outOn
  else s

/-- The missed writes of a reconciliation: the axles with record index from `i` to `i + k - 1`, each with its entry (R51,
R123). -/
def State.markMissed (s : State) (n i : Nat) : Nat → State
  | 0 => s
  | k + 1 =>
    State.markMissed
      ((s.setSideSlip i ⟨none, false, true, false⟩).produce evPlateMissed (i + 1) (word n) 0) n (i + 1) k

/-- The plate unit takes a SEATED report (R114, R123). -/
def State.reconcile (s : State) : State :=
  let n := s.tab.cursor + 1
  if s.planRuns && decide (s.tab.cursor < s.tab.axleCount) && decide (s.tab.plateCount < n) then
    let k := s.tab.plateCount
    State.markMissed (s.setPlateCount n) n k (n - k)
  else s

/-- The axle number of a PLATE_TIMEOUT (R122): the axle concerned, 0 where no record would have been written,
as without a plate length (R117). -/
def State.timeoutAxle (s : State) : Nat :=
  let n := s.tab.plateCount
  match s.plate.crossing with
  | .forwardOn => if n < s.tab.axleCount && s.plate.length.isSome then n + 1 else 0
  | .reverseOn => if n ≤ s.tab.axleCount && !s.crossingHeld then n else 0
  | .idle => 0

/-- 10000 ms have elapsed from the crossing reference, and the closing switch does not settle to ACTIVE at this sample
(R122). -/
def State.crossingDue (s : State) : Bool :=
  match s.plate.crossing with
  | .idle => false
  | .forwardOn => decide (10000 ≤ s.elapsed s.plate.ref) && !s.settlesOn .plateOut
  | .reverseOn => decide (10000 ≤ s.elapsed s.plate.ref) && !s.settlesOn .plateIn

/-- The crossing ends without a result (R122). -/
def State.crossingExpires (s : State) : State :=
  let axle := s.timeoutAxle
  let fwd := s.plate.crossing == .forwardOn
  s.discardCrossing.produce evPlateTimeout axle (directionWord fwd) 0

/-- CROSSING_TIMEOUT (R122). -/
def execCrossingTimeout (s : State) : Host.Outcome State Fault Refusal :=
  answer s (if s.crossingDue then s.crossingExpires else s)

end Sys2Proof.Machine
end

