-- ==== Sys2Proof/Machine/Detector.lean ====
section
/-! DEFINITION. Machine/Detector.lean: the seating detector (sections 2.1 to 2.3): seat state, beam tracker, exits and
passes. -/

namespace Sys2Proof.Machine

/-- The filtered side loads. -/
def State.loadL (s : State) : Int := s.filtered 2
def State.loadR (s : State) : Int := s.filtered 3

/-- The parameter words of SEATED and UNSEATED: the filtered loads (R30). -/
def State.loadEntry (s : State) (code : Nat) : State := s.produceHere code (signedWord s.loadL) (signedWord s.loadR)

/-! ## The beam tracker (R27, R28) -/

/-- The record a tracker opens from the beam levels of this sample, leaving out the beams that decided the exit (R27). -/
def State.openRecord (s : State) (rearDecided frontDecided : Bool) : BeamRecord :=
  match s.levelNow .beamR && !rearDecided, s.levelNow .beamF && !frontDecided with
  | true, false => .rearOpen false false
  | false, true => .frontOpen false
  | true, true => .empty
  | false, false => .empty

/-- The tracker becomes active (R27). -/
def State.startTracker (s : State) (rearDecided frontDecided : Bool) : State :=
  s.setSeat { s.seat with
    exitWindow := none, active := true, record := s.openRecord rearDecided frontDecided, restart := .none }

/-- A pass is reported: its entry, then the test sequencer (R30). -/
def State.reportPass (s : State) (forward : Bool) : State :=
  let s := s.produceHere (if forward then evPassForward else evPassBackward) 0 0
  frameAfter s (s.seqPass forward)

/-- The tracker takes the interruption of one or of both beams at a sample (R27, R28). -/
def State.trackBeams (s : State) (rear front : Bool) : State :=
  let put (r : BeamRecord) : State := s.setSeat { s.seat with record := r }
  match s.seat.record with
  | .empty =>
    if rear && front then s
    else if rear then put (.rearOpen false false)
    else if front then put (.frontOpen false)
    else s
  | .rearOpen load follower =>
    if front then
      let t := put (if follower || rear then .rearOpen false false else .empty)
      if load then t.reportPass true else t
    else if rear then put (.rearOpen load true)
    else s
  | .frontOpen follower =>
    if rear then (put (if follower || front then .frontOpen false else .empty)).reportPass false
    else if front then put (.frontOpen true)
    else s

/-- A load seen at this sample (R27). DESIGN CHOICE (log entry 43): it marks the record as it stands before the beam changes that
settle at this sample. -/
def State.trackLoad (s : State) : State :=
  match s.seat.active, s.seat.record with
  | true, .rearOpen _ follower =>
    if 100 < s.loadL || 100 < s.loadR then s.setSeat { s.seat with record := .rearOpen true follower } else s
  | _, _ => s

/-! ## Exits (R29) -/

/-- What an exit report says. -/
inductive ExitReport where
  | forward | backward | unclear
deriving DecidableEq, Repr

/-- The event code of an exit report. -/
def exitCode : ExitReport → Nat
  | .forward => evExitForward
  | .backward => evExitBackward
  | .unclear => evExitUnclear

/-- The milliseconds from the UNSEATED sample to the report (R30). -/
def Seating.sinceUnseated (d : Seating) : Nat := 5 * d.exitWindow.getD 0

/-- An exit is reported: the window closes, the tracker becomes active without the deciding beams, the entry is made, and the
test sequencer takes the report, an unclear one as a backward one (R29, R30, R140). -/
def State.reportExit (s : State) (e : ExitReport) (rearDecided frontDecided : Bool) : State :=
  let ms := s.seat.sinceUnseated
  let s := (s.startTracker rearDecided frontDecided).produceHere (exitCode e) (word ms) 0
  frameAfter s (s.seqExit (e == .forward))

/-- The exit window takes the interruption of one or of both beams at a sample (R29). -/
def State.windowBeams (s : State) (rear front : Bool) : State :=
  if rear && front then s.reportExit .unclear true true
  else if front then s.reportExit .forward false true
  else if rear then s.reportExit .backward true false
  else s

/-! ## Settled changes of the beams -/

/-- The debounced level takes the raw level and the change count is 0 (R5). -/
def State.settleLevel (s : State) (i : Input) : State :=
  s.setEng { s.eng with inputs := s.eng.inputs.set (inputIndex i) ⟨!s.level i, 0⟩ }

/-- The beam an input reads. -/
def beamOf : Input → Option Beam
  | .beamR => some .rear
  | .beamF => some .front
  | .plateIn | .plateOut | .presence | .estop | .key | .ok | .retry | .skip | .pause => none

/-- The last beam seen while seated after a settled change of a beam (R26). -/
def lastBeamAfter (last : Option Beam) (b : Beam) (interrupted : Bool) : Option Beam :=
  if interrupted then some b else if last = some b then none else last

/-- A beam settles while the axle is seated (R26). -/
def State.seatedBeam (s : State) (i : Input) : State :=
  match beamOf i with
  | some b => s.setSeat { s.seat with lastBeam := lastBeamAfter s.seat.lastBeam b (s.level i) }
  | none => s

/-- A beam settles while no axle is seated (R27 to R29). -/
def State.freeBeam (s : State) (rear front : Bool) : State :=
  if s.seat.exitWindow.isSome then s.windowBeams rear front
  else if s.seat.active then s.trackBeams rear front
  else s

/-- A settled change of a beam. While no axle is seated, two beams that settle to INTERRUPTED at one sample are taken
together (R27 to R29). -/
def State.beamSettles (s : State) (i : Input) : State :=
  if s.seat.seated then (s.settleLevel i).seatedBeam i
  else if s.settlesOn .beamR && s.settlesOn .beamF then
    ((s.settleLevel .beamR).settleLevel .beamF).freeBeam true true
  else
    let on := s.settlesOn i
    (s.settleLevel i).freeBeam (on && i == .beamR) (on && i == .beamF)

/-! ## Unseating (R26) -/

/-- A beam change that settles at the sample of an UNSEATED report is seen while seated (DEDUCED from R26 and R29: the level
it gives is a level of that sample; log entry 8). DESIGN CHOICE (log entry 42): of two that settle there BEAM_F is the later. -/
def State.lastBeamChanges (s : State) : State :=
  let s := if s.settles .beamR then s.beamSettles .beamR else s
  if s.settles .beamF then s.beamSettles .beamF else s

/-- The exit decision of the UNSEATED sample (R29). -/
def State.decideExit (s : State) (last : Option Beam) : State :=
  match last with
  | some .front => s.reportExit .forward false true
  | some .rear => s.reportExit .backward true false
  | none => s.setSeat { s.seat with exitWindow := some 0 }

/-- An UNSEATED report (R26, R30, R63): the entry, the weighing abandoned, the drive, the test sequencer, then the exit
decision. -/
def State.unseat (s : State) : State :=
  let s := s.lastBeamChanges
  let last := s.seat.lastBeam
  let s := s.setSeat { s.seat with seated := false, lastBeam := none, qualify := 0 }
  let s := ((s.loadEntry evUnseated).setWeigh none).stopEvent .unseat
  (frameAfter s s.seqUnseated).decideExit last

/-! ## Seating (R25) -/

/-- The seat condition at this sample (R25). -/
def State.seatCondition (s : State) : Bool :=
  decide (150 ≤ s.loadL) && decide (150 ≤ s.loadR) && !s.levelNow .beamR && !s.levelNow .beamF

/-- The samples of a qualification (R25). -/
def qualifySamples : Nat := 101

/-- The seat condition has held at 101 consecutive samples (R25). -/
def State.seatDue (s : State) : Bool := !s.seat.seated && decide (qualifySamples ≤ s.seat.qualify)

/-- A SEATED report (R25, R29, R30): an open exit window first gives EXIT_UNCLEAR; then the entry, the plate unit, and the
test sequencer. -/
def State.seatNow (s : State) : State :=
  let s := if s.seat.exitWindow.isSome then s.reportExit .unclear false false else s
  let s := s.setSeat { s.seat with
    seated := true, qualify := 0, lastBeam := none, record := .empty, active := false, exitWindow := none }
  let s := (s.loadEntry evSeated).reconcile
  frameAfter s s.seqSeated

/-- SEATED (R25). -/
def execSeated (s : State) : Host.Outcome State Fault Refusal := answer s (if s.seatDue then s.seatNow else s)

/-- The exit window has reached its 600th sample without a beam interruption (R29). -/
def State.exitDue (s : State) : Bool :=
  match s.seat.exitWindow with
  | some n => decide (600 ≤ n) && !s.settlesOn .beamR && !s.settlesOn .beamF
  | none => false

/-- EXIT_WINDOW_EXPIRY (R29): EXIT_UNCLEAR with no deciding beam. -/
def execExitWindowExpiry (s : State) : Host.Outcome State Fault Refusal :=
  answer s (if s.exitDue then s.reportExit .unclear false false else s)

/-- The detector at an analog sample (R25 to R27, R29): the load mark, the exit window's count, and the seat test. DESIGN CHOICE
(log entry 46): an UNSEAT stop comes before what falls due in the brake run unit at the same sample: a start window expiry, also one
below the maximum (R74), the end of the hold (R79), the end of the open window (R81), a release or a run limit (R84, R91), and the
parking start window expiry (R90); it comes before the slip window that ends at the sample too, which so finds the drive in STOPPING.
DESIGN CHOICE (log entry 69): the report, its exit decision and what the sequencer does at it come before the settled changes of the
same sample, so a reverse crossing that ends at it is not held (R119), a crossing whose closing switch settles at it is discarded first
where the exit completes the plan (R114), and a mechanic key finds the sequencer as the report has left it (R141). -/
def State.detectorSample (s : State) : State :=
  let s := s.trackLoad
  let s := s.setSeat { s.seat with exitWindow := s.seat.exitWindow.map (· + 1) }
  if s.seat.seated then
    if s.loadL < 100 || s.loadR < 100 then s.unseat else s
  else s.setSeat { s.seat with qualify := if s.seatCondition then s.seat.qualify + 1 else 0 }

/-- The beam changes that settle at this sample take their levels (R5). -/
def State.settleBeams (s : State) : State :=
  let s := if s.settles .beamR then s.settleLevel .beamR else s
  if s.settles .beamF then s.settleLevel .beamF else s

/-- The tracker starts at a sample from the beam levels of that sample (R27, R31). DEDUCED (log entry 52): beam changes that
settle at it are in these levels and are not taken a second time. -/
def State.beginTracker (s : State) : State := s.settleBeams.startTracker false false

/-- The tracker's start at a sample (R31). DESIGN CHOICE (log entry 73): a start left due by a lane reset is made at the first sample, be
it before the load has ended, and replaces that of the first analog sample. -/
def State.trackerSample (s : State) (analog : Bool) : State :=
  match s.seat.restart with
  | .none => s
  | .atAnalogSample => if analog && !s.seat.seated then s.beginTracker else s
  | .atSample => if s.seat.seated then s else s.beginTracker

end Sys2Proof.Machine
end

