-- ==== Sys2Proof/Machine/Windows.lean ====
section
/-! DEFINITION. Machine/Windows.lean: the end of a slip window and what follows from it: speed, slip, rest and stop counts, the
no-pulse counts, and the drive's stops and ends (R7, R8, R12, R35 to R39), and the DRIVE_TEST timer (R43). -/

namespace Sys2Proof.Machine

/-- Ten samples of the window in progress have been taken (R7). -/
def State.windowDue (s : State) : Bool := decide (10 ≤ s.eng.windowSamples)

/-- A count that goes on while a condition holds and is otherwise 0. -/
def countWhile (c : Bool) (n : Nat) : Nat := if c then n + 1 else 0

/-- The engine's part of a window end: counts and slip handed over, the no-pulse counts judged (R7, R8, R12). -/
def State.engineWindow (s : State) : State :=
  let p := s.eng.pulses
  let run := s.drv.state == .run
  s.setEng { s.eng with
    windowSamples := 0, pulses := ⟨0, 0, 0, 0⟩, lastPd := some (p.spdL, p.spdR)
    slipL := slipOf p.spdL p.slpL, slipR := slipOf p.spdR p.slpR
    noPulseL := countWhile (run && p.spdL == 0) s.eng.noPulseL
    noPulseR := countWhile (run && p.spdR == 0) s.eng.noPulseR }

/-- A slip that is present and at or above the limit (R36). -/
def overLimit (slip : Option Nat) (limit : Nat) : Bool :=
  match slip with
  | some x => decide (limit ≤ x)
  | none => false

/-- The drive's part of a window end: counts judged by its state (R35 to R37, R39). -/
def State.driveWindow (s : State) (pdL pdR : Nat) : State :=
  match s.drv.state with
  | .off | .lockout => s
  | .spinup =>
    let s := s.setDrv { s.drv with spinupCount := s.drv.spinupCount + 1 }
    if 60 ≤ pdL && 60 ≤ pdR then s.driveRun else s
  | .run =>
    s.setDrv { s.drv with
      overL := countWhile (overLimit s.eng.slipL s.drv.slipLimit) s.drv.overL
      overR := countWhile (overLimit s.eng.slipR s.drv.slipLimit) s.drv.overR
      lowL := countWhile (decide (pdL < 35)) s.drv.lowL
      lowR := countWhile (decide (pdR < 35)) s.drv.lowR }
  | .stopping =>
    s.setDrv { s.drv with
      restCount := countWhile (decide (pdL < 2) && decide (pdR < 2)) s.drv.restCount
      stopCount := s.drv.stopCount + 1 }

/-- A window ends (R7). -/
def State.windowEnds (s : State) : State := s.engineWindow.driveWindow s.eng.pulses.spdL s.eng.pulses.spdR

/-- SLIP_WINDOW_END (R7). -/
def execSlipWindowEnd (s : State) : Host.Outcome State Fault Refusal :=
  answer s (if s.windowDue then s.windowEnds else s)

/-! ## Faults -/

/-- The words of the flags in a FAULT_SET or FAULT_CLEARED entry (R211). -/
def flagOverRange : Word := 0
def flagOpen : Word := 1
def flagNoPulse : Word := 2

/-- The fault flags of an indexed channel take a value. -/
def State.setFaultsOf (s : State) (i : Nat) (f : FaultFlags) : State :=
  s.setEng { s.eng with faults := s.eng.faults.set i f }

/-- The FAULT_SET entry and ATTN.FAULT (R9). -/
def State.faultEntry (s : State) (i : Nat) (flag : Word) : State :=
  (s.produce evFaultSet 0 (word i) flag).raiseAttn attnFault

/-- The channel index of a side's drive-roller pulse input (section 1.1). -/
def pulseChannel : Side → Nat
  | .left => 9
  | .right => 10

/-- The no-pulse count of a side. -/
def Engine.noPulse (e : Engine) : Side → Nat
  | .left => e.noPulseL
  | .right => e.noPulseR

/-- A no-pulse count has reached 2 (R12). -/
def State.noPulseDue (s : State) (side : Side) : Bool := decide (2 ≤ s.eng.noPulse side)

/-- The NO_PULSE condition is met: the count is 0 again, and the flag is set unless it is set already (R9, R12). -/
def State.noPulseMet (s : State) (side : Side) : State :=
  let i := pulseChannel side
  let s := s.setEng (match side with
    | .left => { s.eng with noPulseL := 0 }
    | .right => { s.eng with noPulseR := 0 })
  if (s.faultsOf i).noPulse then s else (s.setFaultsOf i { s.faultsOf i with noPulse := true }).faultEntry i flagNoPulse

/-- NO_PULSE (R12). -/
def execNoPulse (side : Side) (s : State) : Host.Outcome State Fault Refusal :=
  answer s (if s.noPulseDue side then s.noPulseMet side else s)

/-! ## Stops and ends of the drive -/

/-- The spin-up count has reached 80 in SPINUP (R35). -/
def State.spinupStallDue (s : State) : Bool := s.drv.state == .spinup && decide (80 ≤ s.drv.spinupCount)

/-- SPINUP_STALL (R35). -/
def execSpinupStall (s : State) : Host.Outcome State Fault Refusal :=
  answer s (if s.spinupStallDue then s.stopEvent .stall else s)

/-- An over-limit count has reached 2 in RUN (R36). -/
def State.slipStopDue (s : State) : Bool :=
  s.drv.state == .run && (decide (2 ≤ s.drv.overL) || decide (2 ≤ s.drv.overR))

/-- The slip reason names the sides whose count is 2 (R36). -/
def Drive.slipReason (d : Drive) : StopReason :=
  if 2 ≤ d.overL then (if 2 ≤ d.overR then .slipBoth else .slipL) else .slipR

/-- SLIP_STOP (R36). -/
def execSlipStop (s : State) : Host.Outcome State Fault Refusal :=
  answer s (if s.slipStopDue then s.stopEvent s.drv.slipReason else s)

/-- A low-speed count has reached 2 in RUN, and the window causes no slip stop (R37). -/
def State.lowSpeedDue (s : State) : Bool :=
  s.drv.state == .run && (decide (2 ≤ s.drv.lowL) || decide (2 ≤ s.drv.lowR)) && !s.slipStopDue

/-- LOW_SPEED_STALL (R37). -/
def execLowSpeedStall (s : State) : Host.Outcome State Fault Refusal :=
  answer s (if s.lowSpeedDue then s.stopEvent .stall else s)

/-- The rest count has reached 2 (R39). -/
def State.restDue (s : State) : Bool := s.drv.state == .stopping && decide (2 ≤ s.drv.restCount)

/-- The rollers are at rest: LOCKOUT if the stop involved the emergency stop, otherwise OFF (R39). -/
def State.rest (s : State) : State :=
  if s.drv.stopReason = some .estop || s.drv.estopSeen then s.driveLockout .estop
  else s.driveOff (word (codeOfStop? s.drv.stopReason))

/-- ROLLERS_AT_REST (R39). -/
def execRollersAtRest (s : State) : Host.Outcome State Fault Refusal :=
  answer s (if s.restDue then s.rest else s)

/-- The stop count has reached 160 without rest (R39). -/
def State.stopTimeoutDue (s : State) : Bool :=
  s.drv.state == .stopping && decide (160 ≤ s.drv.stopCount) && !s.restDue

/-- STOP_TIMEOUT (R39). -/
def execStopTimeout (s : State) : Host.Outcome State Fault Refusal :=
  answer s (if s.stopTimeoutDue then s.driveLockout .driveFault else s)

/-! ## The DRIVE_TEST timer (R43) -/

/-- The test timer has expired. -/
def State.testTimerDue (s : State) : Bool :=
  match s.dtest with
  | some t => s.expired t.timer
  | none => false

/-- The outcome of a DRIVE_TEST is decided, unless it is decided already (R43, R44). -/
def State.decideTest (s : State) (o : ReqOutcome) (d : Detail) : State :=
  match s.dtest with
  | some t => s.setDtest (some { t with
      timer := none, decided := match t.decided with
        | some x => some x
        | none => some (o, d) })
  | none => s

/-- DRIVE_TEST_TIMER_EXPIRY (R43): the outcome is OK, and the drive is commanded to stop. -/
def execDriveTestTimerExpiry (s : State) : Host.Outcome State Fault Refusal :=
  answer s (if s.testTimerDue then (s.decideTest .ok .none).stopEvent .commanded else s)

end Sys2Proof.Machine
end

