-- ==== Sys2Proof/Machine/Engine.lean ====
section
/-! DEFINITION. Machine/Engine.lean: the sample engine outside the windows: lane mode (R22), settled changes (R5, R6), channel
values and faults at a sample (R2 to R4, R9 to R11), CLEAR_FAULTS (R13, R40), and the ZERO capture (R19 to R21). -/

namespace Sys2Proof.Machine

/-! ## Lane mode (R22) -/

/-- The lane mode the validities and KEY give, during the power-on load as well (R15, R22; log entry 40). -/
def State.derivedMode (s : State) : LaneMode :=
  if s.eng.cals.any (fun c => !c.valid) then .failsafe
  else if s.level .key then .service else .normal

/-- The drive and the test sequencer take a change of lane mode (R38, R135, R146). -/
def State.modeTaken (s : State) (old : LaneMode) : State :=
  if old = .normal then
    let s := s.stopEvent .mode
    frameAfter s (s.abortPlan .failed .mode)
  else frameAfter s s.repeatStart

/-- The lane mode is derived (R22). -/
def State.deriveMode (s : State) : State :=
  let old := s.eng.mode
  let new := s.derivedMode
  if new = old then s
  else ((s.setEng { s.eng with mode := new }).produce evModeChanged 0 (word (codeOfMode old))
    (word (codeOfMode new))).modeTaken old

/-! ## Settled changes (R5, R6) -/

/-- The KEY entry of an input (R6). -/
def State.keyEntry (s : State) (i : Input) : State :=
  s.produceHere evKey (word (inputIndex i)) (word (s.level i).toNat)

/-- The settling of KEY (R6, R22, R146): the entry, the lane mode, and the plan's abort when it reads SERVICE. -/
def State.keySettles (s : State) : State :=
  let s := (s.keyEntry .key).deriveMode
  if s.level .key then frameAfter s (s.abortPlan .failed .mode) else s

/-- The settling of PRESENCE (R38, R135). -/
def State.presenceSettles (s : State) : State :=
  let s := if s.level .presence then s.stopEvent .presence else s
  frameAfter s s.repeatStart

/-- ESTOP settles ACTIVE: what it does to the drive in each state (R38, R39). -/
def State.estopActive (s : State) : State :=
  match s.drv.state with
  | .spinup | .run => s.stopEvent .estop
  | .off => s.driveLockout .estop
  | .stopping => s.setDrv { s.drv with estopSeen := true }
  | .lockout => s

/-- The settling of ESTOP (R38, R39, R135). -/
def State.estopSettles (s : State) : State :=
  let s := if s.level .estop then s.estopActive else s
  frameAfter s s.repeatStart

/-- The settling of a mechanic's key: to PRESSED it is a key event, to RELEASED it is not handed on (R6). DESIGN CHOICE (log
entry 61): the KEY entry is made before the sequencer takes the key, so it stands first of the entries of this event and its axle
number is that of the cursor before the key changes it. -/
def State.mechanicKey (s : State) (i : Input) : State :=
  if s.level i then
    let s := s.keyEntry i
    frameAfter s (s.seqKey i)
  else s

/-- The settling of a plate switch; two that settle to ACTIVE at one sample are taken together (R115). -/
def State.plateSettles (s : State) (i : Input) : State :=
  if s.settlesOn .plateIn && s.settlesOn .plateOut then
    ((s.settleLevel .plateIn).settleLevel .plateOut).plateChange true true
  else
    let on := s.settlesOn i
    (s.settleLevel i).plateChange (on && i == .plateIn) (on && i == .plateOut)

/-- A settled change of an input, handed to its block (R6). -/
def State.inputSettles (s : State) (i : Input) : State :=
  match i with
  | .beamR | .beamF => s.beamSettles i
  | .plateIn | .plateOut => s.plateSettles i
  | .presence => (s.settleLevel i).presenceSettles
  | .estop => (s.settleLevel i).estopSettles
  | .key => (s.settleLevel i).keySettles
  | .ok | .retry | .skip | .pause => (s.settleLevel i).mechanicKey i

/-- SETTLED_CHANGE (R5). -/
def execSettledChange (i : Input) (s : State) : Host.Outcome State Fault Refusal :=
  answer s (if s.settles i then s.inputSettles i else s)

/-! ## Channels at a sample (R2 to R4, R9 to R11) -/

/-- The channel is a pressure channel. -/
def isPressure (i : Nat) : Bool := decide (4 ≤ i) && decide (i ≤ 7)

/-- The OVER_RANGE condition (R10). -/
def atLimit (raw : Int) : Bool := raw == -32768 || raw == 32767

/-- The OPEN condition (R11). -/
def wireOpen (i : Nat) (raw : Int) : Bool := isPressure i && decide (raw < -1000)

/-- A history after a scaled sample (R4). -/
def pushSample (h : List Int) (v : Int) : List Int := (h ++ [v]).drop (h.length + 1 - 4)

/-- The mean of a history, the value before while it is empty (R4). -/
def meanOr (h : List Int) (old : Int) : Int := if h.isEmpty then old else meanOf h

/-- A channel after a sample: the history takes the scaled value unless the wire is open; the filtered value follows unless
OPEN is set (R4, R11). -/
def Channel.after (c : Channel) (i : Nat) (cal : CalRecord) (reversed openSet : Bool) (raw : Int) : Channel :=
  let bad := wireOpen i raw
  let h := if bad then c.history else pushSample c.history (scaledValue i cal reversed raw)
  { raw := raw, history := h, filtered := if bad || openSet then c.filtered else meanOr h c.filtered }

/-- The side of a brake force channel is reversed (R3). -/
def Drive.reversed (d : Drive) (i : Nat) : Bool :=
  (i == 0 && d.dirL == .reverse) || (i == 1 && d.dirR == .reverse)

/-- The nine raw values of a sample in channel order. -/
def rawList (r : Raws) : List Int :=
  [r.tqL.toInt, r.tqR.toInt, r.ldL.toInt, r.ldR.toInt, r.pr1.toInt, r.pr2.toInt, r.pr3.toInt, r.pr4.toInt, r.ss.toInt]

/-- All channels after a sample (R1). -/
def State.convert (s : State) (raws : List Int) : State :=
  s.setEng { s.eng with chans := raws.zipIdx.map (fun x =>
    (s.eng.chans.getD x.2 noChannel).after x.2 (s.eng.cals.getD x.2 noCal) (s.drv.reversed x.2) (s.faultsOf x.2).openWire
      x.1) }

/-- The fault conditions of one channel at a sample (R9 to R11). DESIGN CHOICE (log entry 53): OVER_RANGE before OPEN. -/
def State.faultTest (s : State) (i : Nat) (raw : Int) : State :=
  let s := if atLimit raw && !(s.faultsOf i).overRange
    then (s.setFaultsOf i { s.faultsOf i with overRange := true }).faultEntry i flagOverRange else s
  if wireOpen i raw && !(s.faultsOf i).openWire
    then (s.setFaultsOf i { s.faultsOf i with openWire := true }).faultEntry i flagOpen else s

/-- The fault conditions of all channels at a sample. DESIGN CHOICE (log entry 53): by rising channel index, so that the FAULT_SET
entries of one sample stand in that order. -/
def State.faultTests (s : State) (raws : List Int) : State :=
  raws.zipIdx.foldl (fun t x => t.faultTest x.2 x.1) s

/-- Histories of some channels are re-primed (R4). -/
def State.rePrime (s : State) (which : Nat → Bool) : State :=
  s.setEng { s.eng with chans := s.eng.chans.zipIdx.map (fun x => if which x.2 then { x.1 with history := [] } else x.1) }

/-! ## ZERO (R19 to R21) -/

/-- The channels whose zeros a ZERO takes, in the order of R20. -/
def zeroChannels : List Nat := [0, 1, 2, 3, 8]

/-- A side load is at or above the limit (R19, R21). -/
def State.loadFrom (s : State) (limit : Int) : Bool := decide (limit ≤ s.loadL) || decide (limit ≤ s.loadR)

/-- One capture sample (R20, R21). -/
def State.captureSample (s : State) (raws : List Int) : State :=
  match s.eng.capture with
  | none => s
  | some c =>
    if s.loadFrom 150 then
      (s.setEng { s.eng with capture := none }).completeKind c.slot .zero .failed .vehiclePresent []
    else
      let sums := (c.sums.zip zeroChannels).map (fun x => x.1 + raws.getD x.2 0)
      s.setEng { s.eng with capture := some { c with count := c.count + 1, sums := sums } }

/-- The capture has its 200 samples (R20). -/
def State.captureDue (s : State) : Bool :=
  match s.eng.capture with
  | some c => decide (200 ≤ c.count)
  | none => false

/-- The new zero of a sum, before and after the clamp (R20). -/
def newZero (sum : Int) : Int := roundDiv sum 200
def clampedZero (sum : Int) : Int := clamp (-8192) 8191 (newZero sum)

/-- The calibration records with new zeros (R20). -/
def withZeros (cals : List CalRecord) (zeros : List (Nat × Int)) : List CalRecord :=
  zeros.foldl (fun l z => l.set z.1 { l.getD z.1 noCal with zero := z.2 }) cals

/-- A capture completes: the zeros are taken, the histories re-primed, the request OK (R20). -/
def State.captureEnds (s : State) : State :=
  match s.eng.capture with
  | none => s
  | some c =>
    let zeros := c.sums.map clampedZero
    let flags := c.sums.map (fun x => newZero x != clampedZero x)
    let s := s.setEng { s.eng with capture := none, cals := withZeros s.eng.cals (zeroChannels.zip zeros) }
    (s.rePrime (fun i => zeroChannels.contains i)).completeKind c.slot .zero .ok .none
      (zeros.map signedWord ++ [flagWord flags])

/-- ZERO_CAPTURE_END (R20). -/
def execZeroCaptureEnd (s : State) : Host.Outcome State Fault Refusal :=
  answer s (if s.captureDue then s.captureEnds else s)

/-! ## CLEAR_FAULTS (R13, R40) -/

/-- A set flag's condition is gone (R10 to R12). -/
def State.overRangeGone (s : State) (i : Nat) : Bool := !atLimit (s.eng.chans.getD i noChannel).raw
def State.openGone (s : State) (i : Nat) : Bool := decide (-1000 ≤ (s.eng.chans.getD i noChannel).raw)
def State.noPulseGone (s : State) (i : Nat) : Bool :=
  s.drv.state != .run || (match s.eng.lastPd with
    | some pd => decide (0 < (if i = 9 then pd.1 else pd.2))
    | none => false)

/-- The FAULT_CLEARED entry (R13). -/
def State.clearedEntry (s : State) (i : Nat) (flag : Word) : State := s.produce evFaultCleared 0 (word i) flag

/-- OPEN is cleared: the filtered value becomes the mean of the history (R11). -/
def State.releaseHold (s : State) (i : Nat) : State :=
  let c := s.eng.chans.getD i noChannel
  s.setEng { s.eng with chans := s.eng.chans.set i { c with filtered := meanOr c.history c.filtered } }

/-- The flags of one channel are tested and those whose condition is gone are cleared (R13). -/
def State.clearChannel (s : State) (i : Nat) : State :=
  let s := if (s.faultsOf i).overRange && s.overRangeGone i
    then (s.setFaultsOf i { s.faultsOf i with overRange := false }).clearedEntry i flagOverRange else s
  let s := if (s.faultsOf i).openWire && s.openGone i
    then ((s.setFaultsOf i { s.faultsOf i with openWire := false }).releaseHold i).clearedEntry i flagOpen else s
  if (s.faultsOf i).noPulse && s.noPulseGone i
    then (s.setFaultsOf i { s.faultsOf i with noPulse := false }).clearedEntry i flagNoPulse else s

/-- All flags are tested (R13). DESIGN CHOICE (log entry 41): by rising channel, and within a channel OVER_RANGE, OPEN, NO_PULSE. -/
def State.clearAll (s : State) : State := (List.range 11).foldl State.clearChannel s

/-- The flags still set, one word for each kind of flag (R211). -/
def State.flagsLeft (s : State) : List Word :=
  [flagWord (s.eng.faults.map (·.overRange)), flagWord (s.eng.faults.map (·.openWire)),
   flagWord (s.eng.faults.map (·.noPulse))]

/-- Both sides were at rest in the most recent window that has ended (R40). -/
def State.restedLast (s : State) : Bool :=
  match s.eng.lastPd with
  | some pd => decide (pd.1 < 2) && decide (pd.2 < 2)
  | none => false

/-- A CLEAR_FAULTS acts on the lockout (R40). DESIGN CHOICE (log entry 74): ESTOP is read without a change that settles at this sample. -/
def State.releaseLockout (s : State) : State :=
  if s.drv.state = .lockout && !s.level .estop && s.restedLast then s.driveOff 0xFFFF else s

/-- The work of a CLEAR_FAULTS taken from slot n (R13, R40). DESIGN CHOICE (log entry 41): the FAULT_CLEARED entries come first, then
the DRIVE_STATE entry of a release and the entries that the sequencer makes at it, and the REQUEST_DONE entry last. -/
def State.takeClearFaults (s : State) (n : Nat) : State :=
  let s := s.clearAll.releaseLockout
  s.completeKind n .clearFaults .ok .none s.flagsLeft

end Sys2Proof.Machine
end

