-- ==== Sys2Proof/Machine/Composer.lean ====
section
/-! DEFINITION. Machine/Composer.lean: item and overall verdicts (R164 to R169), certificate records (R170 to R174), and what a
COMPOSE does to them at its fill and its issue (R177, R178). -/

namespace Sys2Proof.Machine

/-! ## Verdicts -/

/-- An attempt whose items are INVALID (R166): SENSOR, or an end reason that the brake did not make. -/
def Attempt.invalid (a : Attempt) : Bool := a.sensor || !usableEnd a.reason

/-- The verdict of a requested or unrequested IMBALANCE or OVALITY item (R165, R166). -/
def attemptVerdict (requested : Bool) (top : Option Attempt) (value : Attempt → Option Int) (limit : Word) : Verdict :=
  if !requested then .notRequested
  else match top with
    | none => .notTested
    | some a =>
      if a.invalid then .invalid
      else match value a with
        | none => .notTested
        | some v => if (limit.toNat : Int) < v then .fail else .pass

/-- The verdict of a SIDE_SLIP item (R165, R167). -/
def sideSlipVerdict (requested : Bool) (x : SideSlip) (l : LimitsRow) : Verdict :=
  if !requested then .notRequested
  else if x.void then .invalid
  else match x.value with
    | none => .notTested
    | some v => if v < l.slipMin.toInt ∨ l.slipMax.toInt < v then .fail else .pass

/-- The verdict of an efficiency item (R165, R168). -/
def efficiencyVerdict (requested : Bool) (eff : Option Int) (limit : Word) : Verdict :=
  if !requested then .notRequested
  else match eff with
    | none => .notTested
    | some v => if v < (limit.toNat : Int) then .fail else .pass

/-- The overall verdict (R169). -/
def overallOf (items : List Verdict) (statuses : List AxleStatus) : Overall :=
  if items.any (· == .fail) then .fail
  else if items.any (fun v => v == .notTested || v == .invalid) then .incomplete
  else if statuses.any (· != .done) then .incomplete
  else .pass

/-! ## The fill (R171, R177) -/

/-- What an axle line takes from a top attempt (R171). -/
def topFigures (a : Attempt) : TopFigures :=
  { reason := a.reason, ramp := a.ramp, sensor := a.sensor, noOnset := a.noOnset, unsteady := a.unsteady
    peakL := a.peakL, peakR := a.peakR, projL := a.projL, projR := a.projR, flagL := a.flagL, flagR := a.flagR
    imbalance := a.imbalance, axleOvality := a.axleOvality }

/-- An axle line (R171). -/
def axleLine (l : LimitsRow) (p : PlanAxle) (r : AxleRecord) : AxleLine :=
  { status := r.status, skip := r.skip, weightL := r.weightL, weightR := r.weightR
    attemptCount := r.attempts.length, overflow := r.overflow, top := r.top.map topFigures
    parkPeakL := (r.parking.map (·.peakL)).getD 0, parkPeakR := (r.parking.map (·.peakR)).getD 0
    parkReason := r.parking.map (·.reason), sideSlip := r.sideSlip
    imbalanceVerdict := attemptVerdict p.wantsService r.top (·.imbalance) l.maxImbalance
    ovalityVerdict := attemptVerdict p.wantsOvality r.top (·.axleOvality) l.maxOvality
    sideSlipVerdict := sideSlipVerdict p.wantsSideSlip r.sideSlip l }

/-- The axle lines of a table, one per axle of the plan. -/
def AxleTable.lines (t : AxleTable) : List AxleLine := t.axles.map (fun x => axleLine t.limits x.1 x.2)

/-- The verdicts of an axle line's items. -/
def AxleLine.verdicts (l : AxleLine) : List Verdict := [l.imbalanceVerdict, l.ovalityVerdict, l.sideSlipVerdict]

/-- The verdict of the SERVICE_EFFICIENCY item (R168). -/
def AxleTable.serviceVerdict (t : AxleTable) : Verdict :=
  efficiencyVerdict (t.axles.any (fun x => x.1.wantsService)) t.serviceEfficiency t.limits.minService

/-- The verdict of the PARKING_EFFICIENCY item (R168). -/
def AxleTable.parkingVerdict (t : AxleTable) : Verdict :=
  efficiencyVerdict (t.axles.any (fun x => x.1.wantsParking)) t.parkingEfficiency t.limits.minParking

/-- The overall verdict of a table (R169). -/
def AxleTable.overall (t : AxleTable) : Overall :=
  overallOf (t.lines.flatMap AxleLine.verdicts ++ [t.serviceVerdict, t.parkingVerdict])
    (t.axles.map (fun x => x.2.status))

/-- The certificate a fill makes of a table at a lane time: every field but the number and the check word (R177). -/
def filledRecord (t : AxleTable) (time : DWord) : CertRecord :=
  { CertRecord.cleared .composing with
    time := time, runId := t.runId, vehicle := t.plan.identifier, limitsRow := t.plan.limitsRow, limits := t.limits
    axleCount := t.axleCount, lines := t.lines, mass := t.massUsed.map Int.toNat
    serviceEff := t.serviceEfficiency.map Int.toNat, serviceVerdict := t.serviceVerdict
    parkingEff := t.parkingEfficiency.map Int.toNat, parkingVerdict := t.parkingVerdict
    overall := t.overall }

/-- The check word of a record (R172). -/
def CertRecord.computeCheck (c : CertRecord) : Word := crc16 (wordBytes (certSpanWords c))

/-- A record that is issued under a number (R178). -/
def CertRecord.issue (c : CertRecord) (n : Nat) : CertRecord :=
  let c := { c with number := n, state := .issued }
  { c with checkWord := c.computeCheck }

/-! ## State read and locks (R173, R174) -/

/-- The record state a state word shows (R211). -/
def CertRecord.stateWord (c : CertRecord) : Word := word (codeOfRecord c.state)

/-- The state read of one record (R173). -/
def State.readRecord (s : State) (k : Nat) : State :=
  let c := s.cert k
  let w := Memory.readWord s.mem (certBase k)
  if c.state = .issued ∧ w = word (codeOfRecord .archived) then s.setCert k { c with state := .archived }
  else if w = c.stateWord then s
  else s.setMem (Memory.writeWord s.mem (certBase k) c.stateWord)

/-- The state read (R173). -/
def State.stateRead (s : State) : State := (List.range 4).foldl State.readRecord s

/-- A job that is QUEUED or PRINTING (R174). -/
def Job.live (j : Job) : Bool := j.state == .queued || j.state == .printing

/-- A live job names the record (R174). -/
def State.jobNames (s : State) (k : Nat) : Bool := s.prn.jobs.any (fun j => j.live && j.record == k)

/-- A record is locked (R174). -/
def State.locked (s : State) (k : Nat) : Bool := (s.cert k).state == .issued || s.jobNames k

/-- The record that ANY selects (R175). -/
def State.anyTarget (s : State) : Option Nat :=
  (List.range 4).find? (fun k => ((s.cert k).state == .empty || (s.cert k).state == .archived) && !s.locked k)

/-! ## The stages of a COMPOSE -/

/-- A record is cleared into a state, its image rewritten whole (R170). -/
def State.clearCert (s : State) (k : Nat) (st : RecordState) : State := (s.setCert k (CertRecord.cleared st)).rewriteCert k

/-- The filled contents of a record are cleared, and the words that the fill wrote are written whole (R178). -/
def State.clearFill (s : State) (k : Nat) : State := (s.setCert k (CertRecord.cleared .empty)).rewriteFill k

/-- A COMPOSE ends without a certificate: the record is EMPTY, and the slot completes (R176, R178, R179). The contents of a COMPOSING record
without a fill are zero already, so its state word alone changes. -/
def State.endCompose (s : State) (c : ComposeOp) (o : ReqOutcome) (d : Detail) : State :=
  let s := s.setCert c.target (CertRecord.cleared .empty)
  (s.setComp { s.comp with op := none }).completeKind c.slot .compose o d []

/-- The fill (R177): every field but the number, the check word and the print count is written (R171), and the composer waits for the
counter write. -/
def State.fill (s : State) (c : ComposeOp) (value : Nat) : State :=
  let s := (s.setCert c.target (filledRecord s.tab s.time)).rewriteFill c.target
  s.setComp { s.comp with op := some { c with stage := .writing value } }

/-- The issue (R171, R178): number and check word, each written whole, ISSUED, the table certified, the header's number, the entry, and the slot's
completion. -/
def State.issueCert (s : State) (c : ComposeOp) (n : Nat) : State :=
  let s := (s.setCert c.target ((s.cert c.target).issue n)).rewriteNumber c.target
  let ov := codeOfOverall (s.cert c.target).overall
  let s := s.setTab { s.tab with certified := true }
  let s := s.setComp { s.comp with lastIssued := n, op := none }
  let s := s.produce evCertIssued 0 (bytePair c.target ov) (word n)
  s.completeKind c.slot .compose .ok (if c.lateAbort then .lateAbort else .none) (bytePair c.target ov :: dwords n)

end Sys2Proof.Machine
end

