-- ==== Sys2Proof/Machine/Nv.lean ====
section
/-! DEFINITION. Machine/Nv.lean: the NV port and what ends its operations: the power-on load (R14, R15, R113), the CALIBRATE
write (R17, R18), the counter read and write (R176 to R179), and the release of a broken-off write (R18, R180). -/

namespace Sys2Proof.Machine

/-! ## The store -/

/-- The four results of a read (R14). -/
inductive ReadResult where
  | good (w : Word) | corrected (w : Word) | double | noAnswer
deriving DecidableEq, Repr

/-- What a read of a stored word gives (R14). -/
def readResult (stored : NvWord) (reply : NvReply) : ReadResult :=
  match reply, stored with
  | .silent, _ => .noAnswer
  | .double, _ => .double
  | .clean, .clean w => .good w
  | .clean, .single w => .corrected w
  | .single, .clean w => .corrected w
  | .single, .single _ => .double
  | .clean, .double => .double
  | .single, .double => .double

/-- The word a read gives, if it gives one. -/
def ReadResult.word? : ReadResult → Option Word
  | .good w | .corrected w => some w
  | .double | .noAnswer => none

/-- The read corrected a word. -/
def ReadResult.isCorrected : ReadResult → Bool
  | .corrected _ => true
  | .good _ | .double | .noAnswer => false

/-- A stored word after the device was given a new one (R178). -/
def writtenWord (old : NvWord) (new : Word) : WordWrite → NvWord
  | .done => .clean new
  | .kept => old
  | .corrupt => .double

/-- The device completed both words (R17, R178). -/
def cutComplete (c : NvCut) : Bool := c.first == .done && c.second == .done

/-- The low word of the counter is written only after its high word (R178). -/
def cutInOrder (c : NvCut) : NvCut := if c.first = .done then c else ⟨c.first, .kept⟩

/-- The store after a write of a calibration record (R17). -/
def NvStore.writeCal (st : NvStore) (ch : Nat) (zero gain : Word) (cut : NvCut) : NvStore :=
  let old := st.cals.getD ch (.double, .double)
  { st with cals := st.cals.set ch (writtenWord old.1 zero cut.first, writtenWord old.2 gain cut.second) }

/-- The store after a write of the counter, the high word first (R178). -/
def NvStore.writeCounter (st : NvStore) (value : Nat) (cut : NvCut) : NvStore :=
  let c := cutInOrder cut
  let v := BitVec.ofNat 32 value
  { st with
    counterHigh := writtenWord st.counterHigh (highWord v) c.first
    counterLow := writtenWord st.counterLow (lowWord v) c.second }

/-- The store after the device has dealt with an operation that writes. -/
def NvStore.afterOp (st : NvStore) (op : NvOp) (cut : NvCut) : NvStore :=
  match op with
  | .calWrite ch z g | .brokenCal ch z g => st.writeCal ch z g cut
  | .counterWrite v | .brokenCounter v => st.writeCounter v cut
  | .loadWord _ | .counterRead => st

/-- The device has dealt with the operation in flight. -/
def State.storeWrite (s : State) (op : NvOp) (cut : NvCut) : State :=
  s.setNv { s.nv with store := s.nv.store.afterOp op cut }

/-! ## The port -/

/-- The milliseconds within which the port must report the end of an operation (R15, R17, R176, R178). -/
def nvLimit : Nat := 20

/-- An operation is in flight for 20 ms or more. -/
def State.nvLate (s : State) : Bool := decide (s.nv.started + nvLimit ≤ s.clk.ms)

/-- An operation is in flight for more than 20 ms: a report of its end comes too late (R15, R17, R176, R178; log entry 51). -/
def State.nvOver (s : State) : Bool := decide (s.nv.started + nvLimit < s.clk.ms)

/-- An operation starts at once, or waits for the port (R18). DEDUCED (log entry 39): also for the power-on load's. -/
def State.startNv (s : State) (op : NvOp) : State :=
  if s.nv.op.isNone then s.setNv { s.nv with op := some op, started := s.clk.ms }
  else s.setNv { s.nv with waiting := some op }

/-- The port is released: a waiting operation begins (R18). -/
def State.releasePort (s : State) : State :=
  s.setNv { s.nv with op := s.nv.waiting, started := s.clk.ms, waiting := none }

/-- The port goes on with another operation of the same owner. -/
def State.nextNv (s : State) (op : NvOp) : State := s.setNv { s.nv with op := some op, started := s.clk.ms }

/-! ## Entries (R206) -/

/-- The markers in place of a channel index: 14 the counter, 15 the identity. -/
def counterMarker : Nat := 14
def identityMarker : Nat := 15

/-- NV_CORRECTED with a word number. -/
def State.correctedEntry (s : State) (marker word : Nat) (r : ReadResult) : State :=
  if r.isCorrected then s.produce evNvCorrected 0 (Machine.word marker) (Machine.word word) else s

/-- NV_ERROR with a word number: 0 first, 1 second, 2 the whole record or write. -/
def State.nvErrorEntry (s : State) (marker word : Nat) : State :=
  s.produce evNvError 0 (Machine.word marker) (Machine.word word)

/-! ## The power-on load (R14, R15, R113) -/

/-- The entries of a read word: NV_CORRECTED, or NV_ERROR for a word that gave nothing (R14). -/
def State.readEntries (s : State) (marker word : Nat) (r : ReadResult) : State :=
  match r.word? with
  | some _ => s.correctedEntry marker word r
  | none => s.nvErrorEntry marker word

/-- The record two read words make: VALID with both in range, INVALID otherwise (R14). -/
def recordOf (zero gain : Option Int) : CalRecord :=
  match zero, gain with
  | some z, some g => if -8192 ≤ z ∧ z ≤ 8191 ∧ 1 ≤ g then ⟨z, g, true⟩ else ⟨0, 0, false⟩
  | _, _ => ⟨0, 0, false⟩

/-- The zero word of a record is read (R15). -/
def State.loadZeroWord (s : State) (ch : Nat) (r : ReadResult) : State :=
  let s := s.readEntries ch 0 r
  s.setEng { s.eng with loadZero := r.word?.map BitVec.toInt }

/-- The gain word of a record is read, and the record's validity and values are set (R14, R15). DESIGN CHOICE (log entry 63): the
NV_CORRECTED entry of a corrected gain word comes before the NV_ERROR entry of a record out of range. -/
def State.loadGainWord (s : State) (ch : Nat) (r : ReadResult) : State :=
  let s := s.readEntries ch 1 r
  let gain := r.word?.map (fun w => (w.toNat : Int))
  let c := recordOf s.eng.loadZero gain
  let s := if s.eng.loadZero.isSome && gain.isSome && !c.valid then s.nvErrorEntry ch 2 else s
  s.setEng { s.eng with cals := s.eng.cals.set ch c, loadZero := none }

/-- The plate length of an identity word (R113). -/
def plateLengthOf (w : Word) : Option Nat := if 400 ≤ w.toNat ∧ w.toNat ≤ 1500 then some w.toNat else none

/-- The identity word is read, and its plate length handed to the plate unit (R15, R113). DESIGN CHOICE (log entry 63): the
NV_CORRECTED entry of a corrected word comes before the NV_ERROR entry of a length out of range. -/
def State.loadIdentity (s : State) (r : ReadResult) : State :=
  let s := s.readEntries identityMarker 0 r
  let length := r.word?.bind plateLengthOf
  let s := if r.word?.isSome && length.isNone then s.nvErrorEntry identityMarker 2 else s
  s.setPlate { s.plate with length := length }

/-- The load ends: the port is released, analog sampling may begin, and the lane mode is derived (R15, R22). -/
def State.endLoad (s : State) : State := (s.setEng { s.eng with loading := false }).releasePort.deriveMode

/-- The stored word that read k of the load reads: 0 to 17 the calibration words, then the identity. -/
def NvStore.loadWordAt (st : NvStore) (k : Nat) : NvWord :=
  if k < 18 then
    let r := st.cals.getD (k / 2) (.double, .double)
    if k % 2 = 0 then r.1 else r.2
  else st.identity

/-- Read k of the load has ended with a result; the next read starts, or the load ends (R15). -/
def State.loadStep (s : State) (k : Nat) (r : ReadResult) : State :=
  if k < 18 then
    let s := if k % 2 = 0 then s.loadZeroWord (k / 2) r else s.loadGainWord (k / 2) r
    s.nextNv (.loadWord (k + 1))
  else (s.loadIdentity r).endLoad

/-- CAL_READ_DONE (R15). -/
def execCalReadDone (reply : NvReply) (s : State) : Host.Outcome State Fault Refusal :=
  answer s (match s.nv.op with
    | some (.loadWord k) =>
      s.loadStep k (if s.nvOver then .noAnswer else readResult (s.nv.store.loadWordAt k) reply)
    | _ => s)

/-- A read of the load has not been reported ended 20 ms after it started (R15). -/
def State.loadLate (s : State) : Bool :=
  match s.nv.op with
  | some (.loadWord _) => s.nvLate
  | _ => false

/-- The read in flight has the result NO_ANSWER, and the next follows (R15). -/
def State.loadExpires (s : State) : State :=
  match s.nv.op with
  | some (.loadWord k) => s.loadStep k .noAnswer
  | _ => s

/-- NV_READ_TIMEOUT (R15). -/
def execNvReadTimeout (s : State) : Host.Outcome State Fault Refusal :=
  answer s (if s.loadLate then s.loadExpires else s)

/-! ## The CALIBRATE write (R17, R18) -/

/-- The CALIBRATE write ends (R17): on success the working record, the history and the validity follow; the lane mode is
derived in both cases, and the slot completes. DESIGN CHOICE (log entry 64): the NV_ERROR entry of a failure comes first and the
REQUEST_DONE entry last. -/
def State.calWriteEnds (s : State) (ch : Nat) (success : Bool) : State :=
  match s.eng.calib with
  | none => s.releasePort
  | some c =>
    let s := (s.setEng { s.eng with calib := none }).releasePort
    if success then
      let s := s.setEng { s.eng with cals := s.eng.cals.set ch ⟨c.zero, c.gain, true⟩ }
      ((s.rePrime (fun i => i == ch)).deriveMode).completeKind c.slot .calibrate .ok
        (if c.lateAbort then .lateAbort else .none) []
    else ((s.nvErrorEntry ch 2).deriveMode).completeKind c.slot .calibrate .failed .nvError []

/-- CALIBRATE_WRITE_DONE (R17). A report later than 20 ms finds the write failed. -/
def execCalibrateWriteDone (cut : NvCut) (answered : Bool) (s : State) : Host.Outcome State Fault Refusal :=
  answer s (match s.nv.op with
    | some (.calWrite ch z g) => (s.storeWrite (.calWrite ch z g) cut).calWriteEnds ch
      (answered && cutComplete cut && !s.nvOver)
    | _ => s)

/-- A CALIBRATE write has not been reported ended 20 ms after it started (R17). -/
def State.calWriteLate (s : State) : Bool :=
  match s.nv.op with
  | some (.calWrite _ _ _) => s.nvLate
  | _ => false

/-- The CALIBRATE write fails at its limit (R17). -/
def State.calWriteExpires (s : State) (cut : NvCut) : State :=
  match s.nv.op with
  | some (.calWrite ch z g) => (s.storeWrite (.calWrite ch z g) cut).calWriteEnds ch false
  | _ => s

/-- CALIBRATE_WRITE_TIMEOUT (R17). -/
def execCalibrateWriteTimeout (cut : NvCut) (s : State) : Host.Outcome State Fault Refusal :=
  answer s (if s.calWriteLate then s.calWriteExpires cut else s)

/-! ## The release of a broken-off write (R18, R180) -/

/-- The write in flight is one that a lane reset broke off. -/
def NvOp.broken : NvOp → Bool
  | .brokenCal _ _ _ | .brokenCounter _ => true
  | .loadWord _ | .calWrite _ _ _ | .counterRead | .counterWrite _ => false

/-- The port is released from a broken-off write (R18). -/
def State.brokenEnds (s : State) (cut : NvCut) : State :=
  match s.nv.op with
  | some op => if op.broken then (s.storeWrite op cut).releasePort else s
  | none => s

/-- 20 ms have passed from the start of a broken-off write (R18). -/
def State.brokenLate (s : State) : Bool :=
  match s.nv.op with
  | some op => op.broken && s.nvLate
  | none => false

/-- NV_PORT_RELEASED (R18). -/
def execNvPortReleased (cut : NvCut) (s : State) : Host.Outcome State Fault Refusal := answer s (s.brokenEnds cut)

/-- NV_RELEASE_TIMEOUT (R18). -/
def execNvReleaseTimeout (cut : NvCut) (s : State) : Host.Outcome State Fault Refusal :=
  answer s (if s.brokenLate then s.brokenEnds cut else s)

/-! ## The counter (R176 to R179) -/

/-- The value of two read words, absent when either gave none (R176). -/
def counterValue (high low : ReadResult) : Option Nat :=
  match high.word?, low.word? with
  | some h, some l => some (65536 * h.toNat + l.toNat)
  | _, _ => none

/-- The greatest counter value (R176). -/
def counterMax : Nat := 4294967295

/-- The word number of the NV_ERROR of a failed counter read: the first word that failed. -/
def failedWord (high : ReadResult) : Nat := if high.word?.isNone then 0 else 1

/-- The counter read ends with a value or, with the word number to report, without one (R176, R177, R179). -/
def State.counterReadEnds (s : State) (c : ComposeOp) (value : Option Nat) (failed : Nat) : State :=
  if c.aborted then s.releasePort.endCompose c .aborted .none
  else match value with
    | none => (s.nvErrorEntry counterMarker failed).releasePort.endCompose c .failed .nvError
    | some v =>
      if v = counterMax then s.releasePort.endCompose c .failed .counterFull
      else (s.fill c (v + 1)).nextNv (.counterWrite (v + 1))

/-- The counter read fails at its limit (R176). -/
def State.counterReadExpires (s : State) : State :=
  match s.comp.op with
  | some c => s.counterReadEnds c none 2
  | none => s

/-- COUNTER_READ_DONE (R176). A report later than 20 ms finds the read failed. DESIGN CHOICE (log entry 59): both words are read also
where the high word failed, and the NV_CORRECTED entries, the high word's first, come before the NV_ERROR entry. -/
def execCounterReadDone (high low : NvReply) (s : State) : Host.Outcome State Fault Refusal :=
  answer s (match s.nv.op, s.comp.op with
    | some .counterRead, some c =>
      if s.nvOver then s.counterReadExpires
      else
      let h := readResult s.nv.store.counterHigh high
      let l := readResult s.nv.store.counterLow low
      ((s.correctedEntry counterMarker 0 h).correctedEntry counterMarker 1 l).counterReadEnds c (counterValue h l)
        (failedWord h)
    | _, _ => s)

/-- The counter read has not been reported ended 20 ms after it started (R176). -/
def State.counterReadLate (s : State) : Bool :=
  match s.nv.op, s.comp.op with
  | some .counterRead, some _ => s.nvLate
  | _, _ => false

/-- COUNTER_READ_TIMEOUT (R176). -/
def execCounterReadTimeout (s : State) : Host.Outcome State Fault Refusal :=
  answer s (if s.counterReadLate then s.counterReadExpires else s)

/-- The counter write ends (R178, R179). -/
def State.counterWriteEnds (s : State) (c : ComposeOp) (value : Nat) (success : Bool) : State :=
  let s := s.releasePort
  if success then s.issueCert c value
  else ((s.nvErrorEntry counterMarker 2).clearFill c.target).endCompose c .failed .nvError

/-- COUNTER_WRITE_DONE (R178). A report later than 20 ms finds the write failed. -/
def execCounterWriteDone (cut : NvCut) (answered : Bool) (s : State) : Host.Outcome State Fault Refusal :=
  answer s (match s.nv.op, s.comp.op with
    | some (.counterWrite v), some c =>
      (s.storeWrite (.counterWrite v) cut).counterWriteEnds c v
        (answered && cutComplete cut && !s.nvOver)
    | _, _ => s)

/-- A counter write has not been reported ended 20 ms after it started (R178). -/
def State.counterWriteLate (s : State) : Bool :=
  match s.nv.op, s.comp.op with
  | some (.counterWrite _), some _ => s.nvLate
  | _, _ => false

/-- The counter write fails at its limit (R178). -/
def State.counterWriteExpires (s : State) (cut : NvCut) : State :=
  match s.nv.op, s.comp.op with
  | some (.counterWrite v), some c => (s.storeWrite (.counterWrite v) cut).counterWriteEnds c v false
  | _, _ => s

/-- COUNTER_WRITE_TIMEOUT (R178). -/
def execCounterWriteTimeout (cut : NvCut) (s : State) : Host.Outcome State Fault Refusal :=
  answer s (if s.counterWriteLate then s.counterWriteExpires cut else s)

end Sys2Proof.Machine
end

