-- ==== Sys2Proof/Machine/Printer.lean ====
section
/-! DEFINITION. Machine/Printer.lean: print jobs, the printed lines, and the printer link (chapter 10). -/

namespace Sys2Proof.Machine

/-! ## Printed lines (R184) -/

/-- A figure that may be absent. -/
def printed (o : Option Int) : PrintField :=
  match o with
  | some v => .figure v
  | none => .absent

/-- A named value that may be absent, printed by its code. -/
def printedCode (f : α → Nat) (o : Option α) : PrintField := printed (o.map (fun x => (f x : Int)))

/-- A count as a printed figure. -/
def printedNat (n : Nat) : PrintField := .figure n

/-- A flag as a printed figure. -/
def printedFlag (b : Bool) : PrintField := .figure b.toNat

/-- The first line of an axle (R184). DESIGN CHOICE (log entry 71): each projected value is followed by its own flag, left before right. -/
def axleFirstFields (k : Nat) (l : AxleLine) : List PrintField :=
  [printedNat (k + 1), printedNat (codeOfStatus l.status), printedCode codeOfSkip l.skip, printed l.weightL,
   printed l.weightR, printed (l.top.map (·.peakL)), printed (l.top.map (·.peakR)),
   printed (l.top.bind (·.projL)), printedCode codeOfProj (l.top.bind (·.flagL)),
   printed (l.top.bind (·.projR)), printedCode codeOfProj (l.top.bind (·.flagR)),
   printedNat l.attemptCount, printedFlag l.overflow]

/-- The second line of an axle (R184). DESIGN CHOICE (log entry 57): the plate flags are three columns of one figure each, in the order
UNCENTRED, MISSED, VOID. DESIGN CHOICE (log entry 71): imbalance and axle ovality are each followed by their own verdict, and the parking
peak of the left side comes first. -/
def axleSecondFields (l : AxleLine) : List PrintField :=
  [printed (l.top.bind (·.imbalance)), printedNat (codeOfVerdict l.imbalanceVerdict),
   printed (l.top.bind (·.axleOvality)), printedNat (codeOfVerdict l.ovalityVerdict),
   printed l.sideSlip.value, printedFlag l.sideSlip.uncentred, printedFlag l.sideSlip.missed,
   printedFlag l.sideSlip.void, printedNat (codeOfVerdict l.sideSlipVerdict),
   printed (l.parkReason.map (fun _ => l.parkPeakL)), printed (l.parkReason.map (fun _ => l.parkPeakR)),
   printedCode codeOfEnd l.parkReason, printedCode codeOfEnd (l.top.map (·.reason)),
   printedCode codeOfRamp (l.top.map (·.ramp))]

/-- The code of a printed character. -/
def byteOfChar (c : Fin 95) : Byte := BitVec.ofNat 8 (c.val + 32)

/-- The printed character of a code; R127 admits codes from 32 to 126 alone. -/
def charOfByte (b : Byte) : Fin 95 := Fin.ofNat 95 (b.toNat - 32)

/-- The characters of an absent field, two hyphens, and of the word COPY (R184). -/
def absentChars : List (Fin 95) := [13, 13]
def copyChars : List (Fin 95) := [35, 47, 48, 57]

/-- The least widths of the columns of a line (R184): the characters of the identifier and of the word COPY, the decimal digits and the
sign of the greatest value of a figure in the ranges that its rule gives (R51, R52, R54, R98, R101, R106, R108, R164, R171), the
digits of the greatest code of a named value, and at least two characters where a field can be absent. DESIGN CHOICE (log entry
32). -/
def leastWidths : LineKind → List Nat
  | .headingLine => [2, 10, 4]
  | .vehicleLine => [20, 5]
  | .fillLine => [10, 2, 1]
  | .limitsLine => [5, 5, 5, 5, 6, 6]
  | .axleFirst => [1, 1, 2, 5, 5, 4, 4, 4, 2, 4, 2, 1, 1]
  | .axleSecond => [3, 1, 3, 1, 4, 1, 1, 1, 1, 4, 4, 2, 2, 2]
  | .massLine => [6]
  | .serviceLine | .parkingLine => [4, 1]
  | .overallLine => [1]
  | .numberLine => [10]
  | .checkLine => [5]

/-- The columns of a line from column i on, as numbers and widths, with a given number of characters to spare: together at most 48
(R184). -/
def columnsFrom (kind : LineKind) : Nat → Nat → List Nat → List (Nat × Nat)
  | _, _, [] => []
  | i, spare, w :: ws =>
    let extra := min (Config.columnSlack kind i) spare
    (i, w + extra) :: columnsFrom kind (i + 1) (spare - extra) ws

/-- The columns of a line: fixed for each line of the table of R184. -/
def columns (kind : LineKind) : List (Nat × Nat) :=
  columnsFrom kind 0 (48 - (leastWidths kind).sum) (leastWidths kind)

/-- The characters of a field in column i of width w (R184). DESIGN CHOICE (log entry 32): spellings that the manual does not give are
free. A free spelling fills its column, which is wide enough for the greatest value; none is cut. -/
def fieldChars (kind : LineKind) (i w : Nat) : PrintField → List (Fin 95)
  | .absent => absentChars
  | .copyWord => copyChars
  | .characters l => l.map charOfByte
  | .heading => (Config.spelling kind i .heading w).toList
  | .figure v => (Config.spelling kind i (.figure v) w).toList

/-- A column of width w with the characters of its field, not cut, at the column's own indent (R184). -/
def columnCell (kind : LineKind) (i w : Nat) (text : List (Fin 95)) : List (Fin 95) :=
  let indent := min (Config.columnIndent kind i) (w - text.length)
  List.replicate indent 0 ++ text ++ List.replicate (w - indent - text.length) 0

/-- The text of a line: each field in its column, spaces in a column without a field and after the last column, 48 characters
(R184). -/
def lineText (kind : LineKind) (fields : List PrintField) : List (Fin 95) :=
  let cells := (columns kind).flatMap (fun c =>
    columnCell kind c.1 c.2 ((fields[c.1]?.map (fieldChars kind c.1 c.2)).getD []))
  (cells ++ List.replicate 48 0).take 48

/-- The kind and the fields of line k of a certificate (R184). -/
def CertRecord.line (c : CertRecord) (cls : JobClass) (k : Nat) : LineKind × List PrintField :=
  let n := c.axleCount
  if k ≤ 1 then
    (.headingLine, [.heading, printedNat c.number] ++ (if cls = .copy then [.copyWord] else []))
  else if k = 2 then (.vehicleLine, [.characters c.vehicle, printedNat c.runId])
  else if k = 3 then (.fillLine, [printedNat c.time.toNat, printedNat c.limitsRow.toNat, printedNat n])
  else if k = 4 then
    (.limitsLine, [printedNat c.limits.minService.toNat, printedNat c.limits.minParking.toNat,
      printedNat c.limits.maxImbalance.toNat, printedNat c.limits.maxOvality.toNat,
      .figure c.limits.slipMin.toInt, .figure c.limits.slipMax.toInt])
  else if k ≤ 4 + 2 * n then
    match c.lines[(k - 5) / 2]? with
    | some l =>
      if (k - 5) % 2 = 0 then (.axleFirst, axleFirstFields ((k - 5) / 2) l) else (.axleSecond, axleSecondFields l)
    | none => (.axleFirst, [])
  else if k = 5 + 2 * n then (.massLine, [printed (c.mass.map Int.ofNat)])
  else if k = 6 + 2 * n then
    (.serviceLine, [printed (c.serviceEff.map Int.ofNat), printedNat (codeOfVerdict c.serviceVerdict)])
  else if k = 7 + 2 * n then
    (.parkingLine, [printed (c.parkingEff.map Int.ofNat), printedNat (codeOfVerdict c.parkingVerdict)])
  else if k = 8 + 2 * n then (.overallLine, [printedNat (codeOfOverall c.overall)])
  else if k = 9 + 2 * n then (.numberLine, [printedNat c.number])
  else (.checkLine, [printedNat c.checkWord.toNat])

/-- The lines of a certificate (R184). -/
def CertRecord.lineCount (c : CertRecord) : Nat := 10 + 2 * c.axleCount

/-- The 48 characters of line k (R184). -/
def CertRecord.text (c : CertRecord) (cls : JobClass) (k : Nat) : List Byte :=
  (lineText (c.line cls k).1 (c.line cls k).2).map byteOfChar

/-- The characters of the word CANCELLED (R192). -/
def cancelledText : List Byte := [0x43, 0x41, 0x4E, 0x43, 0x45, 0x4C, 0x4C, 0x45, 0x44]

/-! ## Frames (R185) -/

/-- A line frame or, with no text, a poll frame: start byte, sequence, length, text, CRC-8. -/
def printerFrame (sequence : Byte) (text : List Byte) : List Byte :=
  let body := sequence :: BitVec.ofNat 8 text.length :: text
  0x5A :: (body ++ [crc8 body])

/-- The part of the printer's own state takes a value. -/
def State.sendWire (s : State) (w : WireFrame) : State := s.setPrn { s.prn with wire := some w }

/-- The line in hand is sent (R185, R186). -/
def State.sendLine (s : State) : State :=
  (s.setPrn { s.prn with replyTimer := none, busyTimer := none }).sendWire
    (.line (printerFrame s.prn.sequence s.prn.text))

/-- A line is sent for the first time: the link sequence is raised and the CRC resend count is 0 (R183, R185). -/
def State.sendNewLine (s : State) (text : List Byte) (cancel : Bool) : State :=
  (s.setPrn { s.prn with sequence := s.prn.sequence + 1, text := text, cancelLine := cancel, crcResends := 0 }).sendLine

/-- The period of the poll timer in a link state (R189). -/
def pollPeriod : LinkState → Nat
  | .pausedPaper => 1000
  | .offline | .ready | .sending | .waitReply => 2000

/-- A poll is sent, and the poll timer is loaded (R189). -/
def State.sendPoll (s : State) : State :=
  (s.setPrn { s.prn with pollTimer := s.timerIn (pollPeriod s.prn.link) }).sendWire
    (.poll (printerFrame s.prn.sequence []))

/-! ## Link state (R189, R190) -/

/-- A state in which the link polls. -/
def polls : LinkState → Bool
  | .pausedPaper | .offline => true
  | .ready | .sending | .waitReply => false

/-- The link enters a state: the poll timer is loaded or stopped, the no-reply count is 0 at an entry to OFFLINE, and a change
into or out of PAUSED_PAPER or OFFLINE makes its entry and raises ATTN.PRINT (R189, R190). -/
def State.setLink (s : State) (new : LinkState) : State :=
  let old := s.prn.link
  if new = old then s
  else
    let s := s.setPrn { s.prn with
      link := new
      pollTimer := if polls new then s.timerIn (pollPeriod new) else none
      noReplies := if new = .offline then 0 else s.prn.noReplies }
    let s := if polls new || polls old
      then s.produce evPrinterState 0 (word (codeOfLink new)) (word (codeOfLink old)) else s
    if polls new then s.raiseAttn attnPrint else s

/-! ## Jobs -/

/-- The job that is PRINTING. -/
def State.printing (s : State) : Option Job := s.prn.jobs.find? (fun j => j.state == .printing)

/-- Replaces the job of a slot. -/
def State.updateJob (s : State) (slot : Nat) (f : Job → Job) : State :=
  s.setPrn { s.prn with jobs := s.prn.jobs.map (fun j => if j.slot = slot then f j else j) }

/-- The PRINT_STATE entry (R183, R191). -/
def State.printEntry (s : State) (j : Job) (st : JobState) : State :=
  s.produce evPrintState 0 (bytePair j.record (codeOfJob st)) (word j.linesTaken)

/-- The job that is selected: the oldest QUEUED ORIGINAL, otherwise the oldest QUEUED COPY (R183). -/
def State.nextJob (s : State) : Option Job :=
  match s.prn.jobs.find? (fun j => j.state == .queued && j.cls == .original) with
  | some j => some j
  | none => s.prn.jobs.find? (fun j => j.state == .queued && j.cls == .copy)

/-- A job is selected, if one is QUEUED: PRINTING, its entry, and its line 1 (R183). -/
def State.selectJob (s : State) : State :=
  match s.nextJob with
  | some j =>
    let s := (s.updateJob j.slot (fun j => { j with state := .printing })).printEntry j .printing
    (s.setLink .sending).sendNewLine ((s.cert j.record).text j.cls 1) false
  | none => s

/-- The link enters READY, and a job is selected (R183). -/
def State.enterReady (s : State) : State := (s.setLink .ready).selectJob

/-- The raised print count of a record (R191). -/
def State.countPrint (s : State) (k : Nat) : State :=
  s.setCert k { s.cert k with printCount := min 65535 ((s.cert k).printCount + 1) }

/-- A job ends (R191); the end of a QUEUED job leaves the exchange of the PRINTING one as it is. -/
def State.endJob (s : State) (j : Job) (st : JobState) (o : ReqOutcome) (d : Detail) : State :=
  let s := if st = .done then s.countPrint j.record else s
  let s := s.printEntry j st
  let s := s.setPrn { s.prn with
    jobs := s.prn.jobs.filter (fun x => x.slot != j.slot)
    cancelLine := s.prn.cancelLine && j.state != .printing }
  s.completeKind j.slot .print o d [bytePair (codeOfClass j.cls) j.linesTaken, word (s.cert j.record).printCount]

/-- The PRINTING job ends FAILED, or CANCELLED when its cancel mark is set (R187, R188, R189, R192). -/
def State.failJob (s : State) (d : Detail) : State :=
  match s.printing with
  | some j => if j.cancelMark then s.endJob j .cancelled .aborted .none else s.endJob j .failed .failed d
  | none => s

/-! ## Replies to a line (R187, R192) -/

/-- The five replies (R211); any other byte is taken as CRC_BAD (R186). -/
inductive Reply where
  | ready | busy | crcBad | paperOut | fault
deriving DecidableEq, Repr

/-- The reply a status byte is (R186, R211). -/
def replyOf (b : Byte) : Reply :=
  if b = 0x10 then .ready else if b = 0x11 then .busy else if b = 0x13 then .paperOut
  else if b = 0x14 then .fault else .crcBad

/-- The line in hand is sent again, the link SENDING (R187, R188, R189). -/
def State.resendLine (s : State) : State := (s.setLink .sending).sendLine

/-- The CANCELLED line is sent (R192). -/
def State.sendCancelled (s : State) : State := (s.setLink .sending).sendNewLine cancelledText true

/-- The exchange of a cancelled job's line has ended without ending the job: the CANCELLED line follows unless it is the line
in hand, which is sent again (R192). -/
def State.afterExchange (s : State) (cancelMark : Bool) : State :=
  if cancelMark && !s.prn.cancelLine then s.sendCancelled else s.resendLine

/-- READY to a line (R187, R192). -/
def State.lineReady (s : State) (j : Job) : State :=
  if s.prn.cancelLine then (s.endJob j .cancelled .aborted .none).enterReady
  else
    let j := { j with linesTaken := j.linesTaken + 1 }
    let s := (s.setPrn { s.prn with crcResends := 0 }).updateJob j.slot (fun _ => j)
    if (s.cert j.record).lineCount ≤ j.linesTaken then
      (s.endJob j .done .ok (if j.cancelMark then .lateCancel else .none)).enterReady
    else if j.cancelMark then s.sendCancelled
    else (s.setLink .sending).sendNewLine ((s.cert j.record).text j.cls (j.linesTaken + 1)) false

/-- BUSY to a line: the link holds for 200 ms (R187). -/
def State.lineBusy (s : State) : State :=
  let s := s.setLink .sending
  s.setPrn { s.prn with busyTimer := s.timerIn 200 }

/-- CRC_BAD, or an unknown byte, to a line (R187, R192). -/
def State.lineBad (s : State) (j : Job) : State :=
  if j.cancelMark && !s.prn.cancelLine then s.sendCancelled
  else if s.prn.crcResends < 2 && !j.noRetry then
    (s.setPrn { s.prn with crcResends := s.prn.crcResends + 1 }).resendLine
  else (s.failJob .crc).enterReady

/-- PAPER_OUT to a line: the job stays at the line, or ends if it is cancelled (R187, R192). -/
def State.linePaper (s : State) (j : Job) : State :=
  (if j.cancelMark then s.failJob .none else s).setLink .pausedPaper

/-- A reply to a line frame (R187). -/
def State.lineReply (s : State) (r : Reply) : State :=
  match s.printing with
  | some j =>
    match r with
    | .ready => s.lineReady j
    | .busy => s.lineBusy
    | .crcBad => s.lineBad j
    | .paperOut => s.linePaper j
    | .fault => (s.failJob .printerFault).setLink .offline
  | none => s.enterReady

/-! ## Replies to a poll (R189) -/

/-- READY to a poll in PAUSED_PAPER: the line in hand is sent again, or the link is READY. -/
def State.pausedReady (s : State) : State :=
  if s.printing.isSome then (s.setPrn { s.prn with crcResends := 0 }).resendLine else s.enterReady

/-- A reply to a poll (R189). -/
def State.pollReply (s : State) (r : Reply) : State :=
  match s.prn.link, r with
  | .pausedPaper, .ready => s.pausedReady
  | .pausedPaper, .fault => (s.failJob .printerFault).setLink .offline
  | .pausedPaper, .paperOut => s
  | .pausedPaper, .busy => s
  | .pausedPaper, .crcBad => s
  | .offline, .ready => s.enterReady
  | .offline, .paperOut => s.setLink .pausedPaper
  | .offline, .busy => s
  | .offline, .crcBad => s
  | .offline, .fault => s
  | .ready, _ => s
  | .sending, _ => s
  | .waitReply, _ => s

/-! ## The steps of the printer link -/

/-- The last byte of a frame has left the line (R186). -/
def State.frameLeft (s : State) : State :=
  let s' := s.setPrn { s.prn with wire := none, replyTimer := s.timerIn 500 }
  match s.prn.wire with
  | some (.line _) => s'.setLink .waitReply
  | some (.poll _) => s'.setPrn { s'.prn with pollWindow := true }
  | none => s

/-- PRINTER_FRAME_SENT (R186). -/
def execPrinterFrameSent (s : State) : Host.Outcome State Fault Refusal := answer s s.frameLeft

/-- A reply is awaited: a line's, or a poll's (R186). -/
def State.awaitsReply (s : State) : Bool := s.prn.link == .waitReply || s.prn.pollWindow

/-- The timer stops, the window closes and the no-reply count is 0 (R186). -/
def State.replyTaken (s : State) : State :=
  s.setPrn { s.prn with replyTimer := none, pollWindow := false, noReplies := 0 }

/-- PRINTER_REPLY (R186, R187, R189): a byte outside a window is discarded. -/
def execPrinterReply (byte : Byte) (s : State) : Host.Outcome State Fault Refusal :=
  answer s (
    if s.prn.link = .waitReply then s.replyTaken.lineReply (replyOf byte)
    else if s.prn.pollWindow then s.replyTaken.pollReply (replyOf byte)
    else s)

/-- The reply timer has expired (R188). -/
def State.replyLate (s : State) : Bool := s.expired s.prn.replyTimer

/-- A line has no reply (R188, R192). -/
def State.lineSilent (s : State) : State :=
  let s := s.setPrn { s.prn with replyTimer := none, noReplies := s.prn.noReplies + 1 }
  if s.prn.noReplies < 3 then s.afterExchange ((s.printing.map (·.cancelMark)).getD false)
  else (s.failJob .noReply).setLink .offline

/-- A poll has no reply (R189). -/
def State.pollSilent (s : State) : State :=
  let s := s.setPrn { s.prn with replyTimer := none, pollWindow := false }
  if s.prn.link = .pausedPaper then
    let s := s.setPrn { s.prn with noReplies := s.prn.noReplies + 1 }
    if s.prn.noReplies < 3 then s else (s.failJob .noReply).setLink .offline
  else s

/-- PRINTER_REPLY_TIMEOUT (R188, R189). -/
def execPrinterReplyTimeout (s : State) : Host.Outcome State Fault Refusal :=
  answer s (
    if s.replyLate then (if s.prn.link = .waitReply then s.lineSilent else s.pollSilent) else s)

/-- The 200 ms after a BUSY have passed (R187). -/
def State.busyDue (s : State) : Bool := s.expired s.prn.busyTimer

/-- BUSY_RESEND (R187, R192). -/
def execBusyResend (s : State) : Host.Outcome State Fault Refusal :=
  answer s (if s.busyDue then s.afterExchange ((s.printing.map (·.cancelMark)).getD false) else s)

/-- The poll timer has expired (R189). -/
def State.pollDue (s : State) : Bool := s.expired s.prn.pollTimer

/-- POLL_TIMER_EXPIRY (R189). -/
def execPollTimerExpiry (s : State) : Host.Outcome State Fault Refusal :=
  answer s (if s.pollDue then s.sendPoll else s)

/-! ## PRINT requests (R181, R182, R192) -/

/-- The class of a new job on a record (R182). -/
def State.classFor (s : State) (k : Nat) : JobClass :=
  if (s.cert k).printCount = 0 ∧ ¬ s.prn.jobs.any (fun j => j.record == k) then .original else .copy

/-- A job is created, its slot ACTIVE; it is selected at once if the link is READY (R182). -/
def State.createJob (s : State) (n k : Nat) (noRetry : Bool) : State :=
  let j : Job := ⟨n, k, s.classFor k, noRetry, .queued, false, 0⟩
  let s := (s.setPrn { s.prn with jobs := s.prn.jobs ++ [j] }).activate n .print
  if s.prn.link = .ready then s.selectJob else s

/-- A PRINT taken from slot n (R181). -/
def State.takePrint (s : State) (n : Nat) : State :=
  let s := s.stateRead
  let k := (s.param n 0).toNat
  let flag := (s.param n 1).toNat
  let refuse (o : ReqOutcome) (d : Detail) : State := s.completeKind n .print o d []
  if 3 < k then refuse .badParam (.param 1)
  else if 1 < flag then refuse .badParam (.param 2)
  else if (s.cert k).state = .empty then refuse .refusedState .empty
  else if (s.cert k).state = .composing then refuse .refusedState .composing
  else if 8 ≤ s.prn.jobs.length then refuse .refusedBusy .spoolFull
  else s.createJob n k (flag == 1)

/-- The ABORT of an ACTIVE PRINT (R192). -/
def State.cancelPrint (s : State) (n : Nat) : State :=
  match s.prn.jobs.find? (fun j => j.slot == n) with
  | some j =>
    if j.state = .queued ∨ s.prn.link = .pausedPaper then s.endJob j .cancelled .aborted .none
    else s.updateJob n (fun j => { j with cancelMark := true })
  | none => s

end Sys2Proof.Machine
end

