-- ==== Sys2Proof/Machine/Requests.lean ====
section
/-! DEFINITION. Machine/Requests.lean: the registers, the request slots, the takings of the nine kinds, the abort rules, the
stale timer, the gauge record (chapter 11, and the taking rule of each kind's owner). -/

namespace Sys2Proof.Machine

/-! ## LANECTL, ATTN, JACK (R194, R195, R203, R205, R207) -/

/-- SET_JOURNAL_MODE (R195, R202). -/
def execSetJournalMode (mode : JournalMode) (s : State) : Host.Outcome State Fault Refusal :=
  answer s (s.setJr { s.jr with mode := mode })

/-- SET_ATTENTION_MASK (R195). -/
def execSetAttentionMask (mask : Byte) (s : State) : Host.Outcome State Fault Refusal := answer s (s.setMask mask)

/-- ATTN_WRITE (R207). -/
def execAttnWrite (value : Word) (s : State) : Host.Outcome State Fault Refusal := answer s (s.clearAttn (lowByte value))

/-- REGISTER_WRITE_IGNORED (R194): nothing changes. -/
def execRegisterWriteIgnored (_addr _value : Word) (s : State) : Host.Outcome State Fault Refusal := answer s s

/-- The ack index after a JACK (R203). -/
def Journal.ackAfter (j : Journal) (value : Word) : BitVec 8 :=
  let i := BitVec.ofNat 8 value.toNat
  if value.toNat ≤ 255 ∧ (i - j.ack).toNat ≤ (j.put - j.ack).toNat then i else j.put

/-- A JACK (R203), and what it does to the stale timer (R205). -/
def State.acknowledge (s : State) (value : Word) : State :=
  let j := { s.jr with ack := s.jr.ackAfter value }
  s.setJr { j with staleTimer := if j.count = 0 then none else s.staleLoad }

/-- JACK (R203). -/
def execJack (value : Word) (s : State) : Host.Outcome State Fault Refusal := answer s (s.acknowledge value)

/-- The stale timer has expired (R205). -/
def State.staleDue (s : State) : Bool := s.expired s.jr.staleTimer

/-- STALE_TIMER_EXPIRY (R205): ATTN.STALE, and the timer is reloaded. -/
def execStaleTimerExpiry (s : State) : Host.Outcome State Fault Refusal :=
  answer s (if s.staleDue then (s.setJr { s.jr with staleTimer := s.staleLoad }).raiseAttn attnStale else s)

/-! ## POST (R197) -/

/-- The state word of a held slot. -/
def heldWord : Held → Option Word
  | .free => none
  | .posted => some wordPosted
  | .active _ => some wordActive

/-- The POST_IGNORED entry with the state word found (R197, R198). -/
def State.postIgnored (s : State) (n : Nat) (found : Word) : State := s.produce evPostIgnored 0 (word n) found

/-- The post of one slot (R197). -/
def State.postSlot (s : State) (n : Nat) : State :=
  let found := s.slotState n
  match heldWord (s.held n) with
  | some w => (s.setMem (Memory.writeWord s.mem (slotBase n) w)).postIgnored n found
  | none =>
    if found = wordReady then (s.setMem (Memory.writeWord s.mem (slotBase n) wordPosted)).setHeld n .posted
    else s.postIgnored n found

/-- The slots named in a mask, in ascending order (R197, R201). -/
def namedSlots (mask : Word) : List Nat := (List.range 16).filter (fun n => bitOf mask n)

/-- POST (R197). -/
def execPost (mask : Word) (s : State) : Host.Outcome State Fault Refusal :=
  answer s ((namedSlots mask).foldl State.postSlot s)

/-! ## ABORT (R201) -/

/-- The abort rule of ZERO: a capture whose 200th sample has been taken completes, an earlier one ends ABORTED (R21). -/
def State.abortZero (s : State) (n : Nat) : State :=
  if s.captureDue then s.captureEnds
  else (s.setEng { s.eng with capture := none }).completeKind n .zero .aborted .none []

/-- The abort rule of CALIBRATE: too late (R18). -/
def State.abortCalibrate (s : State) : State :=
  s.setEng { s.eng with calib := s.eng.calib.map (fun c => { c with lateAbort := true }) }

/-- The abort rule of DRIVE_TEST (R44). -/
def State.abortTest (s : State) : State :=
  if isSpinning s.drv.state then (s.decideTest .aborted .none).stopEvent .commanded else s

/-- The abort rule of COMPOSE (R179). -/
def State.abortCompose (s : State) : State :=
  s.setComp { s.comp with op := s.comp.op.map (fun c =>
    match c.stage with
    | .reading => { c with aborted := true }
    | .writing _ => { c with lateAbort := true }) }

/-- An ACTIVE slot is handed to the abort rule of its owner (R198, R201). -/
def State.abortActive (s : State) (n : Nat) (k : Kind) : State :=
  match k with
  | .zero => s.abortZero n
  | .calibrate => s.abortCalibrate
  | .runPlan => frameAfter s (s.abortPlan .aborted .none)
  | .driveTest => s.abortTest
  | .compose => s.abortCompose
  | .print => s.cancelPrint n
  | .clearFaults | .discardAttempt | .setTime => s

/-- The abort of one slot (R201). -/
def State.abortSlot (s : State) (n : Nat) : State :=
  match s.held n with
  | .free => s
  | .posted => s.complete n (s.slotKind n) .aborted .none []
  | .active k => s.abortActive n k

/-- ABORT (R201). -/
def execAbort (mask : Word) (s : State) : Host.Outcome State Fault Refusal :=
  answer s ((namedSlots mask).foldl State.abortSlot s)

/-! ## Takings (R198) -/

/-- The lowest-numbered slot of the pending set (R198). -/
def State.lowestPosted (s : State) : Option Nat := s.slots.findIdx? (fun h => h == .posted)

/-- A slot whose state word the host has rewritten (R198). -/
def State.withdraw (s : State) (n : Nat) : State :=
  (s.postIgnored n (s.slotState n)).complete n (s.slotKind n) .aborted .withdrawn []

/-- The taking of the lowest pending slot, if its kind is one the command takes (R198). -/
def State.taking (s : State) (takes : Nat → Bool) (work : State → Nat → State) : State :=
  match s.lowestPosted with
  | some n =>
    if takes (s.slotKind n) then (if s.slotState n = wordPosted then work s n else s.withdraw n) else s
  | none => s

/-- The kind word is the code of a kind. -/
def isKind (k : Kind) (code : Nat) : Bool := code == codeOfKind k

/-- A long kind other than PRINT is refused while one of its kind is ACTIVE (R198). -/
def onlyOne (k : Kind) (work : State → Nat → State) (s : State) (n : Nat) : State :=
  if s.kindActive k then s.completeKind n k .refusedBusy .kindActive [] else work s n

/-- BAD_KIND (R198). -/
def execBadKind (s : State) : Host.Outcome State Fault Refusal :=
  answer s (s.taking (fun c => c == 0 || decide (9 < c)) (fun s n => s.complete n (s.slotKind n) .badKind .none []))

/-- CLEAR_FAULTS (R13, R40). -/
def execClearFaults (s : State) : Host.Outcome State Fault Refusal :=
  answer s (s.taking (isKind .clearFaults) State.takeClearFaults)

/-! ### DISCARD_ATTEMPT (R57, R58) -/

/-- The retest offer is evaluated again when the axle under the cursor loses its top attempt in REVIEW (R138, R139). -/
def State.offerAgain (s : State) (k : Nat) : State :=
  if s.seq.state = .review && s.tab.cursor == k then frameAfter s s.evaluateOffer else s

/-- The removal of the top attempt of axle k + 1 (R58); its place and the attempt count are written whole (R47). -/
def State.discardTop (s : State) (n k : Nat) (a : Attempt) : State :=
  let r := s.record k
  let left := r.attempts.dropLast
  (((s.setRecord k { r with attempts := left }).rewriteAttempt k left.length 8).offerAgain k).completeKind n .discardAttempt .ok .none
    [bytePair left.length r.overflow.toNat, bytePair (codeOfEnd a.reason) (codeOfRamp a.ramp), lowWord a.time,
     highWord a.time]

/-- A DISCARD_ATTEMPT taken from slot n (R57). DESIGN CHOICE (log entry 45): DISCARD_EMPTY comes before the REQUEST_DONE of its
refusal. -/
def State.takeDiscard (s : State) (n : Nat) : State :=
  let axle := (s.param n 0).toNat
  let r := s.record (axle - 1)
  let refuse (t : State) (o : ReqOutcome) (d : Detail) : State := t.completeKind n .discardAttempt o d []
  if axle = 0 ∨ 8 < axle then refuse s .badParam (.param 1)
  else if s.tab.certified then refuse s .refusedState .certified
  else if s.kindActive .compose then refuse s .refusedState .composeActive
  else if r.status = .inTest ∧ s.drv.state ≠ .off then refuse s .refusedState .inTest
  else match r.top with
    | none => refuse (s.produce evDiscardEmpty axle (word n) 0) .refusedState .listEmpty
    | some a => s.discardTop n (axle - 1) a

/-- DISCARD_ATTEMPT (R57). -/
def execDiscardAttempt (s : State) : Host.Outcome State Fault Refusal :=
  answer s (s.taking (isKind .discardAttempt) State.takeDiscard)

/-! ### SET_TIME (R199) -/

/-- A SET_TIME taken from slot n (R199). -/
def State.takeSetTime (s : State) (n : Nat) : State :=
  (s.putTime (s.paramD n)).completeKind n .setTime .ok .none [lowWord s.time, highWord s.time]

/-- SET_TIME (R199). -/
def execSetTime (s : State) : Host.Outcome State Fault Refusal := answer s (s.taking (isKind .setTime) State.takeSetTime)

/-! ### ZERO (R19) -/

/-- A ZERO taken from slot n (R19). -/
def State.takeZero (s : State) (n : Nat) : State :=
  let refuse (o : ReqOutcome) (d : Detail) : State := s.completeKind n .zero o d []
  if s.eng.mode = .failsafe then refuse .refusedMode .none
  else if s.drv.state ≠ .off then refuse .refusedState .driveNotOff
  else if s.kindActive .runPlan then refuse .refusedState .planActive
  else if s.kindActive .driveTest then refuse .refusedState .testActive
  else if s.kindActive .calibrate then refuse .refusedState .calibrateActive
  else if s.loadFrom 100 then refuse .refusedState .vehiclePresent
  else (s.setEng { s.eng with capture := some ⟨n, 0, [0, 0, 0, 0, 0]⟩ }).activate n .zero

/-- ZERO (R19). -/
def execZero (s : State) : Host.Outcome State Fault Refusal :=
  answer s (s.taking (isKind .zero) (onlyOne .zero State.takeZero))

/-! ### CALIBRATE (R16) -/

/-- A CALIBRATE taken from slot n (R16). -/
def State.takeCalibrate (s : State) (n : Nat) : State :=
  let ch := (s.param n 0).toNat
  let zero := (s.param n 1).toInt
  let gain := (s.param n 2).toNat
  let refuse (o : ReqOutcome) (d : Detail) : State := s.completeKind n .calibrate o d []
  if s.eng.mode ≠ .service then refuse .refusedMode .none
  else if 8 < ch then refuse .badParam (.param 1)
  else if zero < -8192 ∨ 8191 < zero then refuse .badParam (.param 2)
  else if gain = 0 then refuse .badParam (.param 3)
  else if s.kindActive .zero then refuse .refusedState .zeroActive
  else if s.kindActive .compose then refuse .refusedState .composeActive
  else
    ((s.setEng { s.eng with calib := some ⟨n, ch, zero, gain, false⟩ }).activate n .calibrate).startNv
      (.calWrite ch (s.param n 1) (s.param n 2))

/-- CALIBRATE (R16). -/
def execCalibrate (s : State) : Host.Outcome State Fault Refusal :=
  answer s (s.taking (isKind .calibrate) (onlyOne .calibrate State.takeCalibrate))

/-! ### RUN_PLAN (R64, R128, R129) -/

/-- The run identifier after one more plan (R49). -/
def nextRunId (n : Nat) : Nat := if 65535 ≤ n then 1 else n + 1

/-- The table a RUN_PLAN opens (R64). -/
def openedTable (p : Plan) (l : LimitsRow) (runId : Nat) : AxleTable :=
  { plan := p, limits := l, axleCount := p.axleCount.toNat, cursor := 0, plateCount := 0, certified := false
    runId := nextRunId runId
    records := (List.range 8).map (fun k => AxleRecord.cleared (if k < p.axleCount.toNat then .pending else .empty)) }

/-- A plan is taken: the table opened, the sequencer's own state cleared, APPROACH entered (R64, R129). -/
def State.openPlan (s : State) (n : Nat) (p : Plan) : State :=
  let s := (s.setTab (openedTable p (readLimits s.mem p.limitsRow.toNat) s.tab.runId)).rewriteTable
  let s := (s.setSeq (Sequencer.cleared s.seq.state)).activate n .runPlan
  frameAfter s (s.enterSeq .approach)

/-- A RUN_PLAN taken from slot n (R128); none is taken before the calibration load has ended (R125, R149). DEDUCED (log entry 40): the
refusal before that moment is the one of the lane mode. -/
def State.takeRunPlan (s : State) (n : Nat) : State :=
  let p := readPlan s.mem
  let refuse (o : ReqOutcome) (d : Detail) : State := s.completeKind n .runPlan o d []
  if s.eng.mode ≠ .normal ∨ s.eng.loading then refuse .refusedMode .none
  else if s.kindActive .driveTest then refuse .refusedState .testActive
  else if s.kindActive .zero then refuse .refusedState .zeroActive
  else if s.kindActive .calibrate then refuse .refusedState .calibrateActive
  else if s.kindActive .compose then refuse .refusedState .composeActive
  else match p.firstBad with
    | some f => refuse .badParam (.param f)
    | none => s.openPlan n p

/-- RUN_PLAN (R128). -/
def execRunPlan (s : State) : Host.Outcome State Fault Refusal :=
  answer s (s.taking (isKind .runPlan) (onlyOne .runPlan State.takeRunPlan))

/-! ### DRIVE_TEST (R42) -/

/-- A DRIVE_TEST taken from slot n (R42). -/
def State.takeDriveTest (s : State) (n : Nat) : State :=
  let duration := (s.param n 0).toNat
  let dir := (s.param n 1).toNat
  let slip := (s.param n 2).toNat
  let refuse (o : ReqOutcome) (d : Detail) : State := s.completeKind n .driveTest o d []
  if s.kindActive .runPlan then refuse .refusedState .planActive
  else if s.kindActive .zero then refuse .refusedState .zeroActive
  else if !inRange 1000 60000 duration then refuse .badParam (.param 1)
  else if 1 < dir then refuse .badParam (.param 2)
  else if !(slip == 0 || inRange 10 40 slip) then refuse .badParam (.param 3)
  else match s.startRefusal with
    | some .mode => refuse .refusedMode .mode
    | some r => refuse .refusedState (detailOfRefusal r)
    | none =>
      ((s.setDtest (some ⟨n, duration, none, none⟩)).activate n .driveTest).startDrive .driveTest
        (if dir = 1 then .contra else .normal) (if slip = 0 then 30 else slip)

/-- DRIVE_TEST (R42). -/
def execDriveTest (s : State) : Host.Outcome State Fault Refusal :=
  answer s (s.taking (isKind .driveTest) (onlyOne .driveTest State.takeDriveTest))

/-! ### COMPOSE (R175) -/

/-- The target parameter ANY (R211). -/
def targetAny : Nat := 0xFFFF

/-- The target record, or the detail of its refusal (R175). -/
def State.composeTarget (s : State) (t : Nat) : Nat ⊕ Detail :=
  if t = targetAny then
    match s.anyTarget with
    | some k => .inl k
    | none => .inr .noRecord
  else if s.locked t then .inr (if (s.cert t).state = .issued then .issued else .job)
  else .inl t

/-- A COMPOSE that passes (R175): the target COMPOSING and cleared, the slot ACTIVE, the counter read started. -/
def State.startCompose (s : State) (n k : Nat) : State :=
  let s := (s.clearCert k .composing).activate n .compose
  (s.setComp { s.comp with op := some ⟨n, k, .reading, false, false⟩ }).startNv .counterRead

/-- A COMPOSE taken from slot n (R175). -/
def State.takeCompose (s : State) (n : Nat) : State :=
  let s := s.stateRead
  let t := (s.param n 0).toNat
  let refuse (o : ReqOutcome) (d : Detail) : State := s.completeKind n .compose o d []
  if s.eng.mode ≠ .normal then refuse .refusedMode .none
  else if ¬ (t ≤ 3 ∨ t = targetAny) then refuse .badParam (.param 1)
  else if s.seq.state = .idle then refuse .refusedState .noPlan
  else if ¬ (s.seq.state = .complete ∨ s.seq.state = .aborted) then refuse .refusedState .planActive
  else if s.tab.certified then refuse .refusedState .certified
  else if s.kindActive .calibrate then refuse .refusedState .calibrateActive
  else match s.composeTarget t with
    | .inr d => refuse .refusedBusy d
    | .inl k => s.startCompose n k

/-- COMPOSE (R175). -/
def execCompose (s : State) : Host.Outcome State Fault Refusal :=
  answer s (s.taking (isKind .compose) (onlyOne .compose State.takeCompose))

/-! ### PRINT (R181) -/

/-- PRINT (R181). -/
def execPrint (s : State) : Host.Outcome State Fault Refusal := answer s (s.taking (isKind .print) State.takePrint)

/-! ## The gauge record (R208) -/

/-- The active pressure: the channel index and its filtered value (R208). -/
def State.activePressure (s : State) : Option (Nat × Int) :=
  if s.kindActive .runPlan && decide (s.tab.cursor < s.tab.axleCount) then
    (s.planAxle s.tab.cursor).pressure.map (fun c => (c, s.filtered c))
  else none

/-- A slip word, 0 when it is absent. -/
def slipWord (o : Option Nat) : Word := word (o.getD 0)

/-- The 32 words of the gauge record (R211). -/
def State.gaugeWords (s : State) (sequence : Word) : List Word :=
  let p := s.activePressure
  padWords 32
    [sequence, flagWord [s.eng.slipL.isSome, s.eng.slipR.isSome, p.isSome], lowWord s.time, highWord s.time,
     signedWord (s.filtered 0), signedWord (s.filtered 1), signedWord (s.filtered 2), signedWord (s.filtered 3),
     word ((p.map (·.1)).getD 0), signedWord ((p.map (·.2)).getD 0),
     slipWord s.eng.slipL, slipWord s.eng.slipR, signedWord (s.filtered 8),
     word (codeOfDrive s.drv.state), word (codeOfSeq s.seq.state), word s.tab.cursor, word s.tab.plateCount]

/-- Twenty analog samples since the last update fell due (R208). -/
def State.gaugeDue (s : State) : Bool := decide (20 ≤ s.gauge.samples)

/-- An update: the record is written, or with the hold word not 0 the skip count is raised (R208). -/
def State.updateGauge (s : State) : State :=
  if Memory.readWord s.mem 0x044 = 0 then
    let n := s.gauge.sequence + 1
    (s.setGauge { s.gauge with samples := 0, sequence := n }).setMem
      (Memory.writeWords s.mem 0x1200 (s.gaugeWords n))
  else s.setGauge { s.gauge with samples := 0, skipped := s.gauge.skipped + 1 }

/-- GAUGE_UPDATE (R208). -/
def execGaugeUpdate (s : State) : Host.Outcome State Fault Refusal :=
  answer s (if s.gaugeDue then s.updateGauge else s)

end Sys2Proof.Machine
end

