-- ==== Sys2Proof/Machine/Reset.lean ====
section
/-! DEFINITION. Machine/Reset.lean: POWER_ON and LANE_RESET in every block (R23, R24, R31, R45, R66, R67, R93, R125, R126,
R149, R150, R162, R163, R180, R193, R210). -/

namespace Sys2Proof.Machine

/-! ## Power-on -/

/-- The NV store as a loss of power leaves it: a write in flight has been finished or broken off by the device (R178). -/
def Nv.storeAfterPowerLoss (nv : Nv) (cut : NvCut) : NvStore :=
  match nv.op with
  | some op => nv.store.afterOp op cut
  | none => nv.store

/-- POWER_ON (R23): every block in its initial state, lane memory cleared, the calibration load begun; the NV store stays. -/
def execPowerOn (cut : NvCut) (s : State) : Host.Outcome State Fault Refusal :=
  .next (State.powered (s.nv.storeAfterPowerLoss cut) s.pending)

/-! ## Lane reset, block by block -/

/-- A POSTED or ACTIVE slot completes with outcome RESET, without an entry (R210). -/
def State.resetSlot (s : State) (n : Nat) : State :=
  match s.held n with
  | .free => s
  | .posted | .active _ => s.finishSlot n .reset .none []

/-- The request slots at a lane reset (R210). -/
def State.resetSlots (s : State) : State := (List.range 16).foldl State.resetSlot s

/-- The journal at a lane reset (R210). DESIGN CHOICE (log entry 60): the gap count, which the table of R210 does not list, starts again at
0 with the dropped total, so the first entry of the new ring does not count the entries dropped before the reset. -/
def Journal.afterReset (j : Journal) : Journal := ⟨j.mode, 0, 0, 0, 0, 0, 0, 0, none⟩

/-- The attention register at a lane reset (R207, R210). -/
def Attention.afterReset (a : Attention) : Attention := ⟨0, a.mask, false⟩

/-- The sample engine at a lane reset (R24). DESIGN CHOICE (log entry 65): a step that is due at the last sample and has not been taken
is discarded, so a capture whose 200 samples have been taken and whose ZERO_CAPTURE_END has not ends with the reset (R21), and a slip
window whose ten samples have been taken and whose SLIP_WINDOW_END has not hands over no counts (R7). DESIGN CHOICE (log entry 68): the
lane mode in force is kept and not derived again, also between the ninth record's read and the end of the identity read of the
power-on load, where the table of R22 gives another mode. -/
def Engine.afterReset (e : Engine) : Engine :=
  { e with
    chans := e.chans.map (fun c => { c with history := [] })
    faults := List.replicate 11 noFaults
    windowSamples := 0, pulses := ⟨0, 0, 0, 0⟩, slipL := none, slipR := none, lastPd := none
    noPulseL := 0, noPulseR := 0, capture := none, calib := none }

/-- The operation in flight at a lane reset: the load and a broken-off write go on, a write is broken off, a counter read is
abandoned (R15, R18, R180). -/
def NvOp.afterReset : NvOp → Option NvOp
  | .loadWord k => some (.loadWord k)
  | .calWrite ch z g => some (.brokenCal ch z g)
  | .counterWrite v => some (.brokenCounter v)
  | .brokenCal ch z g => some (.brokenCal ch z g)
  | .brokenCounter v => some (.brokenCounter v)
  | .counterRead => none

/-- The NV port at a lane reset (R18, R180). -/
def Nv.afterReset (nv : Nv) : Nv := { nv with op := nv.op.bind NvOp.afterReset, waiting := none }

/-- The seating detector after a lane reset (R31). DESIGN CHOICE (log entry 73): also during the power-on load the tracker starts at the
first sample after the reset, and not again at the first analog sample. -/
def Seating.afterReset : Seating := ⟨false, 0, none, none, .empty, false, .atSample⟩

/-- The roller drive at a lane reset (R45). -/
def Drive.afterReset (d : Drive) (estop : Bool) : Drive :=
  { d with
    state := .stopping, energised := false, owner := none, stopReason := some .laneReset, lockCause := none
    estopSeen := estop, restCount := 0, stopCount := 0 }

/-- The plate unit at a lane reset: the plate length is kept (R126). -/
def Plate.afterReset (p : Plate) : Plate := ⟨.idle, 0, false, 0, p.length⟩

/-- A COMPOSING record at a lane reset is EMPTY (R180). -/
def State.resetCerts (s : State) : State :=
  let s := match s.comp.op with
    | some c => s.clearCert c.target .empty
    | none => s
  s.setComp { s.comp with op := none }

/-- The display link at a lane reset, before the frame of the reset (R163). -/
def Display.afterReset (d : Display) : Display := { d with waiting := none, repeatMark := none }

/-- The print spool and printer link at a lane reset, before the poll of the reset (R193). -/
def Printer.afterReset : Printer := ⟨[], .offline, none, false, [], 0, 0, 0, none, false, none, none⟩

/-- A lane reset (R195). -/
def State.laneReset (s : State) : State :=
  let s := s.resetSlots.resetCerts
  let s := (s.setJr s.jr.afterReset).setAtt s.att.afterReset
  let s := ((s.setGauge ⟨0, 0, 0⟩).setCause .laneReset).setNv s.nv.afterReset
  let s := (s.setDrv (s.drv.afterReset (s.level .estop))).setDtest none
  let s := (s.setEng s.eng.afterReset).setSeat Seating.afterReset
  let s := ((s.setTab (AxleTable.emptied s.tab.runId)).setWeigh none).setRun RunUnit.cleared
  let s := (s.setPlate s.plate.afterReset).setSeq (Sequencer.cleared .idle)
  let s := (s.setDisp s.disp.afterReset).setPrn Printer.afterReset
  s.sendPoll.frameDue.rewriteTable.rewriteHeader

/-- LANE_RESET (R195). -/
def execLaneReset (s : State) : Host.Outcome State Fault Refusal := answer s s.laneReset

end Sys2Proof.Machine
end

