-- ==== Sys2Proof/Machine/RunSteps.lean ====
section
/-! DEFINITION. Machine/RunSteps.lean: what the brake run unit does at a sample, and its expiries (R72 to R84, R90, R91). -/

namespace Sys2Proof.Machine

/-- The milliseconds of the ovality limit, the service run limit and the parking run limit (R70). -/
def runLimit : Nat := 30000

/-- The milliseconds of the settle (R70). -/
def settleTime : Nat := 500

/-- The samples of a release (R70). -/
def releaseSamples : Nat := 41

/-! ## At a sample -/

/-- The service onset wait that follows an ovality hold begins at this sample with its mark set (R73). -/
def State.beginServiceWait (s : State) : State :=
  (s.setRun (({ s.run with phase := .serviceOnset } : RunUnit).beginWait s.clk.sampleNo true)).handPhase

/-- A sum below 30 daN ends the ovality hold at this sample (R78, R79). -/
def State.endHold (s : State) : State :=
  if s.run.runs.service then s.beginServiceWait else s.ownEnd .release false

/-- The ramp mark fixed at the service onset (R80). -/
def State.rampMark (s : State) : Int := rampMarkOf s.run.arm.planMark (s.record s.run.axle).weight

/-- The ramp is judged and SERVICE_RUN entered, the release count begun at this sample (R81, R84). DESIGN CHOICE (log entry 56): at a FAST
judgement RAMP_VIOLATION comes before the SEQ_STATE entry of SERVICE_RUN. -/
def State.judgeRamp (s : State) (o : RampOutcome) : State :=
  let s := match o with
    | .fast => s.violation 1
    | .good => s.lowerViolation
    | .weak | .notAssessed => s
  (s.setRun { s.run with phase := .serviceRun, ramp := o, releaseCount := s.countRelease 0 }).handPhase

/-- The mark test of SERVICE_RAMP at this sample (R81). -/
def State.rampTest (s : State) : State :=
  if s.run.rampMark ≤ s.forceSum then
    s.judgeRamp (if s.elapsed s.run.serviceOnset < s.run.arm.closeWindow then .fast else .good)
  else s

/-- The service onset (R80): SERVICE_RAMP, the ramp mark, peak and imbalance tracking at this sample. -/
def State.serviceOnsetNow (s : State) : State :=
  let s := s.setRun { s.run with phase := .serviceRamp, serviceOnset := s.clk.sampleNo, rampMark := s.rampMark }
  s.handPhase.trackPeaks.trackImbalance.rampTest

/-- The ovality onset (R77). -/
def State.ovalityOnsetNow (s : State) : State :=
  (s.setRun { s.run with step := .settle, ovalityOnset := s.clk.sampleNo }).trackPeaks

/-- The parking onset (R91). -/
def State.parkOnsetNow (s : State) : State :=
  let s := s.setRun { s.run with
    phase := .parkRun, parkOnset := s.clk.sampleNo, parkPeakL := 0, parkPeakR := 0, parkRelease := s.countRelease 0 }
  s.handPhase.trackParking

/-- OVALITY at one sample (R73, R77 to R79, R82). -/
def State.ovalitySample (s : State) : State :=
  match s.run.step with
  | .onsetWait => if s.onsetNow then s.ovalityOnsetNow else s.markNow
  | .settle => let s := s.trackPeaks; if s.released then s.disturb.endHold else s
  | .hold => let s := s.trackPeaks; if s.released then s.disturb.endHold else s.trackExtremes
  | .releaseWait => let s := s.trackPeaks; if s.released then s.endHold else s

/-- What the unit does at a sample in its phase. DESIGN CHOICE (log entry 58): an onset of this sample, a hold that its sum ends, and
its peaks, extremes and imbalance come before a stop of the drive that arises at it, so after an onset of the parking run the stop finds
PARK_RUN with the peaks of this sample, and not PARK_ONSET with peaks 0 (R91 gives no order). -/
def State.phaseSample (s : State) : State :=
  match s.run.phase with
  | .idle | .armed => s
  | .ovality => s.ovalitySample
  | .serviceOnset =>
    if s.onsetNow then s.serviceOnsetNow
    else (if s.run.tracking then s.trackPeaks else s).markNow
  | .serviceRamp => s.trackPeaks.trackImbalance.rampTest
  | .serviceRun =>
    let s := s.trackPeaks.trackImbalance
    s.setRun { s.run with releaseCount := s.countRelease s.run.releaseCount }
  | .parkOnset => if s.onsetNow then s.parkOnsetNow else s.markNow
  | .parkRun =>
    let s := s.trackParking
    s.setRun { s.run with parkRelease := s.countRelease s.run.parkRelease }

/-- The brake run unit at a sample (R72). -/
def State.runSample (s : State) : State := s.watch.phaseSample

/-! ## Expiries -/

/-- A start window of the attempt part has expired at this sample, which is not the onset (R74). -/
def State.startWindowDue (s : State) : Bool :=
  (s.run.phase == .serviceOnset || (s.run.phase == .ovality && s.run.step == .onsetWait))
    && decide (s.run.arm.startWindow ≤ s.elapsed s.run.waitRef)

/-- The expiry of a start window of the attempt part (R74, R76). -/
def State.startWindowExpires (s : State) : State :=
  let s := s.violation 0
  if (s.record s.run.axle).violations < s.run.arm.maxViolations then
    (s.setRun { s.run with waitRef := s.clk.sampleNo }).promptRepeat
  else s.ownEnd .runLimit true

/-- START_WINDOW_EXPIRY (R74). -/
def execStartWindowExpiry (s : State) : Host.Outcome State Fault Refusal :=
  answer s (if s.startWindowDue then s.startWindowExpires else s)

/-- 500 ms have elapsed since the ovality onset (R77). -/
def State.settleDue (s : State) : Bool :=
  s.run.phase == .ovality && s.run.step == .settle && decide (settleTime ≤ s.elapsed s.run.ovalityOnset)

/-- The end of the settle: the hold is timed from this sample (R77). -/
def State.settleEnds (s : State) : State := s.setRun { s.run with step := .hold, holdRef := s.clk.sampleNo }

/-- OVALITY_SETTLE_END (R77). -/
def execOvalitySettleEnd (s : State) : Host.Outcome State Fault Refusal :=
  answer s (if s.settleDue then s.settleEnds else s)

/-- The hold time has elapsed (R77). -/
def State.holdDue (s : State) : Bool :=
  s.run.phase == .ovality && s.run.step == .hold && decide (s.run.arm.holdTime ≤ s.elapsed s.run.holdRef)

/-- The hold is complete: the ovalities are computed (R79, R98, R99). -/
def State.holdCompletes (s : State) : State :=
  let l := s.run.extL.bind ovalityOf
  let r := s.run.extR.bind ovalityOf
  s.setRun { s.run with step := .releaseWait, ovalityL := l, ovalityR := r, axleOvality := axleOvalityOf l r }

/-- HOLD_COMPLETE (R79). -/
def execHoldComplete (s : State) : Host.Outcome State Fault Refusal :=
  answer s (if s.holdDue then s.holdCompletes else s)

/-- 30000 ms have elapsed since the ovality onset and the hold has not ended (R79). -/
def State.ovalityLimitDue (s : State) : Bool :=
  s.run.phase == .ovality && s.run.step != .onsetWait && decide (runLimit ≤ s.elapsed s.run.ovalityOnset)

/-- OVALITY_LIMIT (R79): the attempt part ends RUN_LIMIT. -/
def execOvalityLimit (s : State) : Host.Outcome State Fault Refusal :=
  answer s (if s.ovalityLimitDue then s.ownEnd .runLimit false else s)

/-- The open window has expired with the mark not reached (R81). -/
def State.openWindowDue (s : State) : Bool :=
  s.run.phase == .serviceRamp && decide (s.run.arm.openWindow ≤ s.elapsed s.run.serviceOnset)

/-- OPEN_WINDOW_EXPIRY (R81): the ramp is WEAK. -/
def execOpenWindowExpiry (s : State) : Host.Outcome State Fault Refusal :=
  answer s (if s.openWindowDue then s.judgeRamp .weak else s)

/-- 41 consecutive samples with the sum below 30 daN in SERVICE_RUN (R84). -/
def State.serviceReleaseDue (s : State) : Bool :=
  s.run.phase == .serviceRun && decide (releaseSamples ≤ s.run.releaseCount)

/-- SERVICE_RELEASE (R84): the attempt part ends RELEASE. -/
def execServiceRelease (s : State) : Host.Outcome State Fault Refusal :=
  answer s (if s.serviceReleaseDue then s.ownEnd .release false else s)

/-- 30000 ms have elapsed since the service onset; a release at the same sample ends the run first (R84). -/
def State.serviceLimitDue (s : State) : Bool :=
  (s.run.phase == .serviceRamp || s.run.phase == .serviceRun) && !s.serviceReleaseDue
    && decide (runLimit ≤ s.elapsed s.run.serviceOnset)

/-- SERVICE_RUN_LIMIT (R84): the attempt part ends RUN_LIMIT. -/
def execServiceRunLimit (s : State) : Host.Outcome State Fault Refusal :=
  answer s (if s.serviceLimitDue then s.ownEnd .runLimit false else s)

/-- The start window of the parking onset wait has expired (R90). -/
def State.parkWindowDue (s : State) : Bool :=
  s.run.phase == .parkOnset && decide (s.run.arm.startWindow ≤ s.elapsed s.run.waitRef)

/-- The expiry of the parking start window: the first repeats the prompt, the second ends the parking run (R90).
DESIGN CHOICE (log entry 47): the prompt is repeated as it stands, RELEASE while the release mark is clear. -/
def State.parkWindowExpires (s : State) : State :=
  if s.run.parkExpiries = 0 then
    (s.setRun { s.run with parkExpiries := 1, waitRef := s.clk.sampleNo }).promptRepeat
  else s.parkNoOnset

/-- PARK_WINDOW_EXPIRY (R90). -/
def execParkWindowExpiry (s : State) : Host.Outcome State Fault Refusal :=
  answer s (if s.parkWindowDue then s.parkWindowExpires else s)

/-- 41 consecutive samples with the sum below 30 daN in PARK_RUN (R91). -/
def State.parkReleaseDue (s : State) : Bool :=
  s.run.phase == .parkRun && decide (releaseSamples ≤ s.run.parkRelease)

/-- PARK_RELEASE (R91). -/
def execParkRelease (s : State) : Host.Outcome State Fault Refusal :=
  answer s (if s.parkReleaseDue then s.ownParkEnd .release else s)

/-- 30000 ms have elapsed since the parking onset; a release at the same sample ends the run first (R91). -/
def State.parkLimitDue (s : State) : Bool :=
  s.run.phase == .parkRun && !s.parkReleaseDue && decide (runLimit ≤ s.elapsed s.run.parkOnset)

/-- PARK_RUN_LIMIT (R91). -/
def execParkRunLimit (s : State) : Host.Outcome State Fault Refusal :=
  answer s (if s.parkLimitDue then s.ownParkEnd .runLimit else s)

end Sys2Proof.Machine
end

