-- ==== Sys2Proof/Machine/Weighing.lean ====
section
/-! DEFINITION. Machine/Weighing.lean: the weighing of a seated axle (section 3.6). -/

namespace Sys2Proof.Machine

/-- The samples of the settling and of each stability window (section 3.6). -/
def weighSamples : Nat := 200

/-- One side at the first sample of a window (R60). -/
def WeighSide.first (load : Int) (mark : Bool) : WeighSide := ⟨load, load, load, mark⟩

/-- One side at a later sample of a window (R60). -/
def WeighSide.next (w : WeighSide) (load : Int) (mark : Bool) : WeighSide :=
  ⟨w.sum + load, max w.greatest load, min w.least load, w.overRange || mark⟩

/-- A weighing after one sample (R60). -/
def Weighing.after (w : Weighing) (l r : Int) (overL overR : Bool) : Weighing :=
  let n := w.count + 1
  if n ≤ weighSamples then { w with count := n }
  else if w.gathering then { w with count := n, left := w.left.next l overL, right := w.right.next r overR }
  else { w with
    count := n, gathering := true, left := WeighSide.first l overL, right := WeighSide.first r overR }

/-- The weighing at a sample (R60). -/
def State.weighSample (s : State) : State :=
  match s.weigh with
  | some w => s.setWeigh (some (w.after (s.filtered 2) (s.filtered 3) (s.faultsOf 2).overRange (s.faultsOf 3).overRange))
  | none => s

/-- The 200th sample of a window has been taken (R61). -/
def State.weighDue (s : State) : Bool :=
  match s.weigh with
  | some w => w.gathering && w.count % weighSamples == 0 && decide (2 * weighSamples ≤ w.count)
  | none => false

/-- The spread of a side in a window (R61). -/
def WeighSide.spread (w : WeighSide) : Int := w.greatest - w.least

/-- A window is accepted (R61). -/
def Weighing.stable (w : Weighing) : Bool := decide (w.left.spread ≤ 20) && decide (w.right.spread ≤ 20)

/-- The weight of a side, absent when its over-range mark is set (R61). -/
def WeighSide.weight (w : WeighSide) : Option Int := if w.overRange then none else some (roundDiv w.sum 200)

/-- The word of a weight in a WEIGHED entry (R206). -/
def weightWord : Option Int → Word
  | some v => signedWord v
  | none => 0xFFFF

/-- The weighing hands its completion to the sequencer (R61, R62, R133). -/
def State.weighHandsOver (s : State) : State := let s := s.setWeigh none; frameAfter s s.seqWeighed

/-- An accepted window: the weights are written, whole, and the entry made (R47, R61). -/
def State.weighAccepted (s : State) (w : Weighing) : State :=
  let l := w.left.weight
  let r := w.right.weight
  let s := s.setRecord w.axle { s.record w.axle with weightL := l, weightR := r }
  let s := s.rewriteOptional w.axle 3 2
  (s.produce evWeighed (w.axle + 1) (weightWord l) (weightWord r)).weighHandsOver

/-- The weighing ends unstable (R62). -/
def State.weighUnstable (s : State) (w : Weighing) : State :=
  (s.produce evWeighUnstable (w.axle + 1) (signedWord w.left.spread) (signedWord w.right.spread)).weighHandsOver

/-- The end of a stability window (R61, R62). -/
def State.weighWindow (s : State) : State :=
  match s.weigh with
  | some w =>
    if w.stable then s.weighAccepted w
    else if 6 * weighSamples ≤ w.count then s.weighUnstable w
    else s.setWeigh (some { w with gathering := false })
  | none => s

/-- WEIGH_WINDOW_END (R61). -/
def execWeighWindowEnd (s : State) : Host.Outcome State Fault Refusal :=
  answer s (if s.weighDue then s.weighWindow else s)

end Sys2Proof.Machine
end

