-- ==== Sys2Proof/Machine/Sample.lean ====
section
/-! DEFINITION. Machine/Sample.lean: the sample (R1) and the millisecond (R209), each after the steps that are due have been
taken. -/

namespace Sys2Proof.Machine

/-! ## What is due -/

/-- A step that the state itself makes due, and its effect. -/
structure DueStep where
  due : State → Bool
  act : State → State

/-- The settled change of an input as a step that is due. -/
def settleStep (i : Input) : DueStep := ⟨fun s => s.settles i, fun s => s.inputSettles i⟩

/-- The kind of the lowest pending slot is one a taking takes. -/
def State.takingDue (s : State) (takes : Nat → Bool) : Bool :=
  match s.lowestPosted with
  | some n => takes (s.slotKind n)
  | none => false

/-- A taking as a step that is due. -/
def takeStep (takes : Nat → Bool) (work : State → Nat → State) : DueStep :=
  ⟨fun s => s.takingDue takes, fun s => s.taking takes work⟩

/-- The settled changes, in the order of the table of section 1.1. -/
def settleSteps : List DueStep :=
  [.beamR, .beamF, .plateIn, .plateOut, .presence, .estop, .key, .ok, .retry, .skip, .pause].map settleStep

/-- The steps of a sample that its counts make due. -/
def sampleSteps : List DueStep :=
  [⟨State.seatDue, State.seatNow⟩,
   ⟨State.exitDue, fun s => s.reportExit .unclear false false⟩,
   ⟨State.startWindowDue, State.startWindowExpires⟩,
   ⟨State.settleDue, State.settleEnds⟩,
   ⟨State.holdDue, State.holdCompletes⟩,
   ⟨State.ovalityLimitDue, fun s => s.ownEnd .runLimit false⟩,
   ⟨State.openWindowDue, fun s => s.judgeRamp .weak⟩,
   ⟨State.serviceReleaseDue, fun s => s.ownEnd .release false⟩,
   ⟨State.serviceLimitDue, fun s => s.ownEnd .runLimit false⟩,
   ⟨State.parkWindowDue, State.parkWindowExpires⟩,
   ⟨State.parkReleaseDue, fun s => s.ownParkEnd .release⟩,
   ⟨State.parkLimitDue, fun s => s.ownParkEnd .runLimit⟩,
   ⟨State.weighDue, State.weighWindow⟩,
   ⟨State.captureDue, State.captureEnds⟩]

/-- The steps of a window that its end makes due. -/
def windowSteps : List DueStep :=
  [⟨State.windowDue, State.windowEnds⟩,
   ⟨fun s => s.noPulseDue .left, fun s => s.noPulseMet .left⟩,
   ⟨fun s => s.noPulseDue .right, fun s => s.noPulseMet .right⟩,
   ⟨State.slipStopDue, fun s => s.stopEvent s.drv.slipReason⟩,
   ⟨State.lowSpeedDue, fun s => s.stopEvent .stall⟩,
   ⟨State.spinupStallDue, fun s => s.stopEvent .stall⟩,
   ⟨State.restDue, State.rest⟩,
   ⟨State.stopTimeoutDue, fun s => s.driveLockout .driveFault⟩,
   ⟨State.crossingDue, State.crossingExpires⟩,
   ⟨State.gaugeDue, State.updateGauge⟩]

/-- The steps that a timer makes due. A write that reaches its 20 ms limit here leaves what the free value says (log entry 51). -/
def timerSteps : List DueStep :=
  [⟨State.loadLate, State.loadExpires⟩,
   ⟨State.counterReadLate, State.counterReadExpires⟩,
   ⟨State.calWriteLate, fun s => s.calWriteExpires (Config.cutAtLimit s.clk.ms)⟩,
   ⟨State.counterWriteLate, fun s => s.counterWriteExpires (Config.cutAtLimit s.clk.ms)⟩,
   ⟨State.brokenLate, fun s => s.brokenEnds (Config.cutAtLimit s.clk.ms)⟩,
   ⟨State.testTimerDue, fun s => (s.decideTest .ok .none).stopEvent .commanded⟩,
   ⟨fun s => s.expired s.disp.repeatMark, State.lapseRepeat⟩,
   ⟨fun s => s.expired s.disp.refresh, State.frameDue⟩,
   ⟨State.staleDue, fun s => (s.setJr { s.jr with staleTimer := s.staleLoad }).raiseAttn attnStale⟩,
   ⟨State.replyLate, fun s => if s.prn.link = .waitReply then s.lineSilent else s.pollSilent⟩,
   ⟨State.busyDue, fun s => s.afterExchange ((s.printing.map (·.cancelMark)).getD false)⟩,
   ⟨State.pollDue, State.sendPoll⟩]

/-- The takings (R198: the next taking follows the last). -/
def takeSteps : List DueStep :=
  [takeStep (fun c => c == 0 || decide (9 < c)) (fun s n => s.complete n (s.slotKind n) .badKind .none []),
   takeStep (isKind .clearFaults) State.takeClearFaults,
   takeStep (isKind .discardAttempt) State.takeDiscard,
   takeStep (isKind .setTime) State.takeSetTime,
   takeStep (isKind .zero) (onlyOne .zero State.takeZero),
   takeStep (isKind .calibrate) (onlyOne .calibrate State.takeCalibrate),
   takeStep (isKind .runPlan) (onlyOne .runPlan State.takeRunPlan),
   takeStep (isKind .driveTest) (onlyOne .driveTest State.takeDriveTest),
   takeStep (isKind .compose) (onlyOne .compose State.takeCompose),
   takeStep (isKind .print) State.takePrint]

/-- The steps that the state makes due, in the order in which they are taken when several are due at once. DESIGN CHOICE. -/
def dueSteps : List DueStep := settleSteps ++ sampleSteps ++ windowSteps ++ timerSteps ++ takeSteps

/-- No step is due. -/
def State.quiet (s : State) : Bool := dueSteps.all (fun e => !e.due s)

/-- The steps that are due are taken, at most n of them. DESIGN CHOICE: time does not pass a step that is due. -/
def State.catchUp : Nat → State → State
  | 0, s => s
  | n + 1, s =>
    match dueSteps.find? (fun e => e.due s) with
    | some e => State.catchUp n (publish s (e.act s))
    | none => s

/-- The most steps that are taken before a sample or a millisecond. -/
def catchUpMost : Nat := 64

/-- The state before a sample or a millisecond: every step that was due has been taken. -/
def State.caughtUp (s : State) : State := s.catchUp catchUpMost

/-! ## The sample -/

/-- The eleven raw levels of a sample in the order of the table of section 1.1. -/
def levelList (l : Levels) : List Bool :=
  [l.beamR, l.beamF, l.plateIn, l.plateOut, l.presence, l.estop, l.key, l.ok, l.retry, l.skip, l.pause]

/-- A discrete input after a sample (R5). -/
def DiscreteInput.after (d : DiscreteInput) (raw : Bool) : DiscreteInput :=
  ⟨d.level, if raw = d.level then 0 else d.count + 1⟩

/-- The first poll is still to be sent: the link stands OFFLINE as power-on left it, with no poll timer loaded (R193). DESIGN CHOICE
(log entry 49): a lane reset taken before the first sample has sent it, whatever state its reply has brought the link to. -/
def State.firstPollDue (s : State) : Bool := s.prn.link == .offline && s.prn.pollTimer.isNone

/-- The first sample: raw levels become the debounced levels (R5), ESTOP may lock the drive out (R45), the first display frame
falls due (R162), and the first poll is sent (R193). -/
def State.firstSample (s : State) (l : Levels) : State :=
  let s := s.setEng { s.eng with started := true, inputs := (levelList l).map (fun b => ⟨b, 0⟩) }
  let s := if s.level .estop then s.driveLockout .estop else s
  let s := if s.firstPollDue then s.sendPoll else s
  s.frameDue

/-- The discrete inputs at a sample (R5). -/
def State.discreteSample (s : State) (l : Levels) : State :=
  if s.eng.started then
    s.setEng { s.eng with inputs := (s.eng.inputs.zip (levelList l)).map (fun x => x.1.after x.2) }
  else s.firstSample l

/-- The pulses of a sample enter the window in progress, and the counts of samples go on (R7, R208). DESIGN CHOICE (log entry 62):
all pulses since the sample before count here, those before a lane reset and before the first analog sample among them. -/
def State.countSample (s : State) (p : Pulses) : State :=
  let q := s.eng.pulses
  let s := s.setEng { s.eng with
    windowSamples := s.eng.windowSamples + 1
    pulses := ⟨q.spdL + p.spdL, q.spdR + p.spdR, q.slpL + p.slpL, q.slpR + p.slpR⟩ }
  s.setGauge { s.gauge with samples := s.gauge.samples + 1 }

/-- The analog part of a sample (R1): conversion, faults, brake run unit, ZERO capture, seating detector, weighing, window and
gauge counts. DESIGN CHOICE (log entry 46): the ramp mark is tested before a slip stop of the window that ends at this sample.
DESIGN CHOICE (log entry 58): the brake run unit takes the sample, an onset included, before any stop of the drive that arises at it.
DESIGN CHOICE (log entry 46): the detector works inside the sample, so an UNSEATED report at the 200th sample of a stability window
abandons the weighing (R63) before WEIGH_WINDOW_END can judge the window (R61). -/
def State.analogSample (s : State) (i : SampleInput) : State :=
  let raws := rawList i.raws
  let s := (s.convert raws).faultTests raws
  (((s.runSample.captureSample raws).detectorSample).weighSample).countSample i.pulses

/-- One sample (R1). DESIGN CHOICE (log entry 72): a sample before the calibration load has ended has no raw values, so it is none of the
200 samples of a ZERO capture (R20). -/
def State.takeSample (s : State) (i : SampleInput) : State :=
  let s := (s.setClk { s.clk with sampleNo := s.clk.sampleNo + 1 }).discreteSample i.levels
  if s.eng.loading then s.trackerSample false else (s.analogSample i).trackerSample true

/-- SAMPLE (R1). -/
def execSample (i : SampleInput) (s : State) : Host.Outcome State Fault Refusal :=
  answer s.caughtUp (s.caughtUp.takeSample i)

/-! ## The millisecond -/

/-- Lane time is raised by 1, with ATTN.TIME_WRAP at the passage to 0, and the part's timers go on (R209). -/
def State.tick (s : State) : State :=
  let s := (s.setClk { s.clk with ms := s.clk.ms + 1 }).putTime (s.time + 1)
  if s.time = 0 then s.raiseAttn attnTimeWrap else s

/-- LANE_TIME_TICK (R209). -/
def execLaneTimeTick (s : State) : Host.Outcome State Fault Refusal := answer s.caughtUp s.caughtUp.tick

end Sys2Proof.Machine
end

