-- ==== Sys2Proof/Machine/Dispatch.lean ====
section
/-! DEFINITION. Machine/Dispatch.lean: one arm per command, one meaning per arm. -/

namespace Sys2Proof.Machine

def exec (i : Instr) (s : State) : Host.Outcome State Fault Refusal :=
  match i with
  | .powerOn cut => Sys2Proof.Machine.execPowerOn cut s
  | .setJournalMode mode => Sys2Proof.Machine.execSetJournalMode mode s
  | .setAttentionMask mask => Sys2Proof.Machine.execSetAttentionMask mask s
  | .laneReset => Sys2Proof.Machine.execLaneReset s
  | .post mask => Sys2Proof.Machine.execPost mask s
  | .abort mask => Sys2Proof.Machine.execAbort mask s
  | .jack value => Sys2Proof.Machine.execJack value s
  | .attnWrite value => Sys2Proof.Machine.execAttnWrite value s
  | .registerWriteIgnored addr value => Sys2Proof.Machine.execRegisterWriteIgnored addr value s
  | .badKind => Sys2Proof.Machine.execBadKind s
  | .clearFaults => Sys2Proof.Machine.execClearFaults s
  | .discardAttempt => Sys2Proof.Machine.execDiscardAttempt s
  | .setTime => Sys2Proof.Machine.execSetTime s
  | .zero => Sys2Proof.Machine.execZero s
  | .calibrate => Sys2Proof.Machine.execCalibrate s
  | .runPlan => Sys2Proof.Machine.execRunPlan s
  | .driveTest => Sys2Proof.Machine.execDriveTest s
  | .compose => Sys2Proof.Machine.execCompose s
  | .print => Sys2Proof.Machine.execPrint s
  | .sample inp => Sys2Proof.Machine.execSample inp s
  | .settledChange inp => Sys2Proof.Machine.execSettledChange inp s
  | .seated => Sys2Proof.Machine.execSeated s
  | .exitWindowExpiry => Sys2Proof.Machine.execExitWindowExpiry s
  | .slipWindowEnd => Sys2Proof.Machine.execSlipWindowEnd s
  | .noPulse side => Sys2Proof.Machine.execNoPulse side s
  | .spinupStall => Sys2Proof.Machine.execSpinupStall s
  | .slipStop => Sys2Proof.Machine.execSlipStop s
  | .lowSpeedStall => Sys2Proof.Machine.execLowSpeedStall s
  | .rollersAtRest => Sys2Proof.Machine.execRollersAtRest s
  | .stopTimeout => Sys2Proof.Machine.execStopTimeout s
  | .driveTestTimerExpiry => Sys2Proof.Machine.execDriveTestTimerExpiry s
  | .zeroCaptureEnd => Sys2Proof.Machine.execZeroCaptureEnd s
  | .weighWindowEnd => Sys2Proof.Machine.execWeighWindowEnd s
  | .startWindowExpiry => Sys2Proof.Machine.execStartWindowExpiry s
  | .ovalitySettleEnd => Sys2Proof.Machine.execOvalitySettleEnd s
  | .holdComplete => Sys2Proof.Machine.execHoldComplete s
  | .ovalityLimit => Sys2Proof.Machine.execOvalityLimit s
  | .openWindowExpiry => Sys2Proof.Machine.execOpenWindowExpiry s
  | .serviceRelease => Sys2Proof.Machine.execServiceRelease s
  | .serviceRunLimit => Sys2Proof.Machine.execServiceRunLimit s
  | .parkWindowExpiry => Sys2Proof.Machine.execParkWindowExpiry s
  | .parkRelease => Sys2Proof.Machine.execParkRelease s
  | .parkRunLimit => Sys2Proof.Machine.execParkRunLimit s
  | .crossingTimeout => Sys2Proof.Machine.execCrossingTimeout s
  | .calReadDone reply => Sys2Proof.Machine.execCalReadDone reply s
  | .nvReadTimeout => Sys2Proof.Machine.execNvReadTimeout s
  | .calibrateWriteDone cut answered => Sys2Proof.Machine.execCalibrateWriteDone cut answered s
  | .calibrateWriteTimeout cut => Sys2Proof.Machine.execCalibrateWriteTimeout cut s
  | .nvPortReleased cut => Sys2Proof.Machine.execNvPortReleased cut s
  | .nvReleaseTimeout cut => Sys2Proof.Machine.execNvReleaseTimeout cut s
  | .counterReadDone high low => Sys2Proof.Machine.execCounterReadDone high low s
  | .counterReadTimeout => Sys2Proof.Machine.execCounterReadTimeout s
  | .counterWriteDone cut answered => Sys2Proof.Machine.execCounterWriteDone cut answered s
  | .counterWriteTimeout cut => Sys2Proof.Machine.execCounterWriteTimeout cut s
  | .displayRefresh => Sys2Proof.Machine.execDisplayRefresh s
  | .displayFrameSent => Sys2Proof.Machine.execDisplayFrameSent s
  | .repeatMarkLapse => Sys2Proof.Machine.execRepeatMarkLapse s
  | .printerFrameSent => Sys2Proof.Machine.execPrinterFrameSent s
  | .printerReply byte => Sys2Proof.Machine.execPrinterReply byte s
  | .printerReplyTimeout => Sys2Proof.Machine.execPrinterReplyTimeout s
  | .busyResend => Sys2Proof.Machine.execBusyResend s
  | .pollTimerExpiry => Sys2Proof.Machine.execPollTimerExpiry s
  | .staleTimerExpiry => Sys2Proof.Machine.execStaleTimerExpiry s
  | .gaugeUpdate => Sys2Proof.Machine.execGaugeUpdate s
  | .laneTimeTick => Sys2Proof.Machine.execLaneTimeTick s

end Sys2Proof.Machine
end

