-- ==== Sys2Proof/Machine/Port.lean ====
section
/-! DEFINITION. Machine/Port.lean: the host's side of the memory port (R194, R196): what reading a word gives, and what a write
does before any command is taken. These are acts of the host, not commands of the block. -/

namespace Sys2Proof.Machine

/-- The code of the start cause in IDENT (R211). -/
def causeCode : StartCause → Nat
  | .powerOn => 1
  | .laneReset => 2

/-- IDENT (R211): part code, revision, start cause. -/
def State.ident (s : State) : Word := word (256 * Config.partCode + 4 * Config.revision + causeCode s.cause)

/-- LANECTL as it reads: the lane reset command reads back as 0 (R195). DESIGN CHOICE (log entry 70): the unassigned bits 7 to 2 read 0. -/
def State.lanectl (s : State) : Word :=
  word (256 * s.att.mask.toNat + (if s.jr.mode = .overwrite then 2 else 0))

/-- What the host reads at a word address (R194). DESIGN CHOICE (log entry 70): the unassigned bits 15 to 8 of ATTN read 0. -/
def State.portRead (s : State) (addr : Word) : Word :=
  let a := addr.toNat
  if a < 0x4000 then Memory.readWord s.mem a
  else if a = 0x4000 then s.ident
  else if a = 0x4002 then s.lanectl
  else if a = 0x400A then word s.att.bits.toNat
  else 0

/-- What the host writes at an even address (R194, R196): a word of lane memory is stored, and a register write puts its
commands behind those that wait. -/
def State.portWrite (s : State) (addr value : Word) : State :=
  if addr.toNat < 0x4000 then
    if addr.toNat % 2 = 0 then s.setMem (Memory.writeWord s.mem addr.toNat value) else s
  else s.setPending (s.pending ++ registerCommands addr value)

end Sys2Proof.Machine
end

