-- ==== Sys2Proof/Safety.lean ====
section
/-! DEFINITION. Safety.lean: the words claims are stated in: what a command leaves alone, which bytes of lane memory the part
writes, what a journal entry and a completed slot look like, and the invariants of the part. -/

namespace Sys2Proof.Machine

/-! ## What is left alone -/

/-- The parts of the state. -/
inductive Part where
  | pending | mem | clk | time | cause | slots | jr | att | gauge | eng | nv | seat | drv | dtest | tab | weigh | run | plate
  | seq | disp | comp | prn
deriving DecidableEq, Repr

/-- Two states agree on a part. -/
def Part.same (s t : State) : Part → Prop
  | .pending => t.pending = s.pending
  | .mem => t.mem = s.mem
  | .clk => t.clk = s.clk
  | .time => t.time = s.time
  | .cause => t.cause = s.cause
  | .slots => t.slots = s.slots
  | .jr => t.jr = s.jr
  | .att => t.att = s.att
  | .gauge => t.gauge = s.gauge
  | .eng => t.eng = s.eng
  | .nv => t.nv = s.nv
  | .seat => t.seat = s.seat
  | .drv => t.drv = s.drv
  | .dtest => t.dtest = s.dtest
  | .tab => t.tab = s.tab
  | .weigh => t.weigh = s.weigh
  | .run => t.run = s.run
  | .plate => t.plate = s.plate
  | .seq => t.seq = s.seq
  | .disp => t.disp = s.disp
  | .comp => t.comp = s.comp
  | .prn => t.prn = s.prn

/-- Every part but the listed ones is the same in both states. -/
def KeepsAllBut (l : List Part) (s t : State) : Prop := ∀ p, p ∉ l → Part.same s t p

/-! ## Bytes of lane memory (R196, R211) -/

/-- The header bytes that the part writes: all up to the plate count, and the gauge skip count. -/
def headerByte (a : Nat) : Prop := a < 0x0040 ∨ a = 0x0046 ∨ a = 0x0047

/-- The axle table area. -/
def tableByte (a : Nat) : Prop := 0x0900 ≤ a ∧ a < 0x1200

/-- The gauge record. -/
def gaugeByte (a : Nat) : Prop := 0x1200 ≤ a ∧ a < 0x1240

/-- The journal area. -/
def ringByte (a : Nat) : Prop := 0x1240 ≤ a ∧ a < 0x1A40

/-- The ring position of the next entry of a journal. -/
def nextEntryByte (j : Journal) (a : Nat) : Prop := entryBase j.put.toNat ≤ a ∧ a < entryBase j.put.toNat + 16

/-- The certificate record with index k. -/
def certByte (k a : Nat) : Prop := certBase k ≤ a ∧ a < certBase k + 1024

/-- The bytes of slot n that the part writes: state word, outcome, detail, result area. -/
def slotByte (n a : Nat) : Prop :=
  slotBase n ≤ a ∧ a < slotBase n + 2 ∨ slotBase n + 0x08 ≤ a ∧ a < slotBase n + 0x0C ∨
    slotBase n + 0x34 ≤ a ∧ a < slotBase n + 0x40

/-- Lane memory reads the same outside some bytes. -/
def MemKept (written : Nat → Prop) (s t : State) : Prop :=
  ∀ a, ¬ written a → Memory.readByte t.mem a = Memory.readByte s.mem a

/-! ## Entries and slots -/

/-- Exactly one entry has been produced between two states, and, unless the full ring of BLOCKING mode drops it, the ring holds
it at the old put index (R202, R206). -/
def EntryMade (s t : State) (code axle : Nat) (p1 p2 : Word) : Prop :=
  t.jr.produced = s.jr.produced + 1 ∧
  (s.jr.blocks = false →
    t.jr.stored = s.jr.stored + 1 ∧ t.jr.put = s.jr.put + 1 ∧
    Memory.readWords t.mem (entryBase s.jr.put.toNat) 8
      = entryWords (lowWord (s.jr.produced + 1)) code axle s.jr.gap s.time p1 p2)

/-- A slot shows DONE with an outcome, a detail and a result area, and the request unit holds it no longer (R200). -/
def SlotDone (t : State) (n : Nat) (o : ReqOutcome) (d : Detail) (result : List Word) : Prop :=
  t.held n = .free ∧ t.slotState n = wordDone ∧
  Memory.readWord t.mem (slotBase n + 0x08) = word (codeOfOutcome o) ∧
  Memory.readWord t.mem (slotBase n + 0x0A) = word (codeOfDetail d) ∧
  Memory.readWords t.mem (slotBase n + 0x34) 6 = resultWords result

/-- Lane memory after a taking that completes slot n at once: only the header image, the slot and the next journal entry can
differ. -/
def takingByte (s : State) (n a : Nat) : Prop := headerByte a ∨ slotByte n a ∨ nextEntryByte s.jr a

/-- The next taking takes slot n with a kind word, and the state word still reads POSTED (R198). -/
def Takes (s : State) (n code : Nat) : Prop :=
  s.lowestPosted = some n ∧ s.slotState n = wordPosted ∧ s.slotKind n = code

/-- The command that takes a slot of a kind. -/
def takingOf : Kind → Instr
  | .clearFaults => .clearFaults
  | .discardAttempt => .discardAttempt
  | .setTime => .setTime
  | .zero => .zero
  | .calibrate => .calibrate
  | .runPlan => .runPlan
  | .driveTest => .driveTest
  | .compose => .compose
  | .print => .print

/-- Between two states slot n was completed with its REQUEST_DONE entry and ATTN.REQ_DONE, and nothing else happened (R200). -/
def CompletedAlone (s t : State) (n code : Nat) (o : ReqOutcome) (d : Detail) (result : List Word) : Prop :=
  SlotDone t n o d result ∧
  EntryMade s t evRequestDone 0 (bytePair n code) (bytePair (codeOfDetail d) (codeOfOutcome o)) ∧
  t.att.bits.getLsbD 0 = true ∧
  (∀ m, m ≠ n → t.held m = s.held m) ∧
  KeepsAllBut [.mem, .slots, .jr, .att] s t ∧
  MemKept (takingByte s n) s t

/-- Slot n has become ACTIVE between two states, in the request unit and in its state word; no other slot changed (R198). -/
def BecameActive (s t : State) (n : Nat) (k : Kind) : Prop :=
  t.held n = .active k ∧ t.slotState n = wordActive ∧ ∀ m, m ≠ n → t.held m = s.held m

/-- The drive has been stopped between two states: STOPPING with a reason, motors de-energised, counts and mark clear, owner,
directions and slip limit as they were (R38). -/
def Stopped (s t : State) (r : StopReason) : Prop :=
  t.drv = { s.drv with
    state := .stopping, energised := false, stopReason := some r, estopSeen := false, restCount := 0, stopCount := 0 }

/-- The sequencer's start command was taken between two states, with the direction and the slip limit of the axle under the cursor and of
the plan (R34, R134). -/
def StartedBySequencer (s t : State) : Prop :=
  t.drv = { s.drv with
    state := .spinup, energised := true, dirL := .forward
    dirR := if (s.planAxle s.tab.cursor).coupling = 1 then .reverse else .forward
    owner := some .sequencer, slipLimit := if s.tab.plan.slipLimit = 0 then 30 else s.tab.plan.slipLimit.toNat
    spinupCount := 0, overL := 0, overR := 0, lowL := 0, lowR := 0 }

/-- The axle under the cursor has left forward between two states (R140, R145): its record is DONE unless it is SKIPPED, the cursor is
raised and the held exit cleared; at the axle count the plan is COMPLETE and its slot OK, otherwise the sequencer is in APPROACH. -/
def LeftForward (s t : State) : Prop :=
  let k := s.tab.cursor
  let r := s.record k
  t.tab = { s.tab with
    cursor := k + 1
    records := s.tab.records.set k (if r.status = .skipped then r else { r with status := .done, skip := none }) } ∧
  t.seq.heldExit = .none ∧
  (k + 1 < s.tab.axleCount → t.seq.state = .approach ∧ t.slots = s.slots) ∧
  (s.tab.axleCount ≤ k + 1 → t.seq.state = .complete ∧ t.att.bits.getLsbD 5 = true ∧
    ∀ n, s.activeSlot .runPlan = some n → SlotDone t n .ok .none [])

/-- A plan has been aborted between two states (R147), with the recorded reason r of a stop of the drive, the end reason e of a run and
the outcome of the RUN_PLAN slot: the run ended and its unit IDLE, the spin stopped, the weighing abandoned, the records PENDING or
IN_TEST SKIPPED / ABORTED and the others as they were, the open crossing discarded (R114), the cursor where it stood. A stop handed to
PARK_ONSET at the sample at which it began on the same spin withdraws it without a result (R89); a run-end command does not (R86). -/
def PlanAborted (s t : State) (r : StopReason) (e : EndReason) (o : ReqOutcome) (d : Detail) : Prop :=
  t.seq.state = .aborted ∧ t.att.bits.getLsbD 5 = true ∧ t.weigh = none ∧
  t.run = (if s.run.phase = .idle then s.run else RunUnit.cleared) ∧
  (isSpinning s.drv.state = true → Stopped s t r) ∧ (isSpinning s.drv.state = false → t.drv = s.drv) ∧
  t.plate = { s.plate with crossing := .idle, follower := false } ∧ t.tab.cursor = s.tab.cursor ∧
  (∀ k, ((t.record k).status, (t.record k).skip) =
    if k < s.tab.axleCount ∧ ((s.record k).status = .pending ∨ (s.record k).status = .inTest) then (.skipped, some .aborted)
    else ((s.record k).status, (s.record k).skip)) ∧
  (s.run.phase = .idle ∨ s.run.phase = .armed →
    ∀ k, (t.record k).attempts = (s.record k).attempts ∧ (t.record k).parking = (s.record k).parking) ∧
  (inAttemptPart s.run.phase = true → (t.record s.run.axle).top.map (fun x => (x.reason, x.time)) = some (e, s.time)) ∧
  (s.run.phase = .parkRun →
    (t.record s.run.axle).parking = some ⟨s.run.parkPeakL, s.run.parkPeakR, e, s.time⟩) ∧
  (s.run.phase = .parkOnset → s.run.held = none ∨ s.run.waitBegan ≠ s.clk.sampleNo ∨ r = .commanded →
    (t.record s.run.axle).parking = some ⟨0, 0, e, s.time⟩) ∧
  (∀ n, s.activeSlot .runPlan = some n → SlotDone t n o d [])

/-! ## Print jobs (R183, R185, R192) -/

/-- The job a selection takes from a list in creation order: the oldest QUEUED ORIGINAL, otherwise the oldest QUEUED job, which is then a
COPY (R183). -/
def jobSelected (jobs : List Job) : Option Job :=
  let queued := jobs.filter (fun x => x.state == .queued)
  ((queued.filter (fun x => x.cls == .original)) ++ queued).head?

/-- The jobs of a list after the selection of one of them (R183). -/
def jobsStarted (jobs : List Job) (x : Job) : List Job :=
  jobs.map (fun y => if y.slot = x.slot then { y with state := .printing } else y)

/-- A line with a text is on the printer's wire for the first time between two states: a new sequence value, no CRC resend (R183, R185). -/
def LineSent (s t : State) (text : List Byte) : Prop :=
  t.prn.link = .sending ∧ t.prn.sequence = s.prn.sequence + 1 ∧ t.prn.crcResends = 0 ∧ t.prn.text = text ∧
  t.prn.wire = some (.line (printerFrame (s.prn.sequence + 1) text))

/-- The same line has been sent again between two states (R187, R188). -/
def LineResent (s t : State) : Prop :=
  t.prn.link = .sending ∧ t.prn.sequence = s.prn.sequence ∧ t.prn.text = s.prn.text ∧
  t.prn.wire = some (.line (printerFrame s.prn.sequence s.prn.text))

/-- The text of the CANCELLED line, in ASCII (R192). -/
def cancelledWord : List Byte := [0x43, 0x41, 0x4E, 0x43, 0x45, 0x4C, 0x4C, 0x45, 0x44]

/-! ## What a frame shows (R154, R155, R159 to R161) -/

/-- The message the prompt of a run selects (R159), by the phase and the step of the unit that give the prompt (R71); the 7 of a unit
without a prompt is the model's (assumption 31). -/
def runMessageShown (r : RunUnit) : Nat :=
  match r.phase, r.step with
  | .idle, _ | .armed, _ => 7
  | .ovality, .onsetWait => if r.releaseMark then 5 else 7
  | .ovality, .settle | .ovality, .hold => 6
  | .ovality, .releaseWait => 7
  | .serviceOnset, _ => if r.releaseMark then 5 else 7
  | .serviceRamp, _ => 5
  | .serviceRun, _ => if r.ramp = .fast then 9 else 5
  | .parkOnset, _ => if r.releaseMark then 8 else 7
  | .parkRun, _ => 8

/-- The tests of R159 in their order, each with its message. -/
def messageTests (s : State) : List (Bool × Nat) :=
  let st := s.seq.state
  [(s.eng.loading, 19),
   ((st == .idle || st == .complete || st == .aborted) && (s.eng.mode == .failsafe || s.drv.state == .lockout), 16),
   (st == .idle, 19),
   (st == .complete, 14),
   (st == .aborted, 15),
   (s.level .estop || s.drv.state == .lockout, 16),
   (s.level .presence, 17),
   (st == .approach, 1),
   (st == .weigh, 3),
   (st == .spinup, match s.seq.refusal with
     | none => 4
     | some .notOff => 2
     | some .presence => 17
     | some .lockedOut | some .estop | some .mode => 16
     | some .notSeated => 18),
   (isRunState st, runMessageShown s.run),
   (st == .spindown, 2),
   (st == .review, match s.seq.offer with
     | .result => 10
     | .offerRetest => 11),
   (st == .exitWait, 12),
   (st == .paused, 13)]

/-- The message of a frame composed in a state: that of the first test that holds (R159). -/
def messageShown (s : State) : Nat := (((messageTests s).find? (fun x => x.1)).map (fun x => x.2)).getD 0

/-- The numeric fields of a message, each a value and a unit code: 1 DAN, 2 KG, 3 KPA, 4 PERCENT, 5 COUNT, and 0 ABSENT with the value 0
(R155, R160, R211). -/
def fieldsShown (s : State) (m : Nat) : List (Int × Nat) :=
  let r := s.record s.tab.cursor
  let orAbsent (unit : Nat) (v : Option Int) : Int × Nat := (v.getD 0, if v.isSome then unit else 0)
  match m with
  | 1 => [((s.tab.axleCount : Int), 5)]
  | 3 => [(s.filtered 2, 2), (s.filtered 3, 2)]
  | 5 | 6 | 7 | 9 =>
    [(s.filtered 0, 1), (s.filtered 1, 1), orAbsent 3 ((s.planAxle s.tab.cursor).pressure.map s.filtered)]
  | 8 => [(s.filtered 0, 1), (s.filtered 1, 1)]
  | 10 | 11 =>
    [orAbsent 4 (r.attempts.getLast?.bind (fun a => a.imbalance)), orAbsent 4 (r.attempts.getLast?.bind (fun a => a.axleOvality)),
     ((r.violations : Int), 5)]
  | _ => []

/-- The frame composed in a state: start byte, length, message, axle number, the two bars, blink flag, field count, fields with the
low byte of each value first, check byte (R152 to R154, R161, R211). -/
def frameShown (s : State) : Frame :=
  let m := messageShown s
  let fields := fieldsShown s m
  let bar (k : Nat) : Nat := (Int.tdiv (s.filtered k * 100) 4000).toNat
  let axle := if s.kindActive .runPlan = true ∧ s.tab.cursor < s.tab.axleCount then s.tab.cursor + 1 else 0
  let blink : Bool := m = 9 ∨ m = 16 ∨ m = 17 ∨ s.disp.repeatMark ≠ none
  let body : List Byte := ([6 + 3 * fields.length, m, axle, bar 0, bar 1, blink.toNat, fields.length].map (BitVec.ofNat 8))
    ++ fields.flatMap (fun f => [lowByte (signedWord f.1), highByte (signedWord f.1), BitVec.ofNat 8 f.2])
  ⟨m, 0xA5 :: (body ++ [crc8 body])⟩

/-- One frame has fallen due between two states and shows the second: it begins on an IDLE link, with the last message following, and
waits on a SENDING one; the refresh timer is reloaded with the period in force (R151, R156 to R158). -/
def FrameFell (s t : State) : Prop :=
  (s.disp.sending = none →
    t.disp.sending = some (frameShown t) ∧ t.disp.waiting = s.disp.waiting ∧ t.disp.lastMessage = messageShown t) ∧
  (∀ f, s.disp.sending = some f →
    t.disp.sending = some f ∧ t.disp.waiting = some (frameShown t) ∧ t.disp.lastMessage = s.disp.lastMessage) ∧
  t.disp.refresh = some (t.clk.ms + if t.drv.state = .spinup ∨ t.drv.state = .run then 200 else 1000)

/-- The projected value and the projection flag of a side at the end of the attempt part (R100 to R102), from its peak, its pressure
at peak, and whether the end reason is the side's own slip stop. -/
def sideProjection (r : RunUnit) (slipped : Bool) (peak : Int) (press : Option Int) : Option Int × Option ProjFlag :=
  match press with
  | none => (none, none)
  | some pm =>
    if r.arm.air = false ∨ r.arm.channel = none ∨ r.openSeen = true then (none, none)
    else if slipped then (some peak, some .locked)
    else if r.arm.pref ≤ pm then (some peak, some .atReference)
    else if pm - r.arm.p0 < 100 then (none, some .lowPressure)
    else (some (clamp 0 9999 (roundDiv (peak * (r.arm.pref - r.arm.p0)) (pm - r.arm.p0))), none)

/-- The contents of the attempt record at the end of the attempt part by the unit's own condition or by a stop (R87): peaks and
pressures as tracked, the projections, the worst imbalance unless the ramp was FAST, the ovalities, and the flags of the run. -/
def AttemptOf (r : RunUnit) (a : Attempt) (reason : EndReason) : Prop :=
  a.peakL = r.peakL ∧ a.peakR = r.peakR ∧ a.pressL = r.pressL ∧ a.pressR = r.pressR ∧
  (a.projL, a.flagL) = sideProjection r (reason == .slipL || reason == .slipBoth) r.peakL r.pressL ∧
  (a.projR, a.flagR) = sideProjection r (reason == .slipR || reason == .slipBoth) r.peakR r.pressR ∧
  a.imbalance = (if r.ramp = .fast then none else r.worst) ∧
  a.ovalityL = r.ovalityL ∧ a.ovalityR = r.ovalityR ∧ a.axleOvality = r.axleOvality ∧
  a.reason = reason ∧ a.ramp = r.ramp ∧ a.sensor = r.tqFaultSeen ∧ a.noOnset = false ∧ a.unsteady = r.unsteady

/-! ## Invariants -/

/-- The law of the journal (R202): the count lies between 0 and 128, and the produced total is stored plus dropped. -/
def JournalLaw (j : Journal) : Prop := j.count ≤ 128 ∧ j.produced = j.stored + j.dropped

/-- The safety rule of the drive (R32): the motors are energised exactly in SPINUP and RUN, and the drive is in those states only
in lane mode NORMAL, with PRESENCE and ESTOP INACTIVE and an axle SEATED. The last two clauses say that no axle can be SEATED
and no qualification can have begun before the first sample, whose raw levels become the debounced ones (R5, R31). -/
def DriveSafe (s : State) : Prop :=
  s.drv.energised = isSpinning s.drv.state ∧
  (isSpinning s.drv.state = true →
    s.eng.mode = .normal ∧ s.level .presence = false ∧ s.level .estop = false ∧ s.seat.seated = true) ∧
  s.eng.inputs.length = 11 ∧
  (s.eng.started = false → s.seat.seated = false ∧ s.seat.qualify = 0)

/-- The value of a stored word, absent when it is uncorrectable (R14). -/
def NvWord.value? : NvWord → Option Word
  | .clean w | .single w => some w
  | .double => none

/-- The certificate counter the NV store holds, absent while a word of it is uncorrectable (R176). -/
def NvStore.counter? (st : NvStore) : Option Nat :=
  match st.counterHigh.value?, st.counterLow.value? with
  | some h, some l => some (65536 * h.toNat + l.toNat)
  | _, _ => none

/-- The number a counter write in flight stores. -/
def NvOp.counterValue? : NvOp → Option Nat
  | .counterWrite v | .brokenCounter v => some v
  | .loadWord _ | .calWrite _ _ _ | .counterRead | .brokenCal _ _ _ => none

/-- The law of the certificate counter (R178): a counter write in flight stores the stored value plus 1, no counter write waits
for the port, and no number issued since power-on is above the stored value. -/
def CounterLaw (s : State) : Prop :=
  (∀ v, s.nv.op.bind NvOp.counterValue? = some v →
    v ≤ counterMax ∧ ∃ w, s.nv.store.counter? = some w ∧ v = w + 1) ∧
  (s.nv.waiting.bind NvOp.counterValue? = none) ∧
  (∀ w, s.nv.store.counter? = some w → s.comp.lastIssued ≤ w)

/-- The header of lane memory shows the state behind it (R196, R211), and lane memory is in its canonical form. -/
def HeaderLaw (s : State) : Prop :=
  Memory.wf s.mem ∧ Memory.readWords s.mem 0x0000 32 = headerWords s ∧ Memory.readWord s.mem 0x0046 = s.gauge.skipped

/-- The axle table area of lane memory shows the axle table (R47, R211), and lane memory is in its canonical form. -/
def TableLaw (s : State) : Prop := Memory.wf s.mem ∧ Memory.readWords s.mem 0x0900 1152 = tableWords s.tab

/-- The four certificate records of lane memory show the composer's records (R170, R171, R211), and lane memory is in its canonical
form. -/
def CertLaw (s : State) : Prop :=
  Memory.wf s.mem ∧ ∀ k, k < 4 → Memory.readWords s.mem (certBase k) 512 = certWords (s.cert k)

/-- The lists of the state have their lengths: sixteen request slots (section 11.2), eleven discrete inputs and eleven channels with fault
flags (sections 1.1 and 1.5), eight axle records (section 3.1) and four certificate records (R170), and a COMPOSE works on one of the
four. -/
def ShapeLaw (s : State) : Prop :=
  s.slots.length = 16 ∧ s.eng.inputs.length = 11 ∧ s.eng.faults.length = 11 ∧ s.tab.records.length = 8 ∧
  s.comp.records.length = 4 ∧ ∀ c, s.comp.op = some c → c.target < 4

/-- Every axle record holds at most three attempts (R55). -/
def AttemptLaw (t : AxleTable) : Prop := ∀ r ∈ t.records, r.attempts.length ≤ 3

end Sys2Proof.Machine
end

