-- ==== Sys2Proof/Certificates/Slice0/Obligations.lean ====
section
/-! DEFINITION. Certificates/Slice0/Obligations.lean: the statements for the provers. -/

section Statements

open Sys2Proof Sys2Proof.Machine

/-! ## Steps, registers, journal -/

/-- One step takes the command at the front of the queue and acts with it on the state with the queue's rest; that an empty queue
leaves the state as it is, is the model's choice (assumption 2). -/
def Obligations.StepTakesFrontCommand : Prop :=
  (∀ (c : Instr) (rest : List Instr) (s : State), s.pending = c :: rest → step s = exec c (s.setPending rest)) ∧
  (∀ s : State, s.pending = [] → step s = .next s)

/-- Every command answers a next state, keeps the queue, and keeps the start cause unless it is a POWER_ON or a LANE_RESET
(R194). That a command whose condition does not hold answers a next state too, the state as it is, is the model's choice (assumption 4):
the manual says nothing of this case. -/
def Obligations.EveryCommandAnswersNext : Prop :=
  ∀ (c : Instr) (s : State), ∃ t, exec c s = .next t ∧ t.pending = s.pending ∧
    ((∀ cut, c ≠ .powerOn cut) → c ≠ .laneReset → t.cause = s.cause)

/-- POWER_ON: lane memory cleared but for the printer link's OFFLINE in the header, every block at its power-on value, and the
NV store kept as the device left the write in flight: the sample engine with its histories, counts and window (R23), the detector (R31),
the drive with owner, stop reason, marks and counts (R45), the axle table (R66), the brake run unit with its counts, peaks and marks
(R93), the plate unit (R125), the sequencer (R149), the display link with its last message and repeat mark (R162), the composer (R180), the
printer link with its counts and timers (R193), the request unit (R210). Three points are the model's reading: that byte 0x0008
reads 4, where R196 clears the whole of lane memory (assumption 16), that the operand says what the device made of a write in flight
(assumption 18), and the values of the fields that no rule names, among them the line text, the raw values and the copy of the plan
values in an IDLE run unit (assumption 34). -/
def Obligations.PowerOnStartsEveryBlock : Prop :=
  ∀ (cut : NvCut) (s : State), ∃ t, exec (.powerOn cut) s = .next t ∧
    (∀ a, Memory.readByte t.mem a = if a = 0x0008 then 4 else 0) ∧
    t.nv.store = (match s.nv.op with
      | some op => s.nv.store.afterOp op cut
      | none => s.nv.store) ∧
    t.nv.op = some (.loadWord 0) ∧ t.nv.waiting = none ∧
    t.time = 0 ∧ t.cause = .powerOn ∧ (∀ n, t.held n = .free) ∧
    t.jr = ⟨.blocking, 0, 0, 0, 0, 0, 0, 0, none⟩ ∧ t.att = ⟨0, 0, false⟩ ∧ t.gauge = ⟨0, 0, 0⟩ ∧
    t.eng.mode = .failsafe ∧ (∀ i, t.eng.cals.getD i noCal = ⟨0, 0, false⟩) ∧ (∀ i, t.faultsOf i = noFaults) ∧
    t.eng.slipL = none ∧ t.eng.slipR = none ∧ t.eng.loading = true ∧ t.eng.started = false ∧
    (∀ k, t.eng.chans.getD k noChannel = ⟨0, [], 0⟩) ∧ (∀ i, (t.input i).count = 0) ∧
    t.eng.noPulseL = 0 ∧ t.eng.noPulseR = 0 ∧ t.eng.windowSamples = 0 ∧ t.eng.pulses = ⟨0, 0, 0, 0⟩ ∧
    t.eng.lastPd = none ∧ t.eng.capture = none ∧ t.eng.calib = none ∧
    t.seat.seated = false ∧ t.seat.qualify = 0 ∧ t.seat.lastBeam = none ∧ t.seat.exitWindow = none ∧
    t.seat.record = .empty ∧ t.seat.active = false ∧
    t.drv.state = .off ∧ t.drv.energised = false ∧ t.drv.dirL = .forward ∧ t.drv.dirR = .forward ∧
    t.drv.lockCause = none ∧ t.drv.owner = none ∧ t.drv.stopReason = none ∧ t.drv.estopSeen = false ∧
    t.drv.spinupCount = 0 ∧ t.drv.overL = 0 ∧ t.drv.overR = 0 ∧ t.drv.lowL = 0 ∧ t.drv.lowR = 0 ∧
    t.drv.restCount = 0 ∧ t.drv.stopCount = 0 ∧ t.dtest = none ∧
    t.tab = AxleTable.emptied 0 ∧ t.weigh = none ∧ t.run = RunUnit.cleared ∧ t.run.phase = .idle ∧ t.run.prompt = .none ∧
    t.plate.crossing = .idle ∧ t.plate.d0 = 0 ∧ t.plate.follower = false ∧ t.plate.length = none ∧
    t.seq.state = .idle ∧ (∀ k, t.seq.reviewMarks.getD k false = false) ∧ t.seq.heldExit = .none ∧
    t.seq.parkingOwed = false ∧ t.seq.refusal = none ∧ t.seq.offer = .result ∧
    t.disp.sending = none ∧ t.disp.waiting = none ∧ t.disp.refresh = none ∧ t.disp.lastMessage = 0 ∧
    t.disp.repeatMark = none ∧
    (∀ k, t.cert k = CertRecord.cleared .empty) ∧ t.comp.lastIssued = 0 ∧ t.comp.op = none ∧
    t.prn = ⟨[], .offline, none, false, [], 0, 0, 0, none, false, none, none⟩

/-- The host's register writes: a LANECTL write spells SET_JOURNAL_MODE, SET_ATTENTION_MASK and, with its command bit set, LANE_RESET, in
this order (R195); the first sets the mode alone, the second the mask and the line; a write to ATTN clears each bit written as 1 and
leaves the others (R207); a write to IDENT or above 0x400B changes nothing (R194). None changes a byte of lane memory. -/
def Obligations.RegisterWritesOfTheHost : Prop :=
  (∀ v : Word, registerCommands 0x4002 v =
    [.setJournalMode (if v.getLsbD 1 then .overwrite else .blocking), .setAttentionMask (v.extractLsb' 8 8)]
      ++ if v.getLsbD 0 then [.laneReset] else []) ∧
  (∀ (m : JournalMode) (s : State), exec (.setJournalMode m) s = .next (s.setJr { s.jr with mode := m })) ∧
  (∀ (k : Byte) (s : State),
    exec (.setAttentionMask k) s = .next (s.setAtt ⟨s.att.bits, k, (s.att.bits &&& k) != 0⟩)) ∧
  (∀ (v : Word) (s : State), ∃ b : Byte,
    exec (.attnWrite v) s = .next (s.setAtt ⟨b, s.att.mask, (b &&& s.att.mask) != 0⟩) ∧
    ∀ k, k < 8 → b.getLsbD k = (s.att.bits.getLsbD k && !v.getLsbD k)) ∧
  (∀ (addr v : Word) (s : State), exec (.registerWriteIgnored addr v) s = .next s)

/-- A write to JACK: the ack index of R203, the stale timer of R205, and nothing else but the header image. -/
def Obligations.JackAcknowledges : Prop :=
  ∀ (v : Word) (s : State), ∃ t, exec (.jack v) s = .next t ∧
    t.jr.ack = (if v.toNat ≤ 255 ∧
        (v.toNat + 256 - s.jr.ack.toNat) % 256 ≤ (s.jr.put.toNat + 256 - s.jr.ack.toNat) % 256
      then BitVec.ofNat 8 v.toNat else s.jr.put) ∧
    t.jr.staleTimer = (if t.jr.ack = t.jr.put ∨ (Memory.readWord s.mem 0x042).toNat = 0 then none
      else some (s.clk.ms + 10 * (Memory.readWord s.mem 0x042).toNat)) ∧
    t.jr = { s.jr with ack := t.jr.ack, staleTimer := t.jr.staleTimer } ∧
    KeepsAllBut [.mem, .jr] s t ∧ MemKept headerByte s t

/-- The production of a journal entry (R202, R204, R205): dropped from the full ring of BLOCKING mode, otherwise written at put
with its gap count, over the entry at ack when the ring is full; the ATTN bits that follow; nothing else. -/
def Obligations.ProductionWritesOrDrops : Prop :=
  ∀ (s : State) (code axle : Nat) (p1 p2 : Word), Memory.wf s.mem →
    let t := s.produce code axle p1 p2
    (128 ≤ s.jr.count ∧ s.jr.mode = .blocking →
      t.jr = { s.jr with
        produced := s.jr.produced + 1, dropped := s.jr.dropped + 1, gap := min 65535 (s.jr.gap + 1) } ∧
      t.mem = s.mem ∧ t.att.bits = s.att.bits ||| 0x08) ∧
    (¬ (128 ≤ s.jr.count ∧ s.jr.mode = .blocking) →
      EntryMade s t code axle p1 p2 ∧ t.jr.gap = 0 ∧ t.jr.dropped = s.jr.dropped ∧
      t.jr.ack = (if 128 ≤ s.jr.count then s.jr.ack + 1 else s.jr.ack) ∧
      t.jr.overwritten = (if 128 ≤ s.jr.count then s.jr.overwritten + 1 else s.jr.overwritten) ∧
      t.jr.staleTimer = (if s.jr.count = 0 then s.staleLoad else s.jr.staleTimer) ∧
      t.att.bits = s.att.bits ||| (if s.watermark ≤ t.jr.count then 0x02 else 0)
        ||| (if 128 ≤ s.jr.count then 0x08 else 0)) ∧
    t.att.mask = s.att.mask ∧
    (s.att.line = ((s.att.bits &&& s.att.mask) != 0) → t.att.line = ((t.att.bits &&& t.att.mask) != 0)) ∧
    (JournalLaw s.jr → JournalLaw t.jr) ∧
    KeepsAllBut [.mem, .jr, .att] s t ∧ MemKept (nextEntryByte s.jr) s t

/-- The stale timer's expiry raises ATTN.STALE and reloads the timer (R205); a millisecond raises lane time by 1, with
ATTN.TIME_WRAP at the passage to 0 (R209). The millisecond is stated for a state in which no step is due (assumption 5). -/
def Obligations.TimersOfTheRequestUnit : Prop :=
  (∀ s : State, s.expired s.jr.staleTimer = true →
    exec .staleTimerExpiry s = .next
      ((s.setJr { s.jr with staleTimer := s.staleLoad }).setAtt
        ⟨s.att.bits ||| 0x04, s.att.mask, ((s.att.bits ||| 0x04) &&& s.att.mask) != 0⟩)) ∧
  (∀ s : State, s.quiet = true → Memory.wf s.mem → ∃ t, exec .laneTimeTick s = .next t ∧
    t.time = s.time + 1 ∧ t.clk = ⟨s.clk.sampleNo, s.clk.ms + 1⟩ ∧
    t.att.bits = (if s.time = 0xFFFFFFFF then s.att.bits ||| 0x80 else s.att.bits) ∧ t.att.mask = s.att.mask ∧
    Memory.readWord t.mem 0x000A = lowWord t.time ∧ Memory.readWord t.mem 0x000C = highWord t.time ∧
    KeepsAllBut [.mem, .clk, .time, .att] s t ∧ MemKept headerByte s t)

/-- A gauge update that is due: with hold word 0 the record takes the values of the sample and the next update sequence, otherwise
only the skip count is raised (R208). -/
def Obligations.GaugeUpdateWritesOrSkips : Prop :=
  ∀ s : State, 20 ≤ s.gauge.samples → Memory.wf s.mem → ∃ t, exec .gaugeUpdate s = .next t ∧
    KeepsAllBut [.mem, .gauge] s t ∧
    (Memory.readWord s.mem 0x0044 = 0 →
      t.gauge = ⟨0, s.gauge.sequence + 1, s.gauge.skipped⟩ ∧
      Memory.readWords t.mem 0x1200 17 =
        [s.gauge.sequence + 1,
         flagWord [s.eng.slipL.isSome, s.eng.slipR.isSome, s.activePressure.isSome],
         lowWord s.time, highWord s.time,
         signedWord (s.filtered 0), signedWord (s.filtered 1), signedWord (s.filtered 2), signedWord (s.filtered 3),
         word ((s.activePressure.map (·.1)).getD 0), signedWord ((s.activePressure.map (·.2)).getD 0),
         word (s.eng.slipL.getD 0), word (s.eng.slipR.getD 0), signedWord (s.filtered 8),
         word (codeOfDrive s.drv.state), word (codeOfSeq s.seq.state), word s.tab.cursor, word s.tab.plateCount] ∧
      MemKept gaugeByte s t) ∧
    (Memory.readWord s.mem 0x0044 ≠ 0 →
      t.gauge = ⟨0, s.gauge.sequence, s.gauge.skipped + 1⟩ ∧
      Memory.readWord t.mem 0x0046 = s.gauge.skipped + 1 ∧ MemKept (fun a => a = 0x0046 ∨ a = 0x0047) s t)

/-! ## Request slots: POST, ABORT and the takings -/

/-- A write to POST (R197): every named slot that is POSTED or ACTIVE keeps its state and gets its state word rewritten, every
other named slot whose word reads READY becomes POSTED, the rest are left alone; one entry is produced for each named slot that
did not become POSTED. -/
def Obligations.PostActsOnEachNamedSlot : Prop :=
  ∀ (mask : Word) (s : State), s.slots.length = 16 → Memory.wf s.mem → ∃ t, exec (.post mask) s = .next t ∧
    (∀ n, n < 16 → mask.getLsbD n = true →
      (s.held n = .free → s.slotState n = wordReady → t.held n = .posted ∧ t.slotState n = wordPosted) ∧
      (s.held n = .free → s.slotState n ≠ wordReady → t.held n = .free ∧ t.slotState n = s.slotState n) ∧
      (s.held n = .posted → t.held n = .posted ∧ t.slotState n = wordPosted) ∧
      (∀ k, s.held n = .active k → t.held n = .active k ∧ t.slotState n = wordActive)) ∧
    (∀ n, n < 16 → mask.getLsbD n = false → t.held n = s.held n ∧ t.slotState n = s.slotState n) ∧
    t.jr.produced = s.jr.produced + BitVec.ofNat 32 ((List.range 16).countP (fun n => mask.getLsbD n
      && !(s.held n == .free && s.slotState n == wordReady))) ∧
    KeepsAllBut [.mem, .jr, .att, .slots] s t ∧
    MemKept (fun a => headerByte a ∨ ringByte a ∨ ∃ n, n < 16 ∧ mask.getLsbD n = true ∧ (a = slotBase n ∨ a = slotBase n + 1))
      s t

/-- A write to ABORT whose named slots are all POSTED or neither POSTED nor ACTIVE (R201): the POSTED ones complete ABORTED, one
entry produced for each, the others are left alone. -/
def Obligations.AbortCompletesPostedSlots : Prop :=
  ∀ (mask : Word) (s : State), s.slots.length = 16 → Memory.wf s.mem →
    (∀ n, n < 16 → mask.getLsbD n = true → s.held n = .free ∨ s.held n = .posted) →
    ∃ t, exec (.abort mask) s = .next t ∧
    (∀ n, n < 16 → mask.getLsbD n = true → s.held n = .posted → SlotDone t n .aborted .none []) ∧
    (∀ n, n < 16 → mask.getLsbD n = false ∨ s.held n = .free → t.held n = s.held n ∧ t.slotState n = s.slotState n) ∧
    t.jr.produced = s.jr.produced
      + BitVec.ofNat 32 ((List.range 16).countP (fun n => mask.getLsbD n && s.held n == .posted)) ∧
    KeepsAllBut [.mem, .jr, .att, .slots] s t ∧
    MemKept (fun a => headerByte a ∨ ringByte a ∨ ∃ n, n < 16 ∧ mask.getLsbD n = true ∧ s.held n = .posted ∧ slotByte n a) s t

/-- The abort rules of the ACTIVE requests: ZERO before its 200th sample ends ABORTED (R21), CALIBRATE (R18), COMPOSE (R179) and a PRINT in
flight (R192) note it, a QUEUED print job, and any on a link in PAUSED_PAPER, ends CANCELLED at once with its PRINT_STATE and REQUEST_DONE
entries (R191, R192), a DRIVE_TEST whose spin runs is ABORTED unless it is decided already, with its drive stopped COMMANDED (R44,
R38), and a plan is aborted from every state from APPROACH to PAUSED, its run ended ABORT, its spin stopped, its records that are PENDING
or IN_TEST SKIPPED / ABORTED (R146, R147, R86). What the host reads of the other axle records, and of a written record past its skip
reason, stays (R47), shown for an abort in APPROACH. -/
def Obligations.AbortOfActiveRequests : Prop :=
  ∀ (mask : Word) (n : Nat) (s : State), s.slots.length = 16 → Memory.wf s.mem → namedSlots mask = [n] →
    (∀ c, s.held n = .active .zero → s.eng.capture = some c → c.count < 200 →
      ∃ t, exec (.abort mask) s = .next t ∧ t.eng = { s.eng with capture := none } ∧
        SlotDone t n .aborted .none [] ∧
        EntryMade s t evRequestDone 0 (bytePair n 4) (bytePair 0 7) ∧
        KeepsAllBut [.mem, .jr, .att, .slots, .eng] s t ∧ MemKept (takingByte s n) s t) ∧
    (∀ c, s.held n = .active .calibrate → s.eng.calib = some c →
      exec (.abort mask) s = .next (s.setEng { s.eng with calib := some { c with lateAbort := true } })) ∧
    (∀ c, s.held n = .active .compose → s.comp.op = some c → c.stage = .reading →
      exec (.abort mask) s = .next (s.setComp { s.comp with op := some { c with aborted := true } })) ∧
    (∀ c v, s.held n = .active .compose → s.comp.op = some c → c.stage = .writing v →
      exec (.abort mask) s = .next (s.setComp { s.comp with op := some { c with lateAbort := true } })) ∧
    (∀ j, s.held n = .active .print → s.prn.jobs = [j] → j.slot = n → j.state = .printing → s.prn.link ≠ .pausedPaper →
      exec (.abort mask) s = .next (s.setPrn { s.prn with jobs := [{ j with cancelMark := true }] })) ∧
    (∀ j, s.held n = .active .print → s.prn.jobs.find? (fun x => x.slot == n) = some j →
      j.state = .queued ∨ s.prn.link = .pausedPaper →
      ∃ t, exec (.abort mask) s = .next t ∧
        t.prn = { s.prn with
          jobs := s.prn.jobs.filter (fun x => x.slot != n), cancelLine := s.prn.cancelLine && j.state != .printing } ∧
        SlotDone t n .aborted .none [bytePair (codeOfClass j.cls) j.linesTaken, word (s.cert j.record).printCount] ∧
        t.jr.produced = s.jr.produced + 2 ∧
        (s.jr.blocks = false → Memory.readWords t.mem (entryBase s.jr.put.toNat) 8 = entryWords (lowWord (s.jr.produced + 1))
          evPrintState 0 s.jr.gap s.time (bytePair j.record 3) (word j.linesTaken)) ∧
        KeepsAllBut [.mem, .jr, .att, .slots, .prn] s t) ∧
    (s.held n = .active .runPlan → s.activeSlot .runPlan = some n → isPlanState s.seq.state = true →
      s.run.axle < s.tab.records.length →
      ∃ t, exec (.abort mask) s = .next t ∧ PlanAborted s t .commanded .abort .aborted .none ∧
        KeepsAllBut [.mem, .jr, .att, .slots, .drv, .tab, .weigh, .run, .plate, .seq, .disp] s t) ∧
    (∀ d, s.held n = .active .driveTest → s.dtest = some d → s.drv.owner = some .driveTest →
      isSpinning s.drv.state = true →
      ∃ t, exec (.abort mask) s = .next t ∧ Stopped s t .commanded ∧
      t.dtest = some { d with timer := none, decided := some (d.decided.getD (.aborted, .none)) } ∧
      t.slots = s.slots ∧ t.eng = s.eng ∧ t.nv = s.nv ∧ t.comp = s.comp ∧ t.prn = s.prn) ∧
    (s.held n = .active .runPlan → s.activeSlot .runPlan = some n → s.seq.state = .approach → s.run.phase = .idle →
      isSpinning s.drv.state = false →
      ∃ t, exec (.abort mask) s = .next t ∧ SlotDone t n .aborted .none [] ∧ t.seq.state = .aborted ∧
      t.att.bits.getLsbD 5 = true ∧ t.weigh = none ∧ t.drv = s.drv ∧ t.jr.produced = s.jr.produced + 2 ∧
      (∀ k, k < s.tab.axleCount → k < s.tab.records.length →
        t.record k = if (s.record k).status = .pending ∨ (s.record k).status = .inTest
          then { s.record k with status := .skipped, skip := some .aborted } else s.record k) ∧
      ∀ k i, k < 8 → i < 128 →
        ¬ (k < s.tab.axleCount ∧ ((s.record k).status = .pending ∨ (s.record k).status = .inTest) ∧ i < 3) →
        Memory.readWord t.mem (0x0A00 + 256 * k + 2 * i) = Memory.readWord s.mem (0x0A00 + 256 * k + 2 * i))

/-- What the request unit itself decides at a taking (R198): a slot whose state word was rewritten is WITHDRAWN with one more
entry than its REQUEST_DONE, a kind that is none of the nine is BAD_KIND, and a second request of a long kind other than PRINT
is KIND_ACTIVE. That the entry of a BAD_KIND carries a kind word above 255 by its low byte is the model's choice (assumption 50). -/
def Obligations.TakingChecksOfTheRequestUnit : Prop :=
  ∀ (s : State) (n : Nat), s.slots.length = 16 → Memory.wf s.mem → s.lowestPosted = some n →
    (∀ k, s.slotKind n = codeOfKind k → s.slotState n ≠ wordPosted →
      ∃ t, exec (takingOf k) s = .next t ∧ SlotDone t n .aborted .withdrawn [] ∧
        t.jr.produced = s.jr.produced + 2 ∧ KeepsAllBut [.mem, .jr, .att, .slots] s t) ∧
    (s.slotKind n = 0 ∨ 9 < s.slotKind n → s.slotState n = wordPosted →
      ∃ t, exec .badKind s = .next t ∧ CompletedAlone s t n (s.slotKind n) .badKind .none []) ∧
    (∀ k, k = .zero ∨ k = .calibrate ∨ k = .runPlan ∨ k = .driveTest ∨ k = .compose →
      s.slotKind n = codeOfKind k → s.slotState n = wordPosted → s.kindActive k = true →
      ∃ t, exec (takingOf k) s = .next t ∧ CompletedAlone s t n (codeOfKind k) .refusedBusy .kindActive [])

/-- SET_TIME completes at its taking: lane time takes the parameter, the result area holds the lane time as it stood, the
REQUEST_DONE entry carries the new time, ATTN.TIME_WRAP is not raised, and no timer in progress changes (R199). The header shows the
new time. -/
def Obligations.SetTimeTakesLaneTime : Prop :=
  ∀ (s : State) (n : Nat), s.slots.length = 16 → Memory.wf s.mem → Takes s n 3 →
    ∃ t, exec .setTime s = .next t ∧ t.time = s.paramD n ∧
      SlotDone t n .ok .none [lowWord s.time, highWord s.time] ∧
      EntryMade (s.setTime (s.paramD n)) t evRequestDone 0 (bytePair n 3) (bytePair 0 0) ∧
      t.att.bits.getLsbD 0 = true ∧ t.att.bits.getLsbD 7 = s.att.bits.getLsbD 7 ∧
      Memory.readWords t.mem 0x000A 2 = [lowWord t.time, highWord t.time] ∧
      (s.jr.count ≠ 0 → t.jr.staleTimer = s.jr.staleTimer) ∧
      KeepsAllBut [.mem, .jr, .att, .slots, .time] s t ∧ MemKept (takingByte s n) s t

/-- CLEAR_FAULTS completes OK at its taking: of each channel's flags those whose condition is gone are cleared, the others stay
(R13), and the result area lists those still set (R211); where OPEN is cleared the filtered value becomes
the mean of the history at once, and every other channel value stays (R11); each flag cleared makes its FAULT_CLEARED entry, which is
shown for a taking that clears one flag, and counted otherwise. Outside LOCKOUT the drive is left alone, and in LOCKOUT it enters OFF exactly when
ESTOP is INACTIVE and both sides were at rest in the most recent window (R40, stated for a sequencer that waits for no drive). That the
FAULT_CLEARED entry comes before the REQUEST_DONE entry is the model's order (assumption 41). -/
def Obligations.ClearFaultsClearsAndReleases : Prop :=
  (∀ (s : State) (n : Nat), s.slots.length = 16 → s.eng.faults.length = 11 → Memory.wf s.mem → Takes s n 1 →
    ∃ t, exec .clearFaults s = .next t ∧
      (∀ i, i < 11 → t.faultsOf i =
        ⟨(s.faultsOf i).overRange && atLimit (s.eng.chans.getD i noChannel).raw,
         (s.faultsOf i).openWire && decide ((s.eng.chans.getD i noChannel).raw < -1000),
         (s.faultsOf i).noPulse && s.drv.state == .run
           && !(s.eng.lastPd.any (fun pd => decide (0 < if i = 9 then pd.1 else pd.2)))⟩) ∧
      (∀ i, i < 11 →
        let c := s.eng.chans.getD i noChannel
        let released := (s.faultsOf i).openWire = true ∧ (t.faultsOf i).openWire = false
        (released → c.history ≠ [] →
          t.eng.chans.getD i noChannel = { c with filtered := roundDiv c.history.sum c.history.length }) ∧
        (¬ released → t.eng.chans.getD i noChannel = c)) ∧
      SlotDone t n .ok .none
        [flagWord ((List.range 11).map (fun i => (t.faultsOf i).overRange)),
         flagWord ((List.range 11).map (fun i => (t.faultsOf i).openWire)),
         flagWord ((List.range 11).map (fun i => (t.faultsOf i).noPulse))] ∧
      (s.drv.state ≠ .lockout → t.drv = s.drv) ∧
      (s.drv.state = .lockout → s.seq.state ≠ .spinup → s.seq.state ≠ .spindown → s.dtest = none →
        (s.level .estop = false ∧ (∃ l r, s.eng.lastPd = some (l, r) ∧ l < 2 ∧ r < 2) →
          t.drv = { s.drv with state := .off, dirL := .forward, dirR := .forward, lockCause := none }) ∧
        (¬ (s.level .estop = false ∧ (∃ l r, s.eng.lastPd = some (l, r) ∧ l < 2 ∧ r < 2)) → t.drv = s.drv)) ∧
      t.eng.cals = s.eng.cals ∧ t.eng.mode = s.eng.mode ∧ t.eng.inputs = s.eng.inputs) ∧
  (∀ (s : State) (n : Nat), s.slots.length = 16 → s.eng.faults.length = 11 → Memory.wf s.mem → Takes s n 1 →
    s.drv.state ≠ .lockout →
    let gone (i k : Nat) : Bool :=
      if k = 0 then (s.faultsOf i).overRange && !atLimit (s.eng.chans.getD i noChannel).raw
      else if k = 1 then (s.faultsOf i).openWire && decide (-1000 ≤ (s.eng.chans.getD i noChannel).raw)
      else (s.faultsOf i).noPulse && (s.drv.state != .run
        || s.eng.lastPd.any (fun pd => decide (0 < if i = 9 then pd.1 else pd.2)))
    ∃ t, exec .clearFaults s = .next t ∧
      t.jr.produced = s.jr.produced + 1
        + BitVec.ofNat 32 ((List.range 11).map (fun i => (List.range 3).countP (gone i))).sum ∧
      (∀ i, i < 11 → ∀ k, k < 3 → (∀ j, j < 11 → ∀ m, m < 3 → (gone j m = true ↔ j = i ∧ m = k)) → s.jr.blocks = false →
        Memory.readWords t.mem (entryBase s.jr.put.toNat) 8
          = entryWords (lowWord (s.jr.produced + 1)) evFaultCleared 0 s.jr.gap s.time (word i) (word k)))

/-- DISCARD_ATTEMPT: the refusals in their order, LIST_EMPTY with one more entry than its REQUEST_DONE (R57); a request that
passes removes the top attempt, the rest of the record and every other record stay, and the result area tells of what was
removed and what is left (R58). -/
def Obligations.DiscardRefusedOrTaken : Prop :=
  ∀ (s : State) (n : Nat), s.slots.length = 16 → Memory.wf s.mem → Takes s n 2 →
    let k := (s.param n 0).toNat
    let r := s.record (k - 1)
    (k = 0 ∨ 8 < k → ∃ t, exec .discardAttempt s = .next t ∧ CompletedAlone s t n 2 .badParam (.param 1) []) ∧
    (1 ≤ k → k ≤ 8 → s.tab.certified = true →
      ∃ t, exec .discardAttempt s = .next t ∧ CompletedAlone s t n 2 .refusedState .certified []) ∧
    (1 ≤ k → k ≤ 8 → s.tab.certified = false → s.kindActive .compose = true →
      ∃ t, exec .discardAttempt s = .next t ∧ CompletedAlone s t n 2 .refusedState .composeActive []) ∧
    (1 ≤ k → k ≤ 8 → s.tab.certified = false → s.kindActive .compose = false → r.status = .inTest → s.drv.state ≠ .off →
      ∃ t, exec .discardAttempt s = .next t ∧ CompletedAlone s t n 2 .refusedState .inTest []) ∧
    (1 ≤ k → k ≤ 8 → s.tab.certified = false → s.kindActive .compose = false →
      ¬ (r.status = .inTest ∧ s.drv.state ≠ .off) → r.attempts = [] →
      ∃ t, exec .discardAttempt s = .next t ∧ SlotDone t n .refusedState .listEmpty [] ∧
        t.jr.produced = s.jr.produced + 2 ∧ KeepsAllBut [.mem, .jr, .att, .slots] s t) ∧
    (∀ a, 1 ≤ k → k ≤ 8 → s.tab.certified = false → s.kindActive .compose = false →
      ¬ (r.status = .inTest ∧ s.drv.state ≠ .off) → r.attempts.getLast? = some a → k - 1 < s.tab.records.length →
      ∃ t, exec .discardAttempt s = .next t ∧
        t.tab = { s.tab with records := s.tab.records.set (k - 1) { r with attempts := r.attempts.dropLast } } ∧
        (t.record (k - 1)).top = (if 2 ≤ r.attempts.length then r.attempts[r.attempts.length - 2]? else none) ∧
        SlotDone t n .ok .none
          [bytePair (r.attempts.length - 1) r.overflow.toNat, bytePair (codeOfEnd a.reason) (codeOfRamp a.ramp),
           lowWord a.time, highWord a.time] ∧
        EntryMade s t evRequestDone 0 (bytePair n 2) (bytePair 0 0) ∧
        KeepsAllBut [.mem, .jr, .att, .slots, .tab, .seq, .disp] s t)

/-! ## Takings of the long kinds -/

/-- ZERO (R19): the checks in their order, each with its outcome, and the capture that begins when all pass. -/
def Obligations.ZeroRefusedOrTaken : Prop :=
  ∀ (s : State) (n : Nat), s.slots.length = 16 → Memory.wf s.mem → Takes s n 4 → s.kindActive .zero = false →
    let refusal : Option (ReqOutcome × Detail) :=
      if s.eng.mode = .failsafe then some (.refusedMode, .none)
      else if s.drv.state ≠ .off then some (.refusedState, .driveNotOff)
      else if s.kindActive .runPlan then some (.refusedState, .planActive)
      else if s.kindActive .driveTest then some (.refusedState, .testActive)
      else if s.kindActive .calibrate then some (.refusedState, .calibrateActive)
      else if 100 ≤ s.filtered 2 ∨ 100 ≤ s.filtered 3 then some (.refusedState, .vehiclePresent)
      else none
    ∃ t, exec .zero s = .next t ∧
      (∀ o d, refusal = some (o, d) → CompletedAlone s t n 4 o d []) ∧
      (refusal = none → t.eng = { s.eng with capture := some ⟨n, 0, [0, 0, 0, 0, 0]⟩ } ∧ BecameActive s t n .zero ∧
        KeepsAllBut [.mem, .slots, .eng] s t ∧ MemKept (slotByte n) s t)

/-- CALIBRATE (R16, R18): the checks in their order, each with its outcome; a request that passes is ACTIVE with its parameters
copied, and its write starts at once or waits for the port. That it waits for the power-on load's operation too is the model's
reading (assumption 39). -/
def Obligations.CalibrateRefusedOrTaken : Prop :=
  ∀ (s : State) (n : Nat), s.slots.length = 16 → Memory.wf s.mem → Takes s n 5 → s.kindActive .calibrate = false →
    let ch := (s.param n 0).toNat
    let zero := (s.param n 1).toInt
    let gain := (s.param n 2).toNat
    let refusal : Option (ReqOutcome × Detail) :=
      if s.eng.mode ≠ .service then some (.refusedMode, .none)
      else if 8 < ch then some (.badParam, .param 1)
      else if zero < -8192 ∨ 8191 < zero then some (.badParam, .param 2)
      else if gain = 0 then some (.badParam, .param 3)
      else if s.kindActive .zero then some (.refusedState, .zeroActive)
      else if s.kindActive .compose then some (.refusedState, .composeActive)
      else none
    let write : NvOp := .calWrite ch (s.param n 1) (s.param n 2)
    ∃ t, exec .calibrate s = .next t ∧
      (∀ o d, refusal = some (o, d) → CompletedAlone s t n 5 o d []) ∧
      (refusal = none → t.eng = { s.eng with calib := some ⟨n, ch, zero, gain, false⟩ } ∧ BecameActive s t n .calibrate ∧
        t.nv = (if s.nv.op = none then { s.nv with op := some write, started := s.clk.ms }
          else { s.nv with waiting := some write }) ∧
        KeepsAllBut [.mem, .slots, .eng, .nv] s t ∧ MemKept (slotByte n) s t)

/-- RUN_PLAN (R128, R127): the checks in their order, each with its outcome; a refused plan leaves the axle table as it is. None is taken
before the calibration load has ended (R149), with the outcome of the lane mode by the model's reading (assumption 40). The first
field out of range is the first of the general fields, and after them of the axles' fields in axle order, that lies outside the
range section 7.1 gives it; fields 4 and 5 of an axle are checked for an AIR axle with a pressure channel. -/
def Obligations.RunPlanRefusedInOrder : Prop :=
  (∀ (s : State) (n : Nat), s.slots.length = 16 → Memory.wf s.mem → Takes s n 6 → s.kindActive .runPlan = false →
    let refusal : Option (ReqOutcome × Detail) :=
      if s.eng.mode ≠ .normal ∨ s.eng.loading = true then some (.refusedMode, .none)
      else if s.kindActive .driveTest then some (.refusedState, .testActive)
      else if s.kindActive .zero then some (.refusedState, .zeroActive)
      else if s.kindActive .calibrate then some (.refusedState, .calibrateActive)
      else if s.kindActive .compose then some (.refusedState, .composeActive)
      else (readPlan s.mem).firstBad.map (fun f => (.badParam, .param f))
    ∀ o d, refusal = some (o, d) → ∃ t, exec .runPlan s = .next t ∧ CompletedAlone s t n 6 o d []) ∧
  (∀ m : Memory,
    let p := readPlan m
    let text := p.vehicle.takeWhile (fun b => b != 0)
    let general : List Bool :=
      [decide (text ≠ [] ∧ ∀ b ∈ text, 32 ≤ b.toNat ∧ b.toNat ≤ 126), decide (p.limitsRow.toNat ≤ 15),
       decide (1 ≤ p.axleCount.toNat ∧ p.axleCount.toNat ≤ 8), true,
       decide (p.slipLimit = 0 ∨ 10 ≤ p.slipLimit.toNat ∧ p.slipLimit.toNat ≤ 40),
       decide (5000 ≤ p.startWindow.toNat ∧ p.startWindow.toNat ≤ 60000),
       decide (500 ≤ p.closeWindow.toNat ∧ p.closeWindow.toNat ≤ 5000),
       decide (2000 ≤ p.openWindow.toNat ∧ p.openWindow.toNat ≤ 20000 ∧ p.closeWindow.toNat < p.openWindow.toNat),
       decide (1000 ≤ p.holdTime.toNat ∧ p.holdTime.toNat ≤ 5000),
       decide (1 ≤ p.maxViolations.toNat ∧ p.maxViolations.toNat ≤ 7)]
    let axle (a : PlanAxle) : List Bool :=
      let used := a.kind = 1 ∧ 1 ≤ a.channel.toNat ∧ a.channel.toNat ≤ 4
      [decide (a.tests.toNat ≤ 31), decide (a.kind.toNat ≤ 1), decide (a.channel.toNat ≤ 4),
       decide (used → a.p0.toNat ≤ 200),
       decide (used → 100 ≤ a.pref.toNat ∧ a.pref.toNat ≤ 1200 ∧ a.p0.toNat + 100 ≤ a.pref.toNat),
       decide (a.coupling.toNat ≤ 1), decide (a.mark.toNat ≤ 8000)]
    (∀ k, general.findIdx? (fun b => !b) = some k → p.firstBad = some (k + 1)) ∧
    (general.findIdx? (fun b => !b) = none →
      let fields := (p.axles.take p.axleCount.toNat).flatMap axle
      (∀ k, fields.findIdx? (fun b => !b) = some k → p.firstBad = some (16 * (k / 7 + 1) + (k % 7 + 1))) ∧
      (fields.findIdx? (fun b => !b) = none → p.firstBad = none)))

/-- A RUN_PLAN that passes every check opens the axle table, advances the run identifier, clears the sequencer's own state and
enters APPROACH with its SEQ_STATE entry (R49, R64, R129). That this entry carries axle number 1 is the model's reading (assumption
14). -/
def Obligations.RunPlanOpensTheTable : Prop :=
  ∀ (s : State) (n : Nat), s.slots.length = 16 → Memory.wf s.mem → Takes s n 6 → s.kindActive .runPlan = false →
    s.eng.mode = .normal → s.eng.loading = false → s.kindActive .driveTest = false → s.kindActive .zero = false →
    s.kindActive .calibrate = false → s.kindActive .compose = false → (readPlan s.mem).firstBad = none →
    isPlanState s.seq.state = false →
    let p := readPlan s.mem
    ∃ t, exec .runPlan s = .next t ∧
      t.tab.plan = p ∧ t.tab.limits = readLimits s.mem p.limitsRow.toNat ∧ t.tab.axleCount = p.axleCount.toNat ∧
      t.tab.runId = (if 65535 ≤ s.tab.runId then 1 else s.tab.runId + 1) ∧ t.tab.certified = false ∧
      t.tab.cursor = 0 ∧ t.tab.plateCount = 0 ∧
      (∀ k, k < 8 → t.record k = AxleRecord.cleared (if k < p.axleCount.toNat then .pending else .empty)) ∧
      t.seq = ⟨.approach, List.replicate 8 false, .none, false, none, .result⟩ ∧
      BecameActive s t n .runPlan ∧
      EntryMade s t evSeqState 1 (word (codeOfSeq .approach)) (word (codeOfSeq s.seq.state)) ∧
      KeepsAllBut [.mem, .jr, .att, .slots, .tab, .seq, .disp] s t

/-- DRIVE_TEST (R42, R33): the checks in their order, each with its outcome; a refused start changes no drive state. -/
def Obligations.DriveTestRefusedInOrder : Prop :=
  ∀ (s : State) (n : Nat), s.slots.length = 16 → Memory.wf s.mem → Takes s n 7 → s.kindActive .driveTest = false →
    ∀ duration dir slip : Nat, (s.param n 0).toNat = duration → (s.param n 1).toNat = dir → (s.param n 2).toNat = slip →
    let refusal : Option (ReqOutcome × Detail) :=
      if s.kindActive .runPlan then some (.refusedState, .planActive)
      else if s.kindActive .zero then some (.refusedState, .zeroActive)
      else if !inRange 1000 60000 duration then some (.badParam, .param 1)
      else if 1 < dir then some (.badParam, .param 2)
      else if !(slip == 0 || inRange 10 40 slip) then some (.badParam, .param 3)
      else if s.drv.state = .lockout then some (.refusedState, .lockedOut)
      else if s.drv.state ≠ .off then some (.refusedState, .notOff)
      else if s.eng.mode ≠ .normal then some (.refusedMode, .mode)
      else if s.level .estop then some (.refusedState, .estop)
      else if s.level .presence then some (.refusedState, .presence)
      else if !s.seat.seated then some (.refusedState, .notSeated)
      else none
    ∀ o d, refusal = some (o, d) → ∃ t, exec .driveTest s = .next t ∧ CompletedAlone s t n 7 o d []

/-- A start that passes all checks (R34), here the DRIVE_TEST's: owner and slip limit recorded, directions by the direction mode,
both motors energised, the counts 0, SPINUP with its entry (R41); the stop reason of the previous stop stays. A refresh timer that runs
with another period is reloaded with 200 ms, without a frame, and one that is stopped, as before the first sample, stays so (R157, R162;
that no reload happens where the period is 200 ms already is the model's reading, assumption 29). -/
def Obligations.DriveTestStartsASpin : Prop :=
  ∀ (s : State) (n : Nat), s.slots.length = 16 → Memory.wf s.mem → Takes s n 7 → s.kindActive .driveTest = false →
    s.kindActive .runPlan = false → s.kindActive .zero = false →
    s.drv.state = .off → s.eng.mode = .normal → s.level .estop = false → s.level .presence = false →
    s.seat.seated = true →
    let duration := (s.param n 0).toNat
    let dir := (s.param n 1).toNat
    let slip := (s.param n 2).toNat
    1000 ≤ duration → duration ≤ 60000 → dir ≤ 1 → slip = 0 ∨ 10 ≤ slip ∧ slip ≤ 40 →
    ∃ t, exec .driveTest s = .next t ∧
      t.drv = { s.drv with
        state := .spinup, energised := true, dirL := .forward, dirR := if dir = 1 then .reverse else .forward,
        owner := some .driveTest, slipLimit := if slip = 0 then 30 else slip,
        spinupCount := 0, overL := 0, overR := 0, lowL := 0, lowR := 0 } ∧
      t.dtest = some ⟨n, duration, none, none⟩ ∧ BecameActive s t n .driveTest ∧
      EntryMade s t evDriveState 0 (word 1) (bytePair 1 dir) ∧
      t.disp = (if s.disp.refresh = none ∨ s.disp.period = 200 then s.disp
        else { s.disp with refresh := some (s.clk.ms + 200), period := 200 }) ∧
      KeepsAllBut [.mem, .jr, .att, .slots, .drv, .dtest, .disp] s t

/-- COMPOSE (R175): the checks that follow the state read, in their order, each with its outcome, stated for state words that
read as the records stand, so that the state read changes nothing; a request that passes is ACTIVE, its record COMPOSING and
clear, and the counter read starts at once or waits for the port, for the power-on load's operation too by the model's reading
(assumption 39). The state read (R173), stated for every outcome: a record ISSUED whose word reads ARCHIVED becomes ARCHIVED, and every
other word takes the composer's own state again. -/
def Obligations.ComposeRefusedOrTaken : Prop :=
  (∀ (s : State) (n : Nat), s.slots.length = 16 → s.comp.records.length = 4 → Memory.wf s.mem → Takes s n 8 →
    s.kindActive .compose = false → (∀ k, k < 4 → Memory.readWord s.mem (certBase k) = (s.cert k).stateWord) →
    let t := (s.param n 0).toNat
    let free (k : Nat) : Bool := ((s.cert k).state == .empty || (s.cert k).state == .archived) && !s.jobNames k
    let target : Option Nat := if t = 0xFFFF then (List.range 4).find? free
      else if (s.cert t).state ≠ .issued ∧ s.jobNames t = false then some t else none
    let refusal : Option (ReqOutcome × Detail) :=
      if s.eng.mode ≠ .normal then some (.refusedMode, .none)
      else if 3 < t ∧ t ≠ 0xFFFF then some (.badParam, .param 1)
      else if s.seq.state = .idle then some (.refusedState, .noPlan)
      else if s.seq.state ≠ .complete ∧ s.seq.state ≠ .aborted then some (.refusedState, .planActive)
      else if s.tab.certified then some (.refusedState, .certified)
      else if s.kindActive .calibrate then some (.refusedState, .calibrateActive)
      else if target = none then
        some (.refusedBusy, if t = 0xFFFF then .noRecord else if (s.cert t).state = .issued then .issued else .job)
      else none
    ∃ u, exec .compose s = .next u ∧
      (∀ o d, refusal = some (o, d) → CompletedAlone s u n 8 o d []) ∧
      (∀ k, refusal = none → target = some k →
        u.cert k = CertRecord.cleared .composing ∧ (∀ j, j ≠ k → u.cert j = s.cert j) ∧
        u.comp.op = some ⟨n, k, .reading, false, false⟩ ∧ BecameActive s u n .compose ∧
        u.nv = (if s.nv.op = none then { s.nv with op := some .counterRead, started := s.clk.ms }
          else { s.nv with waiting := some .counterRead }) ∧
        KeepsAllBut [.mem, .slots, .comp, .nv] s u ∧ MemKept (fun a => slotByte n a ∨ certByte k a) s u)) ∧
  (∀ (s : State) (n : Nat), s.slots.length = 16 → s.comp.records.length = 4 → Memory.wf s.mem → Takes s n 8 →
    s.kindActive .compose = false → ∃ u, exec .compose s = .next u ∧ ∀ k, k < 4 →
      Memory.readWord u.mem (certBase k) = (u.cert k).stateWord ∧
      ((u.held n = .active .compose → u.comp.op.map (·.target) ≠ some k) →
        u.cert k = (if (s.cert k).state = .issued ∧ Memory.readWord s.mem (certBase k) = 3
          then { s.cert k with state := .archived } else s.cert k)))

/-- PRINT (R181, R182): the checks that follow the state read, in their order, stated as for COMPOSE; a request that passes adds
a QUEUED job of its class to the end of the list, which stays queued while the link is not READY and is selected at once when it is
READY with no other job: PRINTING, with its line 1 on the line under a new sequence value (R183, R185). The state read (R173) is stated for every outcome. -/
def Obligations.PrintRefusedOrQueued : Prop :=
  (∀ (s : State) (n : Nat), s.slots.length = 16 → Memory.wf s.mem → Takes s n 9 →
    (∀ k, k < 4 → Memory.readWord s.mem (certBase k) = (s.cert k).stateWord) →
    let k := (s.param n 0).toNat
    let flag := (s.param n 1).toNat
    let refusal : Option (ReqOutcome × Detail) :=
      if 3 < k then some (.badParam, .param 1)
      else if 1 < flag then some (.badParam, .param 2)
      else if (s.cert k).state = .empty then some (.refusedState, .empty)
      else if (s.cert k).state = .composing then some (.refusedState, .composing)
      else if 8 ≤ s.prn.jobs.length then some (.refusedBusy, .spoolFull)
      else none
    ∃ t, exec .print s = .next t ∧
      (∀ o d, refusal = some (o, d) → CompletedAlone s t n 9 o d []) ∧
      (refusal = none → s.prn.link ≠ .ready →
        t.prn = { s.prn with jobs := s.prn.jobs ++
          [⟨n, k, if (s.cert k).printCount = 0 ∧ ∀ j ∈ s.prn.jobs, j.record ≠ k then .original else .copy,
            flag == 1, .queued, false, 0⟩] } ∧
        BecameActive s t n .print ∧ KeepsAllBut [.mem, .slots, .prn] s t ∧ MemKept (slotByte n) s t) ∧
      (refusal = none → s.prn.link = .ready → s.prn.jobs = [] →
        let cls : JobClass := if (s.cert k).printCount = 0 then .original else .copy
        t.prn.jobs = [⟨n, k, cls, flag == 1, .printing, false, 0⟩] ∧ LineSent s t ((s.cert k).text cls 1) ∧
        t.prn.cancelLine = false ∧ BecameActive s t n .print ∧
        EntryMade s t evPrintState 0 (bytePair k 1) 0 ∧
        KeepsAllBut [.mem, .jr, .att, .slots, .prn] s t)) ∧
  (∀ (s : State) (n : Nat), s.slots.length = 16 → s.comp.records.length = 4 → Memory.wf s.mem → Takes s n 9 →
    ∃ t, exec .print s = .next t ∧ ∀ k, k < 4 →
      Memory.readWord t.mem (certBase k) = (t.cert k).stateWord ∧
      t.cert k = (if (s.cert k).state = .issued ∧ Memory.readWord s.mem (certBase k) = 3
        then { s.cert k with state := .archived } else s.cert k))

/-! ## Lane reset -/

/-- LANE_RESET in every block: the slots complete RESET without an entry, the journal and the attention bits start again with their
mode and mask kept (R210), and every other block takes its state of R24, R31, R45, R67, R93, R126, R150, R163, R180, R193. That the gap
count starts again at 0, which R210 does not list, is the model's choice (assumption 60), and so is that a ZERO whose 200 samples have
been taken and whose ZERO_CAPTURE_END has not is discarded, its zeros kept, and that a slip window whose ten samples have been taken and
whose SLIP_WINDOW_END has not hands over nothing (assumption 65), and that the lane mode in force is kept also late in the power-on load,
where a derivation would give another (assumptions 36 and 68). -/
def Obligations.LaneResetRestartsEveryBlock : Prop :=
  ∀ s : State, s.slots.length = 16 → s.comp.records.length = 4 → (∀ c, s.comp.op = some c → c.target < 4) → Memory.wf s.mem →
    ∃ t, exec .laneReset s = .next t ∧
    (∀ n, t.held n = .free) ∧
    (∀ n, n < 16 → s.held n ≠ .free → SlotDone t n .reset .none []) ∧
    t.jr = ⟨s.jr.mode, 0, 0, 0, 0, 0, 0, 0, none⟩ ∧ t.att = ⟨0, s.att.mask, false⟩ ∧ t.gauge = ⟨0, 0, 0⟩ ∧
    t.time = s.time ∧ t.cause = .laneReset ∧
    t.eng = { s.eng with
      chans := s.eng.chans.map (fun c => { c with history := [] }), faults := List.replicate 11 noFaults
      windowSamples := 0, pulses := ⟨0, 0, 0, 0⟩, slipL := none, slipR := none, lastPd := none
      noPulseL := 0, noPulseR := 0, capture := none, calib := none } ∧
    t.seat = ⟨false, 0, none, none, .empty, false, .atSample⟩ ∧
    t.drv = { s.drv with
      state := .stopping, energised := false, owner := none, stopReason := some .laneReset, lockCause := none
      estopSeen := s.level .estop, restCount := 0, stopCount := 0 } ∧
    t.dtest = none ∧ t.tab = AxleTable.emptied s.tab.runId ∧ t.weigh = none ∧ t.run = RunUnit.cleared ∧
    t.plate = ⟨.idle, 0, false, 0, s.plate.length⟩ ∧ t.seq = Sequencer.cleared .idle ∧
    t.nv.store = s.nv.store ∧ t.nv.waiting = none ∧
    (∀ v, s.nv.op = some (.counterWrite v) → t.nv.op = some (.brokenCounter v)) ∧
    (∀ ch z g, s.nv.op = some (.calWrite ch z g) → t.nv.op = some (.brokenCal ch z g)) ∧
    (s.nv.op = some .counterRead → t.nv.op = none) ∧ (∀ k, s.nv.op = some (.loadWord k) → t.nv.op = s.nv.op) ∧
    t.comp.op = none ∧ t.comp.lastIssued = s.comp.lastIssued ∧
    (∀ c, s.comp.op = some c → t.cert c.target = CertRecord.cleared .empty) ∧
    (∀ k, (∀ c, s.comp.op = some c → k ≠ c.target) → t.cert k = s.cert k) ∧
    t.prn = ⟨[], .offline, some (.poll (printerFrame 0 [])), false, [], 0, 0, 0, none, false,
      some (s.clk.ms + 2000), none⟩ ∧
    t.disp.repeatMark = none ∧ t.disp.refresh = some (s.clk.ms + 1000) ∧
    (s.disp.sending = none → t.disp.waiting = none ∧ ∃ f, t.disp.sending = some f ∧ t.disp.lastMessage = f.message ∧
      f.message = if s.eng.mode = .failsafe ∧ s.eng.loading = false then 16 else 19) ∧
    (∀ f, s.disp.sending = some f → t.disp.sending = some f ∧ t.disp.lastMessage = s.disp.lastMessage ∧
      ∃ g, t.disp.waiting = some g ∧ g.message = if s.eng.mode = .failsafe ∧ s.eng.loading = false then 16 else 19) ∧
    KeepsAllBut [.mem, .slots, .jr, .att, .gauge, .cause, .eng, .seat, .drv, .dtest, .tab, .weigh, .run, .plate, .seq, .nv,
      .comp, .prn, .disp] s t ∧
    MemKept (fun a => headerByte a ∨ tableByte a ∨ (∃ k, k < 4 ∧ certByte k a) ∨
      ∃ n, n < 16 ∧ s.held n ≠ .free ∧ slotByte n a) s t

/-! ## The sample engine -/

/-- One analog sample of a state in which no step is due (assumption 5): the sample number, the nine channels by R2, R3, R4 and
R11, the fault flags by R9 to R11, the pulses of the window in progress by R7, and the debouncing of the inputs by R5; a tracker that
is to start opens its record from the beams of this sample (R27, R31; assumption 52), with load seen no also where a load stands on
the rollers at this sample (assumption 10). A side load below 100 kg makes a seated axle
UNSEATED, with its entry; the last beam seen decides the exit at once, or the exit window opens (R26, R29, R30), a weighing and a spin
end, and the sequencer leaves WEIGH (R38, R63, R133) and REVIEW (R139). The beams are stated for a sample at which none settles, the
reason of the stop for a sample at which no stronger cause settles. The rest of the sample's work: the qualifying count (R25), on the beam
levels with the changes that settle at this sample in them, by the model's reading (assumption 9), a FAULT_SET
entry for each flag set, with ATTN.FAULT (R9, the one flag's entry shown word by word; that it comes before the other entries of its
sample is the model's order, assumption 6), the sums of a ZERO capture and its end FAILED /
VEHICLE_PRESENT (R20, R21), and the loads a weighing gathers (R60, R61). That all pulses since the sample before count in the window in
progress, also where a lane reset or the end of the load lies between, is the model's choice (assumption 62). -/
def Obligations.SampleConvertsAndDebounces : Prop :=
  (∀ (inp : SampleInput) (s : State), s.quiet = true → s.eng.started = true → s.eng.loading = false →
    s.eng.inputs.length = 11 → s.eng.faults.length = 11 →
    ∃ t, exec (.sample inp) s = .next t ∧
      t.clk = ⟨s.clk.sampleNo + 1, s.clk.ms⟩ ∧ t.time = s.time ∧ t.eng.cals = s.eng.cals ∧ t.eng.mode = s.eng.mode ∧
      (∀ k, k < 9 →
        let c := s.eng.chans.getD k noChannel
        let cal := s.eng.cals.getD k noCal
        let raw := (rawList inp.raws).getD k 0
        let v := roundDiv ((raw - cal.zero) * cal.gain) 4096
        let negated := k = 0 ∧ s.drv.dirL = .reverse ∨ k = 1 ∧ s.drv.dirR = .reverse
        let scaled := clamp (channelRange k).1 (channelRange k).2 (if negated then -v else v)
        let cut := 4 ≤ k ∧ k ≤ 7 ∧ raw < -1000
        let h := (c.history ++ [scaled]).drop (c.history.length - 3)
        t.eng.chans.getD k noChannel =
          (if cut then ⟨raw, c.history, c.filtered⟩
          else ⟨raw, h, if (s.faultsOf k).openWire then c.filtered else roundDiv h.sum h.length⟩) ∧
        t.faultsOf k =
          ⟨(s.faultsOf k).overRange || decide (raw = -32768 ∨ raw = 32767), (s.faultsOf k).openWire || decide cut,
            (s.faultsOf k).noPulse⟩) ∧
      t.eng.windowSamples = s.eng.windowSamples + 1 ∧
      t.eng.pulses = ⟨s.eng.pulses.spdL + inp.pulses.spdL, s.eng.pulses.spdR + inp.pulses.spdR,
        s.eng.pulses.slpL + inp.pulses.slpL, s.eng.pulses.slpR + inp.pulses.slpR⟩ ∧
      t.gauge.samples = s.gauge.samples + 1 ∧
      (∀ i, s.seat.seated = false ∧ s.seat.restart = .none ∨ (i ≠ .beamR ∧ i ≠ .beamF) →
        t.input i = ⟨s.level i,
          if (levelList inp.levels).getD (inputIndex i) false = s.level i then 0 else (s.input i).count + 1⟩) ∧
      (s.seat.seated = false → s.seat.restart ≠ .none →
        t.seat.active = true ∧ t.seat.exitWindow = none ∧ t.seat.restart = .none ∧
        t.seat.record = (if t.level .beamR = t.level .beamF then .empty
          else if t.level .beamR then .rearOpen false false else .frontOpen false))) ∧
  (∀ (inp : SampleInput) (s : State), s.quiet = true → s.eng.started = true → s.eng.loading = false →
    s.eng.inputs.length = 11 → s.eng.faults.length = 11 → s.seat.seated = true → s.seat.active = false →
    s.seat.restart = .none → s.seat.exitWindow = none → s.eng.capture = none → s.run.phase = .idle → Memory.wf s.mem →
    (∀ i, i = .beamR ∨ i = .beamF ∨ i = .estop ∨ i = .presence ∨ i = .key →
      (levelList inp.levels).getD (inputIndex i) false = s.level i ∨ (s.input i).count < 4) →
    ∃ t, exec (.sample inp) s = .next t ∧
      (100 ≤ t.filtered 2 → 100 ≤ t.filtered 3 → t.seat = s.seat ∧ t.drv = s.drv ∧ t.seq = s.seq) ∧
      (t.filtered 2 < 100 ∨ t.filtered 3 < 100 →
        t.weigh = none ∧
        (s.seat.lastBeam = none → t.seat = { s.seat with seated := false, qualify := 0, exitWindow := some 0 }) ∧
        (s.seat.lastBeam = some .front → t.seat = { s.seat with
          seated := false, qualify := 0, lastBeam := none, exitWindow := none, active := true
          record := if s.level .beamR then .rearOpen false false else .empty }) ∧
        (s.seat.lastBeam = some .rear → t.seat = { s.seat with
          seated := false, qualify := 0, lastBeam := none, exitWindow := none, active := true
          record := if s.level .beamF then .frontOpen false else .empty }) ∧
        (isSpinning s.drv.state = true → Stopped s t .unseat ∧
          (s.drv.owner = some .sequencer → s.seq.state = .spinup → t.seq.state = .spindown)) ∧
        (isSpinning s.drv.state = false → s.seq.state ≠ .spinup → t.drv = s.drv) ∧
        (s.seq.state = .weigh ∨ s.seq.state = .review → isSpinning s.drv.state = false → s.seat.lastBeam = none →
          s.seq.heldExit = .none → t.seq.state = .exitWait ∧ t.tab = s.tab) ∧
        (t.eng.faults = s.eng.faults → isPlanState s.seq.state = false → isSpinning s.drv.state = false →
          (s.jr.blocks = false → Memory.readWords t.mem (entryBase s.jr.put.toNat) 8
            = entryWords (lowWord (s.jr.produced + 1)) evUnseated s.planAxleNumber s.jr.gap s.time
              (signedWord (t.filtered 2)) (signedWord (t.filtered 3))) ∧
          t.jr.produced = s.jr.produced + if s.seat.lastBeam = none then 1 else 2))) ∧
  (∀ (inp : SampleInput) (s : State), s.quiet = true → s.eng.started = true → s.eng.loading = false →
    s.eng.inputs.length = 11 → s.eng.faults.length = 11 → s.slots.length = 16 → Memory.wf s.mem →
    ∃ t, exec (.sample inp) s = .next t ∧
      let l := t.filtered 2
      let r := t.filtered 3
      let raw (k : Nat) : Int := (rawList inp.raws).getD k 0
      let newFlag (k m : Nat) : Bool :=
        if m = 0 then !(s.faultsOf k).overRange && decide (raw k = -32768 ∨ raw k = 32767)
        else !(s.faultsOf k).openWire && decide (4 ≤ k ∧ k ≤ 7 ∧ raw k < -1000)
      let side (w : WeighSide) (v : Int) (k : Nat) : WeighSide :=
        ⟨w.sum + v, max w.greatest v, min w.least v, w.overRange || (t.faultsOf k).overRange⟩
      (s.seat.seated = false → t.seat.qualify =
        if 150 ≤ l ∧ 150 ≤ r ∧ t.levelNow .beamR = false ∧ t.levelNow .beamF = false then s.seat.qualify + 1 else 0) ∧
      ((∃ k, k < 9 ∧ ∃ m, m < 2 ∧ newFlag k m = true) → t.att.bits.getLsbD 4 = true) ∧
      (s.seat.seated = false → s.eng.capture = none → s.run.phase = .idle → t.jr.produced = s.jr.produced
        + BitVec.ofNat 32 ((List.range 9).map (fun k => (List.range 2).countP (newFlag k))).sum) ∧
      (s.jr.blocks = false → ∀ k, k < 9 → ∀ m, m < 2 →
        (∀ j, j < 9 → ∀ i, i < 2 → (newFlag j i = true ↔ j = k ∧ i = m)) →
        Memory.readWords t.mem (entryBase s.jr.put.toNat) 8
          = entryWords (lowWord (s.jr.produced + 1)) evFaultSet 0 s.jr.gap s.time (word k) (word m)) ∧
      (∀ c, s.eng.capture = some c → 150 ≤ l ∨ 150 ≤ r → c.slot < 16 →
        t.eng.capture = none ∧ SlotDone t c.slot .failed .vehiclePresent []) ∧
      (∀ c, s.eng.capture = some c → l < 150 → r < 150 → ∀ a b d e f, c.sums = [a, b, d, e, f] →
        t.eng.capture = some ⟨c.slot, c.count + 1, [a + inp.raws.tqL.toInt, b + inp.raws.tqR.toInt, d + inp.raws.ldL.toInt,
          e + inp.raws.ldR.toInt, f + inp.raws.ss.toInt]⟩) ∧
      (∀ w, s.weigh = some w → (s.seat.seated = true → 100 ≤ l ∧ 100 ≤ r) → t.weigh = some
        (if w.count < 200 then { w with count := w.count + 1 }
        else if w.gathering then { w with count := w.count + 1, left := side w.left l 2, right := side w.right r 3 }
        else { w with
          count := w.count + 1, gathering := true, left := ⟨l, l, l, (t.faultsOf 2).overRange⟩
          right := ⟨r, r, r, (t.faultsOf 3).overRange⟩ })))

/-- Before the calibration load has ended a sample reads the discrete inputs alone (R1), and the first sample after power-on makes
the raw levels the debounced levels (R5), locks the drive out on an ACTIVE ESTOP (R45; from STOPPING after a lane reset too, by the
model's reading, assumption 23), sends the first poll (R193) and the first display frame (R162). That it sends no poll where a lane reset
before it has sent one is the model's choice (assumption 49). Stated for a state in which no step is due (assumption 5). -/
def Obligations.SampleBeforeTheLoadEnds : Prop :=
  ∀ (inp : SampleInput) (s : State), s.quiet = true → s.eng.loading = true → s.eng.inputs.length = 11 →
    ∃ t, exec (.sample inp) s = .next t ∧ t.clk = ⟨s.clk.sampleNo + 1, s.clk.ms⟩ ∧
      t.eng.chans = s.eng.chans ∧ t.eng.faults = s.eng.faults ∧ t.eng.windowSamples = s.eng.windowSamples ∧
      t.gauge.samples = s.gauge.samples ∧ t.eng.cals = s.eng.cals ∧ t.eng.started = true ∧
      (s.eng.started = true → t.drv = s.drv ∧ t.disp = s.disp ∧ t.prn = s.prn ∧
        ∀ i, s.seat.seated = true ∨ s.seat.restart ≠ .atSample ∨ (i ≠ .beamR ∧ i ≠ .beamF) → t.input i = ⟨s.level i,
          if (levelList inp.levels).getD (inputIndex i) false = s.level i then 0 else (s.input i).count + 1⟩) ∧
      (s.eng.started = false →
        (∀ i, t.input i = ⟨(levelList inp.levels).getD (inputIndex i) false, 0⟩) ∧
        (inp.levels.estop = false → t.drv = s.drv) ∧
        (inp.levels.estop = true → t.drv = { s.drv with state := .lockout, lockCause := some .estop }) ∧
        (inp.levels.estop = true → s.dtest = none → t.jr.produced = s.jr.produced + 1) ∧
        (s.prn.link = .offline → s.prn.pollTimer = none →
          t.prn = { s.prn with
            wire := some (.poll (printerFrame s.prn.sequence [])), pollTimer := some (s.clk.ms + 2000) }) ∧
        (s.prn.link ≠ .offline ∨ s.prn.pollTimer ≠ none → t.prn = s.prn) ∧
        (s.disp.sending = none → t.disp.sending.isSome = true) ∧ t.disp.refresh.isSome = true)

/-- A settled change of an input (R5, R6): its debounced level takes the raw level and its change count is 0, and every other input keeps
its level and count, except the partner where two beams away from SEATED, or two plate switches, settle ACTIVE at one sample: the two are
taken together, by the model's reading (assumption 7). A key released and a plate switch without a
running plan do no more, a key pressed makes its KEY entry and is ignored where the sequencer has no use for it (R141): OK and RETRY
outside REVIEW, SKIP outside the states from WEIGH to REVIEW, PAUSE outside these and PAUSED. The keys that
act: OK and RETRY in REVIEW (R138, R139), RETRY with the runs and the start of R134 and R34, PAUSE and SKIP in the states from WEIGH to
REVIEW (R86, R142, R144), and PAUSE in PAUSED (R143). -/
def Obligations.SettledChangeOfAnInput : Prop :=
  (∀ (i : Input) (s : State), s.eng.inputs.length = 11 → s.settles i = true →
    let partner (j : Input) : Prop := s.settlesOn i = true ∧ s.settlesOn j = true ∧
      ((i = .plateIn ∨ i = .plateOut) ∧ (j = .plateIn ∨ j = .plateOut) ∨
        (i = .beamR ∨ i = .beamF) ∧ (j = .beamR ∨ j = .beamF) ∧ s.seat.seated = false)
    ∃ t, exec (.settledChange i) s = .next t ∧ t.input i = ⟨!s.level i, 0⟩ ∧
      ∀ j, j ≠ i → (partner j → t.input j = ⟨!s.level j, 0⟩) ∧ (¬ partner j → t.input j = s.input j)) ∧
  (∀ (i : Input) (s : State), s.eng.inputs.length = 11 → s.settles i = true →
    ((i = .ok ∨ i = .retry ∨ i = .skip ∨ i = .pause) ∧ s.level i = true) ∨
      ((i = .plateIn ∨ i = .plateOut) ∧ s.planRuns = false) →
    ∃ t, exec (.settledChange i) s = .next t ∧ KeepsAllBut [.eng] s t) ∧
  (∀ (i : Input) (s : State), s.eng.inputs.length = 11 → Memory.wf s.mem → s.settles i = true →
    i = .ok ∨ i = .retry ∨ i = .skip ∨ i = .pause → s.level i = false →
    s.seq.state = .idle ∨ s.seq.state = .approach ∨ s.seq.state = .exitWait ∨ s.seq.state = .complete
      ∨ s.seq.state = .aborted ∨ s.seq.state = .paused ∧ i ≠ .pause
      ∨ isWorkState s.seq.state = true ∧ s.seq.state ≠ .review ∧ (i = .ok ∨ i = .retry) →
    ∃ t, exec (.settledChange i) s = .next t ∧ EntryMade s t evKey s.planAxleNumber (word (inputIndex i)) 1 ∧
      KeepsAllBut [.eng, .mem, .jr, .att] s t) ∧
  (∀ s : State, s.eng.inputs.length = 11 → s.settles .ok = true → s.level .ok = false → s.seq.state = .review →
    s.seat.seated = true ∨ s.seq.heldExit = .none →
    ∃ t, exec (.settledChange .ok) s = .next t ∧ t.seq = { s.seq with state := .exitWait } ∧
      t.jr.produced = s.jr.produced + 2 ∧ KeepsAllBut [.eng, .seq, .disp, .mem, .jr, .att] s t) ∧
  (∀ s : State, s.eng.inputs.length = 11 → Memory.wf s.mem → s.settles .retry = true → s.level .retry = false →
    s.seq.state = .review →
    let a := s.planAxle s.tab.cursor
    let brakes : Prop := a.tests.getLsbD 1 = true ∨ a.tests.getLsbD 2 = true
    let taken : Prop := brakes ∧ (s.record s.tab.cursor).violations < s.tab.plan.maxViolations.toNat
      ∨ ¬ brakes ∧ a.tests.getLsbD 3 = true
    ∃ t, exec (.settledChange .retry) s = .next t ∧
      (¬ taken → EntryMade s t evKey s.planAxleNumber 8 1 ∧ KeepsAllBut [.eng, .mem, .jr, .att] s t) ∧
      (taken → s.run.phase = .idle →
        t.seq.state = .spinup ∧ t.run.phase = .armed ∧ t.run.axle = s.tab.cursor ∧ t.tab = s.tab ∧
        t.run.runs = ⟨a.tests.getLsbD 1, a.tests.getLsbD 2, a.tests.getLsbD 3⟩ ∧
        (s.drv.state = .stopping → t.drv = s.drv ∧ t.seq.refusal = some .notOff) ∧
        (s.drv.state = .off → s.eng.mode = .normal → s.level .estop = false → s.level .presence = false →
          s.seat.seated = true → t.seq.refusal = none ∧
          t.drv.state = .spinup ∧ t.drv.energised = true ∧ t.drv.owner = some .sequencer ∧
          t.drv.dirR = (if a.coupling = 1 then .reverse else .forward) ∧
          t.drv.slipLimit = (if s.tab.plan.slipLimit = 0 then 30 else s.tab.plan.slipLimit.toNat)))) ∧
  (∀ (i : Input) (s : State), s.eng.inputs.length = 11 → i = .pause ∨ i = .skip → s.settles i = true → s.level i = false →
    isWorkState s.seq.state = true → s.seat.seated = true ∨ s.seq.heldExit = .none → s.run.axle < s.tab.records.length →
    s.tab.cursor < s.tab.records.length →
    ∃ t, exec (.settledChange i) s = .next t ∧ t.run = (if s.run.phase = .idle then s.run else RunUnit.cleared) ∧
      t.weigh = none ∧ t.seq.parkingOwed = false ∧
      (isSpinning s.drv.state = true → Stopped s t .commanded) ∧ (isSpinning s.drv.state = false → t.drv = s.drv) ∧
      (i = .pause → t.seq.state = .paused ∧ t.att.bits.getLsbD 5 = true ∧
        ∀ k, (t.record k).status = (s.record k).status ∧ (t.record k).skip = (s.record k).skip) ∧
      (i = .skip → t.seq.state = .exitWait ∧ (t.record s.tab.cursor).status = .skipped ∧
        (t.record s.tab.cursor).skip = some .mechanic) ∧
      (s.run.phase = .idle ∨ s.run.phase = .armed → ∀ k, (t.record k).attempts = (s.record k).attempts ∧
        (t.record k).parking = (s.record k).parking) ∧
      (inAttemptPart s.run.phase = true → (t.record s.run.axle).top.map (fun x => (x.reason, x.time))
        = some (if i = .pause then .pause else .abort, s.time)) ∧
      (s.run.phase = .parkRun → (t.record s.run.axle).parking
        = some ⟨s.run.parkPeakL, s.run.parkPeakR, if i = .pause then .pause else .abort, s.time⟩) ∧
      (s.run.phase = .parkOnset → (t.record s.run.axle).parking
        = some ⟨0, 0, if i = .pause then .pause else .abort, s.time⟩)) ∧
  (∀ s : State, s.eng.inputs.length = 11 → s.settles .pause = true → s.level .pause = false → s.seq.state = .paused →
    s.tab.cursor < s.tab.records.length → s.slots.length = 16 → Memory.wf s.mem →
    let k := s.tab.cursor
    ∃ t, exec (.settledChange .pause) s = .next t ∧ t.drv = s.drv ∧
      (s.seat.seated = true → t.tab = s.tab ∧ t.seq = { s.seq with
        state := .review, heldExit := .none, reviewMarks := s.seq.reviewMarks.set k true, offer := s.offerNow }) ∧
      (s.seat.seated = false → s.seq.heldExit ≠ .forward → t.tab = s.tab ∧
        t.seq = { s.seq with state := .approach, heldExit := .none }) ∧
      (s.seat.seated = false → s.seq.heldExit = .forward → LeftForward s t))

/-- ESTOP and PRESENCE settling ACTIVE (R38): the spin is stopped with the reason, or with the reason of a stronger cause that
arises at the same sample; a DRIVE_TEST that owns it is decided FAILED with that reason unless it is decided already, and its timer
is cancelled (R43); ESTOP locks out a drive in OFF and marks a stop that runs; PRESENCE does nothing to a drive at rest. A start
that was refused in SPINUP is issued again when PRESENCE settles, or ESTOP settles INACTIVE, by the checks of R33 on the new levels: a
start that is taken clears the refusal, a refused one sets it to its reason (R34, R135). ESTOP settling ACTIVE in OFF refuses it LOCKED_OUT. -/
def Obligations.EstopAndPresenceStopTheSpin : Prop :=
  (∀ s : State, s.eng.inputs.length = 11 → s.settles .estop = true → s.level .estop = false →
    ∃ t, exec (.settledChange .estop) s = .next t ∧ t.level .estop = true ∧
      (isSpinning s.drv.state = true → Stopped s t .estop) ∧
      (isSpinning s.drv.state = true → s.drv.owner = some .driveTest → ∀ d, s.dtest = some d →
        t.dtest = some { d with timer := none, decided := some (d.decided.getD (.failed, .estop)) } ∧ t.slots = s.slots) ∧
      (s.drv.state = .off → t.drv = { s.drv with state := .lockout, lockCause := some .estop } ∧
        (s.seq.state = .spinup → s.seq.refusal ≠ none → t.seq = { s.seq with refusal := some .lockedOut })) ∧
      (s.drv.state = .stopping → t.drv = { s.drv with estopSeen := true }) ∧
      (s.drv.state = .lockout → t.drv = s.drv)) ∧
  (∀ s : State, s.eng.inputs.length = 11 → s.settles .presence = true → s.level .presence = false →
    ∃ t, exec (.settledChange .presence) s = .next t ∧ t.level .presence = true ∧
      (isSpinning s.drv.state = true → Stopped s t (if s.settlesOn .estop then .estop else .presence)) ∧
      (isSpinning s.drv.state = true → s.drv.owner = some .driveTest → ∀ d, s.dtest = some d →
        t.dtest = some { d with
          timer := none
          decided := some (d.decided.getD (.failed, if s.settlesOn .estop then .estop else .presence)) } ∧
        t.slots = s.slots) ∧
      (isSpinning s.drv.state = false → t.drv = s.drv)) ∧
  (∀ (i : Input) (s : State), s.eng.inputs.length = 11 → s.settles i = true →
    i = .presence ∨ i = .estop ∧ s.level .estop = true → isSpinning s.drv.state = false → s.seq.state = .spinup →
    s.seq.refusal ≠ none →
    let now (j : Input) : Bool := if j = i then !s.level i else s.level j
    let refusal : Option StartRefusal :=
      if s.drv.state = .lockout then some .lockedOut else if s.drv.state ≠ .off then some .notOff
      else if s.eng.mode ≠ .normal then some .mode else if now .estop then some .estop
      else if now .presence then some .presence else if s.seat.seated = false then some .notSeated else none
    ∃ t, exec (.settledChange i) s = .next t ∧ t.level i = (!s.level i) ∧ t.seq = { s.seq with refusal := refusal } ∧
      (refusal ≠ none → t.drv = s.drv) ∧ (refusal = none → StartedBySequencer s t))

/-- KEY settling (R6, R22, R38): the KEY entry, the lane mode by the validities and the new level, one more entry at a change,
and, away from NORMAL, the stop of a spin with MODE or the reason of a stronger cause of the same sample, a DRIVE_TEST that owns it being
decided FAILED / MODE unless it is decided already (R43); into NORMAL, a start that was
refused in SPINUP is issued again (R135). KEY settling to SERVICE, and the mode leaving NORMAL, abort a plan in any state from APPROACH to
PAUSED with outcome FAILED / MODE (R146, R147). That the table of R22 holds during the power-on load too is the model's reading (assumption
40), and so is, with a plan running, that the stop has the reason MODE and comes before the abort, which R38 and R146 leave open
(assumption 12). -/
def Obligations.KeySettlesDerivesTheMode : Prop :=
  ∀ s : State, s.eng.inputs.length = 11 → Memory.wf s.mem → s.settles .key = true →
    let mode : LaneMode :=
      if s.eng.cals.any (fun c => c.valid == false) = true then .failsafe
      else if s.level .key then .normal else .service
    ∃ t, exec (.settledChange .key) s = .next t ∧ t.eng.mode = mode ∧ t.level .key = !s.level .key ∧
      (s.eng.mode = .normal → mode ≠ .normal → isSpinning s.drv.state = true →
        Stopped s t (if s.settlesOn .estop then .estop else if s.settlesOn .presence then .presence else .mode)) ∧
      (isPlanState s.seq.state = true → s.level .key = false ∨ s.eng.mode = .normal ∧ mode ≠ .normal →
        s.run.axle < s.tab.records.length → s.slots.length = 16 →
        let lapses : Prop := s.eng.mode = .normal ∧ mode ≠ .normal
        let cause : StopReason :=
          if s.settlesOn .estop then .estop else if s.settlesOn .presence then .presence else .mode
        let reason : EndReason := if cause = .estop then .estop else if cause = .presence then .presence else .abort
        PlanAborted s t (if lapses then cause else .commanded)
          (if lapses ∧ isSpinning s.drv.state = true then reason else .abort) .failed .mode) ∧
      (s.eng.mode = .normal → mode ≠ .normal → isSpinning s.drv.state = true → s.drv.owner = some .driveTest →
        s.settlesOn .estop = false → s.settlesOn .presence = false → isPlanState s.seq.state = false → ∀ d, s.dtest = some d →
        t.dtest = some { d with timer := none, decided := some (d.decided.getD (.failed, .mode)) } ∧ t.slots = s.slots) ∧
      (mode = s.eng.mode → isPlanState s.seq.state = false ∨ s.level .key = true →
        EntryMade s t evKey s.planAxleNumber 6 (word (!s.level .key).toNat) ∧ KeepsAllBut [.eng, .mem, .jr, .att] s t) ∧
      (mode ≠ s.eng.mode → isPlanState s.seq.state = false → isSpinning s.drv.state = false →
        t.jr.produced = s.jr.produced + 2 ∧ KeepsAllBut [.eng, .mem, .jr, .att] s t) ∧
      (s.eng.mode ≠ .normal → mode = .normal → s.seq.state = .spinup → s.seq.refusal ≠ none → s.drv.state = .off →
        s.level .estop = false → s.level .presence = false → s.seat.seated = true →
        t.seq = { s.seq with refusal := none } ∧ StartedBySequencer s t)

/-! ## The seating detector -/

/-- The 101st qualifying sample (R25, R30): the seat state becomes SEATED with the tracker and the exit window ended, with one
entry more for an open window (R29); without a plan the SEATED entry is all that follows, and in APPROACH an axle to be weighed
is IN_TEST and its weighing begins at this sample (R131, R60). The reconciliation of the plate unit under a running plan (R123): every
axle from plate count + 1 to cursor + 1 is marked MISSED, each with its PLATE_MISSED entry behind the SEATED entry and in axle order, in every
state of the sequencer, and the count becomes cursor + 1; a count already there changes nothing. An open exit window puts its entries
before the SEATED entry: EXIT_UNCLEAR, and in EXIT_WAIT the SEQ_STATE entry of APPROACH (R29, R140). In SPINUP after a refusal the start is issued again, by the checks of R33 that
come before the seat state (R34, R135). A report that finds the exit window open in EXIT_WAIT is two events, EXIT_UNCLEAR and SEATED (R29,
R140, R156): header word 0x0002 is written with the sequencer state, over what the host wrote there, also where the sequencer is back
in EXIT_WAIT (R131, R196). -/
def Obligations.SeatedReport : Prop :=
  (∀ s : State, s.seat.seated = false → 101 ≤ s.seat.qualify → Memory.wf s.mem →
    ∃ t, exec .seated s = .next t ∧
      t.seat = ⟨true, 0, none, none, .empty, false, if s.seat.exitWindow = none then s.seat.restart else .none⟩ ∧
      (isPlanState s.seq.state = false → s.seat.exitWindow = none →
        EntryMade s t evSeated s.planAxleNumber (signedWord (s.filtered 2)) (signedWord (s.filtered 3)) ∧
        KeepsAllBut [.mem, .jr, .att, .seat] s t) ∧
      (isPlanState s.seq.state = false → s.seat.exitWindow ≠ none → t.jr.produced = s.jr.produced + 2) ∧
      (s.seq.state = .approach → s.seat.exitWindow = none → s.tab.cursor < s.tab.records.length →
        s.seq.reviewMarks.getD s.tab.cursor false = false → (s.planAxle s.tab.cursor).tests.getLsbD 0 = true →
        t.seq.state = .weigh ∧ t.weigh = some ⟨s.tab.cursor, 0, false, ⟨0, 0, 0, false⟩, ⟨0, 0, 0, false⟩⟩ ∧
        (t.record s.tab.cursor).status = .inTest ∧ (t.record s.tab.cursor).skip = none ∧ t.drv = s.drv) ∧
      (s.seq.state = .exitWait → s.seat.exitWindow ≠ none →
        Memory.readWord t.mem 0x0002 = word (codeOfSeq t.seq.state) ∧
        (s.seq.reviewMarks.getD s.tab.cursor false = false →
          (∀ k, k < 4 → (s.planAxle s.tab.cursor).tests.getLsbD k = false) → t.seq.state = .exitWait))) ∧
  (∀ s : State, s.seat.seated = false → 101 ≤ s.seat.qualify → Memory.wf s.mem →
    s.planRuns = true → s.tab.cursor < s.tab.axleCount → s.tab.axleCount ≤ 8 → s.tab.records.length = 8 →
    let n := s.tab.cursor + 1
    let before : Nat := if s.seat.exitWindow = none then 0 else if s.seq.state = .exitWait then 2 else 1
    ∃ t, exec .seated s = .next t ∧ t.tab.plateCount = max s.tab.plateCount n ∧
      (∀ k, k < 8 → (t.record k).sideSlip =
        if s.tab.plateCount ≤ k ∧ k < n then ⟨none, false, true, false⟩ else (s.record k).sideSlip) ∧
      (s.seq.state = .paused ∨ s.seq.state = .exitWait ∧ s.seat.exitWindow = none →
        t.jr.produced = s.jr.produced + BitVec.ofNat 32 (before + 1 + (n - s.tab.plateCount))) ∧
      ∀ j, j < n - s.tab.plateCount → s.jr.count + before + 2 + j ≤ 128 →
        Memory.readWords t.mem (entryBase (s.jr.put + BitVec.ofNat 8 (before + 1 + j)).toNat) 8
          = entryWords (lowWord (s.jr.produced + BitVec.ofNat 32 (before + 2 + j))) evPlateMissed (s.tab.plateCount + j + 1)
            0 s.time (word n) 0) ∧
  (∀ s : State, s.seat.seated = false → 101 ≤ s.seat.qualify → s.seat.exitWindow = none → s.seq.state = .spinup →
    s.seq.refusal ≠ none →
    let refusal : Option StartRefusal :=
      if s.drv.state = .lockout then some .lockedOut else if s.drv.state ≠ .off then some .notOff
      else if s.eng.mode ≠ .normal then some .mode else if s.level .estop then some .estop
      else if s.level .presence then some .presence else none
    ∃ t, exec .seated s = .next t ∧ t.seat.seated = true ∧
      t.seq = { s.seq with heldExit := .none, refusal := refusal } ∧
      (refusal ≠ none → t.drv = s.drv) ∧ (refusal = none → StartedBySequencer s t))

/-- The exit window at its 600th sample without a beam (R29, R30): EXIT_UNCLEAR with the milliseconds since the UNSEATED sample, the
tracker active with its record opened from both beams (R27), as they stand with a change that settles to CLEAR at this sample, by the
model's reading (assumption 52); the sequencer takes it as an exit backward (R140, R139). -/
def Obligations.ExitWindowExpiry : Prop :=
  ∀ (s : State) (n : Nat), s.seat.exitWindow = some n → 600 ≤ n → s.settlesOn .beamR = false → s.settlesOn .beamF = false →
    Memory.wf s.mem →
    ∃ t, exec .exitWindowExpiry s = .next t ∧
      t.seat = { s.seat with
        exitWindow := none, active := true, restart := .none
        record := if s.levelNow .beamR = s.levelNow .beamF then .empty
          else if s.levelNow .beamR then .rearOpen false false else .frontOpen false } ∧
      (s.seq.state ≠ .exitWait →
        EntryMade s t evExitUnclear s.planAxleNumber (word (5 * n)) 0 ∧
        t.seq = (if isWorkState s.seq.state ∨ s.seq.state = .paused then { s.seq with heldExit := .backward } else s.seq) ∧
        KeepsAllBut [.mem, .jr, .att, .seat, .seq] s t) ∧
      (s.seq.state = .exitWait →
        t.seq = { s.seq with state := .approach, heldExit := .none } ∧ t.jr.produced = s.jr.produced + 2 ∧ t.tab = s.tab)

/-- While the exit window is open a beam that settles INTERRUPTED decides the exit, both at one sample leave it unclear (R29); that the
record opened then has the other beam's change of the same sample in it is the model's reading (assumption 52). While the tracker is
active a beam opens the record or judges a pass (R27, R28). Stated without a plan, so that the entry is all that
follows; and under a plan, what the sequencer makes of a pass in APPROACH (R132) and of an exit in EXIT_WAIT (R140, R145). -/
def Obligations.BeamsDecideExitsAndPasses : Prop :=
  (∀ s : State, s.eng.inputs.length = 11 → s.seat.seated = false → isPlanState s.seq.state = false → Memory.wf s.mem →
    (∀ n, s.seat.exitWindow = some n → s.settlesOn .beamF = true → s.settlesOn .beamR = false →
      ∃ t, exec (.settledChange .beamF) s = .next t ∧
        EntryMade s t evExitForward s.planAxleNumber (word (5 * n)) 0 ∧
        t.seat = { s.seat with
          exitWindow := none, active := true, restart := .none
          record := if s.levelNow .beamR then .rearOpen false false else .empty } ∧
        KeepsAllBut [.mem, .jr, .att, .seat, .eng] s t) ∧
    (∀ n, s.seat.exitWindow = some n → s.settlesOn .beamR = true → s.settlesOn .beamF = false →
      ∃ t, exec (.settledChange .beamR) s = .next t ∧
        EntryMade s t evExitBackward s.planAxleNumber (word (5 * n)) 0 ∧
        t.seat = { s.seat with
          exitWindow := none, active := true, restart := .none
          record := if s.levelNow .beamF then .frontOpen false else .empty } ∧
        KeepsAllBut [.mem, .jr, .att, .seat, .eng] s t) ∧
    (∀ n, s.seat.exitWindow = some n → s.settlesOn .beamR = true → s.settlesOn .beamF = true →
      ∃ t, exec (.settledChange .beamR) s = .next t ∧
        EntryMade s t evExitUnclear s.planAxleNumber (word (5 * n)) 0 ∧
        t.seat = { s.seat with exitWindow := none, active := true, restart := .none, record := .empty }) ∧
    (s.seat.exitWindow = none → s.seat.active = true → s.settlesOn .beamR = true → s.settlesOn .beamF = false →
      ∃ t, exec (.settledChange .beamR) s = .next t ∧
        (s.seat.record = .empty → t.seat = { s.seat with record := .rearOpen false false } ∧
          KeepsAllBut [.seat, .eng] s t) ∧
        (∀ l f, s.seat.record = .rearOpen l f → t.seat = { s.seat with record := .rearOpen l true } ∧
          KeepsAllBut [.seat, .eng] s t) ∧
        (∀ f, s.seat.record = .frontOpen f →
          EntryMade s t evPassBackward s.planAxleNumber 0 0 ∧
          t.seat = { s.seat with record := if f then .frontOpen false else .empty } ∧
          KeepsAllBut [.mem, .jr, .att, .seat, .eng] s t)) ∧
    (s.seat.exitWindow = none → s.seat.active = true → s.settlesOn .beamF = true → s.settlesOn .beamR = false →
      ∃ t, exec (.settledChange .beamF) s = .next t ∧
        (s.seat.record = .empty → t.seat = { s.seat with record := .frontOpen false } ∧ KeepsAllBut [.seat, .eng] s t) ∧
        (∀ f, s.seat.record = .frontOpen f → t.seat = { s.seat with record := .frontOpen true } ∧
          KeepsAllBut [.seat, .eng] s t) ∧
        (∀ l f, s.seat.record = .rearOpen l f →
          t.seat = { s.seat with record := if f then .rearOpen false false else .empty } ∧
          (l = true → EntryMade s t evPassForward s.planAxleNumber 0 0 ∧
            KeepsAllBut [.mem, .jr, .att, .seat, .eng] s t) ∧
          (l = false → KeepsAllBut [.seat, .eng] s t)))) ∧
  (∀ s : State, s.eng.inputs.length = 11 → s.seat.seated = false → Memory.wf s.mem → s.slots.length = 16 →
    s.tab.cursor < s.tab.records.length →
    let k := s.tab.cursor
    (∀ f, s.seq.state = .approach → s.seat.exitWindow = none → s.seat.active = true → s.seat.record = .rearOpen true f →
      s.settlesOn .beamF = true → s.settlesOn .beamR = false → ∃ t, exec (.settledChange .beamF) s = .next t ∧
        t.tab = { s.tab with
          cursor := k + 1
          records := s.tab.records.set k (if (s.record k).status = .done then s.record k
            else { s.record k with status := .skipped, skip := some .rolledThrough }) } ∧
        t.seq.heldExit = .none ∧ t.drv = s.drv ∧
        (k + 1 < s.tab.axleCount → t.seq.state = .approach ∧ t.slots = s.slots ∧ t.jr.produced = s.jr.produced + 1) ∧
        (s.tab.axleCount ≤ k + 1 → t.seq.state = .complete ∧ t.att.bits.getLsbD 5 = true ∧
          ∀ n, s.activeSlot .runPlan = some n → SlotDone t n .ok .none [])) ∧
    (∀ f, s.seq.state = .approach → s.seat.exitWindow = none → s.seat.active = true → s.seat.record = .frontOpen f →
      s.settlesOn .beamR = true → s.settlesOn .beamF = false → ∃ t, exec (.settledChange .beamR) s = .next t ∧
        t.jr.produced = s.jr.produced + 1 ∧ t.seq.state = .approach ∧
        (k = 0 → KeepsAllBut [.mem, .jr, .att, .seat, .eng] s t) ∧
        (0 < k → t.tab = { s.tab with cursor := k - 1 } ∧ t.seq.heldExit = .none ∧
          KeepsAllBut [.mem, .jr, .att, .seat, .eng, .tab, .seq] s t)) ∧
    (∀ n, s.seq.state = .exitWait → s.seat.exitWindow = some n → s.settlesOn .beamF = true → s.settlesOn .beamR = false →
      ∃ t, exec (.settledChange .beamF) s = .next t ∧ LeftForward s t ∧ t.drv = s.drv) ∧
    (∀ n, s.seq.state = .exitWait → s.seat.exitWindow = some n → s.settlesOn .beamR = true → s.settlesOn .beamF = false →
      ∃ t, exec (.settledChange .beamR) s = .next t ∧ t.seq = { s.seq with state := .approach, heldExit := .none } ∧
        t.jr.produced = s.jr.produced + 2 ∧ KeepsAllBut [.mem, .jr, .att, .seat, .eng, .seq, .disp] s t))

/-! ## Slip windows and the roller drive -/

/-- The end of a slip window: counts and slip handed over (R7, R8), the no-pulse counts (R12), and the drive's counts by its state
(R35, R36, R37, R39); SPINUP with 60 pulses on both sides enters RUN, where the first of the runs named for the sequencer's spin
begins at this sample and the sequencer enters its state with the review mark set (R69, R73, R136). -/
def Obligations.SlipWindowEnd : Prop :=
  (∀ s : State, 10 ≤ s.eng.windowSamples → ∃ t, exec .slipWindowEnd s = .next t ∧
    ∀ pd ps pdR psR, s.eng.pulses = ⟨pd, pdR, ps, psR⟩ →
    let slip (d p : Nat) : Option Nat := if 20 ≤ d then some (min 100 ((d - p) * 100 / d)) else none
    let above (x : Option Nat) : Bool := x.any (fun v => decide (s.drv.slipLimit ≤ v))
    t.eng = { s.eng with
      windowSamples := 0, pulses := ⟨0, 0, 0, 0⟩, lastPd := some (pd, pdR), slipL := slip pd ps, slipR := slip pdR psR
      noPulseL := if s.drv.state = .run ∧ pd = 0 then s.eng.noPulseL + 1 else 0
      noPulseR := if s.drv.state = .run ∧ pdR = 0 then s.eng.noPulseR + 1 else 0 } ∧
    (s.drv.state = .off ∨ s.drv.state = .lockout → KeepsAllBut [.eng] s t) ∧
    (s.drv.state = .stopping → KeepsAllBut [.eng, .drv] s t ∧ t.drv = { s.drv with
      restCount := if pd < 2 ∧ pdR < 2 then s.drv.restCount + 1 else 0, stopCount := s.drv.stopCount + 1 }) ∧
    (s.drv.state = .run → KeepsAllBut [.eng, .drv] s t ∧ t.drv = { s.drv with
      overL := if above (slip pd ps) then s.drv.overL + 1 else 0
      overR := if above (slip pdR psR) then s.drv.overR + 1 else 0
      lowL := if pd < 35 then s.drv.lowL + 1 else 0
      lowR := if pdR < 35 then s.drv.lowR + 1 else 0 }) ∧
    (s.drv.state = .spinup → pd < 60 ∨ pdR < 60 →
      KeepsAllBut [.eng, .drv] s t ∧ t.drv = { s.drv with spinupCount := s.drv.spinupCount + 1 }) ∧
    (s.drv.state = .spinup → 60 ≤ pd → 60 ≤ pdR →
      t.drv = { s.drv with state := .run, spinupCount := s.drv.spinupCount + 1 } ∧
      (∀ d, s.drv.owner = some .driveTest → s.dtest = some d →
        t.dtest = some { d with timer := some (s.clk.ms + d.duration) } ∧ t.jr.produced = s.jr.produced + 1))) ∧
  (∀ s : State, 10 ≤ s.eng.windowSamples → s.drv.state = .spinup → 60 ≤ s.eng.pulses.spdL → 60 ≤ s.eng.pulses.spdR →
    s.drv.owner = some .sequencer → s.seq.state = .spinup → s.run.phase = .armed → s.run.runs ≠ ⟨false, false, false⟩ →
    ∃ t, exec .slipWindowEnd s = .next t ∧ t.drv.state = .run ∧ t.jr.produced = s.jr.produced + 2 ∧
      t.run.phase = (if s.run.runs.ovality then .ovality else if s.run.runs.service then .serviceOnset else .parkOnset) ∧
      t.run.step = .onsetWait ∧ t.run.waitRef = s.clk.sampleNo ∧ t.run.waitBegan = s.clk.sampleNo ∧
      t.run.releaseMark = decide (s.filtered 0 + s.filtered 1 < 30) ∧ t.run.runs = s.run.runs ∧ t.run.arm = s.run.arm ∧
      t.seq = { s.seq with
        state := if s.run.runs.ovality then .ovality else if s.run.runs.service then .serviceOnset else .parkOnset
        reviewMarks := s.seq.reviewMarks.set s.tab.cursor true } ∧
      t.tab = s.tab)

/-- A no-pulse count of 2 (R12, R9): the count is 0 again; a clear NO_PULSE flag is set with its FAULT_SET entry and ATTN.FAULT, a
set one stays without an entry. -/
def Obligations.NoPulseSetsTheFlag : Prop :=
  ∀ (side : Side) (s : State), 2 ≤ s.eng.noPulse side → s.eng.faults.length = 11 → Memory.wf s.mem →
    ∃ t, exec (.noPulse side) s = .next t ∧ t.eng.noPulse side = 0 ∧
      (t.faultsOf (pulseChannel side)).noPulse = true ∧
      (∀ k, k ≠ pulseChannel side → t.faultsOf k = s.faultsOf k) ∧
      ((s.faultsOf (pulseChannel side)).noPulse = true → KeepsAllBut [.eng] s t) ∧
      ((s.faultsOf (pulseChannel side)).noPulse = false →
        EntryMade s t evFaultSet 0 (word (pulseChannel side)) 2 ∧ t.att.bits.getLsbD 4 = true ∧
        KeepsAllBut [.eng, .mem, .jr, .att] s t)

/-- The stops of a spin by its window counts and by the DRIVE_TEST timer (R35, R36, R37, R43), each with its reason, or with the
reason of a stronger cause of the same sample (R38); the sequencer's spin that has not reached RUN ends without a record (R69, R136). A
DRIVE_TEST whose spin is stopped by its counts is decided FAILED with the recorded reason as detail, unless it is decided already, and its
timer is cancelled (R43). -/
def Obligations.CountsAndTimersStopTheSpin : Prop :=
  ∀ s : State,
    let stronger (r : StopReason) : StopReason :=
      if s.settlesOn .estop then .estop else if s.settlesOn .presence then .presence
      else if s.settlesOn .key ∧ s.eng.mode = .normal then .mode else r
    let failed (t : State) (r : StopReason) : Prop :=
      s.drv.owner = some .driveTest → ∀ d, s.dtest = some d →
        t.slots = s.slots ∧ ∃ e : Detail, t.dtest = some { d with
          timer := none, decided := some (d.decided.getD (.failed, e)) } ∧
        (r = .estop → e = .estop) ∧ (r = .presence → e = .presence) ∧ (r = .mode → e = .mode) ∧ (r = .slipL → e = .slipL) ∧
        (r = .slipR → e = .slipR) ∧ (r = .slipBoth → e = .slipBoth) ∧ (r = .stall → e = .stall)
    (s.drv.state = .spinup → 80 ≤ s.drv.spinupCount → ∃ t, exec .spinupStall s = .next t ∧
      Stopped s t (stronger .stall) ∧ failed t (stronger .stall) ∧
      (s.drv.owner = some .sequencer → s.seq.state = .spinup → s.run.phase = .armed →
        t.run = RunUnit.cleared ∧ t.seq.state = .spindown ∧ t.tab = s.tab)) ∧
    (s.drv.state = .run → 2 ≤ s.drv.overL ∨ 2 ≤ s.drv.overR → ∃ t, exec .slipStop s = .next t ∧
      let r : StopReason := stronger (if 2 ≤ s.drv.overL ∧ 2 ≤ s.drv.overR then .slipBoth
        else if 2 ≤ s.drv.overL then .slipL else .slipR)
      Stopped s t r ∧ failed t r) ∧
    (s.drv.state = .run → s.drv.overL < 2 → s.drv.overR < 2 → 2 ≤ s.drv.lowL ∨ 2 ≤ s.drv.lowR →
      ∃ t, exec .lowSpeedStall s = .next t ∧ Stopped s t (stronger .stall) ∧ failed t (stronger .stall)) ∧
    (∀ d, s.dtest = some d → s.expired d.timer = true → isSpinning s.drv.state = true → s.drv.owner = some .driveTest →
      ∃ t, exec .driveTestTimerExpiry s = .next t ∧ Stopped s t .commanded ∧
        t.dtest = some { d with timer := none, decided := some (d.decided.getD (.ok, .none)) } ∧ t.slots = s.slots)

/-- The end of a stop (R39, R32, R41): at rest the drive enters LOCKOUT when the emergency stop was involved and OFF with both
directions FORWARD otherwise; without rest in 160 windows it enters LOCKOUT with DRIVE_FAULT. A DRIVE_TEST completes with its decided
outcome, or FAILED with DRIVE_FAULT (R43). -/
def Obligations.RestOrTimeoutEndsTheStop : Prop :=
  (∀ s : State, s.drv.state = .stopping → 2 ≤ s.drv.restCount → s.seq.state ≠ .spinup → s.seq.state ≠ .spindown →
    Memory.wf s.mem → ∃ t, exec .rollersAtRest s = .next t ∧
      (s.drv.stopReason = some .estop ∨ s.drv.estopSeen = true →
        t.drv = { s.drv with state := .lockout, lockCause := some .estop } ∧
        (s.dtest = none → EntryMade s t evDriveState s.planAxleNumber 4 0)) ∧
      (s.drv.stopReason ≠ some .estop → s.drv.estopSeen = false →
        t.drv = { s.drv with state := .off, dirL := .forward, dirR := .forward, lockCause := none } ∧
        (s.dtest = none → EntryMade s t evDriveState s.planAxleNumber 0 (word (codeOfStop? s.drv.stopReason)))) ∧
      (∀ d o e, s.dtest = some d → d.decided = some (o, e) → d.slot < 16 → s.slots.length = 16 →
        SlotDone t d.slot o e [] ∧ t.dtest = none ∧ t.jr.produced = s.jr.produced + 2)) ∧
  (∀ s : State, s.drv.state = .stopping → s.drv.restCount < 2 → 160 ≤ s.drv.stopCount → s.seq.state ≠ .spinup →
    s.seq.state ≠ .spindown → Memory.wf s.mem → ∃ t, exec .stopTimeout s = .next t ∧
      t.drv = { s.drv with state := .lockout, lockCause := some .driveFault } ∧
      (s.dtest = none → EntryMade s t evDriveState s.planAxleNumber 4 1) ∧
      (∀ d, s.dtest = some d → d.slot < 16 → s.slots.length = 16 →
        SlotDone t d.slot .failed .driveFault [] ∧ t.dtest = none))

/-- The drive's entry into OFF takes the sequencer out of SPINDOWN (R137): to EXIT_WAIT without an axle, to the second spin when
parking is owed, to REVIEW otherwise, with the review mark set and the retest offer judged (R138). In SPINUP the entry into OFF, or into
LOCKOUT, brings the repeat of a refused start (R135): in OFF by the checks of R33 that remain, in LOCKOUT refused LOCKED_OUT. -/
def Obligations.SpindownIsLeftAtOff : Prop :=
  (∀ s : State, s.drv.state = .stopping → 2 ≤ s.drv.restCount → s.drv.stopReason ≠ some .estop → s.drv.estopSeen = false →
    s.seq.state = .spindown → ∃ t, exec .rollersAtRest s = .next t ∧
      (s.seat.seated = false → s.seq.heldExit = .none → t.seq.state = .exitWait ∧ t.seq.parkingOwed = false) ∧
      (s.seat.seated = true → s.seq.parkingOwed = false → t.seq.state = .review ∧
        t.seq.reviewMarks = s.seq.reviewMarks.set s.tab.cursor true ∧ t.seq.offer = s.offerNow) ∧
      (s.seat.seated = true → s.seq.parkingOwed = true → s.run.phase = .idle → s.eng.mode = .normal →
        s.level .estop = false → s.level .presence = false →
        t.seq.state = .spinup ∧ t.seq.parkingOwed = false ∧ t.run.phase = .armed ∧ t.run.runs = ⟨false, false, true⟩ ∧
        t.drv.state = .spinup ∧ t.drv.energised = true ∧ t.drv.owner = some .sequencer)) ∧
  (∀ s : State, s.drv.state = .stopping → s.seq.state = .spinup → s.seq.refusal ≠ none → s.dtest = none →
    (2 ≤ s.drv.restCount → s.drv.stopReason ≠ some .estop → s.drv.estopSeen = false →
      let off : Drive := { s.drv with state := .off, dirL := .forward, dirR := .forward, lockCause := none }
      let refusal : Option StartRefusal :=
        if s.eng.mode ≠ .normal then some .mode else if s.level .estop then some .estop
        else if s.level .presence then some .presence else if s.seat.seated = false then some .notSeated else none
      ∃ t, exec .rollersAtRest s = .next t ∧ t.seq = { s.seq with refusal := refusal } ∧
        (refusal ≠ none → t.drv = off ∧ t.jr.produced = s.jr.produced + 1) ∧
        (refusal = none → StartedBySequencer (s.setDrv off) t ∧ t.jr.produced = s.jr.produced + 2)) ∧
    (2 ≤ s.drv.restCount → s.drv.stopReason = some .estop ∨ s.drv.estopSeen = true →
      ∃ t, exec .rollersAtRest s = .next t ∧ t.drv = { s.drv with state := .lockout, lockCause := some .estop } ∧
        t.seq = { s.seq with refusal := some .lockedOut }) ∧
    (s.drv.restCount < 2 → 160 ≤ s.drv.stopCount → ∃ t, exec .stopTimeout s = .next t ∧
      t.drv = { s.drv with state := .lockout, lockCause := some .driveFault } ∧
      t.seq = { s.seq with refusal := some .lockedOut }))

/-! ## ZERO capture and weighing -/

/-- The 200th capture sample (R20): each channel's new zero is its sum divided by 200, rounded and clamped; gains, validities and the
other channels stay, the five histories are empty, and the slot completes OK with the zeros and their CLAMPED flags. -/
def Obligations.ZeroCaptureEnd : Prop :=
  ∀ (s : State) (c : ZeroCapture) (a b d e f : Int), s.eng.capture = some c → 200 ≤ c.count → c.sums = [a, b, d, e, f] →
    c.slot < 16 → s.slots.length = 16 → s.eng.cals.length = 9 → s.eng.chans.length = 9 → Memory.wf s.mem →
    let z (x : Int) : Int := clamp (-8192) 8191 (roundDiv x 200)
    let zero (k : Nat) : Option Int :=
      if k = 0 then some (z a) else if k = 1 then some (z b) else if k = 2 then some (z d) else if k = 3 then some (z e)
      else if k = 8 then some (z f) else none
    ∃ t, exec .zeroCaptureEnd s = .next t ∧
      SlotDone t c.slot .ok .none
        [signedWord (z a), signedWord (z b), signedWord (z d), signedWord (z e), signedWord (z f),
         flagWord [roundDiv a 200 != z a, roundDiv b 200 != z b, roundDiv d 200 != z d, roundDiv e 200 != z e,
           roundDiv f 200 != z f]] ∧
      EntryMade s t evRequestDone 0 (bytePair c.slot 4) (bytePair 0 0) ∧ t.eng.capture = none ∧
      (∀ k, k < 9 →
        t.eng.cals.getD k noCal = { s.eng.cals.getD k noCal with zero := (zero k).getD (s.eng.cals.getD k noCal).zero } ∧
        t.eng.chans.getD k noChannel =
          (if (zero k).isSome then { s.eng.chans.getD k noChannel with history := [] } else s.eng.chans.getD k noChannel)) ∧
      KeepsAllBut [.eng, .slots, .mem, .jr, .att] s t

/-- The 200th sample of a stability window (R61, R62): a window within 20 kg on both sides writes the two weights, a side with its
over-range mark absent, and makes the WEIGHED entry; the sixth multiple of 200 samples ends the weighing unstable; any other window
is dropped and the next begins. Either completion takes the sequencer from WEIGH to SPINUP or EXIT_WAIT (R133), after its own entry. Both
weights are written whole in the table area, whatever stood there (R47). -/
def Obligations.WeighWindowEnd : Prop :=
  ∀ (s : State) (w : Weighing), s.weigh = some w → w.gathering = true → w.count % 200 = 0 → 400 ≤ w.count →
    w.axle < s.tab.records.length → Memory.wf s.mem →
    let stable : Prop := w.left.greatest - w.left.least ≤ 20 ∧ w.right.greatest - w.right.least ≤ 20
    let weight (x : WeighSide) : Option Int := if x.overRange then none else some (roundDiv x.sum 200)
    let entryWord (v : Option Int) : Word := (v.map signedWord).getD 0xFFFF
    let setAt (k : Nat) (r : AxleRecord) : AxleTable := { s.tab with records := s.tab.records.set k r }
    let entryFirst (t : State) (code : Nat) (p1 p2 : Word) : Prop :=
      s.jr.blocks = false → Memory.readWords t.mem (entryBase s.jr.put.toNat) 8
        = entryWords (lowWord (s.jr.produced + 1)) code (w.axle + 1) s.jr.gap s.time p1 p2
    ∃ t, exec .weighWindowEnd s = .next t ∧
      (stable → w.axle < 8 → Memory.readWords t.mem (0x0A06 + 256 * w.axle) 2
        = [signedWord ((weight w.left).getD 0), signedWord ((weight w.right).getD 0)]) ∧
      (stable → s.seq.state ≠ .weigh →
        t.tab = setAt w.axle { s.record w.axle with weightL := weight w.left, weightR := weight w.right } ∧
        EntryMade s t evWeighed (w.axle + 1) (entryWord (weight w.left)) (entryWord (weight w.right)) ∧
        t.weigh = none ∧ KeepsAllBut [.weigh, .tab, .mem, .jr, .att] s t) ∧
      (stable → s.seq.state = .weigh → (s.planAxle s.tab.cursor).runs = ⟨false, false, false⟩ → s.seat.seated = true →
        t.seq.state = .exitWait ∧ t.weigh = none ∧ (t.record w.axle).weightL = weight w.left ∧
        (t.record w.axle).weightR = weight w.right ∧ entryFirst t evWeighed (entryWord (weight w.left))
          (entryWord (weight w.right))) ∧
      (stable → s.seq.state = .weigh → (s.planAxle s.tab.cursor).runs ≠ ⟨false, false, false⟩ → s.run.phase = .idle →
        (∀ k, (s.record k).violations < s.tab.plan.maxViolations.toNat) →
        t.seq.state = .spinup ∧ t.run.phase = .armed ∧ t.run.axle = s.tab.cursor ∧
        t.run.runs = (s.planAxle s.tab.cursor).runs ∧ (t.record w.axle).weightL = weight w.left ∧
        (t.record w.axle).weightR = weight w.right ∧ entryFirst t evWeighed (entryWord (weight w.left))
          (entryWord (weight w.right))) ∧
      (¬ stable → 1200 ≤ w.count → s.seq.state = .weigh → (s.planAxle s.tab.cursor).runs = ⟨false, false, false⟩ →
        s.seat.seated = true →
        t.seq.state = .exitWait ∧ t.weigh = none ∧ t.tab = s.tab ∧ entryFirst t evWeighUnstable
          (signedWord (w.left.greatest - w.left.least)) (signedWord (w.right.greatest - w.right.least))) ∧
      (¬ stable → 1200 ≤ w.count → s.seq.state = .weigh → (s.planAxle s.tab.cursor).runs ≠ ⟨false, false, false⟩ →
        s.run.phase = .idle → (∀ k, (s.record k).violations < s.tab.plan.maxViolations.toNat) →
        t.seq.state = .spinup ∧ t.weigh = none ∧ t.run.phase = .armed ∧ t.run.axle = s.tab.cursor ∧
        t.run.runs = (s.planAxle s.tab.cursor).runs ∧ t.tab = s.tab ∧ entryFirst t evWeighUnstable
          (signedWord (w.left.greatest - w.left.least)) (signedWord (w.right.greatest - w.right.least))) ∧
      (¬ stable → 1200 ≤ w.count → s.seq.state ≠ .weigh →
        EntryMade s t evWeighUnstable (w.axle + 1) (signedWord (w.left.greatest - w.left.least))
          (signedWord (w.right.greatest - w.right.least)) ∧
        t.weigh = none ∧ KeepsAllBut [.weigh, .mem, .jr, .att] s t) ∧
      (¬ stable → w.count < 1200 → t = s.setWeigh (some { w with gathering := false }))

/-! ## The brake run unit -/

/-- The attempt part ends by the unit's own condition with the drive in RUN (R79, R84): with PARKING named the record is fixed and
PARK_ONSET begins at this sample (R89), otherwise the attempt is pushed with the lane time of this moment (R88, R55), the unit is
IDLE, the drive is stopped COMMANDED and the sequencer is in SPINDOWN (R136). The record holds the projections of R100 to R102. -/
def Obligations.AttemptPartEndsByTheUnit : Prop :=
  ∀ s : State, s.drv.state = .run → isRunState s.seq.state = true → s.run.axle < s.tab.records.length →
    let r := s.record s.run.axle
    let setAt (k : Nat) (r : AxleRecord) : AxleTable := { s.tab with records := s.tab.records.set k r }
    let ended (t : State) (reason : EndReason) : Prop :=
      (s.run.runs.parking = true → t.run.phase = .parkOnset ∧ t.run.parkExpiries = 0 ∧
        t.run.waitRef = s.clk.sampleNo ∧ t.run.waitBegan = s.clk.sampleNo ∧
        t.run.releaseMark = decide (s.filtered 0 + s.filtered 1 < 30) ∧
        (∃ a, t.run.held = some a ∧ AttemptOf s.run a reason) ∧ t.seq.state = .parkOnset ∧ t.drv = s.drv ∧
        t.tab = s.tab) ∧
      (s.run.runs.parking = false → t.run = RunUnit.cleared ∧ Stopped s t .commanded ∧ t.seq.state = .spindown ∧
        t.seq.parkingOwed = false ∧
        ∃ a, AttemptOf s.run a reason ∧ a.time = s.time ∧
          t.tab = setAt s.run.axle { r with
            attempts := if r.attempts.length < 3 then r.attempts ++ [a] else r.attempts.take 2 ++ [a]
            overflow := r.overflow || decide (3 ≤ r.attempts.length) })
    (s.run.phase = .ovality → s.run.step ≠ .onsetWait → 30000 ≤ 5 * (s.clk.sampleNo - s.run.ovalityOnset) →
      ∃ t, exec .ovalityLimit s = .next t ∧ ended t .runLimit) ∧
    (s.run.phase = .serviceRun → 41 ≤ s.run.releaseCount → ∃ t, exec .serviceRelease s = .next t ∧ ended t .release) ∧
    (s.run.phase = .serviceRamp ∨ s.run.phase = .serviceRun ∧ s.run.releaseCount < 41 →
      30000 ≤ 5 * (s.clk.sampleNo - s.run.serviceOnset) →
      ∃ t, exec .serviceRunLimit s = .next t ∧ ended t .runLimit)

/-- The expiry of a start window of the attempt part (R74, R75): a violation with its RAMP_VIOLATION entry, the first entry of the event;
below the maximum the prompt is repeated, with a frame falling due that shows it and blinks (R71, R156, R161), and the window starts again,
at the maximum the attempt part ends with both peaks 0 and NO_ONSET (R76). -/
def Obligations.StartWindowExpiry : Prop :=
  ∀ s : State, s.run.phase = .serviceOnset ∨ s.run.phase = .ovality ∧ s.run.step = .onsetWait →
    s.run.arm.startWindow ≤ 5 * (s.clk.sampleNo - s.run.waitRef) → s.run.axle < s.tab.records.length →
    isRunState s.seq.state = true → Memory.wf s.mem →
    let v := (s.record s.run.axle).violations
    let entryFirst (t : State) : Prop :=
      s.jr.blocks = false → Memory.readWords t.mem (entryBase s.jr.put.toNat) 8
        = entryWords (lowWord (s.jr.produced + 1)) evRampViolation (s.run.axle + 1) s.jr.gap s.time 0 (word (v + 1))
    (v + 1 < s.run.arm.maxViolations → ∃ t, exec .startWindowExpiry s = .next t ∧
      t.tab = { s.tab with records := s.tab.records.set s.run.axle { s.record s.run.axle with violations := v + 1 } } ∧
      EntryMade s t evRampViolation (s.run.axle + 1) 0 (word (v + 1)) ∧
      t.run = { s.run with waitRef := s.clk.sampleNo } ∧ t.disp.repeatMark = some (s.clk.ms + 2000) ∧ FrameFell s t ∧
      KeepsAllBut [.run, .tab, .disp, .mem, .jr, .att] s t) ∧
    (v + 1 = s.run.arm.maxViolations → s.run.runs.parking = true → ∃ t, exec .startWindowExpiry s = .next t ∧
      entryFirst t ∧ (t.record s.run.axle).violations = v + 1 ∧ t.run.phase = .parkOnset ∧ t.seq.state = .parkOnset ∧ t.drv = s.drv ∧
      ∃ a, t.run.held = some a ∧ a.noOnset = true ∧ a.reason = .runLimit ∧ a.peakL = 0 ∧ a.peakR = 0 ∧ a.pressL = none ∧
        a.pressR = none ∧ a.projL = none ∧ a.projR = none ∧ a.flagL = none ∧ a.flagR = none ∧
        a.ovalityL = s.run.ovalityL ∧ a.ovalityR = s.run.ovalityR) ∧
    (v + 1 = s.run.arm.maxViolations → s.run.runs.parking = false → s.drv.state = .run →
      ∃ t, exec .startWindowExpiry s = .next t ∧
      entryFirst t ∧ (t.record s.run.axle).violations = v + 1 ∧ t.run = RunUnit.cleared ∧ Stopped s t .commanded ∧
      t.seq.state = .spindown ∧
      ∃ a, (t.record s.run.axle).top = some a ∧ a.noOnset = true ∧ a.reason = .runLimit ∧ a.peakL = 0 ∧ a.peakR = 0)

/-- The ovality hold (R77, R79, R98, R99): after the settle the hold is timed from this sample; at its end the ovality of each side is
computed from its extremes, absent below 50 daN, the axle ovality is the larger one present, and the step is RELEASE_WAIT. The samples
of OVALITY (R72, R73, R77 to R79, R82), for an axle that they leave seated and a state in which no step is due (assumption 5): the watch
marks, the release mark, the onset, the peaks, the extremes of the hold, and what a release in each step leads to: the service wait where
SERVICE is named, otherwise the parking wait on the same spin with the attempt held where PARKING is (R89), otherwise the end of the spin. That the sample is taken so also where a
stop of the drive arises at it is the model's choice (assumptions 54 and 58). -/
def Obligations.OvalityHoldIsTimedAndJudged : Prop :=
  (∀ s : State, s.run.phase = .ovality → s.run.step = .settle → 500 ≤ 5 * (s.clk.sampleNo - s.run.ovalityOnset) →
    exec .ovalitySettleEnd s = .next (s.setRun { s.run with step := .hold, holdRef := s.clk.sampleNo })) ∧
  (∀ s : State, s.run.phase = .ovality → s.run.step = .hold →
    s.run.arm.holdTime ≤ 5 * (s.clk.sampleNo - s.run.holdRef) → ∀ l r : Extremes, s.run.extL = some l → s.run.extR = some r →
    let oval (e : Extremes) : Option Int := if 50 ≤ e.fmax then some (roundDiv ((e.fmax - e.fmin) * 100) e.fmax) else none
    exec .holdComplete s = .next (s.setRun { s.run with
      step := .releaseWait, ovalityL := oval l, ovalityR := oval r
      axleOvality := if (oval l).isSome ∧ (oval r).isSome then some (max ((oval l).getD 0) ((oval r).getD 0))
        else if (oval l).isSome then oval l else oval r })) ∧
  (∀ (inp : SampleInput) (s : State), s.quiet = true → s.eng.started = true → s.eng.loading = false →
    s.eng.inputs.length = 11 → s.eng.faults.length = 11 → isRunState s.seq.state = true → s.run.phase = .ovality →
    s.run.axle < s.tab.records.length →
    ∃ t, exec (.sample inp) s = .next t ∧
      let fl := t.filtered 0
      let fr := t.filtered 1
      let now := s.clk.sampleNo + 1
      let held : Prop := s.seat.seated = true → 100 ≤ t.filtered 2 ∧ 100 ≤ t.filtered 3
      let pressure : Option Int := s.run.arm.channel.map t.filtered
      let peaks : Prop := t.run.peakL = max s.run.peakL fl ∧ t.run.peakR = max s.run.peakR fr ∧
        t.run.pressL = (if s.run.peakL < fl then pressure else s.run.pressL) ∧
        t.run.pressR = (if s.run.peakR < fr then pressure else s.run.pressR)
      let widened (e : Option Extremes) (f : Int) : Option Extremes :=
        some ((e.map (fun x => ⟨max x.fmax f, min x.fmin f⟩)).getD ⟨f, f⟩)
      let holding : Prop := s.run.step = .settle ∨ s.run.step = .hold
      let sensor : Bool := s.run.tqFaultSeen || (t.faultsOf 0).overRange || (t.faultsOf 1).overRange
      (held → inAttemptPart t.run.phase = true → t.run.tqFaultSeen = sensor ∧
        t.run.openSeen = (s.run.openSeen || s.run.arm.channel.any (fun c => (t.faultsOf c).openWire))) ∧
      (held → s.run.step = .onsetWait → s.run.releaseMark = true → 30 ≤ fl + fr →
        t.run.step = .settle ∧ t.run.ovalityOnset = now ∧ peaks ∧ t.run.extL = s.run.extL ∧ t.seq = s.seq) ∧
      (held → s.run.step = .onsetWait → s.run.releaseMark = false ∨ fl + fr < 30 →
        t.run.step = .onsetWait ∧ t.run.releaseMark = (s.run.releaseMark || decide (fl + fr < 30)) ∧ t.seq = s.seq ∧
        t.run.peakL = s.run.peakL ∧ t.run.peakR = s.run.peakR) ∧
      (held → s.run.step ≠ .onsetWait → 30 ≤ fl + fr →
        t.run.step = s.run.step ∧ peaks ∧ t.run.unsteady = s.run.unsteady ∧ t.seq = s.seq ∧
        t.run.extL = (if s.run.step = .hold then widened s.run.extL fl else s.run.extL) ∧
        t.run.extR = (if s.run.step = .hold then widened s.run.extR fr else s.run.extR)) ∧
      (held → s.run.step ≠ .onsetWait → fl + fr < 30 → s.run.runs.service = true →
        t.run.phase = .serviceOnset ∧ t.run.releaseMark = true ∧ t.run.waitRef = now ∧ t.seq.state = .serviceOnset ∧
        peaks ∧ (holding → t.run.unsteady = true) ∧ (¬ holding → t.run.unsteady = s.run.unsteady) ∧
        t.run.ovalityL = s.run.ovalityL ∧ t.run.ovalityR = s.run.ovalityR ∧ t.tab = s.tab) ∧
      (held → s.run.step ≠ .onsetWait → fl + fr < 30 → s.run.runs.service = false → s.run.runs.parking = false →
        s.drv.state = .run → t.run = RunUnit.cleared ∧ Stopped s t .commanded ∧ t.seq.state = .spindown ∧
        ∃ a, (t.record s.run.axle).top = some a ∧ a.reason = .release ∧ a.noOnset = false ∧ a.sensor = sensor ∧
          a.peakL = max s.run.peakL fl ∧ a.peakR = max s.run.peakR fr ∧
          (holding → a.unsteady = true) ∧ (¬ holding → a.unsteady = s.run.unsteady)) ∧
      (held → s.run.step ≠ .onsetWait → fl + fr < 30 → s.run.runs.service = false → s.run.runs.parking = true →
        t.run.phase = .parkOnset ∧ t.run.parkExpiries = 0 ∧ t.run.waitRef = now ∧ t.run.waitBegan = now ∧
        t.run.releaseMark = true ∧ t.seq.state = .parkOnset ∧ t.drv = s.drv ∧ t.tab = s.tab ∧
        ∃ a, t.run.held = some a ∧ a.reason = .release ∧ a.noOnset = false ∧ a.sensor = sensor ∧
          a.peakL = max s.run.peakL fl ∧ a.peakR = max s.run.peakR fr ∧
          a.ovalityL = s.run.ovalityL ∧ a.ovalityR = s.run.ovalityR ∧ a.axleOvality = s.run.axleOvality ∧
          (holding → a.unsteady = true) ∧ (¬ holding → a.unsteady = s.run.unsteady)))

/-- The ramp (R81, R75): a sum at or above the mark before the close window has elapsed is FAST and costs a violation with its
RAMP_VIOLATION entry, cause 1 and the new count, before the SEQ_STATE entry of SERVICE_RUN (the model's order, assumption 56) and, at the
sample of the service onset, behind that of SERVICE_RAMP; later, up to the end of the open window, it is GOOD and gives one back; the open window expiring with the mark not reached makes it WEAK. Each leads
to SERVICE_RUN. The sample that does it (R72, R73, R80, R82 to R84, R96, R97), for an axle that it leaves seated and a state in which no step
is due (assumption 5): the watch marks are set by the flags of this sample, the onset of the service wait fixes the ramp mark, the peaks with their pressures and the worst imbalance are
tracked from the onset on, the mark is tested, and the release is counted in SERVICE_RUN. That the sample is taken so also where a stop
of the drive arises at it is the model's choice (assumptions 46 and 58). -/
def Obligations.RampIsJudged : Prop :=
  (∀ s : State, s.run.phase = .serviceRamp → s.run.axle < s.tab.records.length → isRunState s.seq.state = true →
    let v := (s.record s.run.axle).violations
    let first : Nat := if s.filtered 0 + s.filtered 1 < 30 then 1 else 0
    let e := 5 * (s.clk.sampleNo - s.run.serviceOnset)
    (s.filtered 0 + s.filtered 1 < s.run.rampMark → s.rampTest = s) ∧
    (s.run.rampMark ≤ s.filtered 0 + s.filtered 1 → e < s.run.arm.closeWindow → v < s.run.arm.maxViolations →
      s.rampTest.run = { s.run with phase := .serviceRun, ramp := .fast, releaseCount := first } ∧
      s.rampTest.tab = { s.tab with
        records := s.tab.records.set s.run.axle { s.record s.run.axle with violations := v + 1 } } ∧
      (Memory.wf s.mem → s.jr.blocks = false → Memory.readWords s.rampTest.mem (entryBase s.jr.put.toNat) 8
        = entryWords (lowWord (s.jr.produced + 1)) evRampViolation (s.run.axle + 1) s.jr.gap s.time 1 (word (v + 1))) ∧
      s.rampTest.seq.state = .serviceRun ∧ s.rampTest.drv = s.drv) ∧
    (s.run.rampMark ≤ s.filtered 0 + s.filtered 1 → s.run.arm.closeWindow ≤ e → e ≤ s.run.arm.openWindow →
      s.rampTest.run = { s.run with phase := .serviceRun, ramp := .good, releaseCount := first } ∧
      s.rampTest.tab = { s.tab with
        records := s.tab.records.set s.run.axle { s.record s.run.axle with violations := v - 1 } } ∧
      s.rampTest.seq.state = .serviceRun ∧ s.rampTest.drv = s.drv) ∧
    (s.filtered 0 + s.filtered 1 < s.run.rampMark → s.run.arm.openWindow ≤ e → ∃ t, exec .openWindowExpiry s = .next t ∧
      t.run = { s.run with phase := .serviceRun, ramp := .weak, releaseCount := first } ∧ t.tab = s.tab ∧
      t.seq.state = .serviceRun ∧ t.drv = s.drv)) ∧
  (∀ (inp : SampleInput) (s : State), s.quiet = true → s.eng.started = true → s.eng.loading = false →
    s.eng.inputs.length = 11 → s.eng.faults.length = 11 → isRunState s.seq.state = true →
    s.run.axle < s.tab.records.length →
    ∃ t, exec (.sample inp) s = .next t ∧
      let fl := t.filtered 0
      let fr := t.filtered 1
      let now := s.clk.sampleNo + 1
      let held : Prop := s.seat.seated = true → 100 ≤ t.filtered 2 ∧ 100 ≤ t.filtered 3
      let pressure : Option Int := s.run.arm.channel.map t.filtered
      let worst : Option Int :=
        if max fl fr < 50 then s.run.worst
        else some (max (s.run.worst.getD 0) (roundDiv (((fl - fr).natAbs : Int) * 100) (max fl fr)))
      let peaks : Prop := t.run.peakL = max s.run.peakL fl ∧ t.run.peakR = max s.run.peakR fr ∧
        t.run.pressL = (if s.run.peakL < fl then pressure else s.run.pressL) ∧
        t.run.pressR = (if s.run.peakR < fr then pressure else s.run.pressR)
      let weights : Option Int := (s.record s.run.axle).weightL.bind (fun l =>
        (s.record s.run.axle).weightR.map (fun r => l + r))
      let mark : Int := if s.run.arm.planMark ≠ 0 then s.run.arm.planMark
        else match weights with
          | some w => max 100 (Int.tdiv w 4)
          | none => 500
      let v := (s.record s.run.axle).violations
      let violation (k : Nat) : Prop := (t.record s.run.axle).violations = v + 1 ∧
        (Memory.wf s.mem → t.eng.faults = s.eng.faults → s.jr.count + k < 128 →
          Memory.readWords t.mem (entryBase (s.jr.put + BitVec.ofNat 8 k).toNat) 8
            = entryWords (lowWord (s.jr.produced + BitVec.ofNat 32 (k + 1))) evRampViolation (s.run.axle + 1)
              (if k = 0 then s.jr.gap else 0) s.time 1 (word (v + 1)))
      let judged (m : Int) (onset : Nat) : Prop :=
        (fl + fr < m → t.run.phase = .serviceRamp ∧ t.run.ramp = s.run.ramp ∧ t.seq.state = .serviceRamp ∧ t.tab = s.tab) ∧
        (m ≤ fl + fr → t.run.phase = .serviceRun ∧ t.seq.state = .serviceRun ∧
          t.run.releaseCount = (if fl + fr < 30 then 1 else 0) ∧
          (5 * (now - onset) < s.run.arm.closeWindow → t.run.ramp = .fast ∧
            (v < s.run.arm.maxViolations → violation (if s.seq.state = .serviceRamp then 0 else 1))) ∧
          (s.run.arm.closeWindow ≤ 5 * (now - onset) → 5 * (now - onset) ≤ s.run.arm.openWindow →
            t.run.ramp = .good ∧ (t.record s.run.axle).violations = v - 1))
      (held → s.run.phase = .serviceOnset ∨ s.run.phase = .serviceRamp ∨ s.run.phase = .serviceRun →
        t.run.tqFaultSeen = (s.run.tqFaultSeen || (t.faultsOf 0).overRange || (t.faultsOf 1).overRange) ∧
        t.run.openSeen = (s.run.openSeen || s.run.arm.channel.any (fun c => (t.faultsOf c).openWire))) ∧
      (held → s.run.phase = .serviceOnset → s.run.releaseMark = true → 30 ≤ fl + fr →
        t.run.serviceOnset = now ∧ t.run.rampMark = mark ∧ peaks ∧ t.run.worst = worst ∧ judged mark now) ∧
      (held → s.run.phase = .serviceOnset → s.run.releaseMark = false ∨ fl + fr < 30 →
        t.run.phase = .serviceOnset ∧ t.run.releaseMark = (s.run.releaseMark || decide (fl + fr < 30)) ∧
        t.run.worst = s.run.worst ∧ t.seq = s.seq ∧ (s.run.tracking = true → peaks)) ∧
      (held → s.run.phase = .serviceRamp → s.seq.state = .serviceRamp →
        t.run.rampMark = s.run.rampMark ∧ peaks ∧ t.run.worst = worst ∧ judged s.run.rampMark s.run.serviceOnset) ∧
      (held → s.run.phase = .serviceRun → t.run.phase = .serviceRun ∧ peaks ∧ t.run.worst = worst ∧ t.seq = s.seq ∧
        t.run.releaseCount = if fl + fr < 30 then s.run.releaseCount + 1 else 0))

/-- The parking run (R90, R91, R92): the first expiry of its start window repeats the prompt, with a frame falling due that shows it and
blinks (R71, R156, R161; that it repeats RELEASE where the release mark is clear is the model's choice, assumption 47), and starts the window
again, with no entry and no violation, the second ends it with both peaks 0 and RUN_LIMIT; release and the run limit end it with its peaks. At its end
the parking result is replaced whole, in the table area too (R47, R54), then the attempt that waited on this spin is pushed (R88), the unit is IDLE, the drive is
stopped COMMANDED and the sequencer is in SPINDOWN. The samples of the parking wait and run (R73, R91), for an axle that they leave
seated and a state in which no step is due (assumption 5). That the sample is taken so also where a stop of the drive arises at it is the
model's choice (assumption 58). -/
def Obligations.ParkingRun : Prop :=
  (∀ s : State, s.run.phase = .parkOnset → s.run.arm.startWindow ≤ 5 * (s.clk.sampleNo - s.run.waitRef) →
    s.run.axle < s.tab.records.length →
    (s.run.parkExpiries = 0 → ∃ t, exec .parkWindowExpiry s = .next t ∧
      t.run = { s.run with parkExpiries := 1, waitRef := s.clk.sampleNo } ∧
      t.disp.repeatMark = some (s.clk.ms + 2000) ∧ FrameFell s t ∧ KeepsAllBut [.run, .disp, .mem] s t) ∧
    (s.run.parkExpiries ≠ 0 → s.drv.state = .run → isRunState s.seq.state = true →
      ∃ t, exec .parkWindowExpiry s = .next t ∧
      (s.run.held = none → (t.record s.run.axle).attempts = (s.record s.run.axle).attempts) ∧
      (∀ a, s.run.held = some a → (t.record s.run.axle).top = some { a with time := s.time } ∧
        (t.record s.run.axle).attempts.length = min 3 ((s.record s.run.axle).attempts.length + 1)) ∧
      (t.record s.run.axle).parking = some ⟨0, 0, .runLimit, s.time⟩ ∧
      (t.record s.run.axle).violations = (s.record s.run.axle).violations ∧
      t.run = RunUnit.cleared ∧ Stopped s t .commanded ∧ t.seq.state = .spindown)) ∧
  (∀ s : State, s.run.phase = .parkRun → s.run.axle < s.tab.records.length → s.drv.state = .run →
    isRunState s.seq.state = true → Memory.wf s.mem →
    let ended (t : State) (reason : EndReason) : Prop :=
      (s.run.axle < 8 → Memory.readWords t.mem (0x0A14 + 256 * s.run.axle) 5 = [signedWord s.run.parkPeakL,
        signedWord s.run.parkPeakR, word (codeOfEnd reason), lowWord s.time, highWord s.time]) ∧
      (t.record s.run.axle).parking = some ⟨s.run.parkPeakL, s.run.parkPeakR, reason, s.time⟩ ∧
      (s.run.held = none → (t.record s.run.axle).attempts = (s.record s.run.axle).attempts) ∧
      (∀ a, s.run.held = some a → (t.record s.run.axle).top = some { a with time := s.time } ∧
        (t.record s.run.axle).attempts.length = min 3 ((s.record s.run.axle).attempts.length + 1)) ∧
      (∀ k, k ≠ s.run.axle → t.record k = s.record k) ∧
      t.run = RunUnit.cleared ∧ Stopped s t .commanded ∧ t.seq.state = .spindown ∧ t.seq.parkingOwed = false
    (41 ≤ s.run.parkRelease → ∃ t, exec .parkRelease s = .next t ∧ ended t .release) ∧
    (s.run.parkRelease < 41 → 30000 ≤ 5 * (s.clk.sampleNo - s.run.parkOnset) →
      ∃ t, exec .parkRunLimit s = .next t ∧ ended t .runLimit)) ∧
  (∀ (inp : SampleInput) (s : State), s.quiet = true → s.eng.started = true → s.eng.loading = false →
    s.eng.inputs.length = 11 → s.eng.faults.length = 11 → isRunState s.seq.state = true →
    ∃ t, exec (.sample inp) s = .next t ∧
      let fl := t.filtered 0
      let fr := t.filtered 1
      let held : Prop := s.seat.seated = true → 100 ≤ t.filtered 2 ∧ 100 ≤ t.filtered 3
      (held → s.run.phase = .parkOnset → s.run.releaseMark = true → 30 ≤ fl + fr →
        t.run = { s.run with
          phase := .parkRun, parkOnset := s.clk.sampleNo + 1, parkPeakL := max 0 fl, parkPeakR := max 0 fr
          parkRelease := 0 } ∧
        t.seq.state = .parkRun) ∧
      (held → s.run.phase = .parkOnset → s.run.releaseMark = false ∨ fl + fr < 30 → t.seq = s.seq ∧
        t.run = { s.run with releaseMark := s.run.releaseMark || decide (fl + fr < 30) }) ∧
      (held → s.run.phase = .parkRun → t.seq = s.seq ∧ t.run = { s.run with
        parkPeakL := max s.run.parkPeakL fl, parkPeakR := max s.run.parkPeakR fr
        parkRelease := if fl + fr < 30 then s.run.parkRelease + 1 else 0 }))

/-- A stop of the drive ends the attempt part (R85, R89): the end reason is the stop's, MODE and COMMANDED giving ABORT; after a
slip stop a named parking run is owed to a second spin, after any other stop it is not. A side that its own slip stop ended is
projected LOCKED (R100, R101). A stop in PARK_ONSET or PARK_RUN ends the parking run with the same reason (R91): the parking result first,
with peaks 0 in PARK_ONSET, then the held attempt (R88, R92), and nothing owed; at the sample at which a same-spin PARK_ONSET began it
withdraws the wait instead, and parking is owed (R89). That ATTEMPT_DONE comes before the SEQ_STATE entry of SPINDOWN is the model's
order (assumption 48). Stated for every reason but LANE_RESET. -/
def Obligations.DriveStopEndsTheAttempt : Prop :=
  (∀ (s : State) (r : StopReason), inAttemptPart s.run.phase = true → r ≠ .laneReset → s.run.axle < s.tab.records.length →
    isRunState s.seq.state = true →
    let t := s.runStop r
    let reason : EndReason :=
      if r = .slipL then .slipL else if r = .slipR then .slipR else if r = .slipBoth then .slipBoth
      else if r = .stall then .stall else if r = .unseat then .unseat else if r = .presence then .presence
      else if r = .estop then .estop else .abort
    t.run = RunUnit.cleared ∧ t.seq.state = .spindown ∧
    t.seq.parkingOwed = (s.run.runs.parking && (r == .slipL || r == .slipR || r == .slipBoth)) ∧
    (∃ a, (t.record s.run.axle).top = some a ∧ a.reason = reason ∧ a.ramp = s.run.ramp ∧ a.time = s.time ∧
      a.peakL = s.run.peakL ∧ a.peakR = s.run.peakR ∧ a.sensor = s.run.tqFaultSeen ∧
      (a.projL, a.flagL) = sideProjection s.run (r == .slipL || r == .slipBoth) s.run.peakL s.run.pressL ∧
      (a.projR, a.flagR) = sideProjection s.run (r == .slipR || r == .slipBoth) s.run.peakR s.run.pressR) ∧
    (t.record s.run.axle).parking = (s.record s.run.axle).parking ∧ t.drv = s.drv) ∧
  (∀ (s : State) (r : StopReason), s.run.phase = .parkOnset ∨ s.run.phase = .parkRun → r ≠ .laneReset →
    s.run.axle < s.tab.records.length → isRunState s.seq.state = true → Memory.wf s.mem →
    let t := s.runStop r
    let reason : EndReason :=
      if r = .slipL then .slipL else if r = .slipR then .slipR else if r = .slipBoth then .slipBoth
      else if r = .stall then .stall else if r = .unseat then .unseat else if r = .presence then .presence
      else if r = .estop then .estop else .abort
    let withdrawn : Prop := s.run.phase = .parkOnset ∧ s.run.held ≠ none ∧ s.run.waitBegan = s.clk.sampleNo
    let pushed : BitVec 32 := if s.run.held = none then 0 else 1
    t.run = RunUnit.cleared ∧ t.seq.state = .spindown ∧ t.drv = s.drv ∧
    (s.run.held = none → (t.record s.run.axle).attempts = (s.record s.run.axle).attempts) ∧
    (∀ a, s.run.held = some a → (t.record s.run.axle).top = some { a with time := s.time } ∧
      (t.record s.run.axle).attempts.length = min 3 ((s.record s.run.axle).attempts.length + 1)) ∧
    (∀ k, k ≠ s.run.axle → t.record k = s.record k) ∧
    (withdrawn → t.seq.parkingOwed = true ∧ (t.record s.run.axle).parking = (s.record s.run.axle).parking ∧
      t.jr.produced = s.jr.produced + 2) ∧
    (¬ withdrawn → t.seq.parkingOwed = false ∧ (t.record s.run.axle).parking = some
        (if s.run.phase = .parkRun then ⟨s.run.parkPeakL, s.run.parkPeakR, reason, s.time⟩ else ⟨0, 0, reason, s.time⟩) ∧
      t.jr.produced = s.jr.produced + 2 + pushed ∧
      (s.jr.blocks = false → Memory.readWords t.mem (entryBase s.jr.put.toNat) 8 = entryWords (lowWord (s.jr.produced + 1))
        evAttemptDone (s.run.axle + 1) s.jr.gap s.time (bytePair (codeOfEnd reason) 1) 0)))

/-! ## The side-slip plate -/

/-- The crossings of the plate under a running plan (R115 to R120, R121): PLATE_IN opens a forward crossing with its reference and
d0, PLATE_OUT a reverse one, both at one sample none; the end of a forward crossing writes the side-slip result and raises the
count, of a reverse one voids the last result and lowers it. A further wheel on the first switch is noted as the follower, also at
the sample of the end, and a follower opens the next crossing at once. The two words of a result or of a voided one are written whole,
values that were equal included (R47, R211). That the hold reads the seat state alone, so that an axle seated before the plan was
taken counts, is the model's choice (assumption 66). -/
def Obligations.PlateCrossings : Prop :=
  ∀ s : State, s.eng.inputs.length = 11 → s.planRuns = true → Memory.wf s.mem →
    let n := s.tab.plateCount
    let setAt (k : Nat) (x : SideSlip) (count : Nat) : AxleTable :=
      { s.tab with plateCount := count, records := s.tab.records.set k { s.record k with sideSlip := x } }
    let next (c : Crossing) (d0 : Int) (more : Bool) : Plate :=
      if s.plate.follower ∨ more = true then ⟨c, d0, false, s.clk.sampleNo, s.plate.length⟩
      else ⟨.idle, s.plate.d0, false, s.plate.ref, s.plate.length⟩
    (s.settlesOn .plateIn = true → s.settlesOn .plateOut = false → s.plate.crossing = .idle →
      ∃ t, exec (.settledChange .plateIn) s = .next t ∧
        t.plate = ⟨.forwardOn, s.filtered 8, false, s.clk.sampleNo, s.plate.length⟩ ∧ KeepsAllBut [.eng, .plate] s t) ∧
    (s.settlesOn .plateOut = true → s.settlesOn .plateIn = false → s.plate.crossing = .idle →
      ∃ t, exec (.settledChange .plateOut) s = .next t ∧
        t.plate = ⟨.reverseOn, s.plate.d0, false, s.clk.sampleNo, s.plate.length⟩ ∧ KeepsAllBut [.eng, .plate] s t) ∧
    (s.settlesOn .plateOut = true → s.settlesOn .plateIn = true → s.plate.crossing = .idle →
      ∃ t, exec (.settledChange .plateIn) s = .next t ∧ KeepsAllBut [.eng] s t) ∧
    (s.settlesOn .plateOut = true → s.settlesOn .plateIn = true →
      exec (.settledChange .plateOut) s = exec (.settledChange .plateIn) s) ∧
    (s.settlesOn .plateIn = true → s.settlesOn .plateOut = false → s.plate.crossing = .forwardOn →
      ∃ t, exec (.settledChange .plateIn) s = .next t ∧ t.plate = { s.plate with follower := true } ∧
        KeepsAllBut [.eng, .plate] s t) ∧
    (s.settlesOn .plateOut = true → s.settlesOn .plateIn = false → s.plate.crossing = .reverseOn →
      ∃ t, exec (.settledChange .plateOut) s = .next t ∧ t.plate = { s.plate with follower := true } ∧
        KeepsAllBut [.eng, .plate] s t) ∧
    (s.settlesOn .plateOut = true → s.plate.crossing = .forwardOn →
      ∃ t, exec (.settledChange .plateOut) s = .next t ∧ t.plate = next .forwardOn (s.filtered 8) (s.settlesOn .plateIn) ∧
        KeepsAllBut [.eng, .plate, .tab, .mem, .jr, .att] s t ∧
        (∀ l, n < s.tab.axleCount → s.plate.length = some l →
          let v := clamp (-999) 999 (roundDiv ((s.filtered 8 - s.plate.d0) * 1000) l)
          t.tab = setAt n ⟨some v, decide (30 < s.plate.d0.natAbs), false, false⟩ (n + 1) ∧
          (n < 8 → n < s.tab.records.length → Memory.readWords t.mem (0x0A00 + 256 * n + 10) 2
            = [signedWord v, flagWord [decide (30 < s.plate.d0.natAbs), false, false]]) ∧
          EntryMade s t evPlateResult (n + 1) (signedWord v) (signedWord s.plate.d0)) ∧
        (n < s.tab.axleCount → s.plate.length = none →
          t.tab = { s.tab with plateCount := n + 1 } ∧
          EntryMade s t evPlateResult (n + 1) (signedWord (-32768)) (signedWord s.plate.d0)) ∧
        (s.tab.axleCount ≤ n →
          t.tab = { s.tab with plateCount := min 15 (n + 1) } ∧ EntryMade s t evPlateExtra 0 0 (word (min 15 (n + 1))))) ∧
    (s.settlesOn .plateIn = true → s.plate.crossing = .reverseOn →
      ∃ t, exec (.settledChange .plateIn) s = .next t ∧ t.plate = next .reverseOn s.plate.d0 (s.settlesOn .plateOut) ∧
        KeepsAllBut [.eng, .plate, .tab, .mem, .jr, .att] s t ∧
        (s.seat.seated = true ∧ n = s.tab.cursor + 1 ∨ n = 0 →
          t.tab = s.tab ∧ EntryMade s t evPlateExtra 0 1 (word n)) ∧
        (¬ (s.seat.seated = true ∧ n = s.tab.cursor + 1) → 1 ≤ n → n ≤ s.tab.axleCount →
          t.tab = setAt (n - 1) { (s.record (n - 1)).sideSlip with missed := false, void := true } (n - 1) ∧
          (n - 1 < 8 → n - 1 < s.tab.records.length → Memory.readWords t.mem (0x0A00 + 256 * (n - 1) + 10) 2
            = [signedWord ((s.record (n - 1)).sideSlip.value.getD 0),
               flagWord [(s.record (n - 1)).sideSlip.uncentred, false, true]]) ∧
          EntryMade s t evPlateVoid n (word (n - 1)) 0) ∧
        (¬ (s.seat.seated = true ∧ n = s.tab.cursor + 1) → s.tab.axleCount < n →
          t.tab = { s.tab with plateCount := n - 1 } ∧ EntryMade s t evPlateExtra 0 1 (word (n - 1))))

/-- A crossing that is 10000 ms old, and whose closing switch does not settle ACTIVE at this sample, ends without a result (R122): the
plate unit is IDLE, count and records stay, and PLATE_TIMEOUT names the direction and the axle it would have concerned, 0 where no
record would have been written, as for a forward crossing without a plate length (R117); that a held reverse crossing names axle 0 is
the model's reading (assumption 24), and what seat holds one its choice (assumption 66). -/
def Obligations.CrossingTimeout : Prop :=
  ∀ s : State, 10000 ≤ 5 * (s.clk.sampleNo - s.plate.ref) → Memory.wf s.mem →
    let n := s.tab.plateCount
    (s.plate.crossing = .forwardOn → s.settlesOn .plateOut = false → ∃ t, exec .crossingTimeout s = .next t ∧
      t.plate = { s.plate with crossing := .idle, follower := false } ∧
      EntryMade s t evPlateTimeout (if n < s.tab.axleCount ∧ s.plate.length ≠ none then n + 1 else 0) 0 0 ∧
      KeepsAllBut [.plate, .mem, .jr, .att] s t) ∧
    (s.plate.crossing = .reverseOn → s.settlesOn .plateIn = false → ∃ t, exec .crossingTimeout s = .next t ∧
      t.plate = { s.plate with crossing := .idle, follower := false } ∧
      EntryMade s t evPlateTimeout
        (if n ≤ s.tab.axleCount ∧ ¬ (s.planRuns = true ∧ s.seat.seated = true ∧ n = s.tab.cursor + 1) then n else 0) 1 0 ∧
      KeepsAllBut [.plate, .mem, .jr, .att] s t)

/-! ## The NV port -/

/-- A read of the power-on load (R14, R15, R113) as it comes back, or as NO_ANSWER 20 ms after it started or in a later report: the zero word is
kept, the gain word settles the record VALID in range and INVALID otherwise, the identity settles the plate length and ends the
load; a corrected zero word makes NV_CORRECTED, an unreadable word of a record NV_ERROR. The model's readings: a report at the 20th
millisecond still gives the word's result (assumption 51), and an operation that waited behind the load begins at its end
(assumption 39). -/
def Obligations.LoadReadsTheStoredRecords : Prop :=
  ∀ (s : State) (k : Nat), s.nv.op = some (.loadWord k) → Memory.wf s.mem →
    let loaded (t : State) (r : ReadResult) : Prop :=
      (k < 18 → t.nv = { s.nv with op := some (.loadWord (k + 1)), started := s.clk.ms } ∧
        KeepsAllBut [.eng, .nv, .mem, .jr, .att] s t) ∧
      (k < 18 → k % 2 = 0 →
        t.eng = { s.eng with loadZero := r.word?.map BitVec.toInt } ∧
        (∀ w, r = .good w → t.jr = s.jr) ∧
        (∀ w, r = .corrected w → EntryMade s t evNvCorrected 0 (word (k / 2)) 0) ∧
        (r.word? = none → EntryMade s t evNvError 0 (word (k / 2)) 0)) ∧
      (k < 18 → k % 2 = 1 →
        (∀ z w, s.eng.loadZero = some z → r.word? = some w → -8192 ≤ z → z ≤ 8191 → 1 ≤ w.toNat →
          t.eng = { s.eng with cals := s.eng.cals.set (k / 2) ⟨z, w.toNat, true⟩, loadZero := none }) ∧
        (s.eng.loadZero = none ∨ r.word? = none ∨ r.word? = some 0 ∨
            (∃ z, s.eng.loadZero = some z ∧ (z < -8192 ∨ 8191 < z)) →
          t.eng = { s.eng with cals := s.eng.cals.set (k / 2) ⟨0, 0, false⟩, loadZero := none }) ∧
        (r.word? = none → EntryMade s t evNvError 0 (word (k / 2)) 1)) ∧
      (18 ≤ k → t.eng.loading = false ∧ t.eng.cals = s.eng.cals ∧ t.nv.op = s.nv.waiting ∧ t.nv.waiting = none ∧
        t.plate.length = (match r.word? with
          | some w => if 400 ≤ w.toNat ∧ w.toNat ≤ 1500 then some w.toNat else none
          | none => none) ∧
        t.eng.mode = (if s.eng.cals.any (fun c => c.valid == false) then .failsafe
          else if s.level .key then .service else .normal))
    (∀ reply, s.clk.ms ≤ s.nv.started + 20 → ∃ t, exec (.calReadDone reply) s = .next t ∧
      loaded t (readResult (s.nv.store.loadWordAt k) reply)) ∧
    (∀ reply, s.nv.started + 20 < s.clk.ms → ∃ t, exec (.calReadDone reply) s = .next t ∧ loaded t .noAnswer) ∧
    (s.nv.started + 20 ≤ s.clk.ms → ∃ t, exec .nvReadTimeout s = .next t ∧ loaded t .noAnswer)

/-- The end of a CALIBRATE write (R17, R18): a write that the device completed and answered gives the working record, VALID with
an empty history; any other end, a report after more than 20 ms, and the 20 ms limit leave the working record and complete FAILED; the
lane mode is derived in both cases (R22). A write that a lane reset broke off releases the port at the device's report or after 20 ms
and changes nothing else (R18, R180). The store holds what the device made of each word, and a waiting operation begins at the release.
The model's readings: a report at the 20th millisecond still succeeds (assumption 51), and success is a write answered with both words
completed (assumption 19). -/
def Obligations.NvWritesEnd : Prop :=
  (∀ (s : State) (ch : Nat) (z g : Word) (c : CalibrateOp), s.nv.op = some (.calWrite ch z g) → s.eng.calib = some c →
    c.slot < 16 → s.slots.length = 16 → ch < s.eng.cals.length → ch < s.eng.chans.length → Memory.wf s.mem →
    let mode (t : State) : Prop := t.eng.mode =
      (if t.eng.cals.any (fun c => c.valid == false) = true then .failsafe
      else if s.level .key then .service else .normal)
    let ended (t : State) (cut : NvCut) : Prop :=
      t.eng.calib = none ∧ t.nv = ⟨s.nv.store.writeCal ch z g cut, s.nv.waiting, s.clk.ms, none⟩ ∧ mode t
    let failed (t : State) (cut : NvCut) : Prop :=
      ended t cut ∧ t.eng.cals = s.eng.cals ∧ t.eng.chans = s.eng.chans ∧ SlotDone t c.slot .failed .nvError []
    (s.clk.ms ≤ s.nv.started + 20 → ∃ t, exec (.calibrateWriteDone ⟨.done, .done⟩ true) s = .next t ∧ ended t ⟨.done, .done⟩ ∧
      t.nv.store.cals = s.nv.store.cals.set ch (.clean z, .clean g) ∧
      t.eng.cals = s.eng.cals.set ch ⟨c.zero, c.gain, true⟩ ∧
      (t.eng.chans.getD ch noChannel) = { s.eng.chans.getD ch noChannel with history := [] } ∧
      SlotDone t c.slot .ok (if c.lateAbort then .lateAbort else .none) []) ∧
    (∀ cut answered, (answered = false ∨ cut.first ≠ .done ∨ cut.second ≠ .done ∨ s.nv.started + 20 < s.clk.ms) →
      ∃ t, exec (.calibrateWriteDone cut answered) s = .next t ∧ failed t cut) ∧
    (∀ cut, s.nv.started + 20 ≤ s.clk.ms → ∃ t, exec (.calibrateWriteTimeout cut) s = .next t ∧ failed t cut)) ∧
  (∀ (s : State) (cut : NvCut),
    (∀ ch z g, s.nv.op = some (.brokenCal ch z g) →
      exec (.nvPortReleased cut) s
        = .next (s.setNv ⟨s.nv.store.writeCal ch z g cut, s.nv.waiting, s.clk.ms, none⟩) ∧
      (s.nv.started + 20 ≤ s.clk.ms → exec (.nvReleaseTimeout cut) s
        = .next (s.setNv ⟨s.nv.store.writeCal ch z g cut, s.nv.waiting, s.clk.ms, none⟩))) ∧
    (∀ v, s.nv.op = some (.brokenCounter v) →
      exec (.nvPortReleased cut) s
        = .next (s.setNv ⟨s.nv.store.writeCounter v cut, s.nv.waiting, s.clk.ms, none⟩) ∧
      (s.nv.started + 20 ≤ s.clk.ms → exec (.nvReleaseTimeout cut) s
        = .next (s.setNv ⟨s.nv.store.writeCounter v cut, s.nv.waiting, s.clk.ms, none⟩))))

/-- The end of a counter read (R176, R177, R179): a value below the greatest is filled into the record and its successor is
written; the greatest value, an unreadable word, a report after more than 20 ms and the 20 ms limit clear the record and fail the
request; after an ABORT the record is cleared and the request ends ABORTED, at the limit without an entry of its own. That a report at the
20th millisecond still fills the record is the model's reading (assumption 51). What the fill writes: the mass used and the two
efficiencies (R104 to R110), the item verdicts and the overall verdict (R165 to R169), and the figures of the axle lines, those of the
top attempt and of the parking result included (R171). The fill writes the words of the image that R171 gives it, those from 0x006 to
0x23E, over what the host wrote there, and the state word, the number, the check word and the print count not (R177, R196); an end
without a certificate writes of a cleared record the state word alone (R176, R179). -/
def Obligations.CounterReadEnds : Prop :=
  (∀ (s : State) (c : ComposeOp), s.nv.op = some .counterRead → s.comp.op = some c → c.target < s.comp.records.length →
    c.slot < 16 → s.slots.length = 16 → Memory.wf s.mem →
    let cleared (t : State) (o : ReqOutcome) (d : Detail) : Prop :=
      t.cert c.target = CertRecord.cleared .empty ∧ t.comp.op = none ∧ SlotDone t c.slot o d [] ∧
      t.nv = { s.nv with op := s.nv.waiting, started := s.clk.ms, waiting := none } ∧ t.tab = s.tab ∧
      (c.target < 4 → s.cert c.target = CertRecord.cleared .composing →
        ∀ a, certByte c.target a → certBase c.target + 2 ≤ a → Memory.readByte t.mem a = Memory.readByte s.mem a)
    let failed (t : State) : Prop := cleared t .failed .nvError
    (∀ high low v, s.clk.ms ≤ s.nv.started + 20 → c.aborted = false → (readResult s.nv.store.counterHigh high).word?.bind
        (fun h => (readResult s.nv.store.counterLow low).word?.map (fun l => 65536 * h.toNat + l.toNat)) = some v →
      ∃ t, exec (.counterReadDone high low) s = .next t ∧
        (v < 4294967295 → t.cert c.target = filledRecord s.tab s.time ∧ (t.cert c.target).number = 0 ∧
          (t.cert c.target).state = .composing ∧ (t.cert c.target).checkWord = 0 ∧
          t.nv = { s.nv with op := some (.counterWrite (v + 1)), started := s.clk.ms } ∧
          t.comp.op = some { c with stage := .writing (v + 1) } ∧ t.slots = s.slots ∧ t.tab = s.tab ∧
          (c.target < 4 → s.cert c.target = CertRecord.cleared .composing →
            Memory.readWords t.mem (certBase c.target + 6) 285 = (certSpanWords (filledRecord s.tab s.time)).drop 2 ∧
            ∀ a, certByte c.target a → a < certBase c.target + 6 ∨ certBase c.target + 0x240 ≤ a →
              Memory.readByte t.mem a = Memory.readByte s.mem a)) ∧
        (v = 4294967295 → cleared t .failed .counterFull)) ∧
    (∀ high low, c.aborted = false → (readResult s.nv.store.counterHigh high).word? = none ∨
        (readResult s.nv.store.counterLow low).word? = none ∨ s.nv.started + 20 < s.clk.ms →
      ∃ t, exec (.counterReadDone high low) s = .next t ∧ failed t) ∧
    (c.aborted = false → s.nv.started + 20 ≤ s.clk.ms → ∃ t, exec .counterReadTimeout s = .next t ∧ failed t ∧
      t.jr.produced = s.jr.produced + 2) ∧
    (∀ high low, c.aborted = true → ∃ t, exec (.counterReadDone high low) s = .next t ∧ cleared t .aborted .none) ∧
    (c.aborted = true → s.nv.started + 20 ≤ s.clk.ms → ∃ t, exec .counterReadTimeout s = .next t ∧
      cleared t .aborted .none ∧ t.jr.produced = s.jr.produced + 1)) ∧
  (∀ (tab : AxleTable) (time : DWord),
    let axles := (tab.plan.axles.zip tab.records).take tab.axleCount
    let wants (k : Nat) : List AxleRecord := (axles.filter (fun x => x.1.tests.getLsbD k)).map (fun x => x.2)
    let byBrake (e : EndReason) : Bool := e == .release || e == .runLimit || e == .slipL || e == .slipR || e == .slipBoth
    let mass : Option Int := if tab.plan.presence.getLsbD 0 then some tab.plan.refMass.toNat
      else if axles.all (fun x => x.2.weightL.isSome && x.2.weightR.isSome)
      then some (axles.map (fun x => x.2.weightL.getD 0 + x.2.weightR.getD 0)).sum else none
    let service (r : AxleRecord) : Option Int := match r.top with
      | some a => if a.sensor = false ∧ byBrake a.reason = true
        then some (a.projL.getD a.peakL + a.projR.getD a.peakR) else none
      | none => none
    let parking (r : AxleRecord) : Option Int := match r.parking with
      | some p => if byBrake p.reason then some (p.peakL + p.peakR) else none
      | none => none
    let efficiency (forces : List (Option Int)) : Option Int :=
      if forces = [] ∨ none ∈ forces ∨ mass = none ∨ mass = some 0 then none
      else some (clamp 0 9999 (roundDiv ((forces.map (fun f => f.getD 0)).sum * 1000000) (mass.getD 0 * 981)))
    let vehicle (forces : List (Option Int)) (limit : Word) : Verdict :=
      if forces = [] then .notRequested
      else match efficiency forces with
        | none => .notTested
        | some v => if v < limit.toNat then .fail else .pass
    let brake (asked : Bool) (r : AxleRecord) (value : Attempt → Option Int) (limit : Word) : Verdict :=
      if asked = false then .notRequested
      else match r.top with
        | none => .notTested
        | some a => if a.sensor = true ∨ byBrake a.reason = false then .invalid
          else match value a with
            | none => .notTested
            | some v => if (limit.toNat : Int) < v then .fail else .pass
    let slip (asked : Bool) (x : SideSlip) : Verdict :=
      if asked = false then .notRequested else if x.void then .invalid
      else match x.value with
        | none => .notTested
        | some v => if v < tab.limits.slipMin.toInt ∨ tab.limits.slipMax.toInt < v then .fail else .pass
    let c := filledRecord tab time
    let items : List Verdict := c.lines.flatMap (fun l => [l.imbalanceVerdict, l.ovalityVerdict, l.sideSlipVerdict])
      ++ [c.serviceVerdict, c.parkingVerdict]
    c.mass = mass.map Int.toNat ∧
    c.serviceEff = (efficiency ((wants 2).map service)).map Int.toNat ∧
    c.parkingEff = (efficiency ((wants 3).map parking)).map Int.toNat ∧
    c.serviceVerdict = vehicle ((wants 2).map service) tab.limits.minService ∧
    c.parkingVerdict = vehicle ((wants 3).map parking) tab.limits.minParking ∧
    c.lines.map (fun l => (l.imbalanceVerdict, l.ovalityVerdict, l.sideSlipVerdict)) = axles.map (fun x =>
      (brake (x.1.tests.getLsbD 2) x.2 (fun a => a.imbalance) tab.limits.maxImbalance,
       brake (x.1.tests.getLsbD 1) x.2 (fun a => a.axleOvality) tab.limits.maxOvality,
       slip (x.1.tests.getLsbD 4) x.2.sideSlip)) ∧
    c.lines.map (fun l => (l.status, l.skip, l.weightL, l.weightR, l.attemptCount, l.overflow, l.sideSlip)) = axles.map
      (fun x => (x.2.status, x.2.skip, x.2.weightL, x.2.weightR, x.2.attempts.length, x.2.overflow, x.2.sideSlip)) ∧
    c.lines.map (·.top) = axles.map (fun x => x.2.top.map (fun a =>
      ⟨a.reason, a.ramp, a.sensor, a.noOnset, a.unsteady, a.peakL, a.peakR, a.projL, a.projR, a.flagL, a.flagR, a.imbalance,
        a.axleOvality⟩)) ∧
    c.lines.map (fun l => (l.parkPeakL, l.parkPeakR, l.parkReason)) = axles.map (fun x =>
      ((x.2.parking.map (·.peakL)).getD 0, (x.2.parking.map (·.peakR)).getD 0, x.2.parking.map (·.reason))) ∧
    c.overall = (if .fail ∈ items then .fail
      else if .notTested ∈ items ∨ .invalid ∈ items ∨ (∃ x ∈ axles, x.2.status ≠ .done) then .incomplete else .pass) ∧
    c.time = time ∧ c.runId = tab.runId ∧ c.vehicle = tab.plan.vehicle.takeWhile (fun b => b != 0) ∧
    c.limits = tab.limits ∧ c.limitsRow = tab.plan.limitsRow ∧ c.axleCount = tab.axleCount)

/-- The end of a counter write (R178, R179): on success the record is ISSUED under the number with its check word (R172), both halves of
the number and the check word are written in lane memory, the table is certified, the last issued number follows with one entry more,
and the slot completes OK; on failure, for a report after more than 20 ms and at the 20 ms limit the record is cleared, one entry more
is made and the slot completes FAILED: of a record filled and not issued the state word reads EMPTY and the filled words read zero,
whatever the host wrote there, and the number, the check word and the print count stay as they read (R196). The model's readings: a report at the 20th millisecond still succeeds (assumption 51), and
success is a write answered with both words completed (assumption 19). -/
def Obligations.CounterWriteEnds : Prop :=
  ∀ (s : State) (v : Nat) (c : ComposeOp), s.nv.op = some (.counterWrite v) → s.comp.op = some c →
    c.target < s.comp.records.length → c.slot < 16 → s.slots.length = 16 → Memory.wf s.mem →
    let failed (t : State) (cut : NvCut) : Prop :=
      t.cert c.target = CertRecord.cleared .empty ∧ t.comp.op = none ∧ t.comp.lastIssued = s.comp.lastIssued ∧
      SlotDone t c.slot .failed .nvError [] ∧ t.tab = s.tab ∧ t.jr.produced = s.jr.produced + 2 ∧
      t.nv = ⟨s.nv.store.writeCounter v cut, s.nv.waiting, s.clk.ms, none⟩ ∧
      (c.target < 4 → (s.cert c.target).state = .composing → (s.cert c.target).number = 0 → (s.cert c.target).checkWord = 0 →
        (s.cert c.target).printCount = 0 →
        Memory.readWord t.mem (certBase c.target) = 0 ∧
        Memory.readWords t.mem (certBase c.target + 6) 285 = List.replicate 285 0 ∧
        ∀ a, certByte c.target a → (certBase c.target + 2 ≤ a ∧ a < certBase c.target + 6) ∨ certBase c.target + 0x240 ≤ a →
          Memory.readByte t.mem a = Memory.readByte s.mem a)
    (s.clk.ms ≤ s.nv.started + 20 → ∃ t, exec (.counterWriteDone ⟨.done, .done⟩ true) s = .next t ∧
      let r : CertRecord := { s.cert c.target with number := v, state := .issued }
      t.cert c.target = { r with checkWord := crc16 (wordBytes (certSpanWords r)) } ∧
      (c.target < 4 →
        Memory.readWords t.mem (certBase c.target + 2) 2 = [lowWord (BitVec.ofNat 32 v), highWord (BitVec.ofNat 32 v)] ∧
        Memory.readWord t.mem (certBase c.target + 0x240) = (t.cert c.target).checkWord) ∧
      (∀ k, k ≠ c.target → t.cert k = s.cert k) ∧
      t.tab = { s.tab with certified := true } ∧ t.comp.lastIssued = v ∧ t.comp.op = none ∧
      (v ≤ 4294967295 → t.nv.store.counter? = some v) ∧ t.nv.op = s.nv.waiting ∧ t.jr.produced = s.jr.produced + 2 ∧
      SlotDone t c.slot .ok (if c.lateAbort then .lateAbort else .none)
        [bytePair c.target (codeOfOverall r.overall), lowWord (BitVec.ofNat 32 v), highWord (BitVec.ofNat 32 v)]) ∧
    (∀ cut answered, (answered = false ∨ cut.first ≠ .done ∨ cut.second ≠ .done ∨ s.nv.started + 20 < s.clk.ms) →
      ∃ t, exec (.counterWriteDone cut answered) s = .next t ∧ failed t cut) ∧
    (∀ cut, s.nv.started + 20 ≤ s.clk.ms →
      ∃ t, exec (.counterWriteTimeout cut) s = .next t ∧ failed t cut)

/-! ## The display link -/

/-- The display link (R151, R153, R154, R157, R158, R161): the refresh timer's expiry composes a frame, which begins at once or becomes
the waiting frame, and reloads the timer with the period in force; a frame that has left the line makes room for the waiting one; the
header shows the message of a frame as it begins, one equal to the last included; the repeat mark lapses, and lapses early where the
sequencer leaves the run states, as by PAUSE or by an ESTOP stop (R161). A frame shows what frameShown
spells: the message of the first test that holds (R159; that of a run state without a prompt is the model's, assumption 31), its fields
(R160), the bars and the blink flag. A frame falls due, showing the state after the event, at a change of sequencer state, as by OK in
REVIEW, of the start refusal in SPINUP, as where PRESENCE settles or ESTOP settles INACTIVE, and of the retest offer in REVIEW, as where
DISCARD_ATTEMPT takes the top attempt; without such a change the link stays as it was (R156). A stop of the drive that changes no
sequencer state, as that of a DRIVE_TEST by its timer, reloads the running refresh timer with 1000 ms and makes no frame due (R157; that
there is no reload where the period is 1000 ms already is the model's reading, assumption 29). -/
def Obligations.DisplayLinkSendsFrames : Prop :=
  (∀ s : State, s.expired s.disp.refresh = true → Memory.wf s.mem → ∃ t, exec .displayRefresh s = .next t ∧
    FrameFell s t ∧ frameShown t = frameShown s ∧ t.disp.repeatMark = s.disp.repeatMark ∧
    (s.disp.sending = none → Memory.readWord t.mem 0x0006 = bytePair 1 (messageShown s)) ∧
    KeepsAllBut [.disp, .mem] s t ∧ MemKept headerByte s t) ∧
  (∀ (s : State) (f : Frame), s.disp.sending = some f → Memory.wf s.mem → ∃ t, exec .displayFrameSent s = .next t ∧
    (∀ g, s.disp.waiting = some g →
      t.disp = { s.disp with sending := some g, waiting := none, lastMessage := g.message } ∧
      Memory.readWord t.mem 0x0006 = bytePair 1 g.message) ∧
    (s.disp.waiting = none → t.disp = { s.disp with sending := none } ∧
      Memory.readWord t.mem 0x0006 = bytePair 0 s.disp.lastMessage) ∧
    KeepsAllBut [.disp, .mem] s t ∧ MemKept headerByte s t) ∧
  (∀ s : State, s.expired s.disp.repeatMark = true →
    exec .repeatMarkLapse s = .next (s.setDisp { s.disp with repeatMark := none })) ∧
  (∀ s : State, s.eng.inputs.length = 11 → isRunState s.seq.state = true →
    (s.settles .pause = true → s.level .pause = false →
      ∃ t, exec (.settledChange .pause) s = .next t ∧ t.seq.state = .paused ∧ t.disp.repeatMark = none ∧ FrameFell s t) ∧
    (s.settles .estop = true → s.level .estop = false → isSpinning s.drv.state = true → s.drv.owner = some .sequencer →
      ∃ t, exec (.settledChange .estop) s = .next t ∧ t.seq.state = .spindown ∧ t.disp.repeatMark = none ∧
        FrameFell s t)) ∧
  (∀ (s : State) (d : DriveTest), s.dtest = some d → s.expired d.timer = true → isSpinning s.drv.state = true →
    s.drv.owner = some .driveTest → s.run.phase = .idle →
    ∃ t, exec .driveTestTimerExpiry s = .next t ∧ t.seq = s.seq ∧ Stopped s t .commanded ∧
      t.disp = (if s.disp.refresh = none ∨ s.disp.period = 1000 then s.disp
        else { s.disp with refresh := some (s.clk.ms + 1000), period := 1000 })) ∧
  (∀ s : State, s.eng.inputs.length = 11 → s.settles .ok = true → s.level .ok = false → s.seq.state = .review →
    s.seat.seated = true ∨ s.seq.heldExit = .none →
    ∃ t, exec (.settledChange .ok) s = .next t ∧ t.seq.state = .exitWait ∧ FrameFell s t) ∧
  (∀ (i : Input) (s : State), s.eng.inputs.length = 11 → s.settles i = true →
    i = .presence ∨ i = .estop ∧ s.level .estop = true → isSpinning s.drv.state = false → s.seq.state = .spinup →
    s.seq.refusal ≠ none →
    ∃ t, exec (.settledChange i) s = .next t ∧ t.seq.state = .spinup ∧ (t.seq.refusal ≠ s.seq.refusal → FrameFell s t) ∧
      (t.seq.refusal = s.seq.refusal → t.disp = s.disp)) ∧
  (∀ (s : State) (n : Nat) (a : Attempt), s.slots.length = 16 → Memory.wf s.mem → Takes s n 2 →
    let k := s.tab.cursor
    let limits := s.tab.limits
    let above (v : Option Int) (limit : Word) : Bool := v.any (fun x => decide ((limit.toNat : Int) < x))
    (s.param n 0).toNat = k + 1 → k < 8 → k < s.tab.records.length → s.tab.certified = false →
    s.kindActive .compose = false → ¬ ((s.record k).status = .inTest ∧ s.drv.state ≠ .off) →
    (s.record k).attempts.getLast? = some a → s.seq.state = .review →
    ∃ t, exec .discardAttempt s = .next t ∧ t.seq.state = .review ∧
      t.seq.offer = (if (s.record k).attempts.dropLast.getLast?.any (fun b =>
        above b.imbalance limits.maxImbalance || above b.axleOvality limits.maxOvality) = true then .offerRetest else .result) ∧
      (t.seq.offer ≠ s.seq.offer → FrameFell s t) ∧ (t.seq.offer = s.seq.offer → t.disp = s.disp))

/-! ## The printer link -/

/-- The frames and the timers of the printer link (R186, R187, R188, R189): the end of a frame starts the 500 ms reply timer; a poll is
sent with the current link sequence and the poll timer loaded; an unanswered line is resent below the third no-reply, and at the
third the job ends FAILED with NO_REPLY and the link is OFFLINE; of a cancelled job the CANCELLED line follows below the third, that
line itself is resent, and at the third the job ends CANCELLED (R192); a poll without a reply is counted in PAUSED_PAPER, with the same end
at the third, and is not counted in OFFLINE; a BUSY line is resent after its hold. -/
def Obligations.PrinterFramesAndTimers : Prop :=
  (∀ (s : State) (b : List Byte), s.prn.wire = some (.line b) → s.prn.link = .sending →
    ∃ t, exec .printerFrameSent s = .next t ∧
      t.prn = { s.prn with wire := none, replyTimer := some (s.clk.ms + 500), link := .waitReply, pollTimer := none } ∧
      KeepsAllBut [.prn, .mem] s t) ∧
  (∀ (s : State) (b : List Byte), s.prn.wire = some (.poll b) →
    exec .printerFrameSent s = .next (s.setPrn
      { s.prn with wire := none, replyTimer := some (s.clk.ms + 500), pollWindow := true })) ∧
  (∀ s : State, s.expired s.prn.pollTimer = true →
    let body : List Byte := [s.prn.sequence, 0]
    exec .pollTimerExpiry s = .next (s.setPrn { s.prn with
      wire := some (.poll (0x5A :: (body ++ [crc8 body])))
      pollTimer := some (s.clk.ms + if s.prn.link = .pausedPaper then 1000 else 2000) })) ∧
  (∀ (s : State) (j : Job), s.prn.link = .waitReply → s.expired s.prn.replyTimer = true → s.prn.jobs = [j] →
    j.state = .printing → j.cancelMark = false → s.prn.cancelLine = false → j.slot < 16 → s.slots.length = 16 →
    Memory.wf s.mem →
    ∃ t, exec .printerReplyTimeout s = .next t ∧
      (s.prn.noReplies + 1 < 3 →
        t.prn.link = .sending ∧ t.prn.wire = some (.line (printerFrame s.prn.sequence s.prn.text)) ∧
        t.prn.noReplies = s.prn.noReplies + 1 ∧ t.prn.crcResends = s.prn.crcResends ∧ t.prn.jobs = s.prn.jobs ∧
        KeepsAllBut [.prn, .mem] s t) ∧
      (3 ≤ s.prn.noReplies + 1 →
        t.prn.link = .offline ∧ t.prn.jobs = [] ∧ t.prn.noReplies = 0 ∧ t.att.bits.getLsbD 6 = true ∧
        SlotDone t j.slot .failed .noReply
          [bytePair (codeOfClass j.cls) j.linesTaken, word (s.cert j.record).printCount])) ∧
  (∀ (s : State) (j : Job), s.prn.link = .waitReply → s.expired s.prn.replyTimer = true → s.prn.jobs = [j] →
    j.state = .printing → j.cancelMark = true → j.slot < 16 → s.slots.length = 16 → Memory.wf s.mem →
    ∃ t, exec .printerReplyTimeout s = .next t ∧
      (s.prn.noReplies + 1 < 3 →
        (s.prn.cancelLine = false → LineSent s t cancelledWord) ∧
        (s.prn.cancelLine = true → LineResent s t ∧ t.prn.crcResends = s.prn.crcResends) ∧
        t.prn.cancelLine = true ∧ t.prn.noReplies = s.prn.noReplies + 1 ∧ t.prn.jobs = s.prn.jobs ∧
        KeepsAllBut [.prn, .mem] s t) ∧
      (3 ≤ s.prn.noReplies + 1 →
        t.prn.link = .offline ∧ t.prn.jobs = [] ∧ t.prn.cancelLine = false ∧ t.prn.noReplies = 0 ∧
        t.att.bits.getLsbD 6 = true ∧ t.comp = s.comp ∧
        SlotDone t j.slot .aborted .none
          [bytePair (codeOfClass j.cls) j.linesTaken, word (s.cert j.record).printCount])) ∧
  (∀ s : State, s.prn.link = .offline → s.prn.pollWindow = true → s.expired s.prn.replyTimer = true →
    exec .printerReplyTimeout s = .next (s.setPrn { s.prn with replyTimer := none, pollWindow := false })) ∧
  (∀ s : State, s.prn.link = .pausedPaper → s.prn.pollWindow = true → s.expired s.prn.replyTimer = true →
    s.slots.length = 16 → Memory.wf s.mem →
    (s.prn.noReplies + 1 < 3 → exec .printerReplyTimeout s = .next (s.setPrn
      { s.prn with replyTimer := none, pollWindow := false, noReplies := s.prn.noReplies + 1 })) ∧
    (3 ≤ s.prn.noReplies + 1 → s.prn.jobs = [] → ∃ t, exec .printerReplyTimeout s = .next t ∧
      t.prn.link = .offline ∧ t.prn.noReplies = 0 ∧ t.prn.pollTimer = some (s.clk.ms + 2000) ∧
      EntryMade s t evPrinterState 0 4 3 ∧ t.att.bits.getLsbD 6 = true ∧ KeepsAllBut [.prn, .mem, .jr, .att] s t) ∧
    (∀ j, 3 ≤ s.prn.noReplies + 1 → s.prn.jobs = [j] → j.state = .printing → j.cancelMark = false → j.slot < 16 →
      ∃ t, exec .printerReplyTimeout s = .next t ∧ t.prn.link = .offline ∧ t.prn.jobs = [] ∧
        t.jr.produced = s.jr.produced + 3 ∧
        SlotDone t j.slot .failed .noReply
          [bytePair (codeOfClass j.cls) j.linesTaken, word (s.cert j.record).printCount])) ∧
  (∀ (s : State) (j : Job), s.expired s.prn.busyTimer = true → s.prn.jobs = [j] → j.state = .printing →
    s.prn.link = .sending → ∃ t, exec .busyResend s = .next t ∧ t.prn.link = .sending ∧ t.prn.busyTimer = none ∧
      (j.cancelMark = false ∨ s.prn.cancelLine = true →
        t.prn.wire = some (.line (printerFrame s.prn.sequence s.prn.text)) ∧ t.prn.sequence = s.prn.sequence) ∧
      (j.cancelMark = true → s.prn.cancelLine = false →
        t.prn.wire = some (.line (printerFrame (s.prn.sequence + 1) cancelledText)) ∧ t.prn.cancelLine = true) ∧
      KeepsAllBut [.prn, .mem] s t)

/-- The replies to a line frame of a job that is not cancelled (R187, R191), to the line frame and the CANCELLED line of a cancelled one
(R192), and to a poll (R189); a byte outside a reply window is discarded (R186). A link that enters READY, by a poll's reply or by the end
of a job, selects the oldest QUEUED ORIGINAL, otherwise the oldest QUEUED COPY, and sends its line 1 (R183, R185). The text of every line has 48 characters with codes
from 32 to 126; an absent mass used is two hyphens among spaces, a certificate number stands uncut in a column of ten characters or more,
in a spelling that R184 leaves open (assumption 32), and line 1 of a COPY holds the word COPY (R184). -/
def Obligations.PrinterReplies : Prop :=
  (∀ (byte : Byte) (s : State), s.prn.link ≠ .waitReply → s.prn.pollWindow = false →
    exec (.printerReply byte) s = .next s) ∧
  (∀ (s : State) (j : Job), s.prn.link = .waitReply → s.prn.jobs = [j] → j.state = .printing → j.cancelMark = false →
    s.prn.cancelLine = false → j.slot < 16 → s.slots.length = 16 → s.comp.records.length = 4 → j.record < 4 →
    Memory.wf s.mem →
    let lines := 10 + 2 * (s.cert j.record).axleCount
    (j.linesTaken + 1 < lines → ∃ t, exec (.printerReply 0x10) s = .next t ∧
      t.prn.jobs = [{ j with linesTaken := j.linesTaken + 1 }] ∧ t.prn.link = .sending ∧ t.prn.crcResends = 0 ∧
      t.prn.noReplies = 0 ∧ t.prn.sequence = s.prn.sequence + 1 ∧
      t.prn.text = (s.cert j.record).text j.cls (j.linesTaken + 2) ∧
      t.prn.wire = some (.line (printerFrame t.prn.sequence t.prn.text)) ∧ KeepsAllBut [.prn, .mem] s t) ∧
    (lines ≤ j.linesTaken + 1 → ∃ t, exec (.printerReply 0x10) s = .next t ∧
      t.prn.jobs = [] ∧ t.prn.link = .ready ∧
      (t.cert j.record).printCount = min 65535 ((s.cert j.record).printCount + 1) ∧
      t.jr.produced = s.jr.produced + 2 ∧
      SlotDone t j.slot .ok .none [bytePair (codeOfClass j.cls) (j.linesTaken + 1), word (t.cert j.record).printCount]) ∧
    (∃ t, exec (.printerReply 0x11) s = .next t ∧ t.prn.link = .sending ∧ t.prn.busyTimer = some (s.clk.ms + 200) ∧
      t.prn.jobs = s.prn.jobs ∧ t.prn.crcResends = s.prn.crcResends ∧ KeepsAllBut [.prn, .mem] s t) ∧
    (∀ byte, byte ≠ 0x10 → byte ≠ 0x11 → byte ≠ 0x13 → byte ≠ 0x14 → s.prn.crcResends < 2 → j.noRetry = false →
      ∃ t, exec (.printerReply byte) s = .next t ∧ t.prn.link = .sending ∧ t.prn.crcResends = s.prn.crcResends + 1 ∧
      t.prn.jobs = s.prn.jobs ∧ t.prn.wire = some (.line (printerFrame s.prn.sequence s.prn.text)) ∧
      KeepsAllBut [.prn, .mem] s t) ∧
    (∀ byte, byte ≠ 0x10 → byte ≠ 0x11 → byte ≠ 0x13 → byte ≠ 0x14 → 2 ≤ s.prn.crcResends ∨ j.noRetry = true →
      ∃ t, exec (.printerReply byte) s = .next t ∧ t.prn.link = .ready ∧ t.prn.jobs = [] ∧
      SlotDone t j.slot .failed .crc
        [bytePair (codeOfClass j.cls) j.linesTaken, word (s.cert j.record).printCount]) ∧
    (∃ t, exec (.printerReply 0x13) s = .next t ∧ t.prn.link = .pausedPaper ∧ t.prn.jobs = s.prn.jobs ∧
      t.prn.pollTimer = some (s.clk.ms + 1000) ∧ EntryMade s t evPrinterState 0 3 2 ∧ t.att.bits.getLsbD 6 = true) ∧
    (∃ t, exec (.printerReply 0x14) s = .next t ∧ t.prn.link = .offline ∧ t.prn.jobs = [] ∧
      t.prn.pollTimer = some (s.clk.ms + 2000) ∧
      SlotDone t j.slot .failed .printerFault
        [bytePair (codeOfClass j.cls) j.linesTaken, word (s.cert j.record).printCount])) ∧
  (∀ s : State, s.prn.link = .offline → s.prn.pollWindow = true → s.prn.jobs = [] → Memory.wf s.mem →
    (∃ t, exec (.printerReply 0x10) s = .next t ∧ t.prn.link = .ready ∧ t.prn.pollTimer = none ∧
      EntryMade s t evPrinterState 0 0 4) ∧
    (∃ t, exec (.printerReply 0x13) s = .next t ∧ t.prn.link = .pausedPaper ∧ EntryMade s t evPrinterState 0 3 4) ∧
    (∀ byte, byte ≠ 0x10 → byte ≠ 0x13 → ∃ t, exec (.printerReply byte) s = .next t ∧
      t.prn = { s.prn with replyTimer := none, pollWindow := false, noReplies := 0 } ∧ KeepsAllBut [.prn] s t)) ∧
  (∀ (s : State) (x : Job), s.prn.link = .offline → s.prn.pollWindow = true → Memory.wf s.mem →
    jobSelected s.prn.jobs = some x →
    ∃ t, exec (.printerReply 0x10) s = .next t ∧ LineSent s t ((s.cert x.record).text x.cls 1) ∧
      t.prn.jobs = jobsStarted s.prn.jobs x ∧ t.prn.cancelLine = false ∧ t.prn.pollTimer = none ∧
      t.jr.produced = s.jr.produced + 2 ∧ KeepsAllBut [.prn, .mem, .jr, .att] s t) ∧
  (∀ (s : State) (j x : Job), s.prn.link = .waitReply → s.printing = some j → j.cancelMark = false →
    s.prn.cancelLine = false → j.slot < 16 → s.slots.length = 16 → Memory.wf s.mem →
    10 + 2 * (s.cert j.record).axleCount ≤ j.linesTaken + 1 →
    let rest := s.prn.jobs.filter (fun y => y.slot != j.slot)
    jobSelected rest = some x →
    ∃ t, exec (.printerReply 0x10) s = .next t ∧ LineSent s t ((s.cert x.record).text x.cls 1) ∧
      t.prn.jobs = jobsStarted rest x ∧ t.jr.produced = s.jr.produced + 3 ∧
      SlotDone t j.slot .ok .none [bytePair (codeOfClass j.cls) (j.linesTaken + 1), word (t.cert j.record).printCount]) ∧
  (∀ (s : State) (j : Job), s.prn.link = .waitReply → s.prn.jobs = [j] → j.state = .printing → j.cancelMark = true →
    j.slot < 16 → s.slots.length = 16 → s.comp.records.length = 4 → j.record < 4 → Memory.wf s.mem →
    let lines := 10 + 2 * (s.cert j.record).axleCount
    let cancelLineSent (t : State) (taken : Nat) : Prop :=
      t.prn.link = .sending ∧ t.prn.cancelLine = true ∧ t.prn.jobs = [{ j with linesTaken := taken }] ∧
      t.prn.sequence = s.prn.sequence + 1 ∧ t.prn.crcResends = 0 ∧
      t.prn.wire = some (.line (printerFrame (s.prn.sequence + 1) [0x43, 0x41, 0x4E, 0x43, 0x45, 0x4C, 0x4C, 0x45, 0x44])) ∧
      KeepsAllBut [.prn, .mem] s t
    let cancelled (t : State) (l : LinkState) : Prop :=
      t.prn.link = l ∧ t.prn.jobs = [] ∧ t.prn.cancelLine = false ∧ t.comp = s.comp ∧
      SlotDone t j.slot .aborted .none [bytePair (codeOfClass j.cls) j.linesTaken, word (s.cert j.record).printCount]
    (s.prn.cancelLine = false → lines ≤ j.linesTaken + 1 → ∃ t, exec (.printerReply 0x10) s = .next t ∧
      t.prn.jobs = [] ∧ t.prn.link = .ready ∧
      (t.cert j.record).printCount = min 65535 ((s.cert j.record).printCount + 1) ∧
      SlotDone t j.slot .ok .lateCancel
        [bytePair (codeOfClass j.cls) (j.linesTaken + 1), word (t.cert j.record).printCount]) ∧
    (s.prn.cancelLine = false → j.linesTaken + 1 < lines → ∃ t, exec (.printerReply 0x10) s = .next t ∧
      cancelLineSent t (j.linesTaken + 1)) ∧
    (∀ byte, byte ≠ 0x10 → byte ≠ 0x11 → byte ≠ 0x13 → byte ≠ 0x14 → s.prn.cancelLine = false →
      ∃ t, exec (.printerReply byte) s = .next t ∧ cancelLineSent t j.linesTaken) ∧
    (s.prn.cancelLine = true → ∃ t, exec (.printerReply 0x10) s = .next t ∧ cancelled t .ready) ∧
    (∀ byte, byte ≠ 0x10 → byte ≠ 0x11 → byte ≠ 0x13 → byte ≠ 0x14 → s.prn.cancelLine = true →
      ∃ t, exec (.printerReply byte) s = .next t ∧
        (s.prn.crcResends < 2 → j.noRetry = false → t.prn.link = .sending ∧ t.prn.jobs = s.prn.jobs ∧
          t.prn.crcResends = s.prn.crcResends + 1 ∧ t.prn.wire = some (.line (printerFrame s.prn.sequence s.prn.text)) ∧
          KeepsAllBut [.prn, .mem] s t) ∧
        (2 ≤ s.prn.crcResends ∨ j.noRetry = true → cancelled t .ready)) ∧
    (∃ t, exec (.printerReply 0x11) s = .next t ∧ t.prn.link = .sending ∧ t.prn.busyTimer = some (s.clk.ms + 200) ∧
      t.prn.jobs = s.prn.jobs ∧ t.prn.cancelLine = s.prn.cancelLine ∧ KeepsAllBut [.prn, .mem] s t) ∧
    (∃ t, exec (.printerReply 0x13) s = .next t ∧ cancelled t .pausedPaper) ∧
    (∃ t, exec (.printerReply 0x14) s = .next t ∧ cancelled t .offline)) ∧
  (∀ s : State, s.prn.link = .pausedPaper → s.prn.pollWindow = true → s.slots.length = 16 → Memory.wf s.mem →
    let closed : Printer := { s.prn with replyTimer := none, pollWindow := false, noReplies := 0 }
    (∀ byte, byte ≠ 0x10 → byte ≠ 0x14 → exec (.printerReply byte) s = .next (s.setPrn closed)) ∧
    (s.prn.jobs = [] → ∃ t, exec (.printerReply 0x10) s = .next t ∧ t.prn.link = .ready ∧ t.prn.pollTimer = none ∧
      EntryMade s t evPrinterState 0 0 3 ∧ KeepsAllBut [.prn, .mem, .jr, .att] s t) ∧
    (s.prn.jobs = [] → ∃ t, exec (.printerReply 0x14) s = .next t ∧ t.prn.link = .offline ∧
      EntryMade s t evPrinterState 0 4 3 ∧ KeepsAllBut [.prn, .mem, .jr, .att] s t) ∧
    (∀ j, s.prn.jobs = [j] → j.state = .printing → ∃ t, exec (.printerReply 0x10) s = .next t ∧
      t.prn.link = .sending ∧ t.prn.jobs = [j] ∧ t.prn.crcResends = 0 ∧ t.prn.sequence = s.prn.sequence ∧
      t.prn.wire = some (.line (printerFrame s.prn.sequence s.prn.text)) ∧ t.prn.pollTimer = none ∧
      EntryMade s t evPrinterState 0 1 3 ∧ KeepsAllBut [.prn, .mem, .jr, .att] s t) ∧
    (∀ j, s.prn.jobs = [j] → j.state = .printing → j.cancelMark = false → j.slot < 16 →
      ∃ t, exec (.printerReply 0x14) s = .next t ∧ t.prn.link = .offline ∧ t.prn.jobs = [] ∧
        SlotDone t j.slot .failed .printerFault
          [bytePair (codeOfClass j.cls) j.linesTaken, word (s.cert j.record).printCount])) ∧
  (∀ (c : CertRecord) (cls : JobClass) (k : Nat),
    (c.text cls k).length = 48 ∧ (∀ b ∈ c.text cls k, 32 ≤ b.toNat ∧ b.toNat ≤ 126) ∧
    (c.mass = none → k = 5 + 2 * c.axleCount → ∃ i, i ≤ 46 ∧
      c.text cls k = List.replicate i 0x20 ++ [0x2D, 0x2D] ++ List.replicate (46 - i) 0x20) ∧
    (k = 9 + 2 * c.axleCount → ∃ w, w ≤ 48 ∧ 10 ≤ w ∧ c.text cls k =
      (Config.spelling .numberLine 0 (.figure c.number) w).toList.map byteOfChar ++ List.replicate (48 - w) 0x20) ∧
    (∃ i, i ≤ 44 ∧ ((c.text .copy 1).drop i).take 4 = [0x43, 0x4F, 0x50, 0x59]))

/-! ## Invariants of every step -/

/-- The laws of the part hold right after reset: the journal is empty, the drive at rest, the certificate counter consistent, the images of
the header, of the axle table and of the four certificate records show the state, no axle holds more than three attempts, and the lists of
the state have their lengths. That header
word 0x0008, the printer link, already reads 4, although R196 clears all of lane memory at power-on, is the model's reading
(assumption 16). -/
def Obligations.LawsHoldAtReset : Prop :=
  JournalLaw State.reset.jr ∧ DriveSafe State.reset ∧ CounterLaw State.reset ∧ HeaderLaw State.reset ∧
    TableLaw State.reset ∧ CertLaw State.reset ∧ AttemptLaw State.reset.tab ∧ ShapeLaw State.reset

/-- The journal law (R202): no step of any state in which it holds breaks it. -/
def Obligations.JournalLawIsKept : Prop :=
  ∀ s t : State, JournalLaw s.jr → step s = .next t → JournalLaw t.jr

/-- The safety rule of the drive (R32): from every state in which the motors are energised only in SPINUP and RUN, and the drive is in
those states only in NORMAL mode with PRESENCE and ESTOP INACTIVE and an axle SEATED, every step leads to such a state. -/
def Obligations.DriveSafetyIsKept : Prop :=
  ∀ s t : State, DriveSafe s → step s = .next t → DriveSafe t

/-- The law of the certificate counter (R178): in every step from a state in which it holds the stored counter never decreases while it
can be read, and a number issued is greater than every number issued before it. -/
def Obligations.CertificateNumbersOnlyRise : Prop :=
  ∀ s t : State, CounterLaw s → step s = .next t → CounterLaw t ∧
    (∀ v w, s.nv.store.counter? = some v → t.nv.store.counter? = some w → v ≤ w) ∧
    (t.comp.lastIssued = s.comp.lastIssued ∨ s.comp.lastIssued < t.comp.lastIssued ∨
      t.comp.lastIssued = 0 ∧ ∃ cut rest, s.pending = .powerOn cut :: rest)

/-- The images of lane memory (R47, R170, R171, R196, R211): from every state whose header shows the state behind it, with lane memory in
its canonical form, every step leads to such a state, and the header's host words 0x040 to 0x045 change at POWER_ON alone; the same for
the axle table area 0x0900 to 0x11FF and for the four certificate records 0x1A40 to 0x2A3F. That header word 0x0008 reads 4 after
POWER_ON, although R196 clears all of lane memory there, is the model's reading (assumption 16). -/
def Obligations.HeaderImageIsKept : Prop :=
  (∀ s t : State, HeaderLaw s → step s = .next t → HeaderLaw t ∧
    ((∀ cut rest, s.pending ≠ .powerOn cut :: rest) →
      ∀ a, 0x0040 ≤ a → a ≤ 0x0045 → Memory.readByte t.mem a = Memory.readByte s.mem a)) ∧
  (∀ s t : State, TableLaw s → step s = .next t → TableLaw t) ∧
  (∀ s t : State, CertLaw s → step s = .next t → CertLaw t)

/-- Every axle record holds at most three attempts (R55): no step of any state in which this holds breaks it. The same for the law of the
state's lists, which other statements have as a premise: sixteen request slots, eleven inputs, eleven channels with fault flags, eight
axle records, four certificate records, and a COMPOSE that works on one of the four. -/
def Obligations.AttemptLawIsKept : Prop :=
  (∀ s t : State, AttemptLaw s.tab → step s = .next t → AttemptLaw t.tab) ∧
  (∀ s t : State, ShapeLaw s → step s = .next t → ShapeLaw t)

end Statements
end

