-- ==== Sys2Proof/Laws/State.lean ====
section
/-! SUPPORT. Laws/State.lean: one lemma per field per update of the state. -/

namespace Sys2Proof.Machine

variable (s : State)

@[simp] theorem State.setPending_pending (x : List Instr) : (s.setPending x).pending = x := rfl
@[simp] theorem State.setPending_mem (x : List Instr) : (s.setPending x).mem = s.mem := rfl
@[simp] theorem State.setPending_clk (x : List Instr) : (s.setPending x).clk = s.clk := rfl
@[simp] theorem State.setPending_time (x : List Instr) : (s.setPending x).time = s.time := rfl
@[simp] theorem State.setPending_cause (x : List Instr) : (s.setPending x).cause = s.cause := rfl
@[simp] theorem State.setPending_slots (x : List Instr) : (s.setPending x).slots = s.slots := rfl
@[simp] theorem State.setPending_jr (x : List Instr) : (s.setPending x).jr = s.jr := rfl
@[simp] theorem State.setPending_att (x : List Instr) : (s.setPending x).att = s.att := rfl
@[simp] theorem State.setPending_gauge (x : List Instr) : (s.setPending x).gauge = s.gauge := rfl
@[simp] theorem State.setPending_eng (x : List Instr) : (s.setPending x).eng = s.eng := rfl
@[simp] theorem State.setPending_nv (x : List Instr) : (s.setPending x).nv = s.nv := rfl
@[simp] theorem State.setPending_seat (x : List Instr) : (s.setPending x).seat = s.seat := rfl
@[simp] theorem State.setPending_drv (x : List Instr) : (s.setPending x).drv = s.drv := rfl
@[simp] theorem State.setPending_dtest (x : List Instr) : (s.setPending x).dtest = s.dtest := rfl
@[simp] theorem State.setPending_tab (x : List Instr) : (s.setPending x).tab = s.tab := rfl
@[simp] theorem State.setPending_weigh (x : List Instr) : (s.setPending x).weigh = s.weigh := rfl
@[simp] theorem State.setPending_run (x : List Instr) : (s.setPending x).run = s.run := rfl
@[simp] theorem State.setPending_plate (x : List Instr) : (s.setPending x).plate = s.plate := rfl
@[simp] theorem State.setPending_seq (x : List Instr) : (s.setPending x).seq = s.seq := rfl
@[simp] theorem State.setPending_disp (x : List Instr) : (s.setPending x).disp = s.disp := rfl
@[simp] theorem State.setPending_comp (x : List Instr) : (s.setPending x).comp = s.comp := rfl
@[simp] theorem State.setPending_prn (x : List Instr) : (s.setPending x).prn = s.prn := rfl

@[simp] theorem State.setMem_pending (x : Memory) : (s.setMem x).pending = s.pending := rfl
@[simp] theorem State.setMem_mem (x : Memory) : (s.setMem x).mem = x := rfl
@[simp] theorem State.setMem_clk (x : Memory) : (s.setMem x).clk = s.clk := rfl
@[simp] theorem State.setMem_time (x : Memory) : (s.setMem x).time = s.time := rfl
@[simp] theorem State.setMem_cause (x : Memory) : (s.setMem x).cause = s.cause := rfl
@[simp] theorem State.setMem_slots (x : Memory) : (s.setMem x).slots = s.slots := rfl
@[simp] theorem State.setMem_jr (x : Memory) : (s.setMem x).jr = s.jr := rfl
@[simp] theorem State.setMem_att (x : Memory) : (s.setMem x).att = s.att := rfl
@[simp] theorem State.setMem_gauge (x : Memory) : (s.setMem x).gauge = s.gauge := rfl
@[simp] theorem State.setMem_eng (x : Memory) : (s.setMem x).eng = s.eng := rfl
@[simp] theorem State.setMem_nv (x : Memory) : (s.setMem x).nv = s.nv := rfl
@[simp] theorem State.setMem_seat (x : Memory) : (s.setMem x).seat = s.seat := rfl
@[simp] theorem State.setMem_drv (x : Memory) : (s.setMem x).drv = s.drv := rfl
@[simp] theorem State.setMem_dtest (x : Memory) : (s.setMem x).dtest = s.dtest := rfl
@[simp] theorem State.setMem_tab (x : Memory) : (s.setMem x).tab = s.tab := rfl
@[simp] theorem State.setMem_weigh (x : Memory) : (s.setMem x).weigh = s.weigh := rfl
@[simp] theorem State.setMem_run (x : Memory) : (s.setMem x).run = s.run := rfl
@[simp] theorem State.setMem_plate (x : Memory) : (s.setMem x).plate = s.plate := rfl
@[simp] theorem State.setMem_seq (x : Memory) : (s.setMem x).seq = s.seq := rfl
@[simp] theorem State.setMem_disp (x : Memory) : (s.setMem x).disp = s.disp := rfl
@[simp] theorem State.setMem_comp (x : Memory) : (s.setMem x).comp = s.comp := rfl
@[simp] theorem State.setMem_prn (x : Memory) : (s.setMem x).prn = s.prn := rfl

@[simp] theorem State.setClk_pending (x : Clock) : (s.setClk x).pending = s.pending := rfl
@[simp] theorem State.setClk_mem (x : Clock) : (s.setClk x).mem = s.mem := rfl
@[simp] theorem State.setClk_clk (x : Clock) : (s.setClk x).clk = x := rfl
@[simp] theorem State.setClk_time (x : Clock) : (s.setClk x).time = s.time := rfl
@[simp] theorem State.setClk_cause (x : Clock) : (s.setClk x).cause = s.cause := rfl
@[simp] theorem State.setClk_slots (x : Clock) : (s.setClk x).slots = s.slots := rfl
@[simp] theorem State.setClk_jr (x : Clock) : (s.setClk x).jr = s.jr := rfl
@[simp] theorem State.setClk_att (x : Clock) : (s.setClk x).att = s.att := rfl
@[simp] theorem State.setClk_gauge (x : Clock) : (s.setClk x).gauge = s.gauge := rfl
@[simp] theorem State.setClk_eng (x : Clock) : (s.setClk x).eng = s.eng := rfl
@[simp] theorem State.setClk_nv (x : Clock) : (s.setClk x).nv = s.nv := rfl
@[simp] theorem State.setClk_seat (x : Clock) : (s.setClk x).seat = s.seat := rfl
@[simp] theorem State.setClk_drv (x : Clock) : (s.setClk x).drv = s.drv := rfl
@[simp] theorem State.setClk_dtest (x : Clock) : (s.setClk x).dtest = s.dtest := rfl
@[simp] theorem State.setClk_tab (x : Clock) : (s.setClk x).tab = s.tab := rfl
@[simp] theorem State.setClk_weigh (x : Clock) : (s.setClk x).weigh = s.weigh := rfl
@[simp] theorem State.setClk_run (x : Clock) : (s.setClk x).run = s.run := rfl
@[simp] theorem State.setClk_plate (x : Clock) : (s.setClk x).plate = s.plate := rfl
@[simp] theorem State.setClk_seq (x : Clock) : (s.setClk x).seq = s.seq := rfl
@[simp] theorem State.setClk_disp (x : Clock) : (s.setClk x).disp = s.disp := rfl
@[simp] theorem State.setClk_comp (x : Clock) : (s.setClk x).comp = s.comp := rfl
@[simp] theorem State.setClk_prn (x : Clock) : (s.setClk x).prn = s.prn := rfl

@[simp] theorem State.setTime_pending (x : DWord) : (s.setTime x).pending = s.pending := rfl
@[simp] theorem State.setTime_mem (x : DWord) : (s.setTime x).mem = s.mem := rfl
@[simp] theorem State.setTime_clk (x : DWord) : (s.setTime x).clk = s.clk := rfl
@[simp] theorem State.setTime_time (x : DWord) : (s.setTime x).time = x := rfl
@[simp] theorem State.setTime_cause (x : DWord) : (s.setTime x).cause = s.cause := rfl
@[simp] theorem State.setTime_slots (x : DWord) : (s.setTime x).slots = s.slots := rfl
@[simp] theorem State.setTime_jr (x : DWord) : (s.setTime x).jr = s.jr := rfl
@[simp] theorem State.setTime_att (x : DWord) : (s.setTime x).att = s.att := rfl
@[simp] theorem State.setTime_gauge (x : DWord) : (s.setTime x).gauge = s.gauge := rfl
@[simp] theorem State.setTime_eng (x : DWord) : (s.setTime x).eng = s.eng := rfl
@[simp] theorem State.setTime_nv (x : DWord) : (s.setTime x).nv = s.nv := rfl
@[simp] theorem State.setTime_seat (x : DWord) : (s.setTime x).seat = s.seat := rfl
@[simp] theorem State.setTime_drv (x : DWord) : (s.setTime x).drv = s.drv := rfl
@[simp] theorem State.setTime_dtest (x : DWord) : (s.setTime x).dtest = s.dtest := rfl
@[simp] theorem State.setTime_tab (x : DWord) : (s.setTime x).tab = s.tab := rfl
@[simp] theorem State.setTime_weigh (x : DWord) : (s.setTime x).weigh = s.weigh := rfl
@[simp] theorem State.setTime_run (x : DWord) : (s.setTime x).run = s.run := rfl
@[simp] theorem State.setTime_plate (x : DWord) : (s.setTime x).plate = s.plate := rfl
@[simp] theorem State.setTime_seq (x : DWord) : (s.setTime x).seq = s.seq := rfl
@[simp] theorem State.setTime_disp (x : DWord) : (s.setTime x).disp = s.disp := rfl
@[simp] theorem State.setTime_comp (x : DWord) : (s.setTime x).comp = s.comp := rfl
@[simp] theorem State.setTime_prn (x : DWord) : (s.setTime x).prn = s.prn := rfl

@[simp] theorem State.setCause_pending (x : StartCause) : (s.setCause x).pending = s.pending := rfl
@[simp] theorem State.setCause_mem (x : StartCause) : (s.setCause x).mem = s.mem := rfl
@[simp] theorem State.setCause_clk (x : StartCause) : (s.setCause x).clk = s.clk := rfl
@[simp] theorem State.setCause_time (x : StartCause) : (s.setCause x).time = s.time := rfl
@[simp] theorem State.setCause_cause (x : StartCause) : (s.setCause x).cause = x := rfl
@[simp] theorem State.setCause_slots (x : StartCause) : (s.setCause x).slots = s.slots := rfl
@[simp] theorem State.setCause_jr (x : StartCause) : (s.setCause x).jr = s.jr := rfl
@[simp] theorem State.setCause_att (x : StartCause) : (s.setCause x).att = s.att := rfl
@[simp] theorem State.setCause_gauge (x : StartCause) : (s.setCause x).gauge = s.gauge := rfl
@[simp] theorem State.setCause_eng (x : StartCause) : (s.setCause x).eng = s.eng := rfl
@[simp] theorem State.setCause_nv (x : StartCause) : (s.setCause x).nv = s.nv := rfl
@[simp] theorem State.setCause_seat (x : StartCause) : (s.setCause x).seat = s.seat := rfl
@[simp] theorem State.setCause_drv (x : StartCause) : (s.setCause x).drv = s.drv := rfl
@[simp] theorem State.setCause_dtest (x : StartCause) : (s.setCause x).dtest = s.dtest := rfl
@[simp] theorem State.setCause_tab (x : StartCause) : (s.setCause x).tab = s.tab := rfl
@[simp] theorem State.setCause_weigh (x : StartCause) : (s.setCause x).weigh = s.weigh := rfl
@[simp] theorem State.setCause_run (x : StartCause) : (s.setCause x).run = s.run := rfl
@[simp] theorem State.setCause_plate (x : StartCause) : (s.setCause x).plate = s.plate := rfl
@[simp] theorem State.setCause_seq (x : StartCause) : (s.setCause x).seq = s.seq := rfl
@[simp] theorem State.setCause_disp (x : StartCause) : (s.setCause x).disp = s.disp := rfl
@[simp] theorem State.setCause_comp (x : StartCause) : (s.setCause x).comp = s.comp := rfl
@[simp] theorem State.setCause_prn (x : StartCause) : (s.setCause x).prn = s.prn := rfl

@[simp] theorem State.setSlots_pending (x : List Held) : (s.setSlots x).pending = s.pending := rfl
@[simp] theorem State.setSlots_mem (x : List Held) : (s.setSlots x).mem = s.mem := rfl
@[simp] theorem State.setSlots_clk (x : List Held) : (s.setSlots x).clk = s.clk := rfl
@[simp] theorem State.setSlots_time (x : List Held) : (s.setSlots x).time = s.time := rfl
@[simp] theorem State.setSlots_cause (x : List Held) : (s.setSlots x).cause = s.cause := rfl
@[simp] theorem State.setSlots_slots (x : List Held) : (s.setSlots x).slots = x := rfl
@[simp] theorem State.setSlots_jr (x : List Held) : (s.setSlots x).jr = s.jr := rfl
@[simp] theorem State.setSlots_att (x : List Held) : (s.setSlots x).att = s.att := rfl
@[simp] theorem State.setSlots_gauge (x : List Held) : (s.setSlots x).gauge = s.gauge := rfl
@[simp] theorem State.setSlots_eng (x : List Held) : (s.setSlots x).eng = s.eng := rfl
@[simp] theorem State.setSlots_nv (x : List Held) : (s.setSlots x).nv = s.nv := rfl
@[simp] theorem State.setSlots_seat (x : List Held) : (s.setSlots x).seat = s.seat := rfl
@[simp] theorem State.setSlots_drv (x : List Held) : (s.setSlots x).drv = s.drv := rfl
@[simp] theorem State.setSlots_dtest (x : List Held) : (s.setSlots x).dtest = s.dtest := rfl
@[simp] theorem State.setSlots_tab (x : List Held) : (s.setSlots x).tab = s.tab := rfl
@[simp] theorem State.setSlots_weigh (x : List Held) : (s.setSlots x).weigh = s.weigh := rfl
@[simp] theorem State.setSlots_run (x : List Held) : (s.setSlots x).run = s.run := rfl
@[simp] theorem State.setSlots_plate (x : List Held) : (s.setSlots x).plate = s.plate := rfl
@[simp] theorem State.setSlots_seq (x : List Held) : (s.setSlots x).seq = s.seq := rfl
@[simp] theorem State.setSlots_disp (x : List Held) : (s.setSlots x).disp = s.disp := rfl
@[simp] theorem State.setSlots_comp (x : List Held) : (s.setSlots x).comp = s.comp := rfl
@[simp] theorem State.setSlots_prn (x : List Held) : (s.setSlots x).prn = s.prn := rfl

@[simp] theorem State.setJr_pending (x : Journal) : (s.setJr x).pending = s.pending := rfl
@[simp] theorem State.setJr_mem (x : Journal) : (s.setJr x).mem = s.mem := rfl
@[simp] theorem State.setJr_clk (x : Journal) : (s.setJr x).clk = s.clk := rfl
@[simp] theorem State.setJr_time (x : Journal) : (s.setJr x).time = s.time := rfl
@[simp] theorem State.setJr_cause (x : Journal) : (s.setJr x).cause = s.cause := rfl
@[simp] theorem State.setJr_slots (x : Journal) : (s.setJr x).slots = s.slots := rfl
@[simp] theorem State.setJr_jr (x : Journal) : (s.setJr x).jr = x := rfl
@[simp] theorem State.setJr_att (x : Journal) : (s.setJr x).att = s.att := rfl
@[simp] theorem State.setJr_gauge (x : Journal) : (s.setJr x).gauge = s.gauge := rfl
@[simp] theorem State.setJr_eng (x : Journal) : (s.setJr x).eng = s.eng := rfl
@[simp] theorem State.setJr_nv (x : Journal) : (s.setJr x).nv = s.nv := rfl
@[simp] theorem State.setJr_seat (x : Journal) : (s.setJr x).seat = s.seat := rfl
@[simp] theorem State.setJr_drv (x : Journal) : (s.setJr x).drv = s.drv := rfl
@[simp] theorem State.setJr_dtest (x : Journal) : (s.setJr x).dtest = s.dtest := rfl
@[simp] theorem State.setJr_tab (x : Journal) : (s.setJr x).tab = s.tab := rfl
@[simp] theorem State.setJr_weigh (x : Journal) : (s.setJr x).weigh = s.weigh := rfl
@[simp] theorem State.setJr_run (x : Journal) : (s.setJr x).run = s.run := rfl
@[simp] theorem State.setJr_plate (x : Journal) : (s.setJr x).plate = s.plate := rfl
@[simp] theorem State.setJr_seq (x : Journal) : (s.setJr x).seq = s.seq := rfl
@[simp] theorem State.setJr_disp (x : Journal) : (s.setJr x).disp = s.disp := rfl
@[simp] theorem State.setJr_comp (x : Journal) : (s.setJr x).comp = s.comp := rfl
@[simp] theorem State.setJr_prn (x : Journal) : (s.setJr x).prn = s.prn := rfl

@[simp] theorem State.setAtt_pending (x : Attention) : (s.setAtt x).pending = s.pending := rfl
@[simp] theorem State.setAtt_mem (x : Attention) : (s.setAtt x).mem = s.mem := rfl
@[simp] theorem State.setAtt_clk (x : Attention) : (s.setAtt x).clk = s.clk := rfl
@[simp] theorem State.setAtt_time (x : Attention) : (s.setAtt x).time = s.time := rfl
@[simp] theorem State.setAtt_cause (x : Attention) : (s.setAtt x).cause = s.cause := rfl
@[simp] theorem State.setAtt_slots (x : Attention) : (s.setAtt x).slots = s.slots := rfl
@[simp] theorem State.setAtt_jr (x : Attention) : (s.setAtt x).jr = s.jr := rfl
@[simp] theorem State.setAtt_att (x : Attention) : (s.setAtt x).att = x := rfl
@[simp] theorem State.setAtt_gauge (x : Attention) : (s.setAtt x).gauge = s.gauge := rfl
@[simp] theorem State.setAtt_eng (x : Attention) : (s.setAtt x).eng = s.eng := rfl
@[simp] theorem State.setAtt_nv (x : Attention) : (s.setAtt x).nv = s.nv := rfl
@[simp] theorem State.setAtt_seat (x : Attention) : (s.setAtt x).seat = s.seat := rfl
@[simp] theorem State.setAtt_drv (x : Attention) : (s.setAtt x).drv = s.drv := rfl
@[simp] theorem State.setAtt_dtest (x : Attention) : (s.setAtt x).dtest = s.dtest := rfl
@[simp] theorem State.setAtt_tab (x : Attention) : (s.setAtt x).tab = s.tab := rfl
@[simp] theorem State.setAtt_weigh (x : Attention) : (s.setAtt x).weigh = s.weigh := rfl
@[simp] theorem State.setAtt_run (x : Attention) : (s.setAtt x).run = s.run := rfl
@[simp] theorem State.setAtt_plate (x : Attention) : (s.setAtt x).plate = s.plate := rfl
@[simp] theorem State.setAtt_seq (x : Attention) : (s.setAtt x).seq = s.seq := rfl
@[simp] theorem State.setAtt_disp (x : Attention) : (s.setAtt x).disp = s.disp := rfl
@[simp] theorem State.setAtt_comp (x : Attention) : (s.setAtt x).comp = s.comp := rfl
@[simp] theorem State.setAtt_prn (x : Attention) : (s.setAtt x).prn = s.prn := rfl

@[simp] theorem State.setGauge_pending (x : Gauge) : (s.setGauge x).pending = s.pending := rfl
@[simp] theorem State.setGauge_mem (x : Gauge) : (s.setGauge x).mem = s.mem := rfl
@[simp] theorem State.setGauge_clk (x : Gauge) : (s.setGauge x).clk = s.clk := rfl
@[simp] theorem State.setGauge_time (x : Gauge) : (s.setGauge x).time = s.time := rfl
@[simp] theorem State.setGauge_cause (x : Gauge) : (s.setGauge x).cause = s.cause := rfl
@[simp] theorem State.setGauge_slots (x : Gauge) : (s.setGauge x).slots = s.slots := rfl
@[simp] theorem State.setGauge_jr (x : Gauge) : (s.setGauge x).jr = s.jr := rfl
@[simp] theorem State.setGauge_att (x : Gauge) : (s.setGauge x).att = s.att := rfl
@[simp] theorem State.setGauge_gauge (x : Gauge) : (s.setGauge x).gauge = x := rfl
@[simp] theorem State.setGauge_eng (x : Gauge) : (s.setGauge x).eng = s.eng := rfl
@[simp] theorem State.setGauge_nv (x : Gauge) : (s.setGauge x).nv = s.nv := rfl
@[simp] theorem State.setGauge_seat (x : Gauge) : (s.setGauge x).seat = s.seat := rfl
@[simp] theorem State.setGauge_drv (x : Gauge) : (s.setGauge x).drv = s.drv := rfl
@[simp] theorem State.setGauge_dtest (x : Gauge) : (s.setGauge x).dtest = s.dtest := rfl
@[simp] theorem State.setGauge_tab (x : Gauge) : (s.setGauge x).tab = s.tab := rfl
@[simp] theorem State.setGauge_weigh (x : Gauge) : (s.setGauge x).weigh = s.weigh := rfl
@[simp] theorem State.setGauge_run (x : Gauge) : (s.setGauge x).run = s.run := rfl
@[simp] theorem State.setGauge_plate (x : Gauge) : (s.setGauge x).plate = s.plate := rfl
@[simp] theorem State.setGauge_seq (x : Gauge) : (s.setGauge x).seq = s.seq := rfl
@[simp] theorem State.setGauge_disp (x : Gauge) : (s.setGauge x).disp = s.disp := rfl
@[simp] theorem State.setGauge_comp (x : Gauge) : (s.setGauge x).comp = s.comp := rfl
@[simp] theorem State.setGauge_prn (x : Gauge) : (s.setGauge x).prn = s.prn := rfl

@[simp] theorem State.setEng_pending (x : Engine) : (s.setEng x).pending = s.pending := rfl
@[simp] theorem State.setEng_mem (x : Engine) : (s.setEng x).mem = s.mem := rfl
@[simp] theorem State.setEng_clk (x : Engine) : (s.setEng x).clk = s.clk := rfl
@[simp] theorem State.setEng_time (x : Engine) : (s.setEng x).time = s.time := rfl
@[simp] theorem State.setEng_cause (x : Engine) : (s.setEng x).cause = s.cause := rfl
@[simp] theorem State.setEng_slots (x : Engine) : (s.setEng x).slots = s.slots := rfl
@[simp] theorem State.setEng_jr (x : Engine) : (s.setEng x).jr = s.jr := rfl
@[simp] theorem State.setEng_att (x : Engine) : (s.setEng x).att = s.att := rfl
@[simp] theorem State.setEng_gauge (x : Engine) : (s.setEng x).gauge = s.gauge := rfl
@[simp] theorem State.setEng_eng (x : Engine) : (s.setEng x).eng = x := rfl
@[simp] theorem State.setEng_nv (x : Engine) : (s.setEng x).nv = s.nv := rfl
@[simp] theorem State.setEng_seat (x : Engine) : (s.setEng x).seat = s.seat := rfl
@[simp] theorem State.setEng_drv (x : Engine) : (s.setEng x).drv = s.drv := rfl
@[simp] theorem State.setEng_dtest (x : Engine) : (s.setEng x).dtest = s.dtest := rfl
@[simp] theorem State.setEng_tab (x : Engine) : (s.setEng x).tab = s.tab := rfl
@[simp] theorem State.setEng_weigh (x : Engine) : (s.setEng x).weigh = s.weigh := rfl
@[simp] theorem State.setEng_run (x : Engine) : (s.setEng x).run = s.run := rfl
@[simp] theorem State.setEng_plate (x : Engine) : (s.setEng x).plate = s.plate := rfl
@[simp] theorem State.setEng_seq (x : Engine) : (s.setEng x).seq = s.seq := rfl
@[simp] theorem State.setEng_disp (x : Engine) : (s.setEng x).disp = s.disp := rfl
@[simp] theorem State.setEng_comp (x : Engine) : (s.setEng x).comp = s.comp := rfl
@[simp] theorem State.setEng_prn (x : Engine) : (s.setEng x).prn = s.prn := rfl

@[simp] theorem State.setNv_pending (x : Nv) : (s.setNv x).pending = s.pending := rfl
@[simp] theorem State.setNv_mem (x : Nv) : (s.setNv x).mem = s.mem := rfl
@[simp] theorem State.setNv_clk (x : Nv) : (s.setNv x).clk = s.clk := rfl
@[simp] theorem State.setNv_time (x : Nv) : (s.setNv x).time = s.time := rfl
@[simp] theorem State.setNv_cause (x : Nv) : (s.setNv x).cause = s.cause := rfl
@[simp] theorem State.setNv_slots (x : Nv) : (s.setNv x).slots = s.slots := rfl
@[simp] theorem State.setNv_jr (x : Nv) : (s.setNv x).jr = s.jr := rfl
@[simp] theorem State.setNv_att (x : Nv) : (s.setNv x).att = s.att := rfl
@[simp] theorem State.setNv_gauge (x : Nv) : (s.setNv x).gauge = s.gauge := rfl
@[simp] theorem State.setNv_eng (x : Nv) : (s.setNv x).eng = s.eng := rfl
@[simp] theorem State.setNv_nv (x : Nv) : (s.setNv x).nv = x := rfl
@[simp] theorem State.setNv_seat (x : Nv) : (s.setNv x).seat = s.seat := rfl
@[simp] theorem State.setNv_drv (x : Nv) : (s.setNv x).drv = s.drv := rfl
@[simp] theorem State.setNv_dtest (x : Nv) : (s.setNv x).dtest = s.dtest := rfl
@[simp] theorem State.setNv_tab (x : Nv) : (s.setNv x).tab = s.tab := rfl
@[simp] theorem State.setNv_weigh (x : Nv) : (s.setNv x).weigh = s.weigh := rfl
@[simp] theorem State.setNv_run (x : Nv) : (s.setNv x).run = s.run := rfl
@[simp] theorem State.setNv_plate (x : Nv) : (s.setNv x).plate = s.plate := rfl
@[simp] theorem State.setNv_seq (x : Nv) : (s.setNv x).seq = s.seq := rfl
@[simp] theorem State.setNv_disp (x : Nv) : (s.setNv x).disp = s.disp := rfl
@[simp] theorem State.setNv_comp (x : Nv) : (s.setNv x).comp = s.comp := rfl
@[simp] theorem State.setNv_prn (x : Nv) : (s.setNv x).prn = s.prn := rfl

@[simp] theorem State.setSeat_pending (x : Seating) : (s.setSeat x).pending = s.pending := rfl
@[simp] theorem State.setSeat_mem (x : Seating) : (s.setSeat x).mem = s.mem := rfl
@[simp] theorem State.setSeat_clk (x : Seating) : (s.setSeat x).clk = s.clk := rfl
@[simp] theorem State.setSeat_time (x : Seating) : (s.setSeat x).time = s.time := rfl
@[simp] theorem State.setSeat_cause (x : Seating) : (s.setSeat x).cause = s.cause := rfl
@[simp] theorem State.setSeat_slots (x : Seating) : (s.setSeat x).slots = s.slots := rfl
@[simp] theorem State.setSeat_jr (x : Seating) : (s.setSeat x).jr = s.jr := rfl
@[simp] theorem State.setSeat_att (x : Seating) : (s.setSeat x).att = s.att := rfl
@[simp] theorem State.setSeat_gauge (x : Seating) : (s.setSeat x).gauge = s.gauge := rfl
@[simp] theorem State.setSeat_eng (x : Seating) : (s.setSeat x).eng = s.eng := rfl
@[simp] theorem State.setSeat_nv (x : Seating) : (s.setSeat x).nv = s.nv := rfl
@[simp] theorem State.setSeat_seat (x : Seating) : (s.setSeat x).seat = x := rfl
@[simp] theorem State.setSeat_drv (x : Seating) : (s.setSeat x).drv = s.drv := rfl
@[simp] theorem State.setSeat_dtest (x : Seating) : (s.setSeat x).dtest = s.dtest := rfl
@[simp] theorem State.setSeat_tab (x : Seating) : (s.setSeat x).tab = s.tab := rfl
@[simp] theorem State.setSeat_weigh (x : Seating) : (s.setSeat x).weigh = s.weigh := rfl
@[simp] theorem State.setSeat_run (x : Seating) : (s.setSeat x).run = s.run := rfl
@[simp] theorem State.setSeat_plate (x : Seating) : (s.setSeat x).plate = s.plate := rfl
@[simp] theorem State.setSeat_seq (x : Seating) : (s.setSeat x).seq = s.seq := rfl
@[simp] theorem State.setSeat_disp (x : Seating) : (s.setSeat x).disp = s.disp := rfl
@[simp] theorem State.setSeat_comp (x : Seating) : (s.setSeat x).comp = s.comp := rfl
@[simp] theorem State.setSeat_prn (x : Seating) : (s.setSeat x).prn = s.prn := rfl

@[simp] theorem State.setDrv_pending (x : Drive) : (s.setDrv x).pending = s.pending := rfl
@[simp] theorem State.setDrv_mem (x : Drive) : (s.setDrv x).mem = s.mem := rfl
@[simp] theorem State.setDrv_clk (x : Drive) : (s.setDrv x).clk = s.clk := rfl
@[simp] theorem State.setDrv_time (x : Drive) : (s.setDrv x).time = s.time := rfl
@[simp] theorem State.setDrv_cause (x : Drive) : (s.setDrv x).cause = s.cause := rfl
@[simp] theorem State.setDrv_slots (x : Drive) : (s.setDrv x).slots = s.slots := rfl
@[simp] theorem State.setDrv_jr (x : Drive) : (s.setDrv x).jr = s.jr := rfl
@[simp] theorem State.setDrv_att (x : Drive) : (s.setDrv x).att = s.att := rfl
@[simp] theorem State.setDrv_gauge (x : Drive) : (s.setDrv x).gauge = s.gauge := rfl
@[simp] theorem State.setDrv_eng (x : Drive) : (s.setDrv x).eng = s.eng := rfl
@[simp] theorem State.setDrv_nv (x : Drive) : (s.setDrv x).nv = s.nv := rfl
@[simp] theorem State.setDrv_seat (x : Drive) : (s.setDrv x).seat = s.seat := rfl
@[simp] theorem State.setDrv_drv (x : Drive) : (s.setDrv x).drv = x := rfl
@[simp] theorem State.setDrv_dtest (x : Drive) : (s.setDrv x).dtest = s.dtest := rfl
@[simp] theorem State.setDrv_tab (x : Drive) : (s.setDrv x).tab = s.tab := rfl
@[simp] theorem State.setDrv_weigh (x : Drive) : (s.setDrv x).weigh = s.weigh := rfl
@[simp] theorem State.setDrv_run (x : Drive) : (s.setDrv x).run = s.run := rfl
@[simp] theorem State.setDrv_plate (x : Drive) : (s.setDrv x).plate = s.plate := rfl
@[simp] theorem State.setDrv_seq (x : Drive) : (s.setDrv x).seq = s.seq := rfl
@[simp] theorem State.setDrv_disp (x : Drive) : (s.setDrv x).disp = s.disp := rfl
@[simp] theorem State.setDrv_comp (x : Drive) : (s.setDrv x).comp = s.comp := rfl
@[simp] theorem State.setDrv_prn (x : Drive) : (s.setDrv x).prn = s.prn := rfl

@[simp] theorem State.setDtest_pending (x : Option DriveTest) : (s.setDtest x).pending = s.pending := rfl
@[simp] theorem State.setDtest_mem (x : Option DriveTest) : (s.setDtest x).mem = s.mem := rfl
@[simp] theorem State.setDtest_clk (x : Option DriveTest) : (s.setDtest x).clk = s.clk := rfl
@[simp] theorem State.setDtest_time (x : Option DriveTest) : (s.setDtest x).time = s.time := rfl
@[simp] theorem State.setDtest_cause (x : Option DriveTest) : (s.setDtest x).cause = s.cause := rfl
@[simp] theorem State.setDtest_slots (x : Option DriveTest) : (s.setDtest x).slots = s.slots := rfl
@[simp] theorem State.setDtest_jr (x : Option DriveTest) : (s.setDtest x).jr = s.jr := rfl
@[simp] theorem State.setDtest_att (x : Option DriveTest) : (s.setDtest x).att = s.att := rfl
@[simp] theorem State.setDtest_gauge (x : Option DriveTest) : (s.setDtest x).gauge = s.gauge := rfl
@[simp] theorem State.setDtest_eng (x : Option DriveTest) : (s.setDtest x).eng = s.eng := rfl
@[simp] theorem State.setDtest_nv (x : Option DriveTest) : (s.setDtest x).nv = s.nv := rfl
@[simp] theorem State.setDtest_seat (x : Option DriveTest) : (s.setDtest x).seat = s.seat := rfl
@[simp] theorem State.setDtest_drv (x : Option DriveTest) : (s.setDtest x).drv = s.drv := rfl
@[simp] theorem State.setDtest_dtest (x : Option DriveTest) : (s.setDtest x).dtest = x := rfl
@[simp] theorem State.setDtest_tab (x : Option DriveTest) : (s.setDtest x).tab = s.tab := rfl
@[simp] theorem State.setDtest_weigh (x : Option DriveTest) : (s.setDtest x).weigh = s.weigh := rfl
@[simp] theorem State.setDtest_run (x : Option DriveTest) : (s.setDtest x).run = s.run := rfl
@[simp] theorem State.setDtest_plate (x : Option DriveTest) : (s.setDtest x).plate = s.plate := rfl
@[simp] theorem State.setDtest_seq (x : Option DriveTest) : (s.setDtest x).seq = s.seq := rfl
@[simp] theorem State.setDtest_disp (x : Option DriveTest) : (s.setDtest x).disp = s.disp := rfl
@[simp] theorem State.setDtest_comp (x : Option DriveTest) : (s.setDtest x).comp = s.comp := rfl
@[simp] theorem State.setDtest_prn (x : Option DriveTest) : (s.setDtest x).prn = s.prn := rfl

@[simp] theorem State.setTab_pending (x : AxleTable) : (s.setTab x).pending = s.pending := rfl
@[simp] theorem State.setTab_mem (x : AxleTable) : (s.setTab x).mem = s.mem := rfl
@[simp] theorem State.setTab_clk (x : AxleTable) : (s.setTab x).clk = s.clk := rfl
@[simp] theorem State.setTab_time (x : AxleTable) : (s.setTab x).time = s.time := rfl
@[simp] theorem State.setTab_cause (x : AxleTable) : (s.setTab x).cause = s.cause := rfl
@[simp] theorem State.setTab_slots (x : AxleTable) : (s.setTab x).slots = s.slots := rfl
@[simp] theorem State.setTab_jr (x : AxleTable) : (s.setTab x).jr = s.jr := rfl
@[simp] theorem State.setTab_att (x : AxleTable) : (s.setTab x).att = s.att := rfl
@[simp] theorem State.setTab_gauge (x : AxleTable) : (s.setTab x).gauge = s.gauge := rfl
@[simp] theorem State.setTab_eng (x : AxleTable) : (s.setTab x).eng = s.eng := rfl
@[simp] theorem State.setTab_nv (x : AxleTable) : (s.setTab x).nv = s.nv := rfl
@[simp] theorem State.setTab_seat (x : AxleTable) : (s.setTab x).seat = s.seat := rfl
@[simp] theorem State.setTab_drv (x : AxleTable) : (s.setTab x).drv = s.drv := rfl
@[simp] theorem State.setTab_dtest (x : AxleTable) : (s.setTab x).dtest = s.dtest := rfl
@[simp] theorem State.setTab_tab (x : AxleTable) : (s.setTab x).tab = x := rfl
@[simp] theorem State.setTab_weigh (x : AxleTable) : (s.setTab x).weigh = s.weigh := rfl
@[simp] theorem State.setTab_run (x : AxleTable) : (s.setTab x).run = s.run := rfl
@[simp] theorem State.setTab_plate (x : AxleTable) : (s.setTab x).plate = s.plate := rfl
@[simp] theorem State.setTab_seq (x : AxleTable) : (s.setTab x).seq = s.seq := rfl
@[simp] theorem State.setTab_disp (x : AxleTable) : (s.setTab x).disp = s.disp := rfl
@[simp] theorem State.setTab_comp (x : AxleTable) : (s.setTab x).comp = s.comp := rfl
@[simp] theorem State.setTab_prn (x : AxleTable) : (s.setTab x).prn = s.prn := rfl

@[simp] theorem State.setWeigh_pending (x : Option Weighing) : (s.setWeigh x).pending = s.pending := rfl
@[simp] theorem State.setWeigh_mem (x : Option Weighing) : (s.setWeigh x).mem = s.mem := rfl
@[simp] theorem State.setWeigh_clk (x : Option Weighing) : (s.setWeigh x).clk = s.clk := rfl
@[simp] theorem State.setWeigh_time (x : Option Weighing) : (s.setWeigh x).time = s.time := rfl
@[simp] theorem State.setWeigh_cause (x : Option Weighing) : (s.setWeigh x).cause = s.cause := rfl
@[simp] theorem State.setWeigh_slots (x : Option Weighing) : (s.setWeigh x).slots = s.slots := rfl
@[simp] theorem State.setWeigh_jr (x : Option Weighing) : (s.setWeigh x).jr = s.jr := rfl
@[simp] theorem State.setWeigh_att (x : Option Weighing) : (s.setWeigh x).att = s.att := rfl
@[simp] theorem State.setWeigh_gauge (x : Option Weighing) : (s.setWeigh x).gauge = s.gauge := rfl
@[simp] theorem State.setWeigh_eng (x : Option Weighing) : (s.setWeigh x).eng = s.eng := rfl
@[simp] theorem State.setWeigh_nv (x : Option Weighing) : (s.setWeigh x).nv = s.nv := rfl
@[simp] theorem State.setWeigh_seat (x : Option Weighing) : (s.setWeigh x).seat = s.seat := rfl
@[simp] theorem State.setWeigh_drv (x : Option Weighing) : (s.setWeigh x).drv = s.drv := rfl
@[simp] theorem State.setWeigh_dtest (x : Option Weighing) : (s.setWeigh x).dtest = s.dtest := rfl
@[simp] theorem State.setWeigh_tab (x : Option Weighing) : (s.setWeigh x).tab = s.tab := rfl
@[simp] theorem State.setWeigh_weigh (x : Option Weighing) : (s.setWeigh x).weigh = x := rfl
@[simp] theorem State.setWeigh_run (x : Option Weighing) : (s.setWeigh x).run = s.run := rfl
@[simp] theorem State.setWeigh_plate (x : Option Weighing) : (s.setWeigh x).plate = s.plate := rfl
@[simp] theorem State.setWeigh_seq (x : Option Weighing) : (s.setWeigh x).seq = s.seq := rfl
@[simp] theorem State.setWeigh_disp (x : Option Weighing) : (s.setWeigh x).disp = s.disp := rfl
@[simp] theorem State.setWeigh_comp (x : Option Weighing) : (s.setWeigh x).comp = s.comp := rfl
@[simp] theorem State.setWeigh_prn (x : Option Weighing) : (s.setWeigh x).prn = s.prn := rfl

@[simp] theorem State.setRun_pending (x : RunUnit) : (s.setRun x).pending = s.pending := rfl
@[simp] theorem State.setRun_mem (x : RunUnit) : (s.setRun x).mem = s.mem := rfl
@[simp] theorem State.setRun_clk (x : RunUnit) : (s.setRun x).clk = s.clk := rfl
@[simp] theorem State.setRun_time (x : RunUnit) : (s.setRun x).time = s.time := rfl
@[simp] theorem State.setRun_cause (x : RunUnit) : (s.setRun x).cause = s.cause := rfl
@[simp] theorem State.setRun_slots (x : RunUnit) : (s.setRun x).slots = s.slots := rfl
@[simp] theorem State.setRun_jr (x : RunUnit) : (s.setRun x).jr = s.jr := rfl
@[simp] theorem State.setRun_att (x : RunUnit) : (s.setRun x).att = s.att := rfl
@[simp] theorem State.setRun_gauge (x : RunUnit) : (s.setRun x).gauge = s.gauge := rfl
@[simp] theorem State.setRun_eng (x : RunUnit) : (s.setRun x).eng = s.eng := rfl
@[simp] theorem State.setRun_nv (x : RunUnit) : (s.setRun x).nv = s.nv := rfl
@[simp] theorem State.setRun_seat (x : RunUnit) : (s.setRun x).seat = s.seat := rfl
@[simp] theorem State.setRun_drv (x : RunUnit) : (s.setRun x).drv = s.drv := rfl
@[simp] theorem State.setRun_dtest (x : RunUnit) : (s.setRun x).dtest = s.dtest := rfl
@[simp] theorem State.setRun_tab (x : RunUnit) : (s.setRun x).tab = s.tab := rfl
@[simp] theorem State.setRun_weigh (x : RunUnit) : (s.setRun x).weigh = s.weigh := rfl
@[simp] theorem State.setRun_run (x : RunUnit) : (s.setRun x).run = x := rfl
@[simp] theorem State.setRun_plate (x : RunUnit) : (s.setRun x).plate = s.plate := rfl
@[simp] theorem State.setRun_seq (x : RunUnit) : (s.setRun x).seq = s.seq := rfl
@[simp] theorem State.setRun_disp (x : RunUnit) : (s.setRun x).disp = s.disp := rfl
@[simp] theorem State.setRun_comp (x : RunUnit) : (s.setRun x).comp = s.comp := rfl
@[simp] theorem State.setRun_prn (x : RunUnit) : (s.setRun x).prn = s.prn := rfl

@[simp] theorem State.setPlate_pending (x : Plate) : (s.setPlate x).pending = s.pending := rfl
@[simp] theorem State.setPlate_mem (x : Plate) : (s.setPlate x).mem = s.mem := rfl
@[simp] theorem State.setPlate_clk (x : Plate) : (s.setPlate x).clk = s.clk := rfl
@[simp] theorem State.setPlate_time (x : Plate) : (s.setPlate x).time = s.time := rfl
@[simp] theorem State.setPlate_cause (x : Plate) : (s.setPlate x).cause = s.cause := rfl
@[simp] theorem State.setPlate_slots (x : Plate) : (s.setPlate x).slots = s.slots := rfl
@[simp] theorem State.setPlate_jr (x : Plate) : (s.setPlate x).jr = s.jr := rfl
@[simp] theorem State.setPlate_att (x : Plate) : (s.setPlate x).att = s.att := rfl
@[simp] theorem State.setPlate_gauge (x : Plate) : (s.setPlate x).gauge = s.gauge := rfl
@[simp] theorem State.setPlate_eng (x : Plate) : (s.setPlate x).eng = s.eng := rfl
@[simp] theorem State.setPlate_nv (x : Plate) : (s.setPlate x).nv = s.nv := rfl
@[simp] theorem State.setPlate_seat (x : Plate) : (s.setPlate x).seat = s.seat := rfl
@[simp] theorem State.setPlate_drv (x : Plate) : (s.setPlate x).drv = s.drv := rfl
@[simp] theorem State.setPlate_dtest (x : Plate) : (s.setPlate x).dtest = s.dtest := rfl
@[simp] theorem State.setPlate_tab (x : Plate) : (s.setPlate x).tab = s.tab := rfl
@[simp] theorem State.setPlate_weigh (x : Plate) : (s.setPlate x).weigh = s.weigh := rfl
@[simp] theorem State.setPlate_run (x : Plate) : (s.setPlate x).run = s.run := rfl
@[simp] theorem State.setPlate_plate (x : Plate) : (s.setPlate x).plate = x := rfl
@[simp] theorem State.setPlate_seq (x : Plate) : (s.setPlate x).seq = s.seq := rfl
@[simp] theorem State.setPlate_disp (x : Plate) : (s.setPlate x).disp = s.disp := rfl
@[simp] theorem State.setPlate_comp (x : Plate) : (s.setPlate x).comp = s.comp := rfl
@[simp] theorem State.setPlate_prn (x : Plate) : (s.setPlate x).prn = s.prn := rfl

@[simp] theorem State.setSeq_pending (x : Sequencer) : (s.setSeq x).pending = s.pending := rfl
@[simp] theorem State.setSeq_mem (x : Sequencer) : (s.setSeq x).mem = s.mem := rfl
@[simp] theorem State.setSeq_clk (x : Sequencer) : (s.setSeq x).clk = s.clk := rfl
@[simp] theorem State.setSeq_time (x : Sequencer) : (s.setSeq x).time = s.time := rfl
@[simp] theorem State.setSeq_cause (x : Sequencer) : (s.setSeq x).cause = s.cause := rfl
@[simp] theorem State.setSeq_slots (x : Sequencer) : (s.setSeq x).slots = s.slots := rfl
@[simp] theorem State.setSeq_jr (x : Sequencer) : (s.setSeq x).jr = s.jr := rfl
@[simp] theorem State.setSeq_att (x : Sequencer) : (s.setSeq x).att = s.att := rfl
@[simp] theorem State.setSeq_gauge (x : Sequencer) : (s.setSeq x).gauge = s.gauge := rfl
@[simp] theorem State.setSeq_eng (x : Sequencer) : (s.setSeq x).eng = s.eng := rfl
@[simp] theorem State.setSeq_nv (x : Sequencer) : (s.setSeq x).nv = s.nv := rfl
@[simp] theorem State.setSeq_seat (x : Sequencer) : (s.setSeq x).seat = s.seat := rfl
@[simp] theorem State.setSeq_drv (x : Sequencer) : (s.setSeq x).drv = s.drv := rfl
@[simp] theorem State.setSeq_dtest (x : Sequencer) : (s.setSeq x).dtest = s.dtest := rfl
@[simp] theorem State.setSeq_tab (x : Sequencer) : (s.setSeq x).tab = s.tab := rfl
@[simp] theorem State.setSeq_weigh (x : Sequencer) : (s.setSeq x).weigh = s.weigh := rfl
@[simp] theorem State.setSeq_run (x : Sequencer) : (s.setSeq x).run = s.run := rfl
@[simp] theorem State.setSeq_plate (x : Sequencer) : (s.setSeq x).plate = s.plate := rfl
@[simp] theorem State.setSeq_seq (x : Sequencer) : (s.setSeq x).seq = x := rfl
@[simp] theorem State.setSeq_disp (x : Sequencer) : (s.setSeq x).disp = s.disp := rfl
@[simp] theorem State.setSeq_comp (x : Sequencer) : (s.setSeq x).comp = s.comp := rfl
@[simp] theorem State.setSeq_prn (x : Sequencer) : (s.setSeq x).prn = s.prn := rfl

@[simp] theorem State.setDisp_pending (x : Display) : (s.setDisp x).pending = s.pending := rfl
@[simp] theorem State.setDisp_mem (x : Display) : (s.setDisp x).mem = s.mem := rfl
@[simp] theorem State.setDisp_clk (x : Display) : (s.setDisp x).clk = s.clk := rfl
@[simp] theorem State.setDisp_time (x : Display) : (s.setDisp x).time = s.time := rfl
@[simp] theorem State.setDisp_cause (x : Display) : (s.setDisp x).cause = s.cause := rfl
@[simp] theorem State.setDisp_slots (x : Display) : (s.setDisp x).slots = s.slots := rfl
@[simp] theorem State.setDisp_jr (x : Display) : (s.setDisp x).jr = s.jr := rfl
@[simp] theorem State.setDisp_att (x : Display) : (s.setDisp x).att = s.att := rfl
@[simp] theorem State.setDisp_gauge (x : Display) : (s.setDisp x).gauge = s.gauge := rfl
@[simp] theorem State.setDisp_eng (x : Display) : (s.setDisp x).eng = s.eng := rfl
@[simp] theorem State.setDisp_nv (x : Display) : (s.setDisp x).nv = s.nv := rfl
@[simp] theorem State.setDisp_seat (x : Display) : (s.setDisp x).seat = s.seat := rfl
@[simp] theorem State.setDisp_drv (x : Display) : (s.setDisp x).drv = s.drv := rfl
@[simp] theorem State.setDisp_dtest (x : Display) : (s.setDisp x).dtest = s.dtest := rfl
@[simp] theorem State.setDisp_tab (x : Display) : (s.setDisp x).tab = s.tab := rfl
@[simp] theorem State.setDisp_weigh (x : Display) : (s.setDisp x).weigh = s.weigh := rfl
@[simp] theorem State.setDisp_run (x : Display) : (s.setDisp x).run = s.run := rfl
@[simp] theorem State.setDisp_plate (x : Display) : (s.setDisp x).plate = s.plate := rfl
@[simp] theorem State.setDisp_seq (x : Display) : (s.setDisp x).seq = s.seq := rfl
@[simp] theorem State.setDisp_disp (x : Display) : (s.setDisp x).disp = x := rfl
@[simp] theorem State.setDisp_comp (x : Display) : (s.setDisp x).comp = s.comp := rfl
@[simp] theorem State.setDisp_prn (x : Display) : (s.setDisp x).prn = s.prn := rfl

@[simp] theorem State.setComp_pending (x : Composer) : (s.setComp x).pending = s.pending := rfl
@[simp] theorem State.setComp_mem (x : Composer) : (s.setComp x).mem = s.mem := rfl
@[simp] theorem State.setComp_clk (x : Composer) : (s.setComp x).clk = s.clk := rfl
@[simp] theorem State.setComp_time (x : Composer) : (s.setComp x).time = s.time := rfl
@[simp] theorem State.setComp_cause (x : Composer) : (s.setComp x).cause = s.cause := rfl
@[simp] theorem State.setComp_slots (x : Composer) : (s.setComp x).slots = s.slots := rfl
@[simp] theorem State.setComp_jr (x : Composer) : (s.setComp x).jr = s.jr := rfl
@[simp] theorem State.setComp_att (x : Composer) : (s.setComp x).att = s.att := rfl
@[simp] theorem State.setComp_gauge (x : Composer) : (s.setComp x).gauge = s.gauge := rfl
@[simp] theorem State.setComp_eng (x : Composer) : (s.setComp x).eng = s.eng := rfl
@[simp] theorem State.setComp_nv (x : Composer) : (s.setComp x).nv = s.nv := rfl
@[simp] theorem State.setComp_seat (x : Composer) : (s.setComp x).seat = s.seat := rfl
@[simp] theorem State.setComp_drv (x : Composer) : (s.setComp x).drv = s.drv := rfl
@[simp] theorem State.setComp_dtest (x : Composer) : (s.setComp x).dtest = s.dtest := rfl
@[simp] theorem State.setComp_tab (x : Composer) : (s.setComp x).tab = s.tab := rfl
@[simp] theorem State.setComp_weigh (x : Composer) : (s.setComp x).weigh = s.weigh := rfl
@[simp] theorem State.setComp_run (x : Composer) : (s.setComp x).run = s.run := rfl
@[simp] theorem State.setComp_plate (x : Composer) : (s.setComp x).plate = s.plate := rfl
@[simp] theorem State.setComp_seq (x : Composer) : (s.setComp x).seq = s.seq := rfl
@[simp] theorem State.setComp_disp (x : Composer) : (s.setComp x).disp = s.disp := rfl
@[simp] theorem State.setComp_comp (x : Composer) : (s.setComp x).comp = x := rfl
@[simp] theorem State.setComp_prn (x : Composer) : (s.setComp x).prn = s.prn := rfl

@[simp] theorem State.setPrn_pending (x : Printer) : (s.setPrn x).pending = s.pending := rfl
@[simp] theorem State.setPrn_mem (x : Printer) : (s.setPrn x).mem = s.mem := rfl
@[simp] theorem State.setPrn_clk (x : Printer) : (s.setPrn x).clk = s.clk := rfl
@[simp] theorem State.setPrn_time (x : Printer) : (s.setPrn x).time = s.time := rfl
@[simp] theorem State.setPrn_cause (x : Printer) : (s.setPrn x).cause = s.cause := rfl
@[simp] theorem State.setPrn_slots (x : Printer) : (s.setPrn x).slots = s.slots := rfl
@[simp] theorem State.setPrn_jr (x : Printer) : (s.setPrn x).jr = s.jr := rfl
@[simp] theorem State.setPrn_att (x : Printer) : (s.setPrn x).att = s.att := rfl
@[simp] theorem State.setPrn_gauge (x : Printer) : (s.setPrn x).gauge = s.gauge := rfl
@[simp] theorem State.setPrn_eng (x : Printer) : (s.setPrn x).eng = s.eng := rfl
@[simp] theorem State.setPrn_nv (x : Printer) : (s.setPrn x).nv = s.nv := rfl
@[simp] theorem State.setPrn_seat (x : Printer) : (s.setPrn x).seat = s.seat := rfl
@[simp] theorem State.setPrn_drv (x : Printer) : (s.setPrn x).drv = s.drv := rfl
@[simp] theorem State.setPrn_dtest (x : Printer) : (s.setPrn x).dtest = s.dtest := rfl
@[simp] theorem State.setPrn_tab (x : Printer) : (s.setPrn x).tab = s.tab := rfl
@[simp] theorem State.setPrn_weigh (x : Printer) : (s.setPrn x).weigh = s.weigh := rfl
@[simp] theorem State.setPrn_run (x : Printer) : (s.setPrn x).run = s.run := rfl
@[simp] theorem State.setPrn_plate (x : Printer) : (s.setPrn x).plate = s.plate := rfl
@[simp] theorem State.setPrn_seq (x : Printer) : (s.setPrn x).seq = s.seq := rfl
@[simp] theorem State.setPrn_disp (x : Printer) : (s.setPrn x).disp = s.disp := rfl
@[simp] theorem State.setPrn_comp (x : Printer) : (s.setPrn x).comp = s.comp := rfl
@[simp] theorem State.setPrn_prn (x : Printer) : (s.setPrn x).prn = x := rfl

end Sys2Proof.Machine
end

