-- ==== Sys2Proof/Laws/FrameBase.lean ====
section
/-! SUPPORT. Laws/FrameBase.lean: what each operation of Machine/Ops, Machine/Flags, Machine/Journal, Machine/Images,
Machine/Display, Machine/SeqCore leaves unchanged. -/

namespace Sys2Proof.Machine

/-- A fold of steps that each keep a reading keeps it. -/
theorem foldl_keeps {α β : Type} (f : State → α → State) (get : State → β) (h : ∀ s x, get (f s x) = get s) (l : List α)
    (s : State) : get (l.foldl f s) = get s := by
  induction l generalizing s with
  | nil => rfl
  | cons x l ih => rw [List.foldl_cons, ih, h]

@[simp] theorem State.setRecord_frame (s : State) (k : Nat) (r : AxleRecord) :
    (s.setRecord k r).pending = s.pending ∧ (s.setRecord k r).mem = s.mem ∧ (s.setRecord k r).clk = s.clk ∧
    (s.setRecord k r).time = s.time ∧ (s.setRecord k r).cause = s.cause ∧ (s.setRecord k r).slots = s.slots ∧
    (s.setRecord k r).jr = s.jr ∧ (s.setRecord k r).att = s.att ∧ (s.setRecord k r).gauge = s.gauge ∧
    (s.setRecord k r).eng = s.eng ∧ (s.setRecord k r).nv = s.nv ∧ (s.setRecord k r).seat = s.seat ∧
    (s.setRecord k r).drv = s.drv ∧ (s.setRecord k r).dtest = s.dtest ∧ (s.setRecord k r).weigh = s.weigh ∧
    (s.setRecord k r).run = s.run ∧ (s.setRecord k r).plate = s.plate ∧ (s.setRecord k r).seq = s.seq ∧
    (s.setRecord k r).disp = s.disp ∧ (s.setRecord k r).comp = s.comp ∧ (s.setRecord k r).prn = s.prn := by
  simp [State.setRecord]

@[simp] theorem State.setCert_frame (s : State) (k : Nat) (c : CertRecord) :
    (s.setCert k c).pending = s.pending ∧ (s.setCert k c).mem = s.mem ∧ (s.setCert k c).clk = s.clk ∧
    (s.setCert k c).time = s.time ∧ (s.setCert k c).cause = s.cause ∧ (s.setCert k c).slots = s.slots ∧
    (s.setCert k c).jr = s.jr ∧ (s.setCert k c).att = s.att ∧ (s.setCert k c).gauge = s.gauge ∧
    (s.setCert k c).eng = s.eng ∧ (s.setCert k c).nv = s.nv ∧ (s.setCert k c).seat = s.seat ∧
    (s.setCert k c).drv = s.drv ∧ (s.setCert k c).dtest = s.dtest ∧ (s.setCert k c).tab = s.tab ∧
    (s.setCert k c).weigh = s.weigh ∧ (s.setCert k c).run = s.run ∧ (s.setCert k c).plate = s.plate ∧
    (s.setCert k c).seq = s.seq ∧ (s.setCert k c).disp = s.disp ∧ (s.setCert k c).prn = s.prn := by
  simp [State.setCert]

@[simp] theorem State.setAttn_frame (s : State) (bits : Byte) :
    (s.setAttn bits).pending = s.pending ∧ (s.setAttn bits).mem = s.mem ∧ (s.setAttn bits).clk = s.clk ∧
    (s.setAttn bits).time = s.time ∧ (s.setAttn bits).cause = s.cause ∧ (s.setAttn bits).slots = s.slots ∧
    (s.setAttn bits).jr = s.jr ∧ (s.setAttn bits).gauge = s.gauge ∧ (s.setAttn bits).eng = s.eng ∧
    (s.setAttn bits).nv = s.nv ∧ (s.setAttn bits).seat = s.seat ∧ (s.setAttn bits).drv = s.drv ∧
    (s.setAttn bits).dtest = s.dtest ∧ (s.setAttn bits).tab = s.tab ∧ (s.setAttn bits).weigh = s.weigh ∧
    (s.setAttn bits).run = s.run ∧ (s.setAttn bits).plate = s.plate ∧ (s.setAttn bits).seq = s.seq ∧
    (s.setAttn bits).disp = s.disp ∧ (s.setAttn bits).comp = s.comp ∧ (s.setAttn bits).prn = s.prn := by
  simp [State.setAttn]

@[simp] theorem State.raiseAttn_frame (s : State) (bits : Byte) :
    (s.raiseAttn bits).pending = s.pending ∧ (s.raiseAttn bits).mem = s.mem ∧ (s.raiseAttn bits).clk = s.clk ∧
    (s.raiseAttn bits).time = s.time ∧ (s.raiseAttn bits).cause = s.cause ∧ (s.raiseAttn bits).slots = s.slots ∧
    (s.raiseAttn bits).jr = s.jr ∧ (s.raiseAttn bits).gauge = s.gauge ∧ (s.raiseAttn bits).eng = s.eng ∧
    (s.raiseAttn bits).nv = s.nv ∧ (s.raiseAttn bits).seat = s.seat ∧ (s.raiseAttn bits).drv = s.drv ∧
    (s.raiseAttn bits).dtest = s.dtest ∧ (s.raiseAttn bits).tab = s.tab ∧ (s.raiseAttn bits).weigh = s.weigh ∧
    (s.raiseAttn bits).run = s.run ∧ (s.raiseAttn bits).plate = s.plate ∧ (s.raiseAttn bits).seq = s.seq ∧
    (s.raiseAttn bits).disp = s.disp ∧ (s.raiseAttn bits).comp = s.comp ∧ (s.raiseAttn bits).prn = s.prn := by
  simp [State.raiseAttn]

@[simp] theorem State.clearAttn_frame (s : State) (bits : Byte) :
    (s.clearAttn bits).pending = s.pending ∧ (s.clearAttn bits).mem = s.mem ∧ (s.clearAttn bits).clk = s.clk ∧
    (s.clearAttn bits).time = s.time ∧ (s.clearAttn bits).cause = s.cause ∧ (s.clearAttn bits).slots = s.slots ∧
    (s.clearAttn bits).jr = s.jr ∧ (s.clearAttn bits).gauge = s.gauge ∧ (s.clearAttn bits).eng = s.eng ∧
    (s.clearAttn bits).nv = s.nv ∧ (s.clearAttn bits).seat = s.seat ∧ (s.clearAttn bits).drv = s.drv ∧
    (s.clearAttn bits).dtest = s.dtest ∧ (s.clearAttn bits).tab = s.tab ∧ (s.clearAttn bits).weigh = s.weigh ∧
    (s.clearAttn bits).run = s.run ∧ (s.clearAttn bits).plate = s.plate ∧ (s.clearAttn bits).seq = s.seq ∧
    (s.clearAttn bits).disp = s.disp ∧ (s.clearAttn bits).comp = s.comp ∧ (s.clearAttn bits).prn = s.prn := by
  simp [State.clearAttn]

@[simp] theorem State.setMask_frame (s : State) (mask : Byte) :
    (s.setMask mask).pending = s.pending ∧ (s.setMask mask).mem = s.mem ∧ (s.setMask mask).clk = s.clk ∧
    (s.setMask mask).time = s.time ∧ (s.setMask mask).cause = s.cause ∧ (s.setMask mask).slots = s.slots ∧
    (s.setMask mask).jr = s.jr ∧ (s.setMask mask).gauge = s.gauge ∧ (s.setMask mask).eng = s.eng ∧
    (s.setMask mask).nv = s.nv ∧ (s.setMask mask).seat = s.seat ∧ (s.setMask mask).drv = s.drv ∧
    (s.setMask mask).dtest = s.dtest ∧ (s.setMask mask).tab = s.tab ∧ (s.setMask mask).weigh = s.weigh ∧
    (s.setMask mask).run = s.run ∧ (s.setMask mask).plate = s.plate ∧ (s.setMask mask).seq = s.seq ∧
    (s.setMask mask).disp = s.disp ∧ (s.setMask mask).comp = s.comp ∧ (s.setMask mask).prn = s.prn := by
  simp [State.setMask]

@[simp] theorem State.afterWritten_frame (s : State) (full first : Bool) :
    (s.afterWritten full first).pending = s.pending ∧ (s.afterWritten full first).mem = s.mem ∧
    (s.afterWritten full first).clk = s.clk ∧ (s.afterWritten full first).time = s.time ∧
    (s.afterWritten full first).cause = s.cause ∧ (s.afterWritten full first).slots = s.slots ∧
    (s.afterWritten full first).gauge = s.gauge ∧ (s.afterWritten full first).eng = s.eng ∧
    (s.afterWritten full first).nv = s.nv ∧ (s.afterWritten full first).seat = s.seat ∧
    (s.afterWritten full first).drv = s.drv ∧ (s.afterWritten full first).dtest = s.dtest ∧
    (s.afterWritten full first).tab = s.tab ∧ (s.afterWritten full first).weigh = s.weigh ∧
    (s.afterWritten full first).run = s.run ∧ (s.afterWritten full first).plate = s.plate ∧
    (s.afterWritten full first).seq = s.seq ∧ (s.afterWritten full first).disp = s.disp ∧
    (s.afterWritten full first).comp = s.comp ∧ (s.afterWritten full first).prn = s.prn := by
  unfold State.afterWritten
  try dsimp only
  repeat' split
  all_goals simp

@[simp] theorem State.produce_frame (s : State) (code axle : Nat) (p1 p2 : Word) :
    (s.produce code axle p1 p2).pending = s.pending ∧ (s.produce code axle p1 p2).clk = s.clk ∧
    (s.produce code axle p1 p2).time = s.time ∧ (s.produce code axle p1 p2).cause = s.cause ∧
    (s.produce code axle p1 p2).slots = s.slots ∧ (s.produce code axle p1 p2).gauge = s.gauge ∧
    (s.produce code axle p1 p2).eng = s.eng ∧ (s.produce code axle p1 p2).nv = s.nv ∧
    (s.produce code axle p1 p2).seat = s.seat ∧ (s.produce code axle p1 p2).drv = s.drv ∧
    (s.produce code axle p1 p2).dtest = s.dtest ∧ (s.produce code axle p1 p2).tab = s.tab ∧
    (s.produce code axle p1 p2).weigh = s.weigh ∧ (s.produce code axle p1 p2).run = s.run ∧
    (s.produce code axle p1 p2).plate = s.plate ∧ (s.produce code axle p1 p2).seq = s.seq ∧
    (s.produce code axle p1 p2).disp = s.disp ∧ (s.produce code axle p1 p2).comp = s.comp ∧
    (s.produce code axle p1 p2).prn = s.prn := by
  unfold State.produce
  try dsimp only
  repeat' split
  all_goals simp

@[simp] theorem State.produceHere_frame (s : State) (code : Nat) (p1 p2 : Word) :
    (s.produceHere code p1 p2).pending = s.pending ∧ (s.produceHere code p1 p2).clk = s.clk ∧
    (s.produceHere code p1 p2).time = s.time ∧ (s.produceHere code p1 p2).cause = s.cause ∧
    (s.produceHere code p1 p2).slots = s.slots ∧ (s.produceHere code p1 p2).gauge = s.gauge ∧
    (s.produceHere code p1 p2).eng = s.eng ∧ (s.produceHere code p1 p2).nv = s.nv ∧
    (s.produceHere code p1 p2).seat = s.seat ∧ (s.produceHere code p1 p2).drv = s.drv ∧
    (s.produceHere code p1 p2).dtest = s.dtest ∧ (s.produceHere code p1 p2).tab = s.tab ∧
    (s.produceHere code p1 p2).weigh = s.weigh ∧ (s.produceHere code p1 p2).run = s.run ∧
    (s.produceHere code p1 p2).plate = s.plate ∧ (s.produceHere code p1 p2).seq = s.seq ∧
    (s.produceHere code p1 p2).disp = s.disp ∧ (s.produceHere code p1 p2).comp = s.comp ∧
    (s.produceHere code p1 p2).prn = s.prn := by
  simp [State.produceHere]

@[simp] theorem State.setHeld_frame (s : State) (n : Nat) (h : Held) :
    (s.setHeld n h).pending = s.pending ∧ (s.setHeld n h).mem = s.mem ∧ (s.setHeld n h).clk = s.clk ∧
    (s.setHeld n h).time = s.time ∧ (s.setHeld n h).cause = s.cause ∧ (s.setHeld n h).jr = s.jr ∧
    (s.setHeld n h).att = s.att ∧ (s.setHeld n h).gauge = s.gauge ∧ (s.setHeld n h).eng = s.eng ∧
    (s.setHeld n h).nv = s.nv ∧ (s.setHeld n h).seat = s.seat ∧ (s.setHeld n h).drv = s.drv ∧
    (s.setHeld n h).dtest = s.dtest ∧ (s.setHeld n h).tab = s.tab ∧ (s.setHeld n h).weigh = s.weigh ∧
    (s.setHeld n h).run = s.run ∧ (s.setHeld n h).plate = s.plate ∧ (s.setHeld n h).seq = s.seq ∧
    (s.setHeld n h).disp = s.disp ∧ (s.setHeld n h).comp = s.comp ∧ (s.setHeld n h).prn = s.prn := by
  simp [State.setHeld]

@[simp] theorem State.finishSlot_frame (s : State) (n : Nat) (o : ReqOutcome) (d : Detail) (result : List Word) :
    (s.finishSlot n o d result).pending = s.pending ∧ (s.finishSlot n o d result).clk = s.clk ∧
    (s.finishSlot n o d result).time = s.time ∧ (s.finishSlot n o d result).cause = s.cause ∧
    (s.finishSlot n o d result).jr = s.jr ∧ (s.finishSlot n o d result).att = s.att ∧
    (s.finishSlot n o d result).gauge = s.gauge ∧ (s.finishSlot n o d result).eng = s.eng ∧
    (s.finishSlot n o d result).nv = s.nv ∧ (s.finishSlot n o d result).seat = s.seat ∧
    (s.finishSlot n o d result).drv = s.drv ∧ (s.finishSlot n o d result).dtest = s.dtest ∧
    (s.finishSlot n o d result).tab = s.tab ∧ (s.finishSlot n o d result).weigh = s.weigh ∧
    (s.finishSlot n o d result).run = s.run ∧ (s.finishSlot n o d result).plate = s.plate ∧
    (s.finishSlot n o d result).seq = s.seq ∧ (s.finishSlot n o d result).disp = s.disp ∧
    (s.finishSlot n o d result).comp = s.comp ∧ (s.finishSlot n o d result).prn = s.prn := by
  simp [State.finishSlot]

@[simp] theorem State.complete_frame (s : State) (n kind : Nat) (o : ReqOutcome) (d : Detail) (result : List Word) :
    (s.complete n kind o d result).pending = s.pending ∧ (s.complete n kind o d result).clk = s.clk ∧
    (s.complete n kind o d result).time = s.time ∧ (s.complete n kind o d result).cause = s.cause ∧
    (s.complete n kind o d result).gauge = s.gauge ∧ (s.complete n kind o d result).eng = s.eng ∧
    (s.complete n kind o d result).nv = s.nv ∧ (s.complete n kind o d result).seat = s.seat ∧
    (s.complete n kind o d result).drv = s.drv ∧ (s.complete n kind o d result).dtest = s.dtest ∧
    (s.complete n kind o d result).tab = s.tab ∧ (s.complete n kind o d result).weigh = s.weigh ∧
    (s.complete n kind o d result).run = s.run ∧ (s.complete n kind o d result).plate = s.plate ∧
    (s.complete n kind o d result).seq = s.seq ∧ (s.complete n kind o d result).disp = s.disp ∧
    (s.complete n kind o d result).comp = s.comp ∧ (s.complete n kind o d result).prn = s.prn := by
  simp [State.complete]

@[simp] theorem State.completeKind_frame (s : State) (n : Nat) (k : Kind) (o : ReqOutcome) (d : Detail) (result : List Word) :
    (s.completeKind n k o d result).pending = s.pending ∧ (s.completeKind n k o d result).clk = s.clk ∧
    (s.completeKind n k o d result).time = s.time ∧ (s.completeKind n k o d result).cause = s.cause ∧
    (s.completeKind n k o d result).gauge = s.gauge ∧ (s.completeKind n k o d result).eng = s.eng ∧
    (s.completeKind n k o d result).nv = s.nv ∧ (s.completeKind n k o d result).seat = s.seat ∧
    (s.completeKind n k o d result).drv = s.drv ∧ (s.completeKind n k o d result).dtest = s.dtest ∧
    (s.completeKind n k o d result).tab = s.tab ∧ (s.completeKind n k o d result).weigh = s.weigh ∧
    (s.completeKind n k o d result).run = s.run ∧ (s.completeKind n k o d result).plate = s.plate ∧
    (s.completeKind n k o d result).seq = s.seq ∧ (s.completeKind n k o d result).disp = s.disp ∧
    (s.completeKind n k o d result).comp = s.comp ∧ (s.completeKind n k o d result).prn = s.prn := by
  simp [State.completeKind]

@[simp] theorem State.activate_frame (s : State) (n : Nat) (k : Kind) :
    (s.activate n k).pending = s.pending ∧ (s.activate n k).clk = s.clk ∧ (s.activate n k).time = s.time ∧
    (s.activate n k).cause = s.cause ∧ (s.activate n k).jr = s.jr ∧ (s.activate n k).att = s.att ∧
    (s.activate n k).gauge = s.gauge ∧ (s.activate n k).eng = s.eng ∧ (s.activate n k).nv = s.nv ∧
    (s.activate n k).seat = s.seat ∧ (s.activate n k).drv = s.drv ∧ (s.activate n k).dtest = s.dtest ∧
    (s.activate n k).tab = s.tab ∧ (s.activate n k).weigh = s.weigh ∧ (s.activate n k).run = s.run ∧
    (s.activate n k).plate = s.plate ∧ (s.activate n k).seq = s.seq ∧ (s.activate n k).disp = s.disp ∧
    (s.activate n k).comp = s.comp ∧ (s.activate n k).prn = s.prn := by
  simp [State.activate]

@[simp] theorem publish_frame (old new : State) :
    (publish old new).pending = new.pending ∧
    (publish old new).clk = new.clk ∧
    (publish old new).time = new.time ∧
    (publish old new).cause = new.cause ∧
    (publish old new).slots = new.slots ∧
    (publish old new).jr = new.jr ∧
    (publish old new).att = new.att ∧
    (publish old new).gauge = new.gauge ∧
    (publish old new).eng = new.eng ∧
    (publish old new).nv = new.nv ∧
    (publish old new).seat = new.seat ∧
    (publish old new).drv = new.drv ∧
    (publish old new).dtest = new.dtest ∧
    (publish old new).tab = new.tab ∧
    (publish old new).weigh = new.weigh ∧
    (publish old new).run = new.run ∧
    (publish old new).plate = new.plate ∧
    (publish old new).seq = new.seq ∧
    (publish old new).disp = new.disp ∧
    (publish old new).comp = new.comp ∧
    (publish old new).prn = new.prn := by
  simp [publish]

@[simp] theorem State.rewriteTable_frame (s : State) :
    (s.rewriteTable).pending = s.pending ∧ (s.rewriteTable).clk = s.clk ∧ (s.rewriteTable).time = s.time ∧
    (s.rewriteTable).cause = s.cause ∧ (s.rewriteTable).slots = s.slots ∧ (s.rewriteTable).jr = s.jr ∧
    (s.rewriteTable).att = s.att ∧ (s.rewriteTable).gauge = s.gauge ∧ (s.rewriteTable).eng = s.eng ∧
    (s.rewriteTable).nv = s.nv ∧ (s.rewriteTable).seat = s.seat ∧ (s.rewriteTable).drv = s.drv ∧
    (s.rewriteTable).dtest = s.dtest ∧ (s.rewriteTable).tab = s.tab ∧ (s.rewriteTable).weigh = s.weigh ∧
    (s.rewriteTable).run = s.run ∧ (s.rewriteTable).plate = s.plate ∧ (s.rewriteTable).seq = s.seq ∧
    (s.rewriteTable).disp = s.disp ∧ (s.rewriteTable).comp = s.comp ∧ (s.rewriteTable).prn = s.prn := by
  simp [State.rewriteTable]

@[simp] theorem State.rewriteFields_frame (s : State) (k i n : Nat) :
    (s.rewriteFields k i n).pending = s.pending ∧ (s.rewriteFields k i n).clk = s.clk ∧
    (s.rewriteFields k i n).time = s.time ∧ (s.rewriteFields k i n).cause = s.cause ∧
    (s.rewriteFields k i n).slots = s.slots ∧ (s.rewriteFields k i n).jr = s.jr ∧
    (s.rewriteFields k i n).att = s.att ∧ (s.rewriteFields k i n).gauge = s.gauge ∧
    (s.rewriteFields k i n).eng = s.eng ∧ (s.rewriteFields k i n).nv = s.nv ∧
    (s.rewriteFields k i n).seat = s.seat ∧ (s.rewriteFields k i n).drv = s.drv ∧
    (s.rewriteFields k i n).dtest = s.dtest ∧ (s.rewriteFields k i n).tab = s.tab ∧
    (s.rewriteFields k i n).weigh = s.weigh ∧ (s.rewriteFields k i n).run = s.run ∧
    (s.rewriteFields k i n).plate = s.plate ∧ (s.rewriteFields k i n).seq = s.seq ∧
    (s.rewriteFields k i n).disp = s.disp ∧ (s.rewriteFields k i n).comp = s.comp ∧
    (s.rewriteFields k i n).prn = s.prn := by
  unfold State.rewriteFields
  try dsimp only
  repeat' split
  all_goals simp

@[simp] theorem State.rewriteOptional_frame (s : State) (k i n : Nat) :
    (s.rewriteOptional k i n).pending = s.pending ∧ (s.rewriteOptional k i n).clk = s.clk ∧
    (s.rewriteOptional k i n).time = s.time ∧ (s.rewriteOptional k i n).cause = s.cause ∧
    (s.rewriteOptional k i n).slots = s.slots ∧ (s.rewriteOptional k i n).jr = s.jr ∧
    (s.rewriteOptional k i n).att = s.att ∧ (s.rewriteOptional k i n).gauge = s.gauge ∧
    (s.rewriteOptional k i n).eng = s.eng ∧ (s.rewriteOptional k i n).nv = s.nv ∧
    (s.rewriteOptional k i n).seat = s.seat ∧ (s.rewriteOptional k i n).drv = s.drv ∧
    (s.rewriteOptional k i n).dtest = s.dtest ∧ (s.rewriteOptional k i n).tab = s.tab ∧
    (s.rewriteOptional k i n).weigh = s.weigh ∧ (s.rewriteOptional k i n).run = s.run ∧
    (s.rewriteOptional k i n).plate = s.plate ∧ (s.rewriteOptional k i n).seq = s.seq ∧
    (s.rewriteOptional k i n).disp = s.disp ∧ (s.rewriteOptional k i n).comp = s.comp ∧
    (s.rewriteOptional k i n).prn = s.prn := by
  simp [State.rewriteOptional]

@[simp] theorem State.rewriteAttempt_frame (s : State) (k j i : Nat) :
    (s.rewriteAttempt k j i).pending = s.pending ∧ (s.rewriteAttempt k j i).clk = s.clk ∧
    (s.rewriteAttempt k j i).time = s.time ∧ (s.rewriteAttempt k j i).cause = s.cause ∧
    (s.rewriteAttempt k j i).slots = s.slots ∧ (s.rewriteAttempt k j i).jr = s.jr ∧
    (s.rewriteAttempt k j i).att = s.att ∧ (s.rewriteAttempt k j i).gauge = s.gauge ∧
    (s.rewriteAttempt k j i).eng = s.eng ∧ (s.rewriteAttempt k j i).nv = s.nv ∧
    (s.rewriteAttempt k j i).seat = s.seat ∧ (s.rewriteAttempt k j i).drv = s.drv ∧
    (s.rewriteAttempt k j i).dtest = s.dtest ∧ (s.rewriteAttempt k j i).tab = s.tab ∧
    (s.rewriteAttempt k j i).weigh = s.weigh ∧ (s.rewriteAttempt k j i).run = s.run ∧
    (s.rewriteAttempt k j i).plate = s.plate ∧ (s.rewriteAttempt k j i).seq = s.seq ∧
    (s.rewriteAttempt k j i).disp = s.disp ∧ (s.rewriteAttempt k j i).comp = s.comp ∧
    (s.rewriteAttempt k j i).prn = s.prn := by
  simp [State.rewriteAttempt]

@[simp] theorem State.rewriteCert_frame (s : State) (k : Nat) :
    (s.rewriteCert k).pending = s.pending ∧ (s.rewriteCert k).clk = s.clk ∧ (s.rewriteCert k).time = s.time ∧
    (s.rewriteCert k).cause = s.cause ∧ (s.rewriteCert k).slots = s.slots ∧ (s.rewriteCert k).jr = s.jr ∧
    (s.rewriteCert k).att = s.att ∧ (s.rewriteCert k).gauge = s.gauge ∧ (s.rewriteCert k).eng = s.eng ∧
    (s.rewriteCert k).nv = s.nv ∧ (s.rewriteCert k).seat = s.seat ∧ (s.rewriteCert k).drv = s.drv ∧
    (s.rewriteCert k).dtest = s.dtest ∧ (s.rewriteCert k).tab = s.tab ∧ (s.rewriteCert k).weigh = s.weigh ∧
    (s.rewriteCert k).run = s.run ∧ (s.rewriteCert k).plate = s.plate ∧ (s.rewriteCert k).seq = s.seq ∧
    (s.rewriteCert k).disp = s.disp ∧ (s.rewriteCert k).comp = s.comp ∧ (s.rewriteCert k).prn = s.prn := by
  simp [State.rewriteCert]

@[simp] theorem State.rewriteCertWords_frame (s : State) (k i n : Nat) :
    (s.rewriteCertWords k i n).pending = s.pending ∧ (s.rewriteCertWords k i n).clk = s.clk ∧
    (s.rewriteCertWords k i n).time = s.time ∧ (s.rewriteCertWords k i n).cause = s.cause ∧
    (s.rewriteCertWords k i n).slots = s.slots ∧ (s.rewriteCertWords k i n).jr = s.jr ∧
    (s.rewriteCertWords k i n).att = s.att ∧ (s.rewriteCertWords k i n).gauge = s.gauge ∧
    (s.rewriteCertWords k i n).eng = s.eng ∧ (s.rewriteCertWords k i n).nv = s.nv ∧
    (s.rewriteCertWords k i n).seat = s.seat ∧ (s.rewriteCertWords k i n).drv = s.drv ∧
    (s.rewriteCertWords k i n).dtest = s.dtest ∧ (s.rewriteCertWords k i n).tab = s.tab ∧
    (s.rewriteCertWords k i n).weigh = s.weigh ∧ (s.rewriteCertWords k i n).run = s.run ∧
    (s.rewriteCertWords k i n).plate = s.plate ∧ (s.rewriteCertWords k i n).seq = s.seq ∧
    (s.rewriteCertWords k i n).disp = s.disp ∧ (s.rewriteCertWords k i n).comp = s.comp ∧
    (s.rewriteCertWords k i n).prn = s.prn := by
  simp [State.rewriteCertWords]

@[simp] theorem State.rewriteFill_frame (s : State) (k : Nat) :
    (s.rewriteFill k).pending = s.pending ∧ (s.rewriteFill k).clk = s.clk ∧ (s.rewriteFill k).time = s.time ∧
    (s.rewriteFill k).cause = s.cause ∧ (s.rewriteFill k).slots = s.slots ∧ (s.rewriteFill k).jr = s.jr ∧
    (s.rewriteFill k).att = s.att ∧ (s.rewriteFill k).gauge = s.gauge ∧ (s.rewriteFill k).eng = s.eng ∧
    (s.rewriteFill k).nv = s.nv ∧ (s.rewriteFill k).seat = s.seat ∧ (s.rewriteFill k).drv = s.drv ∧
    (s.rewriteFill k).dtest = s.dtest ∧ (s.rewriteFill k).tab = s.tab ∧ (s.rewriteFill k).weigh = s.weigh ∧
    (s.rewriteFill k).run = s.run ∧ (s.rewriteFill k).plate = s.plate ∧ (s.rewriteFill k).seq = s.seq ∧
    (s.rewriteFill k).disp = s.disp ∧ (s.rewriteFill k).comp = s.comp ∧ (s.rewriteFill k).prn = s.prn := by
  simp [State.rewriteFill]

@[simp] theorem State.rewriteNumber_frame (s : State) (k : Nat) :
    (s.rewriteNumber k).pending = s.pending ∧ (s.rewriteNumber k).clk = s.clk ∧
    (s.rewriteNumber k).time = s.time ∧ (s.rewriteNumber k).cause = s.cause ∧
    (s.rewriteNumber k).slots = s.slots ∧ (s.rewriteNumber k).jr = s.jr ∧ (s.rewriteNumber k).att = s.att ∧
    (s.rewriteNumber k).gauge = s.gauge ∧ (s.rewriteNumber k).eng = s.eng ∧ (s.rewriteNumber k).nv = s.nv ∧
    (s.rewriteNumber k).seat = s.seat ∧ (s.rewriteNumber k).drv = s.drv ∧ (s.rewriteNumber k).dtest = s.dtest ∧
    (s.rewriteNumber k).tab = s.tab ∧ (s.rewriteNumber k).weigh = s.weigh ∧ (s.rewriteNumber k).run = s.run ∧
    (s.rewriteNumber k).plate = s.plate ∧ (s.rewriteNumber k).seq = s.seq ∧ (s.rewriteNumber k).disp = s.disp ∧
    (s.rewriteNumber k).comp = s.comp ∧ (s.rewriteNumber k).prn = s.prn := by
  simp [State.rewriteNumber]

@[simp] theorem State.rewriteDisplay_frame (s : State) :
    (s.rewriteDisplay).pending = s.pending ∧ (s.rewriteDisplay).clk = s.clk ∧ (s.rewriteDisplay).time = s.time ∧
    (s.rewriteDisplay).cause = s.cause ∧ (s.rewriteDisplay).slots = s.slots ∧ (s.rewriteDisplay).jr = s.jr ∧
    (s.rewriteDisplay).att = s.att ∧ (s.rewriteDisplay).gauge = s.gauge ∧ (s.rewriteDisplay).eng = s.eng ∧
    (s.rewriteDisplay).nv = s.nv ∧ (s.rewriteDisplay).seat = s.seat ∧ (s.rewriteDisplay).drv = s.drv ∧
    (s.rewriteDisplay).dtest = s.dtest ∧ (s.rewriteDisplay).tab = s.tab ∧ (s.rewriteDisplay).weigh = s.weigh ∧
    (s.rewriteDisplay).run = s.run ∧ (s.rewriteDisplay).plate = s.plate ∧ (s.rewriteDisplay).seq = s.seq ∧
    (s.rewriteDisplay).disp = s.disp ∧ (s.rewriteDisplay).comp = s.comp ∧ (s.rewriteDisplay).prn = s.prn := by
  simp [State.rewriteDisplay]

@[simp] theorem State.putSeq_frame (s : State) (x : Sequencer) :
    (s.putSeq x).pending = s.pending ∧ (s.putSeq x).clk = s.clk ∧ (s.putSeq x).time = s.time ∧
    (s.putSeq x).cause = s.cause ∧ (s.putSeq x).slots = s.slots ∧ (s.putSeq x).jr = s.jr ∧
    (s.putSeq x).att = s.att ∧ (s.putSeq x).gauge = s.gauge ∧ (s.putSeq x).eng = s.eng ∧ (s.putSeq x).nv = s.nv ∧
    (s.putSeq x).seat = s.seat ∧ (s.putSeq x).drv = s.drv ∧ (s.putSeq x).dtest = s.dtest ∧
    (s.putSeq x).tab = s.tab ∧ (s.putSeq x).weigh = s.weigh ∧ (s.putSeq x).run = s.run ∧
    (s.putSeq x).plate = s.plate ∧ (s.putSeq x).seq = x ∧ (s.putSeq x).disp = s.disp ∧ (s.putSeq x).comp = s.comp ∧
    (s.putSeq x).prn = s.prn := by
  simp [State.putSeq]

@[simp] theorem State.putTime_frame (s : State) (v : DWord) :
    (s.putTime v).pending = s.pending ∧ (s.putTime v).clk = s.clk ∧ (s.putTime v).time = v ∧
    (s.putTime v).cause = s.cause ∧ (s.putTime v).slots = s.slots ∧ (s.putTime v).jr = s.jr ∧
    (s.putTime v).att = s.att ∧ (s.putTime v).gauge = s.gauge ∧ (s.putTime v).eng = s.eng ∧
    (s.putTime v).nv = s.nv ∧ (s.putTime v).seat = s.seat ∧ (s.putTime v).drv = s.drv ∧
    (s.putTime v).dtest = s.dtest ∧ (s.putTime v).tab = s.tab ∧ (s.putTime v).weigh = s.weigh ∧
    (s.putTime v).run = s.run ∧ (s.putTime v).plate = s.plate ∧ (s.putTime v).seq = s.seq ∧
    (s.putTime v).disp = s.disp ∧ (s.putTime v).comp = s.comp ∧ (s.putTime v).prn = s.prn := by
  simp [State.putTime]

@[simp] theorem State.rewriteHeader_frame (s : State) :
    (s.rewriteHeader).pending = s.pending ∧ (s.rewriteHeader).clk = s.clk ∧ (s.rewriteHeader).time = s.time ∧
    (s.rewriteHeader).cause = s.cause ∧ (s.rewriteHeader).slots = s.slots ∧ (s.rewriteHeader).jr = s.jr ∧
    (s.rewriteHeader).att = s.att ∧ (s.rewriteHeader).gauge = s.gauge ∧ (s.rewriteHeader).eng = s.eng ∧
    (s.rewriteHeader).nv = s.nv ∧ (s.rewriteHeader).seat = s.seat ∧ (s.rewriteHeader).drv = s.drv ∧
    (s.rewriteHeader).dtest = s.dtest ∧ (s.rewriteHeader).tab = s.tab ∧ (s.rewriteHeader).weigh = s.weigh ∧
    (s.rewriteHeader).run = s.run ∧ (s.rewriteHeader).plate = s.plate ∧ (s.rewriteHeader).seq = s.seq ∧
    (s.rewriteHeader).disp = s.disp ∧ (s.rewriteHeader).comp = s.comp ∧ (s.rewriteHeader).prn = s.prn := by
  simp [State.rewriteHeader]

@[simp] theorem State.loadRefresh_frame (s : State) :
    (s.loadRefresh).pending = s.pending ∧ (s.loadRefresh).mem = s.mem ∧ (s.loadRefresh).clk = s.clk ∧
    (s.loadRefresh).time = s.time ∧ (s.loadRefresh).cause = s.cause ∧ (s.loadRefresh).slots = s.slots ∧
    (s.loadRefresh).jr = s.jr ∧ (s.loadRefresh).att = s.att ∧ (s.loadRefresh).gauge = s.gauge ∧
    (s.loadRefresh).eng = s.eng ∧ (s.loadRefresh).nv = s.nv ∧ (s.loadRefresh).seat = s.seat ∧
    (s.loadRefresh).drv = s.drv ∧ (s.loadRefresh).dtest = s.dtest ∧ (s.loadRefresh).tab = s.tab ∧
    (s.loadRefresh).weigh = s.weigh ∧ (s.loadRefresh).run = s.run ∧ (s.loadRefresh).plate = s.plate ∧
    (s.loadRefresh).seq = s.seq ∧ (s.loadRefresh).comp = s.comp ∧ (s.loadRefresh).prn = s.prn := by
  simp [State.loadRefresh]

@[simp] theorem State.reloadRefresh_frame (s : State) :
    (s.reloadRefresh).pending = s.pending ∧ (s.reloadRefresh).mem = s.mem ∧ (s.reloadRefresh).clk = s.clk ∧
    (s.reloadRefresh).time = s.time ∧ (s.reloadRefresh).cause = s.cause ∧ (s.reloadRefresh).slots = s.slots ∧
    (s.reloadRefresh).jr = s.jr ∧ (s.reloadRefresh).att = s.att ∧ (s.reloadRefresh).gauge = s.gauge ∧
    (s.reloadRefresh).eng = s.eng ∧ (s.reloadRefresh).nv = s.nv ∧ (s.reloadRefresh).seat = s.seat ∧
    (s.reloadRefresh).drv = s.drv ∧ (s.reloadRefresh).dtest = s.dtest ∧ (s.reloadRefresh).tab = s.tab ∧
    (s.reloadRefresh).weigh = s.weigh ∧ (s.reloadRefresh).run = s.run ∧ (s.reloadRefresh).plate = s.plate ∧
    (s.reloadRefresh).seq = s.seq ∧ (s.reloadRefresh).comp = s.comp ∧ (s.reloadRefresh).prn = s.prn := by
  unfold State.reloadRefresh
  try dsimp only
  repeat' split
  all_goals simp

@[simp] theorem State.frameDue_frame (s : State) :
    (s.frameDue).pending = s.pending ∧ (s.frameDue).mem = s.mem ∧ (s.frameDue).clk = s.clk ∧
    (s.frameDue).time = s.time ∧ (s.frameDue).cause = s.cause ∧ (s.frameDue).slots = s.slots ∧
    (s.frameDue).jr = s.jr ∧ (s.frameDue).att = s.att ∧ (s.frameDue).gauge = s.gauge ∧ (s.frameDue).eng = s.eng ∧
    (s.frameDue).nv = s.nv ∧ (s.frameDue).seat = s.seat ∧ (s.frameDue).drv = s.drv ∧
    (s.frameDue).dtest = s.dtest ∧ (s.frameDue).tab = s.tab ∧ (s.frameDue).weigh = s.weigh ∧
    (s.frameDue).run = s.run ∧ (s.frameDue).plate = s.plate ∧ (s.frameDue).seq = s.seq ∧
    (s.frameDue).comp = s.comp ∧ (s.frameDue).prn = s.prn := by
  unfold State.frameDue
  try dsimp only
  repeat' split
  all_goals simp

@[simp] theorem State.frameSent_frame (s : State) :
    (s.frameSent).pending = s.pending ∧ (s.frameSent).clk = s.clk ∧ (s.frameSent).time = s.time ∧
    (s.frameSent).cause = s.cause ∧ (s.frameSent).slots = s.slots ∧ (s.frameSent).jr = s.jr ∧
    (s.frameSent).att = s.att ∧ (s.frameSent).gauge = s.gauge ∧ (s.frameSent).eng = s.eng ∧
    (s.frameSent).nv = s.nv ∧ (s.frameSent).seat = s.seat ∧ (s.frameSent).drv = s.drv ∧
    (s.frameSent).dtest = s.dtest ∧ (s.frameSent).tab = s.tab ∧ (s.frameSent).weigh = s.weigh ∧
    (s.frameSent).run = s.run ∧ (s.frameSent).plate = s.plate ∧ (s.frameSent).seq = s.seq ∧
    (s.frameSent).comp = s.comp ∧ (s.frameSent).prn = s.prn := by
  unfold State.frameSent
  try dsimp only
  repeat' split
  all_goals simp

@[simp] theorem State.promptRepeat_frame (s : State) :
    (s.promptRepeat).pending = s.pending ∧ (s.promptRepeat).mem = s.mem ∧ (s.promptRepeat).clk = s.clk ∧
    (s.promptRepeat).time = s.time ∧ (s.promptRepeat).cause = s.cause ∧ (s.promptRepeat).slots = s.slots ∧
    (s.promptRepeat).jr = s.jr ∧ (s.promptRepeat).att = s.att ∧ (s.promptRepeat).gauge = s.gauge ∧
    (s.promptRepeat).eng = s.eng ∧ (s.promptRepeat).nv = s.nv ∧ (s.promptRepeat).seat = s.seat ∧
    (s.promptRepeat).drv = s.drv ∧ (s.promptRepeat).dtest = s.dtest ∧ (s.promptRepeat).tab = s.tab ∧
    (s.promptRepeat).weigh = s.weigh ∧ (s.promptRepeat).run = s.run ∧ (s.promptRepeat).plate = s.plate ∧
    (s.promptRepeat).seq = s.seq ∧ (s.promptRepeat).comp = s.comp ∧ (s.promptRepeat).prn = s.prn := by
  simp [State.promptRepeat]

@[simp] theorem frameAfter_frame (old new : State) :
    (frameAfter old new).pending = new.pending ∧
    (frameAfter old new).mem = new.mem ∧
    (frameAfter old new).clk = new.clk ∧
    (frameAfter old new).time = new.time ∧
    (frameAfter old new).cause = new.cause ∧
    (frameAfter old new).slots = new.slots ∧
    (frameAfter old new).jr = new.jr ∧
    (frameAfter old new).att = new.att ∧
    (frameAfter old new).gauge = new.gauge ∧
    (frameAfter old new).eng = new.eng ∧
    (frameAfter old new).nv = new.nv ∧
    (frameAfter old new).seat = new.seat ∧
    (frameAfter old new).drv = new.drv ∧
    (frameAfter old new).dtest = new.dtest ∧
    (frameAfter old new).tab = new.tab ∧
    (frameAfter old new).weigh = new.weigh ∧
    (frameAfter old new).run = new.run ∧
    (frameAfter old new).plate = new.plate ∧
    (frameAfter old new).seq = new.seq ∧
    (frameAfter old new).comp = new.comp ∧
    (frameAfter old new).prn = new.prn := by
  unfold frameAfter
  split <;> simp

@[simp] theorem State.lapseRepeat_frame (s : State) :
    (s.lapseRepeat).pending = s.pending ∧ (s.lapseRepeat).mem = s.mem ∧ (s.lapseRepeat).clk = s.clk ∧
    (s.lapseRepeat).time = s.time ∧ (s.lapseRepeat).cause = s.cause ∧ (s.lapseRepeat).slots = s.slots ∧
    (s.lapseRepeat).jr = s.jr ∧ (s.lapseRepeat).att = s.att ∧ (s.lapseRepeat).gauge = s.gauge ∧
    (s.lapseRepeat).eng = s.eng ∧ (s.lapseRepeat).nv = s.nv ∧ (s.lapseRepeat).seat = s.seat ∧
    (s.lapseRepeat).drv = s.drv ∧ (s.lapseRepeat).dtest = s.dtest ∧ (s.lapseRepeat).tab = s.tab ∧
    (s.lapseRepeat).weigh = s.weigh ∧ (s.lapseRepeat).run = s.run ∧ (s.lapseRepeat).plate = s.plate ∧
    (s.lapseRepeat).seq = s.seq ∧ (s.lapseRepeat).comp = s.comp ∧ (s.lapseRepeat).prn = s.prn := by
  simp [State.lapseRepeat]

@[simp] theorem State.setStatus_frame (s : State) (k : Nat) (st : AxleStatus) (skip : Option SkipReason) :
    (s.setStatus k st skip).pending = s.pending ∧ (s.setStatus k st skip).clk = s.clk ∧
    (s.setStatus k st skip).time = s.time ∧ (s.setStatus k st skip).cause = s.cause ∧
    (s.setStatus k st skip).slots = s.slots ∧ (s.setStatus k st skip).jr = s.jr ∧
    (s.setStatus k st skip).att = s.att ∧ (s.setStatus k st skip).gauge = s.gauge ∧
    (s.setStatus k st skip).eng = s.eng ∧ (s.setStatus k st skip).nv = s.nv ∧
    (s.setStatus k st skip).seat = s.seat ∧ (s.setStatus k st skip).drv = s.drv ∧
    (s.setStatus k st skip).dtest = s.dtest ∧ (s.setStatus k st skip).weigh = s.weigh ∧
    (s.setStatus k st skip).run = s.run ∧ (s.setStatus k st skip).plate = s.plate ∧
    (s.setStatus k st skip).seq = s.seq ∧ (s.setStatus k st skip).disp = s.disp ∧
    (s.setStatus k st skip).comp = s.comp ∧ (s.setStatus k st skip).prn = s.prn := by
  unfold State.setStatus
  try dsimp only
  repeat' split
  all_goals simp

@[simp] theorem State.discardCrossing_frame (s : State) :
    (s.discardCrossing).pending = s.pending ∧ (s.discardCrossing).mem = s.mem ∧ (s.discardCrossing).clk = s.clk ∧
    (s.discardCrossing).time = s.time ∧ (s.discardCrossing).cause = s.cause ∧
    (s.discardCrossing).slots = s.slots ∧ (s.discardCrossing).jr = s.jr ∧ (s.discardCrossing).att = s.att ∧
    (s.discardCrossing).gauge = s.gauge ∧ (s.discardCrossing).eng = s.eng ∧ (s.discardCrossing).nv = s.nv ∧
    (s.discardCrossing).seat = s.seat ∧ (s.discardCrossing).drv = s.drv ∧ (s.discardCrossing).dtest = s.dtest ∧
    (s.discardCrossing).tab = s.tab ∧ (s.discardCrossing).weigh = s.weigh ∧ (s.discardCrossing).run = s.run ∧
    (s.discardCrossing).seq = s.seq ∧ (s.discardCrossing).disp = s.disp ∧ (s.discardCrossing).comp = s.comp ∧
    (s.discardCrossing).prn = s.prn := by
  simp [State.discardCrossing]

@[simp] theorem State.enterSeq_frame (s : State) (n : SeqState) :
    (s.enterSeq n).pending = s.pending ∧ (s.enterSeq n).clk = s.clk ∧ (s.enterSeq n).time = s.time ∧
    (s.enterSeq n).cause = s.cause ∧ (s.enterSeq n).slots = s.slots ∧ (s.enterSeq n).gauge = s.gauge ∧
    (s.enterSeq n).eng = s.eng ∧ (s.enterSeq n).nv = s.nv ∧ (s.enterSeq n).seat = s.seat ∧
    (s.enterSeq n).drv = s.drv ∧ (s.enterSeq n).dtest = s.dtest ∧ (s.enterSeq n).tab = s.tab ∧
    (s.enterSeq n).weigh = s.weigh ∧ (s.enterSeq n).run = s.run ∧ (s.enterSeq n).comp = s.comp ∧
    (s.enterSeq n).prn = s.prn := by
  unfold State.enterSeq
  try dsimp only
  repeat' split
  all_goals simp

@[simp] theorem State.handPhase_frame (s : State) :
    (s.handPhase).pending = s.pending ∧ (s.handPhase).clk = s.clk ∧ (s.handPhase).time = s.time ∧
    (s.handPhase).cause = s.cause ∧ (s.handPhase).slots = s.slots ∧ (s.handPhase).gauge = s.gauge ∧
    (s.handPhase).eng = s.eng ∧ (s.handPhase).nv = s.nv ∧ (s.handPhase).seat = s.seat ∧
    (s.handPhase).drv = s.drv ∧ (s.handPhase).dtest = s.dtest ∧ (s.handPhase).tab = s.tab ∧
    (s.handPhase).weigh = s.weigh ∧ (s.handPhase).run = s.run ∧ (s.handPhase).comp = s.comp ∧
    (s.handPhase).prn = s.prn := by
  unfold State.handPhase
  try dsimp only
  repeat' split
  all_goals simp

@[simp] theorem State.takeEndOfSpin_frame (s : State) (owed : Bool) :
    (s.takeEndOfSpin owed).pending = s.pending ∧ (s.takeEndOfSpin owed).clk = s.clk ∧
    (s.takeEndOfSpin owed).time = s.time ∧ (s.takeEndOfSpin owed).cause = s.cause ∧
    (s.takeEndOfSpin owed).slots = s.slots ∧ (s.takeEndOfSpin owed).gauge = s.gauge ∧
    (s.takeEndOfSpin owed).eng = s.eng ∧ (s.takeEndOfSpin owed).nv = s.nv ∧
    (s.takeEndOfSpin owed).seat = s.seat ∧ (s.takeEndOfSpin owed).drv = s.drv ∧
    (s.takeEndOfSpin owed).dtest = s.dtest ∧ (s.takeEndOfSpin owed).tab = s.tab ∧
    (s.takeEndOfSpin owed).weigh = s.weigh ∧ (s.takeEndOfSpin owed).run = s.run ∧
    (s.takeEndOfSpin owed).comp = s.comp ∧ (s.takeEndOfSpin owed).prn = s.prn := by
  unfold State.takeEndOfSpin
  try dsimp only
  repeat' split
  all_goals simp

@[simp] theorem State.takeDriveStop_frame (s : State) :
    (s.takeDriveStop).pending = s.pending ∧ (s.takeDriveStop).clk = s.clk ∧ (s.takeDriveStop).time = s.time ∧
    (s.takeDriveStop).cause = s.cause ∧ (s.takeDriveStop).slots = s.slots ∧ (s.takeDriveStop).gauge = s.gauge ∧
    (s.takeDriveStop).eng = s.eng ∧ (s.takeDriveStop).nv = s.nv ∧ (s.takeDriveStop).seat = s.seat ∧
    (s.takeDriveStop).drv = s.drv ∧ (s.takeDriveStop).dtest = s.dtest ∧ (s.takeDriveStop).tab = s.tab ∧
    (s.takeDriveStop).weigh = s.weigh ∧ (s.takeDriveStop).run = s.run ∧ (s.takeDriveStop).comp = s.comp ∧
    (s.takeDriveStop).prn = s.prn := by
  unfold State.takeDriveStop
  try dsimp only
  repeat' split
  all_goals simp

end Sys2Proof.Machine
end

