-- ==== Sys2Proof/Laws/FrameDrive.lean ====
section
/-! SUPPORT. Laws/FrameDrive.lean: what each operation of Machine/BrakeRun, Machine/Drive leaves unchanged. -/

namespace Sys2Proof.Machine

@[simp] theorem State.armUnit_frame (s : State) (axle : Nat) (r : Runs) :
    (s.armUnit axle r).pending = s.pending ∧ (s.armUnit axle r).mem = s.mem ∧ (s.armUnit axle r).clk = s.clk ∧
    (s.armUnit axle r).time = s.time ∧ (s.armUnit axle r).cause = s.cause ∧ (s.armUnit axle r).slots = s.slots ∧
    (s.armUnit axle r).jr = s.jr ∧ (s.armUnit axle r).att = s.att ∧ (s.armUnit axle r).gauge = s.gauge ∧
    (s.armUnit axle r).eng = s.eng ∧ (s.armUnit axle r).nv = s.nv ∧ (s.armUnit axle r).seat = s.seat ∧
    (s.armUnit axle r).drv = s.drv ∧ (s.armUnit axle r).dtest = s.dtest ∧ (s.armUnit axle r).tab = s.tab ∧
    (s.armUnit axle r).weigh = s.weigh ∧ (s.armUnit axle r).plate = s.plate ∧ (s.armUnit axle r).seq = s.seq ∧
    (s.armUnit axle r).disp = s.disp ∧ (s.armUnit axle r).comp = s.comp ∧ (s.armUnit axle r).prn = s.prn := by
  simp [State.armUnit]

@[simp] theorem State.idleUnit_frame (s : State) :
    (s.idleUnit).pending = s.pending ∧ (s.idleUnit).mem = s.mem ∧ (s.idleUnit).clk = s.clk ∧
    (s.idleUnit).time = s.time ∧ (s.idleUnit).cause = s.cause ∧ (s.idleUnit).slots = s.slots ∧
    (s.idleUnit).jr = s.jr ∧ (s.idleUnit).att = s.att ∧ (s.idleUnit).gauge = s.gauge ∧ (s.idleUnit).eng = s.eng ∧
    (s.idleUnit).nv = s.nv ∧ (s.idleUnit).seat = s.seat ∧ (s.idleUnit).drv = s.drv ∧
    (s.idleUnit).dtest = s.dtest ∧ (s.idleUnit).tab = s.tab ∧ (s.idleUnit).weigh = s.weigh ∧
    (s.idleUnit).plate = s.plate ∧ (s.idleUnit).seq = s.seq ∧ (s.idleUnit).disp = s.disp ∧
    (s.idleUnit).comp = s.comp ∧ (s.idleUnit).prn = s.prn := by
  simp [State.idleUnit]

@[simp] theorem State.markNow_frame (s : State) :
    (s.markNow).pending = s.pending ∧ (s.markNow).mem = s.mem ∧ (s.markNow).clk = s.clk ∧
    (s.markNow).time = s.time ∧ (s.markNow).cause = s.cause ∧ (s.markNow).slots = s.slots ∧
    (s.markNow).jr = s.jr ∧ (s.markNow).att = s.att ∧ (s.markNow).gauge = s.gauge ∧ (s.markNow).eng = s.eng ∧
    (s.markNow).nv = s.nv ∧ (s.markNow).seat = s.seat ∧ (s.markNow).drv = s.drv ∧ (s.markNow).dtest = s.dtest ∧
    (s.markNow).tab = s.tab ∧ (s.markNow).weigh = s.weigh ∧ (s.markNow).plate = s.plate ∧
    (s.markNow).seq = s.seq ∧ (s.markNow).disp = s.disp ∧ (s.markNow).comp = s.comp ∧ (s.markNow).prn = s.prn := by
  simp [State.markNow]

@[simp] theorem State.trackPeaks_frame (s : State) :
    (s.trackPeaks).pending = s.pending ∧ (s.trackPeaks).mem = s.mem ∧ (s.trackPeaks).clk = s.clk ∧
    (s.trackPeaks).time = s.time ∧ (s.trackPeaks).cause = s.cause ∧ (s.trackPeaks).slots = s.slots ∧
    (s.trackPeaks).jr = s.jr ∧ (s.trackPeaks).att = s.att ∧ (s.trackPeaks).gauge = s.gauge ∧
    (s.trackPeaks).eng = s.eng ∧ (s.trackPeaks).nv = s.nv ∧ (s.trackPeaks).seat = s.seat ∧
    (s.trackPeaks).drv = s.drv ∧ (s.trackPeaks).dtest = s.dtest ∧ (s.trackPeaks).tab = s.tab ∧
    (s.trackPeaks).weigh = s.weigh ∧ (s.trackPeaks).plate = s.plate ∧ (s.trackPeaks).seq = s.seq ∧
    (s.trackPeaks).disp = s.disp ∧ (s.trackPeaks).comp = s.comp ∧ (s.trackPeaks).prn = s.prn := by
  simp [State.trackPeaks]

@[simp] theorem State.trackParking_frame (s : State) :
    (s.trackParking).pending = s.pending ∧ (s.trackParking).mem = s.mem ∧ (s.trackParking).clk = s.clk ∧
    (s.trackParking).time = s.time ∧ (s.trackParking).cause = s.cause ∧ (s.trackParking).slots = s.slots ∧
    (s.trackParking).jr = s.jr ∧ (s.trackParking).att = s.att ∧ (s.trackParking).gauge = s.gauge ∧
    (s.trackParking).eng = s.eng ∧ (s.trackParking).nv = s.nv ∧ (s.trackParking).seat = s.seat ∧
    (s.trackParking).drv = s.drv ∧ (s.trackParking).dtest = s.dtest ∧ (s.trackParking).tab = s.tab ∧
    (s.trackParking).weigh = s.weigh ∧ (s.trackParking).plate = s.plate ∧ (s.trackParking).seq = s.seq ∧
    (s.trackParking).disp = s.disp ∧ (s.trackParking).comp = s.comp ∧ (s.trackParking).prn = s.prn := by
  simp [State.trackParking]

@[simp] theorem State.trackExtremes_frame (s : State) :
    (s.trackExtremes).pending = s.pending ∧ (s.trackExtremes).mem = s.mem ∧ (s.trackExtremes).clk = s.clk ∧
    (s.trackExtremes).time = s.time ∧ (s.trackExtremes).cause = s.cause ∧ (s.trackExtremes).slots = s.slots ∧
    (s.trackExtremes).jr = s.jr ∧ (s.trackExtremes).att = s.att ∧ (s.trackExtremes).gauge = s.gauge ∧
    (s.trackExtremes).eng = s.eng ∧ (s.trackExtremes).nv = s.nv ∧ (s.trackExtremes).seat = s.seat ∧
    (s.trackExtremes).drv = s.drv ∧ (s.trackExtremes).dtest = s.dtest ∧ (s.trackExtremes).tab = s.tab ∧
    (s.trackExtremes).weigh = s.weigh ∧ (s.trackExtremes).plate = s.plate ∧ (s.trackExtremes).seq = s.seq ∧
    (s.trackExtremes).disp = s.disp ∧ (s.trackExtremes).comp = s.comp ∧ (s.trackExtremes).prn = s.prn := by
  simp [State.trackExtremes]

@[simp] theorem State.trackImbalance_frame (s : State) :
    (s.trackImbalance).pending = s.pending ∧ (s.trackImbalance).mem = s.mem ∧ (s.trackImbalance).clk = s.clk ∧
    (s.trackImbalance).time = s.time ∧ (s.trackImbalance).cause = s.cause ∧ (s.trackImbalance).slots = s.slots ∧
    (s.trackImbalance).jr = s.jr ∧ (s.trackImbalance).att = s.att ∧ (s.trackImbalance).gauge = s.gauge ∧
    (s.trackImbalance).eng = s.eng ∧ (s.trackImbalance).nv = s.nv ∧ (s.trackImbalance).seat = s.seat ∧
    (s.trackImbalance).drv = s.drv ∧ (s.trackImbalance).dtest = s.dtest ∧ (s.trackImbalance).tab = s.tab ∧
    (s.trackImbalance).weigh = s.weigh ∧ (s.trackImbalance).plate = s.plate ∧ (s.trackImbalance).seq = s.seq ∧
    (s.trackImbalance).disp = s.disp ∧ (s.trackImbalance).comp = s.comp ∧ (s.trackImbalance).prn = s.prn := by
  simp [State.trackImbalance]

@[simp] theorem State.watch_frame (s : State) :
    (s.watch).pending = s.pending ∧ (s.watch).mem = s.mem ∧ (s.watch).clk = s.clk ∧ (s.watch).time = s.time ∧
    (s.watch).cause = s.cause ∧ (s.watch).slots = s.slots ∧ (s.watch).jr = s.jr ∧ (s.watch).att = s.att ∧
    (s.watch).gauge = s.gauge ∧ (s.watch).eng = s.eng ∧ (s.watch).nv = s.nv ∧ (s.watch).seat = s.seat ∧
    (s.watch).drv = s.drv ∧ (s.watch).dtest = s.dtest ∧ (s.watch).tab = s.tab ∧ (s.watch).weigh = s.weigh ∧
    (s.watch).plate = s.plate ∧ (s.watch).seq = s.seq ∧ (s.watch).disp = s.disp ∧ (s.watch).comp = s.comp ∧
    (s.watch).prn = s.prn := by
  unfold State.watch
  try dsimp only
  repeat' split
  all_goals simp

@[simp] theorem State.raiseViolation_frame (s : State) :
    (s.raiseViolation).pending = s.pending ∧ (s.raiseViolation).mem = s.mem ∧ (s.raiseViolation).clk = s.clk ∧
    (s.raiseViolation).time = s.time ∧ (s.raiseViolation).cause = s.cause ∧ (s.raiseViolation).slots = s.slots ∧
    (s.raiseViolation).jr = s.jr ∧ (s.raiseViolation).att = s.att ∧ (s.raiseViolation).gauge = s.gauge ∧
    (s.raiseViolation).eng = s.eng ∧ (s.raiseViolation).nv = s.nv ∧ (s.raiseViolation).seat = s.seat ∧
    (s.raiseViolation).drv = s.drv ∧ (s.raiseViolation).dtest = s.dtest ∧ (s.raiseViolation).weigh = s.weigh ∧
    (s.raiseViolation).run = s.run ∧ (s.raiseViolation).plate = s.plate ∧ (s.raiseViolation).seq = s.seq ∧
    (s.raiseViolation).disp = s.disp ∧ (s.raiseViolation).comp = s.comp ∧ (s.raiseViolation).prn = s.prn := by
  unfold State.raiseViolation
  try dsimp only
  repeat' split
  all_goals simp

@[simp] theorem State.lowerViolation_frame (s : State) :
    (s.lowerViolation).pending = s.pending ∧ (s.lowerViolation).mem = s.mem ∧ (s.lowerViolation).clk = s.clk ∧
    (s.lowerViolation).time = s.time ∧ (s.lowerViolation).cause = s.cause ∧ (s.lowerViolation).slots = s.slots ∧
    (s.lowerViolation).jr = s.jr ∧ (s.lowerViolation).att = s.att ∧ (s.lowerViolation).gauge = s.gauge ∧
    (s.lowerViolation).eng = s.eng ∧ (s.lowerViolation).nv = s.nv ∧ (s.lowerViolation).seat = s.seat ∧
    (s.lowerViolation).drv = s.drv ∧ (s.lowerViolation).dtest = s.dtest ∧ (s.lowerViolation).weigh = s.weigh ∧
    (s.lowerViolation).run = s.run ∧ (s.lowerViolation).plate = s.plate ∧ (s.lowerViolation).seq = s.seq ∧
    (s.lowerViolation).disp = s.disp ∧ (s.lowerViolation).comp = s.comp ∧ (s.lowerViolation).prn = s.prn := by
  simp [State.lowerViolation]

@[simp] theorem State.violation_frame (s : State) (cause : Nat) :
    (s.violation cause).pending = s.pending ∧ (s.violation cause).clk = s.clk ∧
    (s.violation cause).time = s.time ∧ (s.violation cause).cause = s.cause ∧
    (s.violation cause).slots = s.slots ∧ (s.violation cause).gauge = s.gauge ∧ (s.violation cause).eng = s.eng ∧
    (s.violation cause).nv = s.nv ∧ (s.violation cause).seat = s.seat ∧ (s.violation cause).drv = s.drv ∧
    (s.violation cause).dtest = s.dtest ∧ (s.violation cause).weigh = s.weigh ∧ (s.violation cause).run = s.run ∧
    (s.violation cause).plate = s.plate ∧ (s.violation cause).seq = s.seq ∧ (s.violation cause).disp = s.disp ∧
    (s.violation cause).comp = s.comp ∧ (s.violation cause).prn = s.prn := by
  simp [State.violation]

@[simp] theorem State.pushAttempt_frame (s : State) (axle : Nat) (a : Attempt) :
    (s.pushAttempt axle a).pending = s.pending ∧ (s.pushAttempt axle a).clk = s.clk ∧
    (s.pushAttempt axle a).time = s.time ∧ (s.pushAttempt axle a).cause = s.cause ∧
    (s.pushAttempt axle a).slots = s.slots ∧ (s.pushAttempt axle a).gauge = s.gauge ∧
    (s.pushAttempt axle a).eng = s.eng ∧ (s.pushAttempt axle a).nv = s.nv ∧
    (s.pushAttempt axle a).seat = s.seat ∧ (s.pushAttempt axle a).drv = s.drv ∧
    (s.pushAttempt axle a).dtest = s.dtest ∧ (s.pushAttempt axle a).weigh = s.weigh ∧
    (s.pushAttempt axle a).run = s.run ∧ (s.pushAttempt axle a).plate = s.plate ∧
    (s.pushAttempt axle a).seq = s.seq ∧ (s.pushAttempt axle a).disp = s.disp ∧
    (s.pushAttempt axle a).comp = s.comp ∧ (s.pushAttempt axle a).prn = s.prn := by
  unfold State.pushAttempt
  try dsimp only
  repeat' split
  all_goals simp

@[simp] theorem State.writeParking_frame (s : State) (reason : EndReason) :
    (s.writeParking reason).pending = s.pending ∧ (s.writeParking reason).clk = s.clk ∧
    (s.writeParking reason).time = s.time ∧ (s.writeParking reason).cause = s.cause ∧
    (s.writeParking reason).slots = s.slots ∧ (s.writeParking reason).gauge = s.gauge ∧
    (s.writeParking reason).eng = s.eng ∧ (s.writeParking reason).nv = s.nv ∧
    (s.writeParking reason).seat = s.seat ∧ (s.writeParking reason).drv = s.drv ∧
    (s.writeParking reason).dtest = s.dtest ∧ (s.writeParking reason).weigh = s.weigh ∧
    (s.writeParking reason).run = s.run ∧ (s.writeParking reason).plate = s.plate ∧
    (s.writeParking reason).seq = s.seq ∧ (s.writeParking reason).disp = s.disp ∧
    (s.writeParking reason).comp = s.comp ∧ (s.writeParking reason).prn = s.prn := by
  unfold State.writeParking
  try dsimp only
  repeat' split
  all_goals simp

@[simp] theorem State.pushHeld_frame (s : State) :
    (s.pushHeld).pending = s.pending ∧ (s.pushHeld).clk = s.clk ∧ (s.pushHeld).time = s.time ∧
    (s.pushHeld).cause = s.cause ∧ (s.pushHeld).slots = s.slots ∧ (s.pushHeld).gauge = s.gauge ∧
    (s.pushHeld).eng = s.eng ∧ (s.pushHeld).nv = s.nv ∧ (s.pushHeld).seat = s.seat ∧ (s.pushHeld).drv = s.drv ∧
    (s.pushHeld).dtest = s.dtest ∧ (s.pushHeld).weigh = s.weigh ∧ (s.pushHeld).run = s.run ∧
    (s.pushHeld).plate = s.plate ∧ (s.pushHeld).seq = s.seq ∧ (s.pushHeld).disp = s.disp ∧
    (s.pushHeld).comp = s.comp ∧ (s.pushHeld).prn = s.prn := by
  unfold State.pushHeld
  try dsimp only
  repeat' split
  all_goals simp

@[simp] theorem State.disturb_frame (s : State) :
    (s.disturb).pending = s.pending ∧ (s.disturb).mem = s.mem ∧ (s.disturb).clk = s.clk ∧
    (s.disturb).time = s.time ∧ (s.disturb).cause = s.cause ∧ (s.disturb).slots = s.slots ∧
    (s.disturb).jr = s.jr ∧ (s.disturb).att = s.att ∧ (s.disturb).gauge = s.gauge ∧ (s.disturb).eng = s.eng ∧
    (s.disturb).nv = s.nv ∧ (s.disturb).seat = s.seat ∧ (s.disturb).drv = s.drv ∧ (s.disturb).dtest = s.dtest ∧
    (s.disturb).tab = s.tab ∧ (s.disturb).weigh = s.weigh ∧ (s.disturb).plate = s.plate ∧
    (s.disturb).seq = s.seq ∧ (s.disturb).disp = s.disp ∧ (s.disturb).comp = s.comp ∧ (s.disturb).prn = s.prn := by
  simp [State.disturb]

@[simp] theorem State.endAttempt_frame (s : State) (reason : EndReason) :
    (s.endAttempt reason).pending = s.pending ∧ (s.endAttempt reason).clk = s.clk ∧
    (s.endAttempt reason).time = s.time ∧ (s.endAttempt reason).cause = s.cause ∧
    (s.endAttempt reason).slots = s.slots ∧ (s.endAttempt reason).gauge = s.gauge ∧
    (s.endAttempt reason).eng = s.eng ∧ (s.endAttempt reason).nv = s.nv ∧ (s.endAttempt reason).seat = s.seat ∧
    (s.endAttempt reason).drv = s.drv ∧ (s.endAttempt reason).dtest = s.dtest ∧
    (s.endAttempt reason).weigh = s.weigh ∧ (s.endAttempt reason).plate = s.plate ∧
    (s.endAttempt reason).seq = s.seq ∧ (s.endAttempt reason).disp = s.disp ∧
    (s.endAttempt reason).comp = s.comp ∧ (s.endAttempt reason).prn = s.prn := by
  simp [State.endAttempt]

@[simp] theorem State.endParking_frame (s : State) (reason : EndReason) :
    (s.endParking reason).pending = s.pending ∧ (s.endParking reason).clk = s.clk ∧
    (s.endParking reason).time = s.time ∧ (s.endParking reason).cause = s.cause ∧
    (s.endParking reason).slots = s.slots ∧ (s.endParking reason).gauge = s.gauge ∧
    (s.endParking reason).eng = s.eng ∧ (s.endParking reason).nv = s.nv ∧ (s.endParking reason).seat = s.seat ∧
    (s.endParking reason).drv = s.drv ∧ (s.endParking reason).dtest = s.dtest ∧
    (s.endParking reason).weigh = s.weigh ∧ (s.endParking reason).plate = s.plate ∧
    (s.endParking reason).seq = s.seq ∧ (s.endParking reason).disp = s.disp ∧
    (s.endParking reason).comp = s.comp ∧ (s.endParking reason).prn = s.prn := by
  simp [State.endParking]

@[simp] theorem State.runStop_frame (s : State) (r : StopReason) :
    (s.runStop r).pending = s.pending ∧ (s.runStop r).clk = s.clk ∧ (s.runStop r).time = s.time ∧
    (s.runStop r).cause = s.cause ∧ (s.runStop r).slots = s.slots ∧ (s.runStop r).gauge = s.gauge ∧
    (s.runStop r).eng = s.eng ∧ (s.runStop r).nv = s.nv ∧ (s.runStop r).seat = s.seat ∧
    (s.runStop r).drv = s.drv ∧ (s.runStop r).dtest = s.dtest ∧ (s.runStop r).weigh = s.weigh ∧
    (s.runStop r).comp = s.comp ∧ (s.runStop r).prn = s.prn := by
  unfold State.runStop
  try dsimp only
  repeat' split
  all_goals simp

@[simp] theorem State.runEnd_frame (s : State) (reason : EndReason) :
    (s.runEnd reason).pending = s.pending ∧ (s.runEnd reason).clk = s.clk ∧ (s.runEnd reason).time = s.time ∧
    (s.runEnd reason).cause = s.cause ∧ (s.runEnd reason).slots = s.slots ∧ (s.runEnd reason).gauge = s.gauge ∧
    (s.runEnd reason).eng = s.eng ∧ (s.runEnd reason).nv = s.nv ∧ (s.runEnd reason).seat = s.seat ∧
    (s.runEnd reason).drv = s.drv ∧ (s.runEnd reason).dtest = s.dtest ∧ (s.runEnd reason).weigh = s.weigh ∧
    (s.runEnd reason).plate = s.plate ∧ (s.runEnd reason).seq = s.seq ∧ (s.runEnd reason).disp = s.disp ∧
    (s.runEnd reason).comp = s.comp ∧ (s.runEnd reason).prn = s.prn := by
  unfold State.runEnd
  try dsimp only
  repeat' split
  all_goals simp

@[simp] theorem State.driveEntry_frame (s : State) (p2 : Word) :
    (s.driveEntry p2).pending = s.pending ∧ (s.driveEntry p2).clk = s.clk ∧ (s.driveEntry p2).time = s.time ∧
    (s.driveEntry p2).cause = s.cause ∧ (s.driveEntry p2).slots = s.slots ∧ (s.driveEntry p2).gauge = s.gauge ∧
    (s.driveEntry p2).eng = s.eng ∧ (s.driveEntry p2).nv = s.nv ∧ (s.driveEntry p2).seat = s.seat ∧
    (s.driveEntry p2).drv = s.drv ∧ (s.driveEntry p2).dtest = s.dtest ∧ (s.driveEntry p2).tab = s.tab ∧
    (s.driveEntry p2).weigh = s.weigh ∧ (s.driveEntry p2).run = s.run ∧ (s.driveEntry p2).plate = s.plate ∧
    (s.driveEntry p2).seq = s.seq ∧ (s.driveEntry p2).disp = s.disp ∧ (s.driveEntry p2).comp = s.comp ∧
    (s.driveEntry p2).prn = s.prn := by
  simp [State.driveEntry]

@[simp] theorem State.startDrive_frame (s : State) (owner : Owner) (mode : DirMode) (limit : Nat) :
    (s.startDrive owner mode limit).pending = s.pending ∧ (s.startDrive owner mode limit).clk = s.clk ∧
    (s.startDrive owner mode limit).time = s.time ∧ (s.startDrive owner mode limit).cause = s.cause ∧
    (s.startDrive owner mode limit).slots = s.slots ∧ (s.startDrive owner mode limit).gauge = s.gauge ∧
    (s.startDrive owner mode limit).eng = s.eng ∧ (s.startDrive owner mode limit).nv = s.nv ∧
    (s.startDrive owner mode limit).seat = s.seat ∧ (s.startDrive owner mode limit).dtest = s.dtest ∧
    (s.startDrive owner mode limit).tab = s.tab ∧ (s.startDrive owner mode limit).weigh = s.weigh ∧
    (s.startDrive owner mode limit).run = s.run ∧ (s.startDrive owner mode limit).plate = s.plate ∧
    (s.startDrive owner mode limit).seq = s.seq ∧ (s.startDrive owner mode limit).comp = s.comp ∧
    (s.startDrive owner mode limit).prn = s.prn := by
  unfold State.startDrive
  try dsimp only
  repeat' split
  all_goals simp

@[simp] theorem State.enterStopping_frame (s : State) (r : StopReason) :
    (s.enterStopping r).pending = s.pending ∧ (s.enterStopping r).clk = s.clk ∧
    (s.enterStopping r).time = s.time ∧ (s.enterStopping r).cause = s.cause ∧
    (s.enterStopping r).slots = s.slots ∧ (s.enterStopping r).gauge = s.gauge ∧ (s.enterStopping r).eng = s.eng ∧
    (s.enterStopping r).nv = s.nv ∧ (s.enterStopping r).seat = s.seat ∧ (s.enterStopping r).dtest = s.dtest ∧
    (s.enterStopping r).tab = s.tab ∧ (s.enterStopping r).weigh = s.weigh ∧ (s.enterStopping r).run = s.run ∧
    (s.enterStopping r).plate = s.plate ∧ (s.enterStopping r).seq = s.seq ∧ (s.enterStopping r).comp = s.comp ∧
    (s.enterStopping r).prn = s.prn := by
  simp [State.enterStopping]

@[simp] theorem State.testStop_frame (s : State) (r : StopReason) :
    (s.testStop r).pending = s.pending ∧ (s.testStop r).mem = s.mem ∧ (s.testStop r).clk = s.clk ∧
    (s.testStop r).time = s.time ∧ (s.testStop r).cause = s.cause ∧ (s.testStop r).slots = s.slots ∧
    (s.testStop r).jr = s.jr ∧ (s.testStop r).att = s.att ∧ (s.testStop r).gauge = s.gauge ∧
    (s.testStop r).eng = s.eng ∧ (s.testStop r).nv = s.nv ∧ (s.testStop r).seat = s.seat ∧
    (s.testStop r).drv = s.drv ∧ (s.testStop r).tab = s.tab ∧ (s.testStop r).weigh = s.weigh ∧
    (s.testStop r).run = s.run ∧ (s.testStop r).plate = s.plate ∧ (s.testStop r).seq = s.seq ∧
    (s.testStop r).disp = s.disp ∧ (s.testStop r).comp = s.comp ∧ (s.testStop r).prn = s.prn := by
  unfold State.testStop
  try dsimp only
  repeat' split
  all_goals simp

@[simp] theorem State.ownerStop_frame (s : State) (r : StopReason) :
    (s.ownerStop r).pending = s.pending ∧ (s.ownerStop r).clk = s.clk ∧ (s.ownerStop r).time = s.time ∧
    (s.ownerStop r).cause = s.cause ∧ (s.ownerStop r).slots = s.slots ∧ (s.ownerStop r).gauge = s.gauge ∧
    (s.ownerStop r).eng = s.eng ∧ (s.ownerStop r).nv = s.nv ∧ (s.ownerStop r).seat = s.seat ∧
    (s.ownerStop r).drv = s.drv ∧ (s.ownerStop r).tab = s.tab ∧ (s.ownerStop r).weigh = s.weigh ∧
    (s.ownerStop r).run = s.run ∧ (s.ownerStop r).comp = s.comp ∧ (s.ownerStop r).prn = s.prn := by
  unfold State.ownerStop
  try dsimp only
  repeat' split
  all_goals simp

@[simp] theorem State.haltDrive_frame (s : State) :
    (s.haltDrive).pending = s.pending ∧ (s.haltDrive).clk = s.clk ∧ (s.haltDrive).time = s.time ∧
    (s.haltDrive).cause = s.cause ∧ (s.haltDrive).slots = s.slots ∧ (s.haltDrive).gauge = s.gauge ∧
    (s.haltDrive).eng = s.eng ∧ (s.haltDrive).nv = s.nv ∧ (s.haltDrive).seat = s.seat ∧
    (s.haltDrive).dtest = s.dtest ∧ (s.haltDrive).weigh = s.weigh ∧ (s.haltDrive).comp = s.comp ∧
    (s.haltDrive).prn = s.prn := by
  unfold State.haltDrive
  try dsimp only
  repeat' split
  all_goals simp

@[simp] theorem State.stopDrive_frame (s : State) (r : StopReason) :
    (s.stopDrive r).pending = s.pending ∧ (s.stopDrive r).clk = s.clk ∧ (s.stopDrive r).time = s.time ∧
    (s.stopDrive r).cause = s.cause ∧ (s.stopDrive r).slots = s.slots ∧ (s.stopDrive r).gauge = s.gauge ∧
    (s.stopDrive r).eng = s.eng ∧ (s.stopDrive r).nv = s.nv ∧ (s.stopDrive r).seat = s.seat ∧
    (s.stopDrive r).weigh = s.weigh ∧ (s.stopDrive r).comp = s.comp ∧ (s.stopDrive r).prn = s.prn := by
  unfold State.stopDrive
  try dsimp only
  repeat' split
  all_goals simp

@[simp] theorem State.stopEvent_frame (s : State) (r : StopReason) :
    (s.stopEvent r).pending = s.pending ∧ (s.stopEvent r).clk = s.clk ∧ (s.stopEvent r).time = s.time ∧
    (s.stopEvent r).cause = s.cause ∧ (s.stopEvent r).slots = s.slots ∧ (s.stopEvent r).gauge = s.gauge ∧
    (s.stopEvent r).eng = s.eng ∧ (s.stopEvent r).nv = s.nv ∧ (s.stopEvent r).seat = s.seat ∧
    (s.stopEvent r).weigh = s.weigh ∧ (s.stopEvent r).comp = s.comp ∧ (s.stopEvent r).prn = s.prn := by
  simp [State.stopEvent]

@[simp] theorem State.handEndOfSpin_frame (s : State) (owed : Bool) :
    (s.handEndOfSpin owed).pending = s.pending ∧ (s.handEndOfSpin owed).clk = s.clk ∧
    (s.handEndOfSpin owed).time = s.time ∧ (s.handEndOfSpin owed).cause = s.cause ∧
    (s.handEndOfSpin owed).slots = s.slots ∧ (s.handEndOfSpin owed).gauge = s.gauge ∧
    (s.handEndOfSpin owed).eng = s.eng ∧ (s.handEndOfSpin owed).nv = s.nv ∧
    (s.handEndOfSpin owed).seat = s.seat ∧ (s.handEndOfSpin owed).weigh = s.weigh ∧
    (s.handEndOfSpin owed).comp = s.comp ∧ (s.handEndOfSpin owed).prn = s.prn := by
  unfold State.handEndOfSpin
  try dsimp only
  repeat' split
  all_goals simp

@[simp] theorem State.ownEnd_frame (s : State) (reason : EndReason) (noOnset : Bool) :
    (s.ownEnd reason noOnset).pending = s.pending ∧ (s.ownEnd reason noOnset).clk = s.clk ∧
    (s.ownEnd reason noOnset).time = s.time ∧ (s.ownEnd reason noOnset).cause = s.cause ∧
    (s.ownEnd reason noOnset).slots = s.slots ∧ (s.ownEnd reason noOnset).gauge = s.gauge ∧
    (s.ownEnd reason noOnset).eng = s.eng ∧ (s.ownEnd reason noOnset).nv = s.nv ∧
    (s.ownEnd reason noOnset).seat = s.seat ∧ (s.ownEnd reason noOnset).weigh = s.weigh ∧
    (s.ownEnd reason noOnset).comp = s.comp ∧ (s.ownEnd reason noOnset).prn = s.prn := by
  unfold State.ownEnd
  try dsimp only
  repeat' split
  all_goals simp

@[simp] theorem State.ownParkEnd_frame (s : State) (reason : EndReason) :
    (s.ownParkEnd reason).pending = s.pending ∧ (s.ownParkEnd reason).clk = s.clk ∧
    (s.ownParkEnd reason).time = s.time ∧ (s.ownParkEnd reason).cause = s.cause ∧
    (s.ownParkEnd reason).slots = s.slots ∧ (s.ownParkEnd reason).gauge = s.gauge ∧
    (s.ownParkEnd reason).eng = s.eng ∧ (s.ownParkEnd reason).nv = s.nv ∧ (s.ownParkEnd reason).seat = s.seat ∧
    (s.ownParkEnd reason).weigh = s.weigh ∧ (s.ownParkEnd reason).comp = s.comp ∧
    (s.ownParkEnd reason).prn = s.prn := by
  simp [State.ownParkEnd]

@[simp] theorem State.parkNoOnset_frame (s : State) :
    (s.parkNoOnset).pending = s.pending ∧ (s.parkNoOnset).clk = s.clk ∧ (s.parkNoOnset).time = s.time ∧
    (s.parkNoOnset).cause = s.cause ∧ (s.parkNoOnset).slots = s.slots ∧ (s.parkNoOnset).gauge = s.gauge ∧
    (s.parkNoOnset).eng = s.eng ∧ (s.parkNoOnset).nv = s.nv ∧ (s.parkNoOnset).seat = s.seat ∧
    (s.parkNoOnset).weigh = s.weigh ∧ (s.parkNoOnset).comp = s.comp ∧ (s.parkNoOnset).prn = s.prn := by
  simp [State.parkNoOnset]

@[simp] theorem State.finishTest_frame (s : State) (driveFault : Bool) :
    (s.finishTest driveFault).pending = s.pending ∧ (s.finishTest driveFault).clk = s.clk ∧
    (s.finishTest driveFault).time = s.time ∧ (s.finishTest driveFault).cause = s.cause ∧
    (s.finishTest driveFault).gauge = s.gauge ∧ (s.finishTest driveFault).eng = s.eng ∧
    (s.finishTest driveFault).nv = s.nv ∧ (s.finishTest driveFault).seat = s.seat ∧
    (s.finishTest driveFault).drv = s.drv ∧ (s.finishTest driveFault).tab = s.tab ∧
    (s.finishTest driveFault).weigh = s.weigh ∧ (s.finishTest driveFault).run = s.run ∧
    (s.finishTest driveFault).plate = s.plate ∧ (s.finishTest driveFault).seq = s.seq ∧
    (s.finishTest driveFault).disp = s.disp ∧ (s.finishTest driveFault).comp = s.comp ∧
    (s.finishTest driveFault).prn = s.prn := by
  unfold State.finishTest
  try dsimp only
  repeat' split
  all_goals simp

end Sys2Proof.Machine
end

