-- ==== Sys2Proof/Laws/FrameSequencer.lean ====
section
/-! SUPPORT. Laws/FrameSequencer.lean: what each operation of Machine/Sequencer, Machine/Weighing leaves unchanged. -/

namespace Sys2Proof.Machine

@[simp] theorem State.setCursor_frame (s : State) (n : Nat) :
    (s.setCursor n).pending = s.pending ∧ (s.setCursor n).mem = s.mem ∧ (s.setCursor n).clk = s.clk ∧
    (s.setCursor n).time = s.time ∧ (s.setCursor n).cause = s.cause ∧ (s.setCursor n).slots = s.slots ∧
    (s.setCursor n).jr = s.jr ∧ (s.setCursor n).att = s.att ∧ (s.setCursor n).gauge = s.gauge ∧
    (s.setCursor n).eng = s.eng ∧ (s.setCursor n).nv = s.nv ∧ (s.setCursor n).seat = s.seat ∧
    (s.setCursor n).drv = s.drv ∧ (s.setCursor n).dtest = s.dtest ∧ (s.setCursor n).weigh = s.weigh ∧
    (s.setCursor n).run = s.run ∧ (s.setCursor n).plate = s.plate ∧ (s.setCursor n).disp = s.disp ∧
    (s.setCursor n).comp = s.comp ∧ (s.setCursor n).prn = s.prn := by
  simp [State.setCursor]

@[simp] theorem State.completePlan_frame (s : State) (o : ReqOutcome) (d : Detail) :
    (s.completePlan o d).pending = s.pending ∧ (s.completePlan o d).clk = s.clk ∧
    (s.completePlan o d).time = s.time ∧ (s.completePlan o d).cause = s.cause ∧
    (s.completePlan o d).gauge = s.gauge ∧ (s.completePlan o d).eng = s.eng ∧ (s.completePlan o d).nv = s.nv ∧
    (s.completePlan o d).seat = s.seat ∧ (s.completePlan o d).drv = s.drv ∧
    (s.completePlan o d).dtest = s.dtest ∧ (s.completePlan o d).tab = s.tab ∧
    (s.completePlan o d).weigh = s.weigh ∧ (s.completePlan o d).run = s.run ∧
    (s.completePlan o d).plate = s.plate ∧ (s.completePlan o d).seq = s.seq ∧
    (s.completePlan o d).disp = s.disp ∧ (s.completePlan o d).comp = s.comp ∧ (s.completePlan o d).prn = s.prn := by
  unfold State.completePlan
  try dsimp only
  repeat' split
  all_goals simp

@[simp] theorem State.issueStart_frame (s : State) :
    (s.issueStart).pending = s.pending ∧ (s.issueStart).clk = s.clk ∧ (s.issueStart).time = s.time ∧
    (s.issueStart).cause = s.cause ∧ (s.issueStart).slots = s.slots ∧ (s.issueStart).gauge = s.gauge ∧
    (s.issueStart).eng = s.eng ∧ (s.issueStart).nv = s.nv ∧ (s.issueStart).seat = s.seat ∧
    (s.issueStart).dtest = s.dtest ∧ (s.issueStart).tab = s.tab ∧ (s.issueStart).weigh = s.weigh ∧
    (s.issueStart).run = s.run ∧ (s.issueStart).plate = s.plate ∧ (s.issueStart).comp = s.comp ∧
    (s.issueStart).prn = s.prn := by
  unfold State.issueStart
  try dsimp only
  repeat' split
  all_goals simp

@[simp] theorem State.repeatStart_frame (s : State) :
    (s.repeatStart).pending = s.pending ∧ (s.repeatStart).clk = s.clk ∧ (s.repeatStart).time = s.time ∧
    (s.repeatStart).cause = s.cause ∧ (s.repeatStart).slots = s.slots ∧ (s.repeatStart).gauge = s.gauge ∧
    (s.repeatStart).eng = s.eng ∧ (s.repeatStart).nv = s.nv ∧ (s.repeatStart).seat = s.seat ∧
    (s.repeatStart).dtest = s.dtest ∧ (s.repeatStart).tab = s.tab ∧ (s.repeatStart).weigh = s.weigh ∧
    (s.repeatStart).run = s.run ∧ (s.repeatStart).plate = s.plate ∧ (s.repeatStart).comp = s.comp ∧
    (s.repeatStart).prn = s.prn := by
  unfold State.repeatStart
  try dsimp only
  repeat' split
  all_goals simp

@[simp] theorem State.setReviewMark_frame (s : State) :
    (s.setReviewMark).pending = s.pending ∧ (s.setReviewMark).mem = s.mem ∧ (s.setReviewMark).clk = s.clk ∧
    (s.setReviewMark).time = s.time ∧ (s.setReviewMark).cause = s.cause ∧ (s.setReviewMark).slots = s.slots ∧
    (s.setReviewMark).jr = s.jr ∧ (s.setReviewMark).att = s.att ∧ (s.setReviewMark).gauge = s.gauge ∧
    (s.setReviewMark).eng = s.eng ∧ (s.setReviewMark).nv = s.nv ∧ (s.setReviewMark).seat = s.seat ∧
    (s.setReviewMark).drv = s.drv ∧ (s.setReviewMark).dtest = s.dtest ∧ (s.setReviewMark).tab = s.tab ∧
    (s.setReviewMark).weigh = s.weigh ∧ (s.setReviewMark).run = s.run ∧ (s.setReviewMark).plate = s.plate ∧
    (s.setReviewMark).disp = s.disp ∧ (s.setReviewMark).comp = s.comp ∧ (s.setReviewMark).prn = s.prn := by
  simp [State.setReviewMark]

@[simp] theorem State.evaluateOffer_frame (s : State) :
    (s.evaluateOffer).pending = s.pending ∧ (s.evaluateOffer).mem = s.mem ∧ (s.evaluateOffer).clk = s.clk ∧
    (s.evaluateOffer).time = s.time ∧ (s.evaluateOffer).cause = s.cause ∧ (s.evaluateOffer).slots = s.slots ∧
    (s.evaluateOffer).jr = s.jr ∧ (s.evaluateOffer).att = s.att ∧ (s.evaluateOffer).gauge = s.gauge ∧
    (s.evaluateOffer).eng = s.eng ∧ (s.evaluateOffer).nv = s.nv ∧ (s.evaluateOffer).seat = s.seat ∧
    (s.evaluateOffer).drv = s.drv ∧ (s.evaluateOffer).dtest = s.dtest ∧ (s.evaluateOffer).tab = s.tab ∧
    (s.evaluateOffer).weigh = s.weigh ∧ (s.evaluateOffer).run = s.run ∧ (s.evaluateOffer).plate = s.plate ∧
    (s.evaluateOffer).disp = s.disp ∧ (s.evaluateOffer).comp = s.comp ∧ (s.evaluateOffer).prn = s.prn := by
  simp [State.evaluateOffer]

@[simp] theorem State.enterReview_frame (s : State) :
    (s.enterReview).pending = s.pending ∧ (s.enterReview).clk = s.clk ∧ (s.enterReview).time = s.time ∧
    (s.enterReview).cause = s.cause ∧ (s.enterReview).slots = s.slots ∧ (s.enterReview).gauge = s.gauge ∧
    (s.enterReview).eng = s.eng ∧ (s.enterReview).nv = s.nv ∧ (s.enterReview).seat = s.seat ∧
    (s.enterReview).drv = s.drv ∧ (s.enterReview).dtest = s.dtest ∧ (s.enterReview).tab = s.tab ∧
    (s.enterReview).weigh = s.weigh ∧ (s.enterReview).run = s.run ∧ (s.enterReview).comp = s.comp ∧
    (s.enterReview).prn = s.prn := by
  simp [State.enterReview]

@[simp] theorem State.enterSpinup_frame (s : State) (runs : Runs) :
    (s.enterSpinup runs).pending = s.pending ∧ (s.enterSpinup runs).clk = s.clk ∧
    (s.enterSpinup runs).time = s.time ∧ (s.enterSpinup runs).cause = s.cause ∧
    (s.enterSpinup runs).slots = s.slots ∧ (s.enterSpinup runs).gauge = s.gauge ∧
    (s.enterSpinup runs).eng = s.eng ∧ (s.enterSpinup runs).nv = s.nv ∧ (s.enterSpinup runs).seat = s.seat ∧
    (s.enterSpinup runs).dtest = s.dtest ∧ (s.enterSpinup runs).tab = s.tab ∧
    (s.enterSpinup runs).weigh = s.weigh ∧ (s.enterSpinup runs).comp = s.comp ∧ (s.enterSpinup runs).prn = s.prn := by
  unfold State.enterSpinup
  try dsimp only
  repeat' split
  all_goals simp

@[simp] theorem State.enterComplete_frame (s : State) :
    (s.enterComplete).pending = s.pending ∧ (s.enterComplete).clk = s.clk ∧ (s.enterComplete).time = s.time ∧
    (s.enterComplete).cause = s.cause ∧ (s.enterComplete).gauge = s.gauge ∧ (s.enterComplete).eng = s.eng ∧
    (s.enterComplete).nv = s.nv ∧ (s.enterComplete).seat = s.seat ∧ (s.enterComplete).drv = s.drv ∧
    (s.enterComplete).dtest = s.dtest ∧ (s.enterComplete).tab = s.tab ∧ (s.enterComplete).weigh = s.weigh ∧
    (s.enterComplete).run = s.run ∧ (s.enterComplete).comp = s.comp ∧ (s.enterComplete).prn = s.prn := by
  simp [State.enterComplete]

@[simp] theorem State.advanceCursor_frame (s : State) (next : SeqState) :
    (s.advanceCursor next).pending = s.pending ∧ (s.advanceCursor next).clk = s.clk ∧
    (s.advanceCursor next).time = s.time ∧ (s.advanceCursor next).cause = s.cause ∧
    (s.advanceCursor next).gauge = s.gauge ∧ (s.advanceCursor next).eng = s.eng ∧
    (s.advanceCursor next).nv = s.nv ∧ (s.advanceCursor next).seat = s.seat ∧
    (s.advanceCursor next).drv = s.drv ∧ (s.advanceCursor next).dtest = s.dtest ∧
    (s.advanceCursor next).weigh = s.weigh ∧ (s.advanceCursor next).run = s.run ∧
    (s.advanceCursor next).comp = s.comp ∧ (s.advanceCursor next).prn = s.prn := by
  unfold State.advanceCursor
  try dsimp only
  repeat' split
  all_goals simp

@[simp] theorem State.exitForward_frame (s : State) :
    (s.exitForward).pending = s.pending ∧ (s.exitForward).clk = s.clk ∧ (s.exitForward).time = s.time ∧
    (s.exitForward).cause = s.cause ∧ (s.exitForward).gauge = s.gauge ∧ (s.exitForward).eng = s.eng ∧
    (s.exitForward).nv = s.nv ∧ (s.exitForward).seat = s.seat ∧ (s.exitForward).drv = s.drv ∧
    (s.exitForward).dtest = s.dtest ∧ (s.exitForward).weigh = s.weigh ∧ (s.exitForward).run = s.run ∧
    (s.exitForward).comp = s.comp ∧ (s.exitForward).prn = s.prn := by
  unfold State.exitForward
  try dsimp only
  repeat' split
  all_goals simp

@[simp] theorem State.exitBackward_frame (s : State) :
    (s.exitBackward).pending = s.pending ∧ (s.exitBackward).clk = s.clk ∧ (s.exitBackward).time = s.time ∧
    (s.exitBackward).cause = s.cause ∧ (s.exitBackward).slots = s.slots ∧ (s.exitBackward).gauge = s.gauge ∧
    (s.exitBackward).eng = s.eng ∧ (s.exitBackward).nv = s.nv ∧ (s.exitBackward).seat = s.seat ∧
    (s.exitBackward).drv = s.drv ∧ (s.exitBackward).dtest = s.dtest ∧ (s.exitBackward).tab = s.tab ∧
    (s.exitBackward).weigh = s.weigh ∧ (s.exitBackward).run = s.run ∧ (s.exitBackward).comp = s.comp ∧
    (s.exitBackward).prn = s.prn := by
  simp [State.exitBackward]

@[simp] theorem State.enterExitWait_frame (s : State) :
    (s.enterExitWait).pending = s.pending ∧ (s.enterExitWait).clk = s.clk ∧ (s.enterExitWait).time = s.time ∧
    (s.enterExitWait).cause = s.cause ∧ (s.enterExitWait).gauge = s.gauge ∧ (s.enterExitWait).eng = s.eng ∧
    (s.enterExitWait).nv = s.nv ∧ (s.enterExitWait).seat = s.seat ∧ (s.enterExitWait).drv = s.drv ∧
    (s.enterExitWait).dtest = s.dtest ∧ (s.enterExitWait).weigh = s.weigh ∧ (s.enterExitWait).run = s.run ∧
    (s.enterExitWait).comp = s.comp ∧ (s.enterExitWait).prn = s.prn := by
  unfold State.enterExitWait
  try dsimp only
  repeat' split
  all_goals simp

@[simp] theorem State.leaveSpindown_frame (s : State) :
    (s.leaveSpindown).pending = s.pending ∧ (s.leaveSpindown).clk = s.clk ∧ (s.leaveSpindown).time = s.time ∧
    (s.leaveSpindown).cause = s.cause ∧ (s.leaveSpindown).gauge = s.gauge ∧ (s.leaveSpindown).eng = s.eng ∧
    (s.leaveSpindown).nv = s.nv ∧ (s.leaveSpindown).seat = s.seat ∧ (s.leaveSpindown).dtest = s.dtest ∧
    (s.leaveSpindown).weigh = s.weigh ∧ (s.leaveSpindown).comp = s.comp ∧ (s.leaveSpindown).prn = s.prn := by
  unfold State.leaveSpindown
  try dsimp only
  repeat' split
  all_goals simp

@[simp] theorem State.startWeighing_frame (s : State) :
    (s.startWeighing).pending = s.pending ∧ (s.startWeighing).mem = s.mem ∧ (s.startWeighing).clk = s.clk ∧
    (s.startWeighing).time = s.time ∧ (s.startWeighing).cause = s.cause ∧ (s.startWeighing).slots = s.slots ∧
    (s.startWeighing).jr = s.jr ∧ (s.startWeighing).att = s.att ∧ (s.startWeighing).gauge = s.gauge ∧
    (s.startWeighing).eng = s.eng ∧ (s.startWeighing).nv = s.nv ∧ (s.startWeighing).seat = s.seat ∧
    (s.startWeighing).drv = s.drv ∧ (s.startWeighing).dtest = s.dtest ∧ (s.startWeighing).tab = s.tab ∧
    (s.startWeighing).run = s.run ∧ (s.startWeighing).plate = s.plate ∧ (s.startWeighing).seq = s.seq ∧
    (s.startWeighing).disp = s.disp ∧ (s.startWeighing).comp = s.comp ∧ (s.startWeighing).prn = s.prn := by
  simp [State.startWeighing]

@[simp] theorem State.axleCourse_frame (s : State) :
    (s.axleCourse).pending = s.pending ∧ (s.axleCourse).clk = s.clk ∧ (s.axleCourse).time = s.time ∧
    (s.axleCourse).cause = s.cause ∧ (s.axleCourse).gauge = s.gauge ∧ (s.axleCourse).eng = s.eng ∧
    (s.axleCourse).nv = s.nv ∧ (s.axleCourse).seat = s.seat ∧ (s.axleCourse).dtest = s.dtest ∧
    (s.axleCourse).comp = s.comp ∧ (s.axleCourse).prn = s.prn := by
  unfold State.axleCourse
  try dsimp only
  repeat' split
  all_goals simp

@[simp] theorem State.seqSeated_frame (s : State) :
    (s.seqSeated).pending = s.pending ∧ (s.seqSeated).clk = s.clk ∧ (s.seqSeated).time = s.time ∧
    (s.seqSeated).cause = s.cause ∧ (s.seqSeated).gauge = s.gauge ∧ (s.seqSeated).eng = s.eng ∧
    (s.seqSeated).nv = s.nv ∧ (s.seqSeated).seat = s.seat ∧ (s.seqSeated).dtest = s.dtest ∧
    (s.seqSeated).comp = s.comp ∧ (s.seqSeated).prn = s.prn := by
  unfold State.seqSeated
  try dsimp only
  repeat' split
  all_goals simp

@[simp] theorem State.seqUnseated_frame (s : State) :
    (s.seqUnseated).pending = s.pending ∧ (s.seqUnseated).clk = s.clk ∧ (s.seqUnseated).time = s.time ∧
    (s.seqUnseated).cause = s.cause ∧ (s.seqUnseated).gauge = s.gauge ∧ (s.seqUnseated).eng = s.eng ∧
    (s.seqUnseated).nv = s.nv ∧ (s.seqUnseated).seat = s.seat ∧ (s.seqUnseated).dtest = s.dtest ∧
    (s.seqUnseated).weigh = s.weigh ∧ (s.seqUnseated).comp = s.comp ∧ (s.seqUnseated).prn = s.prn := by
  unfold State.seqUnseated
  try dsimp only
  repeat' split
  all_goals simp

@[simp] theorem State.seqPass_frame (s : State) (forward : Bool) :
    (s.seqPass forward).pending = s.pending ∧ (s.seqPass forward).clk = s.clk ∧
    (s.seqPass forward).time = s.time ∧ (s.seqPass forward).cause = s.cause ∧
    (s.seqPass forward).gauge = s.gauge ∧ (s.seqPass forward).eng = s.eng ∧ (s.seqPass forward).nv = s.nv ∧
    (s.seqPass forward).seat = s.seat ∧ (s.seqPass forward).drv = s.drv ∧ (s.seqPass forward).dtest = s.dtest ∧
    (s.seqPass forward).weigh = s.weigh ∧ (s.seqPass forward).run = s.run ∧ (s.seqPass forward).comp = s.comp ∧
    (s.seqPass forward).prn = s.prn := by
  unfold State.seqPass
  try dsimp only
  repeat' split
  all_goals simp

@[simp] theorem State.seqExit_frame (s : State) (forward : Bool) :
    (s.seqExit forward).pending = s.pending ∧ (s.seqExit forward).clk = s.clk ∧
    (s.seqExit forward).time = s.time ∧ (s.seqExit forward).cause = s.cause ∧
    (s.seqExit forward).gauge = s.gauge ∧ (s.seqExit forward).eng = s.eng ∧ (s.seqExit forward).nv = s.nv ∧
    (s.seqExit forward).seat = s.seat ∧ (s.seqExit forward).drv = s.drv ∧ (s.seqExit forward).dtest = s.dtest ∧
    (s.seqExit forward).weigh = s.weigh ∧ (s.seqExit forward).run = s.run ∧ (s.seqExit forward).comp = s.comp ∧
    (s.seqExit forward).prn = s.prn := by
  unfold State.seqExit
  try dsimp only
  repeat' split
  all_goals simp

@[simp] theorem State.seqWeighed_frame (s : State) :
    (s.seqWeighed).pending = s.pending ∧ (s.seqWeighed).clk = s.clk ∧ (s.seqWeighed).time = s.time ∧
    (s.seqWeighed).cause = s.cause ∧ (s.seqWeighed).gauge = s.gauge ∧ (s.seqWeighed).eng = s.eng ∧
    (s.seqWeighed).nv = s.nv ∧ (s.seqWeighed).seat = s.seat ∧ (s.seqWeighed).dtest = s.dtest ∧
    (s.seqWeighed).weigh = s.weigh ∧ (s.seqWeighed).comp = s.comp ∧ (s.seqWeighed).prn = s.prn := by
  unfold State.seqWeighed
  try dsimp only
  repeat' split
  all_goals simp

@[simp] theorem State.giveUpWork_frame (s : State) (reason : EndReason) :
    (s.giveUpWork reason).pending = s.pending ∧ (s.giveUpWork reason).clk = s.clk ∧
    (s.giveUpWork reason).time = s.time ∧ (s.giveUpWork reason).cause = s.cause ∧
    (s.giveUpWork reason).slots = s.slots ∧ (s.giveUpWork reason).gauge = s.gauge ∧
    (s.giveUpWork reason).eng = s.eng ∧ (s.giveUpWork reason).nv = s.nv ∧ (s.giveUpWork reason).seat = s.seat ∧
    (s.giveUpWork reason).dtest = s.dtest ∧ (s.giveUpWork reason).comp = s.comp ∧
    (s.giveUpWork reason).prn = s.prn := by
  simp [State.giveUpWork]

@[simp] theorem State.pauseWork_frame (s : State) :
    (s.pauseWork).pending = s.pending ∧ (s.pauseWork).clk = s.clk ∧ (s.pauseWork).time = s.time ∧
    (s.pauseWork).cause = s.cause ∧ (s.pauseWork).slots = s.slots ∧ (s.pauseWork).gauge = s.gauge ∧
    (s.pauseWork).eng = s.eng ∧ (s.pauseWork).nv = s.nv ∧ (s.pauseWork).seat = s.seat ∧
    (s.pauseWork).dtest = s.dtest ∧ (s.pauseWork).comp = s.comp ∧ (s.pauseWork).prn = s.prn := by
  simp [State.pauseWork]

@[simp] theorem State.skipAxle_frame (s : State) :
    (s.skipAxle).pending = s.pending ∧ (s.skipAxle).clk = s.clk ∧ (s.skipAxle).time = s.time ∧
    (s.skipAxle).cause = s.cause ∧ (s.skipAxle).gauge = s.gauge ∧ (s.skipAxle).eng = s.eng ∧
    (s.skipAxle).nv = s.nv ∧ (s.skipAxle).seat = s.seat ∧ (s.skipAxle).dtest = s.dtest ∧
    (s.skipAxle).comp = s.comp ∧ (s.skipAxle).prn = s.prn := by
  simp [State.skipAxle]

@[simp] theorem State.resume_frame (s : State) :
    (s.resume).pending = s.pending ∧ (s.resume).clk = s.clk ∧ (s.resume).time = s.time ∧
    (s.resume).cause = s.cause ∧ (s.resume).gauge = s.gauge ∧ (s.resume).eng = s.eng ∧ (s.resume).nv = s.nv ∧
    (s.resume).seat = s.seat ∧ (s.resume).drv = s.drv ∧ (s.resume).dtest = s.dtest ∧ (s.resume).weigh = s.weigh ∧
    (s.resume).run = s.run ∧ (s.resume).comp = s.comp ∧ (s.resume).prn = s.prn := by
  unfold State.resume
  try dsimp only
  repeat' split
  all_goals simp

@[simp] theorem State.seqKey_frame (s : State) (k : Input) :
    (s.seqKey k).pending = s.pending ∧ (s.seqKey k).clk = s.clk ∧ (s.seqKey k).time = s.time ∧
    (s.seqKey k).cause = s.cause ∧ (s.seqKey k).gauge = s.gauge ∧ (s.seqKey k).eng = s.eng ∧
    (s.seqKey k).nv = s.nv ∧ (s.seqKey k).seat = s.seat ∧ (s.seqKey k).dtest = s.dtest ∧
    (s.seqKey k).comp = s.comp ∧ (s.seqKey k).prn = s.prn := by
  unfold State.seqKey
  try dsimp only
  repeat' split
  all_goals simp

@[simp] theorem State.abortRecord_frame (s : State) (k : Nat) :
    (s.abortRecord k).pending = s.pending ∧ (s.abortRecord k).clk = s.clk ∧
    (s.abortRecord k).time = s.time ∧ (s.abortRecord k).cause = s.cause ∧
    (s.abortRecord k).slots = s.slots ∧ (s.abortRecord k).jr = s.jr ∧ (s.abortRecord k).att = s.att ∧
    (s.abortRecord k).gauge = s.gauge ∧ (s.abortRecord k).eng = s.eng ∧ (s.abortRecord k).nv = s.nv ∧
    (s.abortRecord k).seat = s.seat ∧ (s.abortRecord k).drv = s.drv ∧ (s.abortRecord k).dtest = s.dtest ∧
    (s.abortRecord k).weigh = s.weigh ∧ (s.abortRecord k).run = s.run ∧ (s.abortRecord k).plate = s.plate ∧
    (s.abortRecord k).seq = s.seq ∧ (s.abortRecord k).disp = s.disp ∧ (s.abortRecord k).comp = s.comp ∧
    (s.abortRecord k).prn = s.prn := by
  unfold State.abortRecord
  split <;> simp

@[simp] theorem State.abortRecords_frame (s : State) :
    (s.abortRecords).pending = s.pending ∧ (s.abortRecords).clk = s.clk ∧ (s.abortRecords).time = s.time ∧
    (s.abortRecords).cause = s.cause ∧ (s.abortRecords).slots = s.slots ∧ (s.abortRecords).jr = s.jr ∧
    (s.abortRecords).att = s.att ∧ (s.abortRecords).gauge = s.gauge ∧ (s.abortRecords).eng = s.eng ∧
    (s.abortRecords).nv = s.nv ∧ (s.abortRecords).seat = s.seat ∧ (s.abortRecords).drv = s.drv ∧
    (s.abortRecords).dtest = s.dtest ∧ (s.abortRecords).weigh = s.weigh ∧ (s.abortRecords).run = s.run ∧
    (s.abortRecords).plate = s.plate ∧ (s.abortRecords).seq = s.seq ∧ (s.abortRecords).disp = s.disp ∧
    (s.abortRecords).comp = s.comp ∧ (s.abortRecords).prn = s.prn := by
  unfold State.abortRecords
  exact ⟨foldl_keeps _ State.pending (by simp) _ _,
    foldl_keeps _ State.clk (by simp) _ _,
    foldl_keeps _ State.time (by simp) _ _,
    foldl_keeps _ State.cause (by simp) _ _,
    foldl_keeps _ State.slots (by simp) _ _,
    foldl_keeps _ State.jr (by simp) _ _,
    foldl_keeps _ State.att (by simp) _ _,
    foldl_keeps _ State.gauge (by simp) _ _,
    foldl_keeps _ State.eng (by simp) _ _,
    foldl_keeps _ State.nv (by simp) _ _,
    foldl_keeps _ State.seat (by simp) _ _,
    foldl_keeps _ State.drv (by simp) _ _,
    foldl_keeps _ State.dtest (by simp) _ _,
    foldl_keeps _ State.weigh (by simp) _ _,
    foldl_keeps _ State.run (by simp) _ _,
    foldl_keeps _ State.plate (by simp) _ _,
    foldl_keeps _ State.seq (by simp) _ _,
    foldl_keeps _ State.disp (by simp) _ _,
    foldl_keeps _ State.comp (by simp) _ _,
    foldl_keeps _ State.prn (by simp) _ _⟩

@[simp] theorem State.abortPlan_frame (s : State) (o : ReqOutcome) (d : Detail) :
    (s.abortPlan o d).pending = s.pending ∧ (s.abortPlan o d).clk = s.clk ∧ (s.abortPlan o d).time = s.time ∧
    (s.abortPlan o d).cause = s.cause ∧ (s.abortPlan o d).gauge = s.gauge ∧ (s.abortPlan o d).eng = s.eng ∧
    (s.abortPlan o d).nv = s.nv ∧ (s.abortPlan o d).seat = s.seat ∧ (s.abortPlan o d).dtest = s.dtest ∧
    (s.abortPlan o d).comp = s.comp ∧ (s.abortPlan o d).prn = s.prn := by
  unfold State.abortPlan
  try dsimp only
  repeat' split
  all_goals simp

@[simp] theorem State.beginRuns_frame (s : State) :
    (s.beginRuns).pending = s.pending ∧ (s.beginRuns).mem = s.mem ∧ (s.beginRuns).clk = s.clk ∧
    (s.beginRuns).time = s.time ∧ (s.beginRuns).cause = s.cause ∧ (s.beginRuns).slots = s.slots ∧
    (s.beginRuns).jr = s.jr ∧ (s.beginRuns).att = s.att ∧ (s.beginRuns).gauge = s.gauge ∧
    (s.beginRuns).eng = s.eng ∧ (s.beginRuns).nv = s.nv ∧ (s.beginRuns).seat = s.seat ∧
    (s.beginRuns).drv = s.drv ∧ (s.beginRuns).dtest = s.dtest ∧ (s.beginRuns).tab = s.tab ∧
    (s.beginRuns).weigh = s.weigh ∧ (s.beginRuns).plate = s.plate ∧ (s.beginRuns).seq = s.seq ∧
    (s.beginRuns).disp = s.disp ∧ (s.beginRuns).comp = s.comp ∧ (s.beginRuns).prn = s.prn := by
  unfold State.beginRuns
  try dsimp only
  repeat' split
  all_goals simp

@[simp] theorem State.spinReachesRun_frame (s : State) :
    (s.spinReachesRun).pending = s.pending ∧ (s.spinReachesRun).clk = s.clk ∧ (s.spinReachesRun).time = s.time ∧
    (s.spinReachesRun).cause = s.cause ∧ (s.spinReachesRun).slots = s.slots ∧
    (s.spinReachesRun).gauge = s.gauge ∧ (s.spinReachesRun).eng = s.eng ∧ (s.spinReachesRun).nv = s.nv ∧
    (s.spinReachesRun).seat = s.seat ∧ (s.spinReachesRun).drv = s.drv ∧ (s.spinReachesRun).tab = s.tab ∧
    (s.spinReachesRun).weigh = s.weigh ∧ (s.spinReachesRun).comp = s.comp ∧ (s.spinReachesRun).prn = s.prn := by
  unfold State.spinReachesRun
  try dsimp only
  repeat' split
  all_goals simp

@[simp] theorem State.driveRun_frame (s : State) :
    (s.driveRun).pending = s.pending ∧ (s.driveRun).clk = s.clk ∧ (s.driveRun).time = s.time ∧
    (s.driveRun).cause = s.cause ∧ (s.driveRun).slots = s.slots ∧ (s.driveRun).gauge = s.gauge ∧
    (s.driveRun).eng = s.eng ∧ (s.driveRun).nv = s.nv ∧ (s.driveRun).seat = s.seat ∧ (s.driveRun).tab = s.tab ∧
    (s.driveRun).weigh = s.weigh ∧ (s.driveRun).comp = s.comp ∧ (s.driveRun).prn = s.prn := by
  simp [State.driveRun]

@[simp] theorem State.seqDriveEnds_frame (s : State) :
    (s.seqDriveEnds).pending = s.pending ∧ (s.seqDriveEnds).clk = s.clk ∧ (s.seqDriveEnds).time = s.time ∧
    (s.seqDriveEnds).cause = s.cause ∧ (s.seqDriveEnds).gauge = s.gauge ∧ (s.seqDriveEnds).eng = s.eng ∧
    (s.seqDriveEnds).nv = s.nv ∧ (s.seqDriveEnds).seat = s.seat ∧ (s.seqDriveEnds).dtest = s.dtest ∧
    (s.seqDriveEnds).weigh = s.weigh ∧ (s.seqDriveEnds).comp = s.comp ∧ (s.seqDriveEnds).prn = s.prn := by
  unfold State.seqDriveEnds
  try dsimp only
  repeat' split
  all_goals simp

@[simp] theorem State.driveOff_frame (s : State) (p2 : Word) :
    (s.driveOff p2).pending = s.pending ∧ (s.driveOff p2).clk = s.clk ∧ (s.driveOff p2).time = s.time ∧
    (s.driveOff p2).cause = s.cause ∧ (s.driveOff p2).gauge = s.gauge ∧ (s.driveOff p2).eng = s.eng ∧
    (s.driveOff p2).nv = s.nv ∧ (s.driveOff p2).seat = s.seat ∧ (s.driveOff p2).weigh = s.weigh ∧
    (s.driveOff p2).comp = s.comp ∧ (s.driveOff p2).prn = s.prn := by
  simp [State.driveOff]

@[simp] theorem State.driveLockout_frame (s : State) (cause : LockCause) :
    (s.driveLockout cause).pending = s.pending ∧ (s.driveLockout cause).clk = s.clk ∧
    (s.driveLockout cause).time = s.time ∧ (s.driveLockout cause).cause = s.cause ∧
    (s.driveLockout cause).gauge = s.gauge ∧ (s.driveLockout cause).eng = s.eng ∧
    (s.driveLockout cause).nv = s.nv ∧ (s.driveLockout cause).seat = s.seat ∧
    (s.driveLockout cause).weigh = s.weigh ∧ (s.driveLockout cause).comp = s.comp ∧
    (s.driveLockout cause).prn = s.prn := by
  simp [State.driveLockout]

@[simp] theorem State.weighSample_frame (s : State) :
    (s.weighSample).pending = s.pending ∧ (s.weighSample).mem = s.mem ∧ (s.weighSample).clk = s.clk ∧
    (s.weighSample).time = s.time ∧ (s.weighSample).cause = s.cause ∧ (s.weighSample).slots = s.slots ∧
    (s.weighSample).jr = s.jr ∧ (s.weighSample).att = s.att ∧ (s.weighSample).gauge = s.gauge ∧
    (s.weighSample).eng = s.eng ∧ (s.weighSample).nv = s.nv ∧ (s.weighSample).seat = s.seat ∧
    (s.weighSample).drv = s.drv ∧ (s.weighSample).dtest = s.dtest ∧ (s.weighSample).tab = s.tab ∧
    (s.weighSample).run = s.run ∧ (s.weighSample).plate = s.plate ∧ (s.weighSample).seq = s.seq ∧
    (s.weighSample).disp = s.disp ∧ (s.weighSample).comp = s.comp ∧ (s.weighSample).prn = s.prn := by
  unfold State.weighSample
  try dsimp only
  repeat' split
  all_goals simp

@[simp] theorem State.weighHandsOver_frame (s : State) :
    (s.weighHandsOver).pending = s.pending ∧ (s.weighHandsOver).clk = s.clk ∧ (s.weighHandsOver).time = s.time ∧
    (s.weighHandsOver).cause = s.cause ∧ (s.weighHandsOver).gauge = s.gauge ∧ (s.weighHandsOver).eng = s.eng ∧
    (s.weighHandsOver).nv = s.nv ∧ (s.weighHandsOver).seat = s.seat ∧ (s.weighHandsOver).dtest = s.dtest ∧
    (s.weighHandsOver).comp = s.comp ∧ (s.weighHandsOver).prn = s.prn := by
  simp [State.weighHandsOver]

@[simp] theorem State.weighAccepted_frame (s : State) (w : Weighing) :
    (s.weighAccepted w).pending = s.pending ∧ (s.weighAccepted w).clk = s.clk ∧
    (s.weighAccepted w).time = s.time ∧ (s.weighAccepted w).cause = s.cause ∧
    (s.weighAccepted w).gauge = s.gauge ∧ (s.weighAccepted w).eng = s.eng ∧ (s.weighAccepted w).nv = s.nv ∧
    (s.weighAccepted w).seat = s.seat ∧ (s.weighAccepted w).dtest = s.dtest ∧ (s.weighAccepted w).comp = s.comp ∧
    (s.weighAccepted w).prn = s.prn := by
  simp [State.weighAccepted]

@[simp] theorem State.weighUnstable_frame (s : State) (w : Weighing) :
    (s.weighUnstable w).pending = s.pending ∧ (s.weighUnstable w).clk = s.clk ∧
    (s.weighUnstable w).time = s.time ∧ (s.weighUnstable w).cause = s.cause ∧
    (s.weighUnstable w).gauge = s.gauge ∧ (s.weighUnstable w).eng = s.eng ∧ (s.weighUnstable w).nv = s.nv ∧
    (s.weighUnstable w).seat = s.seat ∧ (s.weighUnstable w).dtest = s.dtest ∧ (s.weighUnstable w).comp = s.comp ∧
    (s.weighUnstable w).prn = s.prn := by
  simp [State.weighUnstable]

@[simp] theorem State.weighWindow_frame (s : State) :
    (s.weighWindow).pending = s.pending ∧ (s.weighWindow).clk = s.clk ∧ (s.weighWindow).time = s.time ∧
    (s.weighWindow).cause = s.cause ∧ (s.weighWindow).gauge = s.gauge ∧ (s.weighWindow).eng = s.eng ∧
    (s.weighWindow).nv = s.nv ∧ (s.weighWindow).seat = s.seat ∧ (s.weighWindow).dtest = s.dtest ∧
    (s.weighWindow).comp = s.comp ∧ (s.weighWindow).prn = s.prn := by
  unfold State.weighWindow
  try dsimp only
  repeat' split
  all_goals simp

end Sys2Proof.Machine
end

