-- ==== Sys2Proof/Laws/FrameLane.lean ====
section
/-! SUPPORT. Laws/FrameLane.lean: what each operation of Machine/Plate, Machine/Detector, Machine/Windows, Machine/Engine leaves unchanged. -/

namespace Sys2Proof.Machine

@[simp] theorem State.setPlateCount_frame (s : State) (n : Nat) :
    (s.setPlateCount n).pending = s.pending ∧ (s.setPlateCount n).mem = s.mem ∧ (s.setPlateCount n).clk = s.clk ∧
    (s.setPlateCount n).time = s.time ∧ (s.setPlateCount n).cause = s.cause ∧
    (s.setPlateCount n).slots = s.slots ∧ (s.setPlateCount n).jr = s.jr ∧ (s.setPlateCount n).att = s.att ∧
    (s.setPlateCount n).gauge = s.gauge ∧ (s.setPlateCount n).eng = s.eng ∧ (s.setPlateCount n).nv = s.nv ∧
    (s.setPlateCount n).seat = s.seat ∧ (s.setPlateCount n).drv = s.drv ∧ (s.setPlateCount n).dtest = s.dtest ∧
    (s.setPlateCount n).weigh = s.weigh ∧ (s.setPlateCount n).run = s.run ∧ (s.setPlateCount n).plate = s.plate ∧
    (s.setPlateCount n).seq = s.seq ∧ (s.setPlateCount n).disp = s.disp ∧ (s.setPlateCount n).comp = s.comp ∧
    (s.setPlateCount n).prn = s.prn := by
  simp [State.setPlateCount]

@[simp] theorem State.setSideSlip_frame (s : State) (k : Nat) (x : SideSlip) :
    (s.setSideSlip k x).pending = s.pending ∧ (s.setSideSlip k x).clk = s.clk ∧
    (s.setSideSlip k x).time = s.time ∧ (s.setSideSlip k x).cause = s.cause ∧
    (s.setSideSlip k x).slots = s.slots ∧ (s.setSideSlip k x).jr = s.jr ∧ (s.setSideSlip k x).att = s.att ∧
    (s.setSideSlip k x).gauge = s.gauge ∧ (s.setSideSlip k x).eng = s.eng ∧ (s.setSideSlip k x).nv = s.nv ∧
    (s.setSideSlip k x).seat = s.seat ∧ (s.setSideSlip k x).drv = s.drv ∧ (s.setSideSlip k x).dtest = s.dtest ∧
    (s.setSideSlip k x).weigh = s.weigh ∧ (s.setSideSlip k x).run = s.run ∧ (s.setSideSlip k x).plate = s.plate ∧
    (s.setSideSlip k x).seq = s.seq ∧ (s.setSideSlip k x).disp = s.disp ∧ (s.setSideSlip k x).comp = s.comp ∧
    (s.setSideSlip k x).prn = s.prn := by
  simp [State.setSideSlip]

@[simp] theorem State.plateExtra_frame (s : State) (forward : Bool) :
    (s.plateExtra forward).pending = s.pending ∧ (s.plateExtra forward).clk = s.clk ∧
    (s.plateExtra forward).time = s.time ∧ (s.plateExtra forward).cause = s.cause ∧
    (s.plateExtra forward).slots = s.slots ∧ (s.plateExtra forward).gauge = s.gauge ∧
    (s.plateExtra forward).eng = s.eng ∧ (s.plateExtra forward).nv = s.nv ∧
    (s.plateExtra forward).seat = s.seat ∧ (s.plateExtra forward).drv = s.drv ∧
    (s.plateExtra forward).dtest = s.dtest ∧ (s.plateExtra forward).tab = s.tab ∧
    (s.plateExtra forward).weigh = s.weigh ∧ (s.plateExtra forward).run = s.run ∧
    (s.plateExtra forward).plate = s.plate ∧ (s.plateExtra forward).seq = s.seq ∧
    (s.plateExtra forward).disp = s.disp ∧ (s.plateExtra forward).comp = s.comp ∧
    (s.plateExtra forward).prn = s.prn := by
  simp [State.plateExtra]

@[simp] theorem State.openCrossing_frame (s : State) (c : Crossing) :
    (s.openCrossing c).pending = s.pending ∧ (s.openCrossing c).mem = s.mem ∧ (s.openCrossing c).clk = s.clk ∧
    (s.openCrossing c).time = s.time ∧ (s.openCrossing c).cause = s.cause ∧ (s.openCrossing c).slots = s.slots ∧
    (s.openCrossing c).jr = s.jr ∧ (s.openCrossing c).att = s.att ∧ (s.openCrossing c).gauge = s.gauge ∧
    (s.openCrossing c).eng = s.eng ∧ (s.openCrossing c).nv = s.nv ∧ (s.openCrossing c).seat = s.seat ∧
    (s.openCrossing c).drv = s.drv ∧ (s.openCrossing c).dtest = s.dtest ∧ (s.openCrossing c).tab = s.tab ∧
    (s.openCrossing c).weigh = s.weigh ∧ (s.openCrossing c).run = s.run ∧ (s.openCrossing c).seq = s.seq ∧
    (s.openCrossing c).disp = s.disp ∧ (s.openCrossing c).comp = s.comp ∧ (s.openCrossing c).prn = s.prn := by
  unfold State.openCrossing
  try dsimp only
  repeat' split
  all_goals simp

@[simp] theorem State.afterCrossing_frame (s : State) (c : Crossing) :
    (s.afterCrossing c).pending = s.pending ∧ (s.afterCrossing c).mem = s.mem ∧ (s.afterCrossing c).clk = s.clk ∧
    (s.afterCrossing c).time = s.time ∧ (s.afterCrossing c).cause = s.cause ∧
    (s.afterCrossing c).slots = s.slots ∧ (s.afterCrossing c).jr = s.jr ∧ (s.afterCrossing c).att = s.att ∧
    (s.afterCrossing c).gauge = s.gauge ∧ (s.afterCrossing c).eng = s.eng ∧ (s.afterCrossing c).nv = s.nv ∧
    (s.afterCrossing c).seat = s.seat ∧ (s.afterCrossing c).drv = s.drv ∧ (s.afterCrossing c).dtest = s.dtest ∧
    (s.afterCrossing c).tab = s.tab ∧ (s.afterCrossing c).weigh = s.weigh ∧ (s.afterCrossing c).run = s.run ∧
    (s.afterCrossing c).seq = s.seq ∧ (s.afterCrossing c).disp = s.disp ∧ (s.afterCrossing c).comp = s.comp ∧
    (s.afterCrossing c).prn = s.prn := by
  unfold State.afterCrossing
  try dsimp only
  repeat' split
  all_goals simp

@[simp] theorem State.endForward_frame (s : State) :
    (s.endForward).pending = s.pending ∧ (s.endForward).clk = s.clk ∧ (s.endForward).time = s.time ∧
    (s.endForward).cause = s.cause ∧ (s.endForward).slots = s.slots ∧ (s.endForward).gauge = s.gauge ∧
    (s.endForward).eng = s.eng ∧ (s.endForward).nv = s.nv ∧ (s.endForward).seat = s.seat ∧
    (s.endForward).drv = s.drv ∧ (s.endForward).dtest = s.dtest ∧ (s.endForward).weigh = s.weigh ∧
    (s.endForward).run = s.run ∧ (s.endForward).seq = s.seq ∧ (s.endForward).disp = s.disp ∧
    (s.endForward).comp = s.comp ∧ (s.endForward).prn = s.prn := by
  unfold State.endForward
  try dsimp only
  repeat' split
  all_goals simp

@[simp] theorem State.endReverse_frame (s : State) :
    (s.endReverse).pending = s.pending ∧ (s.endReverse).clk = s.clk ∧ (s.endReverse).time = s.time ∧
    (s.endReverse).cause = s.cause ∧ (s.endReverse).slots = s.slots ∧ (s.endReverse).gauge = s.gauge ∧
    (s.endReverse).eng = s.eng ∧ (s.endReverse).nv = s.nv ∧ (s.endReverse).seat = s.seat ∧
    (s.endReverse).drv = s.drv ∧ (s.endReverse).dtest = s.dtest ∧ (s.endReverse).weigh = s.weigh ∧
    (s.endReverse).run = s.run ∧ (s.endReverse).seq = s.seq ∧ (s.endReverse).disp = s.disp ∧
    (s.endReverse).comp = s.comp ∧ (s.endReverse).prn = s.prn := by
  unfold State.endReverse
  try dsimp only
  repeat' split
  all_goals simp

@[simp] theorem State.noteFollower_frame (s : State) (more : Bool) :
    (s.noteFollower more).pending = s.pending ∧ (s.noteFollower more).mem = s.mem ∧
    (s.noteFollower more).clk = s.clk ∧ (s.noteFollower more).time = s.time ∧
    (s.noteFollower more).cause = s.cause ∧ (s.noteFollower more).slots = s.slots ∧
    (s.noteFollower more).jr = s.jr ∧ (s.noteFollower more).att = s.att ∧ (s.noteFollower more).gauge = s.gauge ∧
    (s.noteFollower more).eng = s.eng ∧ (s.noteFollower more).nv = s.nv ∧ (s.noteFollower more).seat = s.seat ∧
    (s.noteFollower more).drv = s.drv ∧ (s.noteFollower more).dtest = s.dtest ∧
    (s.noteFollower more).tab = s.tab ∧ (s.noteFollower more).weigh = s.weigh ∧
    (s.noteFollower more).run = s.run ∧ (s.noteFollower more).seq = s.seq ∧ (s.noteFollower more).disp = s.disp ∧
    (s.noteFollower more).comp = s.comp ∧ (s.noteFollower more).prn = s.prn := by
  simp [State.noteFollower]

@[simp] theorem State.plateChange_frame (s : State) (inOn outOn : Bool) :
    (s.plateChange inOn outOn).pending = s.pending ∧ (s.plateChange inOn outOn).clk = s.clk ∧
    (s.plateChange inOn outOn).time = s.time ∧ (s.plateChange inOn outOn).cause = s.cause ∧
    (s.plateChange inOn outOn).slots = s.slots ∧ (s.plateChange inOn outOn).gauge = s.gauge ∧
    (s.plateChange inOn outOn).eng = s.eng ∧ (s.plateChange inOn outOn).nv = s.nv ∧
    (s.plateChange inOn outOn).seat = s.seat ∧ (s.plateChange inOn outOn).drv = s.drv ∧
    (s.plateChange inOn outOn).dtest = s.dtest ∧ (s.plateChange inOn outOn).weigh = s.weigh ∧
    (s.plateChange inOn outOn).run = s.run ∧ (s.plateChange inOn outOn).seq = s.seq ∧
    (s.plateChange inOn outOn).disp = s.disp ∧ (s.plateChange inOn outOn).comp = s.comp ∧
    (s.plateChange inOn outOn).prn = s.prn := by
  unfold State.plateChange
  try dsimp only
  repeat' split
  all_goals simp

@[simp] theorem State.markMissed_frame (s : State) (n i k : Nat) :
    (State.markMissed s n i k).pending = s.pending ∧
    (State.markMissed s n i k).clk = s.clk ∧
    (State.markMissed s n i k).time = s.time ∧
    (State.markMissed s n i k).cause = s.cause ∧
    (State.markMissed s n i k).slots = s.slots ∧
    (State.markMissed s n i k).gauge = s.gauge ∧
    (State.markMissed s n i k).eng = s.eng ∧
    (State.markMissed s n i k).nv = s.nv ∧
    (State.markMissed s n i k).seat = s.seat ∧
    (State.markMissed s n i k).drv = s.drv ∧
    (State.markMissed s n i k).dtest = s.dtest ∧
    (State.markMissed s n i k).weigh = s.weigh ∧
    (State.markMissed s n i k).run = s.run ∧
    (State.markMissed s n i k).plate = s.plate ∧
    (State.markMissed s n i k).seq = s.seq ∧
    (State.markMissed s n i k).disp = s.disp ∧
    (State.markMissed s n i k).comp = s.comp ∧
    (State.markMissed s n i k).prn = s.prn := by
  induction k generalizing s i with
  | zero => simp [State.markMissed]
  | succ k ih => simp [State.markMissed, ih]

@[simp] theorem State.reconcile_frame (s : State) :
    (s.reconcile).pending = s.pending ∧ (s.reconcile).clk = s.clk ∧ (s.reconcile).time = s.time ∧
    (s.reconcile).cause = s.cause ∧ (s.reconcile).slots = s.slots ∧ (s.reconcile).gauge = s.gauge ∧
    (s.reconcile).eng = s.eng ∧ (s.reconcile).nv = s.nv ∧ (s.reconcile).seat = s.seat ∧
    (s.reconcile).drv = s.drv ∧ (s.reconcile).dtest = s.dtest ∧ (s.reconcile).weigh = s.weigh ∧
    (s.reconcile).run = s.run ∧ (s.reconcile).plate = s.plate ∧ (s.reconcile).seq = s.seq ∧
    (s.reconcile).disp = s.disp ∧ (s.reconcile).comp = s.comp ∧ (s.reconcile).prn = s.prn := by
  unfold State.reconcile
  try dsimp only
  repeat' split
  all_goals simp

@[simp] theorem State.crossingExpires_frame (s : State) :
    (s.crossingExpires).pending = s.pending ∧ (s.crossingExpires).clk = s.clk ∧
    (s.crossingExpires).time = s.time ∧ (s.crossingExpires).cause = s.cause ∧
    (s.crossingExpires).slots = s.slots ∧ (s.crossingExpires).gauge = s.gauge ∧ (s.crossingExpires).eng = s.eng ∧
    (s.crossingExpires).nv = s.nv ∧ (s.crossingExpires).seat = s.seat ∧ (s.crossingExpires).drv = s.drv ∧
    (s.crossingExpires).dtest = s.dtest ∧ (s.crossingExpires).tab = s.tab ∧ (s.crossingExpires).weigh = s.weigh ∧
    (s.crossingExpires).run = s.run ∧ (s.crossingExpires).seq = s.seq ∧ (s.crossingExpires).disp = s.disp ∧
    (s.crossingExpires).comp = s.comp ∧ (s.crossingExpires).prn = s.prn := by
  simp [State.crossingExpires]

@[simp] theorem State.loadEntry_frame (s : State) (code : Nat) :
    (s.loadEntry code).pending = s.pending ∧ (s.loadEntry code).clk = s.clk ∧ (s.loadEntry code).time = s.time ∧
    (s.loadEntry code).cause = s.cause ∧ (s.loadEntry code).slots = s.slots ∧
    (s.loadEntry code).gauge = s.gauge ∧ (s.loadEntry code).eng = s.eng ∧ (s.loadEntry code).nv = s.nv ∧
    (s.loadEntry code).seat = s.seat ∧ (s.loadEntry code).drv = s.drv ∧ (s.loadEntry code).dtest = s.dtest ∧
    (s.loadEntry code).tab = s.tab ∧ (s.loadEntry code).weigh = s.weigh ∧ (s.loadEntry code).run = s.run ∧
    (s.loadEntry code).plate = s.plate ∧ (s.loadEntry code).seq = s.seq ∧ (s.loadEntry code).disp = s.disp ∧
    (s.loadEntry code).comp = s.comp ∧ (s.loadEntry code).prn = s.prn := by
  simp [State.loadEntry]

@[simp] theorem State.startTracker_frame (s : State) (rearDecided frontDecided : Bool) :
    (s.startTracker rearDecided frontDecided).pending = s.pending ∧
    (s.startTracker rearDecided frontDecided).mem = s.mem ∧
    (s.startTracker rearDecided frontDecided).clk = s.clk ∧
    (s.startTracker rearDecided frontDecided).time = s.time ∧
    (s.startTracker rearDecided frontDecided).cause = s.cause ∧
    (s.startTracker rearDecided frontDecided).slots = s.slots ∧
    (s.startTracker rearDecided frontDecided).jr = s.jr ∧ (s.startTracker rearDecided frontDecided).att = s.att ∧
    (s.startTracker rearDecided frontDecided).gauge = s.gauge ∧
    (s.startTracker rearDecided frontDecided).eng = s.eng ∧ (s.startTracker rearDecided frontDecided).nv = s.nv ∧
    (s.startTracker rearDecided frontDecided).drv = s.drv ∧
    (s.startTracker rearDecided frontDecided).dtest = s.dtest ∧
    (s.startTracker rearDecided frontDecided).tab = s.tab ∧
    (s.startTracker rearDecided frontDecided).weigh = s.weigh ∧
    (s.startTracker rearDecided frontDecided).run = s.run ∧
    (s.startTracker rearDecided frontDecided).plate = s.plate ∧
    (s.startTracker rearDecided frontDecided).seq = s.seq ∧
    (s.startTracker rearDecided frontDecided).disp = s.disp ∧
    (s.startTracker rearDecided frontDecided).comp = s.comp ∧
    (s.startTracker rearDecided frontDecided).prn = s.prn := by
  simp [State.startTracker]

@[simp] theorem State.reportPass_frame (s : State) (forward : Bool) :
    (s.reportPass forward).pending = s.pending ∧ (s.reportPass forward).clk = s.clk ∧
    (s.reportPass forward).time = s.time ∧ (s.reportPass forward).cause = s.cause ∧
    (s.reportPass forward).gauge = s.gauge ∧ (s.reportPass forward).eng = s.eng ∧
    (s.reportPass forward).nv = s.nv ∧ (s.reportPass forward).seat = s.seat ∧
    (s.reportPass forward).drv = s.drv ∧ (s.reportPass forward).dtest = s.dtest ∧
    (s.reportPass forward).weigh = s.weigh ∧ (s.reportPass forward).run = s.run ∧
    (s.reportPass forward).comp = s.comp ∧ (s.reportPass forward).prn = s.prn := by
  unfold State.reportPass
  try dsimp only
  repeat' split
  all_goals simp

@[simp] theorem State.trackBeams_frame (s : State) (rear front : Bool) :
    (s.trackBeams rear front).pending = s.pending ∧ (s.trackBeams rear front).clk = s.clk ∧
    (s.trackBeams rear front).time = s.time ∧ (s.trackBeams rear front).cause = s.cause ∧
    (s.trackBeams rear front).gauge = s.gauge ∧ (s.trackBeams rear front).eng = s.eng ∧
    (s.trackBeams rear front).nv = s.nv ∧ (s.trackBeams rear front).drv = s.drv ∧
    (s.trackBeams rear front).dtest = s.dtest ∧ (s.trackBeams rear front).weigh = s.weigh ∧
    (s.trackBeams rear front).run = s.run ∧ (s.trackBeams rear front).comp = s.comp ∧
    (s.trackBeams rear front).prn = s.prn := by
  unfold State.trackBeams
  try dsimp only
  repeat' split
  all_goals simp

@[simp] theorem State.trackLoad_frame (s : State) :
    (s.trackLoad).pending = s.pending ∧ (s.trackLoad).mem = s.mem ∧ (s.trackLoad).clk = s.clk ∧
    (s.trackLoad).time = s.time ∧ (s.trackLoad).cause = s.cause ∧ (s.trackLoad).slots = s.slots ∧
    (s.trackLoad).jr = s.jr ∧ (s.trackLoad).att = s.att ∧ (s.trackLoad).gauge = s.gauge ∧
    (s.trackLoad).eng = s.eng ∧ (s.trackLoad).nv = s.nv ∧ (s.trackLoad).drv = s.drv ∧
    (s.trackLoad).dtest = s.dtest ∧ (s.trackLoad).tab = s.tab ∧ (s.trackLoad).weigh = s.weigh ∧
    (s.trackLoad).run = s.run ∧ (s.trackLoad).plate = s.plate ∧ (s.trackLoad).seq = s.seq ∧
    (s.trackLoad).disp = s.disp ∧ (s.trackLoad).comp = s.comp ∧ (s.trackLoad).prn = s.prn := by
  unfold State.trackLoad
  try dsimp only
  repeat' split
  all_goals simp

@[simp] theorem State.reportExit_frame (s : State) (e : ExitReport) (rearDecided frontDecided : Bool) :
    (s.reportExit e rearDecided frontDecided).pending = s.pending ∧
    (s.reportExit e rearDecided frontDecided).clk = s.clk ∧
    (s.reportExit e rearDecided frontDecided).time = s.time ∧
    (s.reportExit e rearDecided frontDecided).cause = s.cause ∧
    (s.reportExit e rearDecided frontDecided).gauge = s.gauge ∧
    (s.reportExit e rearDecided frontDecided).eng = s.eng ∧ (s.reportExit e rearDecided frontDecided).nv = s.nv ∧
    (s.reportExit e rearDecided frontDecided).drv = s.drv ∧
    (s.reportExit e rearDecided frontDecided).dtest = s.dtest ∧
    (s.reportExit e rearDecided frontDecided).weigh = s.weigh ∧
    (s.reportExit e rearDecided frontDecided).run = s.run ∧
    (s.reportExit e rearDecided frontDecided).comp = s.comp ∧
    (s.reportExit e rearDecided frontDecided).prn = s.prn := by
  simp [State.reportExit]

@[simp] theorem State.windowBeams_frame (s : State) (rear front : Bool) :
    (s.windowBeams rear front).pending = s.pending ∧ (s.windowBeams rear front).clk = s.clk ∧
    (s.windowBeams rear front).time = s.time ∧ (s.windowBeams rear front).cause = s.cause ∧
    (s.windowBeams rear front).gauge = s.gauge ∧ (s.windowBeams rear front).eng = s.eng ∧
    (s.windowBeams rear front).nv = s.nv ∧ (s.windowBeams rear front).drv = s.drv ∧
    (s.windowBeams rear front).dtest = s.dtest ∧ (s.windowBeams rear front).weigh = s.weigh ∧
    (s.windowBeams rear front).run = s.run ∧ (s.windowBeams rear front).comp = s.comp ∧
    (s.windowBeams rear front).prn = s.prn := by
  unfold State.windowBeams
  try dsimp only
  repeat' split
  all_goals simp

@[simp] theorem State.settleLevel_frame (s : State) (i : Input) :
    (s.settleLevel i).pending = s.pending ∧ (s.settleLevel i).mem = s.mem ∧ (s.settleLevel i).clk = s.clk ∧
    (s.settleLevel i).time = s.time ∧ (s.settleLevel i).cause = s.cause ∧ (s.settleLevel i).slots = s.slots ∧
    (s.settleLevel i).jr = s.jr ∧ (s.settleLevel i).att = s.att ∧ (s.settleLevel i).gauge = s.gauge ∧
    (s.settleLevel i).nv = s.nv ∧ (s.settleLevel i).seat = s.seat ∧ (s.settleLevel i).drv = s.drv ∧
    (s.settleLevel i).dtest = s.dtest ∧ (s.settleLevel i).tab = s.tab ∧ (s.settleLevel i).weigh = s.weigh ∧
    (s.settleLevel i).run = s.run ∧ (s.settleLevel i).plate = s.plate ∧ (s.settleLevel i).seq = s.seq ∧
    (s.settleLevel i).disp = s.disp ∧ (s.settleLevel i).comp = s.comp ∧ (s.settleLevel i).prn = s.prn := by
  simp [State.settleLevel]

@[simp] theorem State.seatedBeam_frame (s : State) (i : Input) :
    (s.seatedBeam i).pending = s.pending ∧ (s.seatedBeam i).mem = s.mem ∧ (s.seatedBeam i).clk = s.clk ∧
    (s.seatedBeam i).time = s.time ∧ (s.seatedBeam i).cause = s.cause ∧ (s.seatedBeam i).slots = s.slots ∧
    (s.seatedBeam i).jr = s.jr ∧ (s.seatedBeam i).att = s.att ∧ (s.seatedBeam i).gauge = s.gauge ∧
    (s.seatedBeam i).eng = s.eng ∧ (s.seatedBeam i).nv = s.nv ∧ (s.seatedBeam i).drv = s.drv ∧
    (s.seatedBeam i).dtest = s.dtest ∧ (s.seatedBeam i).tab = s.tab ∧ (s.seatedBeam i).weigh = s.weigh ∧
    (s.seatedBeam i).run = s.run ∧ (s.seatedBeam i).plate = s.plate ∧ (s.seatedBeam i).seq = s.seq ∧
    (s.seatedBeam i).disp = s.disp ∧ (s.seatedBeam i).comp = s.comp ∧ (s.seatedBeam i).prn = s.prn := by
  unfold State.seatedBeam
  try dsimp only
  repeat' split
  all_goals simp

@[simp] theorem State.freeBeam_frame (s : State) (rear front : Bool) :
    (s.freeBeam rear front).pending = s.pending ∧ (s.freeBeam rear front).clk = s.clk ∧
    (s.freeBeam rear front).time = s.time ∧ (s.freeBeam rear front).cause = s.cause ∧
    (s.freeBeam rear front).gauge = s.gauge ∧ (s.freeBeam rear front).eng = s.eng ∧
    (s.freeBeam rear front).nv = s.nv ∧ (s.freeBeam rear front).drv = s.drv ∧
    (s.freeBeam rear front).dtest = s.dtest ∧ (s.freeBeam rear front).weigh = s.weigh ∧
    (s.freeBeam rear front).run = s.run ∧ (s.freeBeam rear front).comp = s.comp ∧
    (s.freeBeam rear front).prn = s.prn := by
  unfold State.freeBeam
  try dsimp only
  repeat' split
  all_goals simp

@[simp] theorem State.beamSettles_frame (s : State) (i : Input) :
    (s.beamSettles i).pending = s.pending ∧ (s.beamSettles i).clk = s.clk ∧ (s.beamSettles i).time = s.time ∧
    (s.beamSettles i).cause = s.cause ∧ (s.beamSettles i).gauge = s.gauge ∧ (s.beamSettles i).nv = s.nv ∧
    (s.beamSettles i).drv = s.drv ∧ (s.beamSettles i).dtest = s.dtest ∧ (s.beamSettles i).weigh = s.weigh ∧
    (s.beamSettles i).run = s.run ∧ (s.beamSettles i).comp = s.comp ∧ (s.beamSettles i).prn = s.prn := by
  unfold State.beamSettles
  try dsimp only
  repeat' split
  all_goals simp

@[simp] theorem State.lastBeamChanges_frame (s : State) :
    (s.lastBeamChanges).pending = s.pending ∧ (s.lastBeamChanges).clk = s.clk ∧
    (s.lastBeamChanges).time = s.time ∧ (s.lastBeamChanges).cause = s.cause ∧
    (s.lastBeamChanges).gauge = s.gauge ∧ (s.lastBeamChanges).nv = s.nv ∧ (s.lastBeamChanges).drv = s.drv ∧
    (s.lastBeamChanges).dtest = s.dtest ∧ (s.lastBeamChanges).weigh = s.weigh ∧ (s.lastBeamChanges).run = s.run ∧
    (s.lastBeamChanges).comp = s.comp ∧ (s.lastBeamChanges).prn = s.prn := by
  unfold State.lastBeamChanges
  try dsimp only
  repeat' split
  all_goals simp

@[simp] theorem State.decideExit_frame (s : State) (last : Option Beam) :
    (s.decideExit last).pending = s.pending ∧ (s.decideExit last).clk = s.clk ∧
    (s.decideExit last).time = s.time ∧ (s.decideExit last).cause = s.cause ∧
    (s.decideExit last).gauge = s.gauge ∧ (s.decideExit last).eng = s.eng ∧ (s.decideExit last).nv = s.nv ∧
    (s.decideExit last).drv = s.drv ∧ (s.decideExit last).dtest = s.dtest ∧ (s.decideExit last).weigh = s.weigh ∧
    (s.decideExit last).run = s.run ∧ (s.decideExit last).comp = s.comp ∧ (s.decideExit last).prn = s.prn := by
  unfold State.decideExit
  try dsimp only
  repeat' split
  all_goals simp

@[simp] theorem State.unseat_frame (s : State) :
    (s.unseat).pending = s.pending ∧ (s.unseat).clk = s.clk ∧ (s.unseat).time = s.time ∧
    (s.unseat).cause = s.cause ∧ (s.unseat).gauge = s.gauge ∧ (s.unseat).nv = s.nv ∧ (s.unseat).comp = s.comp ∧
    (s.unseat).prn = s.prn := by
  simp [State.unseat]

@[simp] theorem State.seatNow_frame (s : State) :
    (s.seatNow).pending = s.pending ∧ (s.seatNow).clk = s.clk ∧ (s.seatNow).time = s.time ∧
    (s.seatNow).cause = s.cause ∧ (s.seatNow).gauge = s.gauge ∧ (s.seatNow).eng = s.eng ∧ (s.seatNow).nv = s.nv ∧
    (s.seatNow).dtest = s.dtest ∧ (s.seatNow).comp = s.comp ∧ (s.seatNow).prn = s.prn := by
  unfold State.seatNow
  try dsimp only
  repeat' split
  all_goals simp

@[simp] theorem State.detectorSample_frame (s : State) :
    (s.detectorSample).pending = s.pending ∧ (s.detectorSample).clk = s.clk ∧ (s.detectorSample).time = s.time ∧
    (s.detectorSample).cause = s.cause ∧ (s.detectorSample).gauge = s.gauge ∧ (s.detectorSample).nv = s.nv ∧
    (s.detectorSample).comp = s.comp ∧ (s.detectorSample).prn = s.prn := by
  unfold State.detectorSample
  try dsimp only
  repeat' split
  all_goals simp

@[simp] theorem State.settleBeams_frame (s : State) :
    (s.settleBeams).pending = s.pending ∧ (s.settleBeams).mem = s.mem ∧ (s.settleBeams).clk = s.clk ∧
    (s.settleBeams).time = s.time ∧ (s.settleBeams).cause = s.cause ∧ (s.settleBeams).slots = s.slots ∧
    (s.settleBeams).jr = s.jr ∧ (s.settleBeams).att = s.att ∧ (s.settleBeams).gauge = s.gauge ∧
    (s.settleBeams).nv = s.nv ∧ (s.settleBeams).drv = s.drv ∧ (s.settleBeams).dtest = s.dtest ∧
    (s.settleBeams).tab = s.tab ∧ (s.settleBeams).weigh = s.weigh ∧ (s.settleBeams).run = s.run ∧
    (s.settleBeams).plate = s.plate ∧ (s.settleBeams).seq = s.seq ∧ (s.settleBeams).disp = s.disp ∧
    (s.settleBeams).comp = s.comp ∧ (s.settleBeams).prn = s.prn ∧ (s.settleBeams).seat = s.seat := by
  unfold State.settleBeams
  try dsimp only
  repeat' split
  all_goals simp


@[simp] theorem State.beginTracker_frame (s : State) :
    (s.beginTracker).pending = s.pending ∧ (s.beginTracker).mem = s.mem ∧ (s.beginTracker).clk = s.clk ∧
    (s.beginTracker).time = s.time ∧ (s.beginTracker).cause = s.cause ∧ (s.beginTracker).slots = s.slots ∧
    (s.beginTracker).jr = s.jr ∧ (s.beginTracker).att = s.att ∧ (s.beginTracker).gauge = s.gauge ∧
    (s.beginTracker).nv = s.nv ∧ (s.beginTracker).drv = s.drv ∧ (s.beginTracker).dtest = s.dtest ∧
    (s.beginTracker).tab = s.tab ∧ (s.beginTracker).weigh = s.weigh ∧ (s.beginTracker).run = s.run ∧
    (s.beginTracker).plate = s.plate ∧ (s.beginTracker).seq = s.seq ∧ (s.beginTracker).disp = s.disp ∧
    (s.beginTracker).comp = s.comp ∧ (s.beginTracker).prn = s.prn := by
  simp [State.beginTracker]


@[simp] theorem State.trackerSample_frame (s : State) (analog : Bool) :
    (s.trackerSample analog).pending = s.pending ∧ (s.trackerSample analog).mem = s.mem ∧
    (s.trackerSample analog).clk = s.clk ∧ (s.trackerSample analog).time = s.time ∧
    (s.trackerSample analog).cause = s.cause ∧ (s.trackerSample analog).slots = s.slots ∧
    (s.trackerSample analog).jr = s.jr ∧ (s.trackerSample analog).att = s.att ∧
    (s.trackerSample analog).gauge = s.gauge ∧
    (s.trackerSample analog).nv = s.nv ∧ (s.trackerSample analog).drv = s.drv ∧
    (s.trackerSample analog).dtest = s.dtest ∧ (s.trackerSample analog).tab = s.tab ∧
    (s.trackerSample analog).weigh = s.weigh ∧ (s.trackerSample analog).run = s.run ∧
    (s.trackerSample analog).plate = s.plate ∧ (s.trackerSample analog).seq = s.seq ∧
    (s.trackerSample analog).disp = s.disp ∧ (s.trackerSample analog).comp = s.comp ∧
    (s.trackerSample analog).prn = s.prn := by
  unfold State.trackerSample
  try dsimp only
  repeat' split
  all_goals simp

@[simp] theorem State.engineWindow_frame (s : State) :
    (s.engineWindow).pending = s.pending ∧ (s.engineWindow).mem = s.mem ∧ (s.engineWindow).clk = s.clk ∧
    (s.engineWindow).time = s.time ∧ (s.engineWindow).cause = s.cause ∧ (s.engineWindow).slots = s.slots ∧
    (s.engineWindow).jr = s.jr ∧ (s.engineWindow).att = s.att ∧ (s.engineWindow).gauge = s.gauge ∧
    (s.engineWindow).nv = s.nv ∧ (s.engineWindow).seat = s.seat ∧ (s.engineWindow).drv = s.drv ∧
    (s.engineWindow).dtest = s.dtest ∧ (s.engineWindow).tab = s.tab ∧ (s.engineWindow).weigh = s.weigh ∧
    (s.engineWindow).run = s.run ∧ (s.engineWindow).plate = s.plate ∧ (s.engineWindow).seq = s.seq ∧
    (s.engineWindow).disp = s.disp ∧ (s.engineWindow).comp = s.comp ∧ (s.engineWindow).prn = s.prn := by
  simp [State.engineWindow]

@[simp] theorem State.driveWindow_frame (s : State) (pdL pdR : Nat) :
    (s.driveWindow pdL pdR).pending = s.pending ∧ (s.driveWindow pdL pdR).clk = s.clk ∧
    (s.driveWindow pdL pdR).time = s.time ∧ (s.driveWindow pdL pdR).cause = s.cause ∧
    (s.driveWindow pdL pdR).slots = s.slots ∧ (s.driveWindow pdL pdR).gauge = s.gauge ∧
    (s.driveWindow pdL pdR).eng = s.eng ∧ (s.driveWindow pdL pdR).nv = s.nv ∧
    (s.driveWindow pdL pdR).seat = s.seat ∧ (s.driveWindow pdL pdR).tab = s.tab ∧
    (s.driveWindow pdL pdR).weigh = s.weigh ∧ (s.driveWindow pdL pdR).comp = s.comp ∧
    (s.driveWindow pdL pdR).prn = s.prn := by
  unfold State.driveWindow
  try dsimp only
  repeat' split
  all_goals simp

@[simp] theorem State.windowEnds_frame (s : State) :
    (s.windowEnds).pending = s.pending ∧ (s.windowEnds).clk = s.clk ∧ (s.windowEnds).time = s.time ∧
    (s.windowEnds).cause = s.cause ∧ (s.windowEnds).slots = s.slots ∧ (s.windowEnds).gauge = s.gauge ∧
    (s.windowEnds).nv = s.nv ∧ (s.windowEnds).seat = s.seat ∧ (s.windowEnds).tab = s.tab ∧
    (s.windowEnds).weigh = s.weigh ∧ (s.windowEnds).comp = s.comp ∧ (s.windowEnds).prn = s.prn := by
  simp [State.windowEnds]

@[simp] theorem State.setFaultsOf_frame (s : State) (i : Nat) (f : FaultFlags) :
    (s.setFaultsOf i f).pending = s.pending ∧ (s.setFaultsOf i f).mem = s.mem ∧ (s.setFaultsOf i f).clk = s.clk ∧
    (s.setFaultsOf i f).time = s.time ∧ (s.setFaultsOf i f).cause = s.cause ∧
    (s.setFaultsOf i f).slots = s.slots ∧ (s.setFaultsOf i f).jr = s.jr ∧ (s.setFaultsOf i f).att = s.att ∧
    (s.setFaultsOf i f).gauge = s.gauge ∧ (s.setFaultsOf i f).nv = s.nv ∧ (s.setFaultsOf i f).seat = s.seat ∧
    (s.setFaultsOf i f).drv = s.drv ∧ (s.setFaultsOf i f).dtest = s.dtest ∧ (s.setFaultsOf i f).tab = s.tab ∧
    (s.setFaultsOf i f).weigh = s.weigh ∧ (s.setFaultsOf i f).run = s.run ∧ (s.setFaultsOf i f).plate = s.plate ∧
    (s.setFaultsOf i f).seq = s.seq ∧ (s.setFaultsOf i f).disp = s.disp ∧ (s.setFaultsOf i f).comp = s.comp ∧
    (s.setFaultsOf i f).prn = s.prn := by
  simp [State.setFaultsOf]

@[simp] theorem State.faultEntry_frame (s : State) (i : Nat) (flag : Word) :
    (s.faultEntry i flag).pending = s.pending ∧ (s.faultEntry i flag).clk = s.clk ∧
    (s.faultEntry i flag).time = s.time ∧ (s.faultEntry i flag).cause = s.cause ∧
    (s.faultEntry i flag).slots = s.slots ∧ (s.faultEntry i flag).gauge = s.gauge ∧
    (s.faultEntry i flag).eng = s.eng ∧ (s.faultEntry i flag).nv = s.nv ∧ (s.faultEntry i flag).seat = s.seat ∧
    (s.faultEntry i flag).drv = s.drv ∧ (s.faultEntry i flag).dtest = s.dtest ∧
    (s.faultEntry i flag).tab = s.tab ∧ (s.faultEntry i flag).weigh = s.weigh ∧
    (s.faultEntry i flag).run = s.run ∧ (s.faultEntry i flag).plate = s.plate ∧
    (s.faultEntry i flag).seq = s.seq ∧ (s.faultEntry i flag).disp = s.disp ∧
    (s.faultEntry i flag).comp = s.comp ∧ (s.faultEntry i flag).prn = s.prn := by
  simp [State.faultEntry]

@[simp] theorem State.noPulseMet_frame (s : State) (side : Side) :
    (s.noPulseMet side).pending = s.pending ∧ (s.noPulseMet side).clk = s.clk ∧
    (s.noPulseMet side).time = s.time ∧ (s.noPulseMet side).cause = s.cause ∧
    (s.noPulseMet side).slots = s.slots ∧ (s.noPulseMet side).gauge = s.gauge ∧ (s.noPulseMet side).nv = s.nv ∧
    (s.noPulseMet side).seat = s.seat ∧ (s.noPulseMet side).drv = s.drv ∧ (s.noPulseMet side).dtest = s.dtest ∧
    (s.noPulseMet side).tab = s.tab ∧ (s.noPulseMet side).weigh = s.weigh ∧ (s.noPulseMet side).run = s.run ∧
    (s.noPulseMet side).plate = s.plate ∧ (s.noPulseMet side).seq = s.seq ∧ (s.noPulseMet side).disp = s.disp ∧
    (s.noPulseMet side).comp = s.comp ∧ (s.noPulseMet side).prn = s.prn := by
  unfold State.noPulseMet
  try dsimp only
  repeat' split
  all_goals simp

@[simp] theorem State.rest_frame (s : State) :
    (s.rest).pending = s.pending ∧ (s.rest).clk = s.clk ∧ (s.rest).time = s.time ∧ (s.rest).cause = s.cause ∧
    (s.rest).gauge = s.gauge ∧ (s.rest).eng = s.eng ∧ (s.rest).nv = s.nv ∧ (s.rest).seat = s.seat ∧
    (s.rest).weigh = s.weigh ∧ (s.rest).comp = s.comp ∧ (s.rest).prn = s.prn := by
  unfold State.rest
  try dsimp only
  repeat' split
  all_goals simp

@[simp] theorem State.decideTest_frame (s : State) (o : ReqOutcome) (d : Detail) :
    (s.decideTest o d).pending = s.pending ∧ (s.decideTest o d).mem = s.mem ∧ (s.decideTest o d).clk = s.clk ∧
    (s.decideTest o d).time = s.time ∧ (s.decideTest o d).cause = s.cause ∧ (s.decideTest o d).slots = s.slots ∧
    (s.decideTest o d).jr = s.jr ∧ (s.decideTest o d).att = s.att ∧ (s.decideTest o d).gauge = s.gauge ∧
    (s.decideTest o d).eng = s.eng ∧ (s.decideTest o d).nv = s.nv ∧ (s.decideTest o d).seat = s.seat ∧
    (s.decideTest o d).drv = s.drv ∧ (s.decideTest o d).tab = s.tab ∧ (s.decideTest o d).weigh = s.weigh ∧
    (s.decideTest o d).run = s.run ∧ (s.decideTest o d).plate = s.plate ∧ (s.decideTest o d).seq = s.seq ∧
    (s.decideTest o d).disp = s.disp ∧ (s.decideTest o d).comp = s.comp ∧ (s.decideTest o d).prn = s.prn := by
  unfold State.decideTest
  try dsimp only
  repeat' split
  all_goals simp

@[simp] theorem State.modeTaken_frame (s : State) (old : LaneMode) :
    (s.modeTaken old).pending = s.pending ∧ (s.modeTaken old).clk = s.clk ∧ (s.modeTaken old).time = s.time ∧
    (s.modeTaken old).cause = s.cause ∧ (s.modeTaken old).gauge = s.gauge ∧ (s.modeTaken old).eng = s.eng ∧
    (s.modeTaken old).nv = s.nv ∧ (s.modeTaken old).seat = s.seat ∧ (s.modeTaken old).comp = s.comp ∧
    (s.modeTaken old).prn = s.prn := by
  unfold State.modeTaken
  try dsimp only
  repeat' split
  all_goals simp

@[simp] theorem State.deriveMode_frame (s : State) :
    (s.deriveMode).pending = s.pending ∧ (s.deriveMode).clk = s.clk ∧ (s.deriveMode).time = s.time ∧
    (s.deriveMode).cause = s.cause ∧ (s.deriveMode).gauge = s.gauge ∧ (s.deriveMode).nv = s.nv ∧
    (s.deriveMode).seat = s.seat ∧ (s.deriveMode).comp = s.comp ∧ (s.deriveMode).prn = s.prn := by
  unfold State.deriveMode
  try dsimp only
  repeat' split
  all_goals simp

@[simp] theorem State.keyEntry_frame (s : State) (i : Input) :
    (s.keyEntry i).pending = s.pending ∧ (s.keyEntry i).clk = s.clk ∧ (s.keyEntry i).time = s.time ∧
    (s.keyEntry i).cause = s.cause ∧ (s.keyEntry i).slots = s.slots ∧ (s.keyEntry i).gauge = s.gauge ∧
    (s.keyEntry i).eng = s.eng ∧ (s.keyEntry i).nv = s.nv ∧ (s.keyEntry i).seat = s.seat ∧
    (s.keyEntry i).drv = s.drv ∧ (s.keyEntry i).dtest = s.dtest ∧ (s.keyEntry i).tab = s.tab ∧
    (s.keyEntry i).weigh = s.weigh ∧ (s.keyEntry i).run = s.run ∧ (s.keyEntry i).plate = s.plate ∧
    (s.keyEntry i).seq = s.seq ∧ (s.keyEntry i).disp = s.disp ∧ (s.keyEntry i).comp = s.comp ∧
    (s.keyEntry i).prn = s.prn := by
  simp [State.keyEntry]

@[simp] theorem State.keySettles_frame (s : State) :
    (s.keySettles).pending = s.pending ∧ (s.keySettles).clk = s.clk ∧ (s.keySettles).time = s.time ∧
    (s.keySettles).cause = s.cause ∧ (s.keySettles).gauge = s.gauge ∧ (s.keySettles).nv = s.nv ∧
    (s.keySettles).seat = s.seat ∧ (s.keySettles).comp = s.comp ∧ (s.keySettles).prn = s.prn := by
  unfold State.keySettles
  try dsimp only
  repeat' split
  all_goals simp

@[simp] theorem State.presenceSettles_frame (s : State) :
    (s.presenceSettles).pending = s.pending ∧ (s.presenceSettles).clk = s.clk ∧
    (s.presenceSettles).time = s.time ∧ (s.presenceSettles).cause = s.cause ∧
    (s.presenceSettles).slots = s.slots ∧ (s.presenceSettles).gauge = s.gauge ∧ (s.presenceSettles).eng = s.eng ∧
    (s.presenceSettles).nv = s.nv ∧ (s.presenceSettles).seat = s.seat ∧ (s.presenceSettles).weigh = s.weigh ∧
    (s.presenceSettles).comp = s.comp ∧ (s.presenceSettles).prn = s.prn := by
  unfold State.presenceSettles
  try dsimp only
  repeat' split
  all_goals simp

@[simp] theorem State.estopActive_frame (s : State) :
    (s.estopActive).pending = s.pending ∧ (s.estopActive).clk = s.clk ∧ (s.estopActive).time = s.time ∧
    (s.estopActive).cause = s.cause ∧ (s.estopActive).gauge = s.gauge ∧ (s.estopActive).eng = s.eng ∧
    (s.estopActive).nv = s.nv ∧ (s.estopActive).seat = s.seat ∧ (s.estopActive).weigh = s.weigh ∧
    (s.estopActive).comp = s.comp ∧ (s.estopActive).prn = s.prn := by
  unfold State.estopActive
  try dsimp only
  repeat' split
  all_goals simp

@[simp] theorem State.estopSettles_frame (s : State) :
    (s.estopSettles).pending = s.pending ∧ (s.estopSettles).clk = s.clk ∧ (s.estopSettles).time = s.time ∧
    (s.estopSettles).cause = s.cause ∧ (s.estopSettles).gauge = s.gauge ∧ (s.estopSettles).eng = s.eng ∧
    (s.estopSettles).nv = s.nv ∧ (s.estopSettles).seat = s.seat ∧ (s.estopSettles).weigh = s.weigh ∧
    (s.estopSettles).comp = s.comp ∧ (s.estopSettles).prn = s.prn := by
  unfold State.estopSettles
  try dsimp only
  repeat' split
  all_goals simp

@[simp] theorem State.mechanicKey_frame (s : State) (i : Input) :
    (s.mechanicKey i).pending = s.pending ∧ (s.mechanicKey i).clk = s.clk ∧ (s.mechanicKey i).time = s.time ∧
    (s.mechanicKey i).cause = s.cause ∧ (s.mechanicKey i).gauge = s.gauge ∧ (s.mechanicKey i).eng = s.eng ∧
    (s.mechanicKey i).nv = s.nv ∧ (s.mechanicKey i).seat = s.seat ∧ (s.mechanicKey i).dtest = s.dtest ∧
    (s.mechanicKey i).comp = s.comp ∧ (s.mechanicKey i).prn = s.prn := by
  unfold State.mechanicKey
  try dsimp only
  repeat' split
  all_goals simp

@[simp] theorem State.plateSettles_frame (s : State) (i : Input) :
    (s.plateSettles i).pending = s.pending ∧ (s.plateSettles i).clk = s.clk ∧ (s.plateSettles i).time = s.time ∧
    (s.plateSettles i).cause = s.cause ∧ (s.plateSettles i).slots = s.slots ∧
    (s.plateSettles i).gauge = s.gauge ∧ (s.plateSettles i).nv = s.nv ∧ (s.plateSettles i).seat = s.seat ∧
    (s.plateSettles i).drv = s.drv ∧ (s.plateSettles i).dtest = s.dtest ∧ (s.plateSettles i).weigh = s.weigh ∧
    (s.plateSettles i).run = s.run ∧ (s.plateSettles i).seq = s.seq ∧ (s.plateSettles i).disp = s.disp ∧
    (s.plateSettles i).comp = s.comp ∧ (s.plateSettles i).prn = s.prn := by
  unfold State.plateSettles
  try dsimp only
  repeat' split
  all_goals simp

@[simp] theorem State.inputSettles_frame (s : State) (i : Input) :
    (s.inputSettles i).pending = s.pending ∧ (s.inputSettles i).clk = s.clk ∧ (s.inputSettles i).time = s.time ∧
    (s.inputSettles i).cause = s.cause ∧ (s.inputSettles i).gauge = s.gauge ∧ (s.inputSettles i).nv = s.nv ∧
    (s.inputSettles i).comp = s.comp ∧ (s.inputSettles i).prn = s.prn := by
  unfold State.inputSettles
  try dsimp only
  repeat' split
  all_goals simp

@[simp] theorem State.convert_frame (s : State) (raws : List Int) :
    (s.convert raws).pending = s.pending ∧ (s.convert raws).mem = s.mem ∧ (s.convert raws).clk = s.clk ∧
    (s.convert raws).time = s.time ∧ (s.convert raws).cause = s.cause ∧ (s.convert raws).slots = s.slots ∧
    (s.convert raws).jr = s.jr ∧ (s.convert raws).att = s.att ∧ (s.convert raws).gauge = s.gauge ∧
    (s.convert raws).nv = s.nv ∧ (s.convert raws).seat = s.seat ∧ (s.convert raws).drv = s.drv ∧
    (s.convert raws).dtest = s.dtest ∧ (s.convert raws).tab = s.tab ∧ (s.convert raws).weigh = s.weigh ∧
    (s.convert raws).run = s.run ∧ (s.convert raws).plate = s.plate ∧ (s.convert raws).seq = s.seq ∧
    (s.convert raws).disp = s.disp ∧ (s.convert raws).comp = s.comp ∧ (s.convert raws).prn = s.prn := by
  simp [State.convert]

@[simp] theorem State.faultTest_frame (s : State) (i : Nat) (raw : Int) :
    (s.faultTest i raw).pending = s.pending ∧ (s.faultTest i raw).clk = s.clk ∧
    (s.faultTest i raw).time = s.time ∧ (s.faultTest i raw).cause = s.cause ∧
    (s.faultTest i raw).slots = s.slots ∧ (s.faultTest i raw).gauge = s.gauge ∧ (s.faultTest i raw).nv = s.nv ∧
    (s.faultTest i raw).seat = s.seat ∧ (s.faultTest i raw).drv = s.drv ∧ (s.faultTest i raw).dtest = s.dtest ∧
    (s.faultTest i raw).tab = s.tab ∧ (s.faultTest i raw).weigh = s.weigh ∧ (s.faultTest i raw).run = s.run ∧
    (s.faultTest i raw).plate = s.plate ∧ (s.faultTest i raw).seq = s.seq ∧ (s.faultTest i raw).disp = s.disp ∧
    (s.faultTest i raw).comp = s.comp ∧ (s.faultTest i raw).prn = s.prn := by
  unfold State.faultTest
  try dsimp only
  repeat' split
  all_goals simp

@[simp] theorem State.faultTests_frame (s : State) (raws : List Int) :
    (s.faultTests raws).pending = s.pending ∧ (s.faultTests raws).clk = s.clk ∧
    (s.faultTests raws).time = s.time ∧ (s.faultTests raws).cause = s.cause ∧
    (s.faultTests raws).slots = s.slots ∧ (s.faultTests raws).gauge = s.gauge ∧ (s.faultTests raws).nv = s.nv ∧
    (s.faultTests raws).seat = s.seat ∧ (s.faultTests raws).drv = s.drv ∧ (s.faultTests raws).dtest = s.dtest ∧
    (s.faultTests raws).tab = s.tab ∧ (s.faultTests raws).weigh = s.weigh ∧ (s.faultTests raws).run = s.run ∧
    (s.faultTests raws).plate = s.plate ∧ (s.faultTests raws).seq = s.seq ∧ (s.faultTests raws).disp = s.disp ∧
    (s.faultTests raws).comp = s.comp ∧ (s.faultTests raws).prn = s.prn := by
  unfold State.faultTests
  exact ⟨foldl_keeps _ State.pending (by simp) _ _,
    foldl_keeps _ State.clk (by simp) _ _,
    foldl_keeps _ State.time (by simp) _ _,
    foldl_keeps _ State.cause (by simp) _ _,
    foldl_keeps _ State.slots (by simp) _ _,
    foldl_keeps _ State.gauge (by simp) _ _,
    foldl_keeps _ State.nv (by simp) _ _,
    foldl_keeps _ State.seat (by simp) _ _,
    foldl_keeps _ State.drv (by simp) _ _,
    foldl_keeps _ State.dtest (by simp) _ _,
    foldl_keeps _ State.tab (by simp) _ _,
    foldl_keeps _ State.weigh (by simp) _ _,
    foldl_keeps _ State.run (by simp) _ _,
    foldl_keeps _ State.plate (by simp) _ _,
    foldl_keeps _ State.seq (by simp) _ _,
    foldl_keeps _ State.disp (by simp) _ _,
    foldl_keeps _ State.comp (by simp) _ _,
    foldl_keeps _ State.prn (by simp) _ _⟩

@[simp] theorem State.rePrime_frame (s : State) (which : Nat → Bool) :
    (s.rePrime which).pending = s.pending ∧ (s.rePrime which).mem = s.mem ∧ (s.rePrime which).clk = s.clk ∧
    (s.rePrime which).time = s.time ∧ (s.rePrime which).cause = s.cause ∧ (s.rePrime which).slots = s.slots ∧
    (s.rePrime which).jr = s.jr ∧ (s.rePrime which).att = s.att ∧ (s.rePrime which).gauge = s.gauge ∧
    (s.rePrime which).nv = s.nv ∧ (s.rePrime which).seat = s.seat ∧ (s.rePrime which).drv = s.drv ∧
    (s.rePrime which).dtest = s.dtest ∧ (s.rePrime which).tab = s.tab ∧ (s.rePrime which).weigh = s.weigh ∧
    (s.rePrime which).run = s.run ∧ (s.rePrime which).plate = s.plate ∧ (s.rePrime which).seq = s.seq ∧
    (s.rePrime which).disp = s.disp ∧ (s.rePrime which).comp = s.comp ∧ (s.rePrime which).prn = s.prn := by
  simp [State.rePrime]

@[simp] theorem State.captureSample_frame (s : State) (raws : List Int) :
    (s.captureSample raws).pending = s.pending ∧ (s.captureSample raws).clk = s.clk ∧
    (s.captureSample raws).time = s.time ∧ (s.captureSample raws).cause = s.cause ∧
    (s.captureSample raws).gauge = s.gauge ∧ (s.captureSample raws).nv = s.nv ∧
    (s.captureSample raws).seat = s.seat ∧ (s.captureSample raws).drv = s.drv ∧
    (s.captureSample raws).dtest = s.dtest ∧ (s.captureSample raws).tab = s.tab ∧
    (s.captureSample raws).weigh = s.weigh ∧ (s.captureSample raws).run = s.run ∧
    (s.captureSample raws).plate = s.plate ∧ (s.captureSample raws).seq = s.seq ∧
    (s.captureSample raws).disp = s.disp ∧ (s.captureSample raws).comp = s.comp ∧
    (s.captureSample raws).prn = s.prn := by
  unfold State.captureSample
  try dsimp only
  repeat' split
  all_goals simp

@[simp] theorem State.captureEnds_frame (s : State) :
    (s.captureEnds).pending = s.pending ∧ (s.captureEnds).clk = s.clk ∧ (s.captureEnds).time = s.time ∧
    (s.captureEnds).cause = s.cause ∧ (s.captureEnds).gauge = s.gauge ∧ (s.captureEnds).nv = s.nv ∧
    (s.captureEnds).seat = s.seat ∧ (s.captureEnds).drv = s.drv ∧ (s.captureEnds).dtest = s.dtest ∧
    (s.captureEnds).tab = s.tab ∧ (s.captureEnds).weigh = s.weigh ∧ (s.captureEnds).run = s.run ∧
    (s.captureEnds).plate = s.plate ∧ (s.captureEnds).seq = s.seq ∧ (s.captureEnds).disp = s.disp ∧
    (s.captureEnds).comp = s.comp ∧ (s.captureEnds).prn = s.prn := by
  unfold State.captureEnds
  try dsimp only
  repeat' split
  all_goals simp

@[simp] theorem State.clearedEntry_frame (s : State) (i : Nat) (flag : Word) :
    (s.clearedEntry i flag).pending = s.pending ∧ (s.clearedEntry i flag).clk = s.clk ∧
    (s.clearedEntry i flag).time = s.time ∧ (s.clearedEntry i flag).cause = s.cause ∧
    (s.clearedEntry i flag).slots = s.slots ∧ (s.clearedEntry i flag).gauge = s.gauge ∧
    (s.clearedEntry i flag).eng = s.eng ∧ (s.clearedEntry i flag).nv = s.nv ∧
    (s.clearedEntry i flag).seat = s.seat ∧ (s.clearedEntry i flag).drv = s.drv ∧
    (s.clearedEntry i flag).dtest = s.dtest ∧ (s.clearedEntry i flag).tab = s.tab ∧
    (s.clearedEntry i flag).weigh = s.weigh ∧ (s.clearedEntry i flag).run = s.run ∧
    (s.clearedEntry i flag).plate = s.plate ∧ (s.clearedEntry i flag).seq = s.seq ∧
    (s.clearedEntry i flag).disp = s.disp ∧ (s.clearedEntry i flag).comp = s.comp ∧
    (s.clearedEntry i flag).prn = s.prn := by
  simp [State.clearedEntry]

@[simp] theorem State.releaseHold_frame (s : State) (i : Nat) :
    (s.releaseHold i).pending = s.pending ∧ (s.releaseHold i).mem = s.mem ∧ (s.releaseHold i).clk = s.clk ∧
    (s.releaseHold i).time = s.time ∧ (s.releaseHold i).cause = s.cause ∧ (s.releaseHold i).slots = s.slots ∧
    (s.releaseHold i).jr = s.jr ∧ (s.releaseHold i).att = s.att ∧ (s.releaseHold i).gauge = s.gauge ∧
    (s.releaseHold i).nv = s.nv ∧ (s.releaseHold i).seat = s.seat ∧ (s.releaseHold i).drv = s.drv ∧
    (s.releaseHold i).dtest = s.dtest ∧ (s.releaseHold i).tab = s.tab ∧ (s.releaseHold i).weigh = s.weigh ∧
    (s.releaseHold i).run = s.run ∧ (s.releaseHold i).plate = s.plate ∧ (s.releaseHold i).seq = s.seq ∧
    (s.releaseHold i).disp = s.disp ∧ (s.releaseHold i).comp = s.comp ∧ (s.releaseHold i).prn = s.prn := by
  simp [State.releaseHold]

@[simp] theorem State.clearChannel_frame (s : State) (i : Nat) :
    (s.clearChannel i).pending = s.pending ∧ (s.clearChannel i).clk = s.clk ∧ (s.clearChannel i).time = s.time ∧
    (s.clearChannel i).cause = s.cause ∧ (s.clearChannel i).slots = s.slots ∧
    (s.clearChannel i).gauge = s.gauge ∧ (s.clearChannel i).nv = s.nv ∧ (s.clearChannel i).seat = s.seat ∧
    (s.clearChannel i).drv = s.drv ∧ (s.clearChannel i).dtest = s.dtest ∧ (s.clearChannel i).tab = s.tab ∧
    (s.clearChannel i).weigh = s.weigh ∧ (s.clearChannel i).run = s.run ∧ (s.clearChannel i).plate = s.plate ∧
    (s.clearChannel i).seq = s.seq ∧ (s.clearChannel i).disp = s.disp ∧ (s.clearChannel i).comp = s.comp ∧
    (s.clearChannel i).prn = s.prn := by
  unfold State.clearChannel
  try dsimp only
  repeat' split
  all_goals simp

@[simp] theorem State.clearAll_frame (s : State) :
    (s.clearAll).pending = s.pending ∧ (s.clearAll).clk = s.clk ∧ (s.clearAll).time = s.time ∧
    (s.clearAll).cause = s.cause ∧ (s.clearAll).slots = s.slots ∧ (s.clearAll).gauge = s.gauge ∧
    (s.clearAll).nv = s.nv ∧ (s.clearAll).seat = s.seat ∧ (s.clearAll).drv = s.drv ∧
    (s.clearAll).dtest = s.dtest ∧ (s.clearAll).tab = s.tab ∧ (s.clearAll).weigh = s.weigh ∧
    (s.clearAll).run = s.run ∧ (s.clearAll).plate = s.plate ∧ (s.clearAll).seq = s.seq ∧
    (s.clearAll).disp = s.disp ∧ (s.clearAll).comp = s.comp ∧ (s.clearAll).prn = s.prn := by
  unfold State.clearAll
  exact ⟨foldl_keeps _ State.pending (by simp) _ _,
    foldl_keeps _ State.clk (by simp) _ _,
    foldl_keeps _ State.time (by simp) _ _,
    foldl_keeps _ State.cause (by simp) _ _,
    foldl_keeps _ State.slots (by simp) _ _,
    foldl_keeps _ State.gauge (by simp) _ _,
    foldl_keeps _ State.nv (by simp) _ _,
    foldl_keeps _ State.seat (by simp) _ _,
    foldl_keeps _ State.drv (by simp) _ _,
    foldl_keeps _ State.dtest (by simp) _ _,
    foldl_keeps _ State.tab (by simp) _ _,
    foldl_keeps _ State.weigh (by simp) _ _,
    foldl_keeps _ State.run (by simp) _ _,
    foldl_keeps _ State.plate (by simp) _ _,
    foldl_keeps _ State.seq (by simp) _ _,
    foldl_keeps _ State.disp (by simp) _ _,
    foldl_keeps _ State.comp (by simp) _ _,
    foldl_keeps _ State.prn (by simp) _ _⟩

@[simp] theorem State.releaseLockout_frame (s : State) :
    (s.releaseLockout).pending = s.pending ∧ (s.releaseLockout).clk = s.clk ∧ (s.releaseLockout).time = s.time ∧
    (s.releaseLockout).cause = s.cause ∧ (s.releaseLockout).gauge = s.gauge ∧ (s.releaseLockout).eng = s.eng ∧
    (s.releaseLockout).nv = s.nv ∧ (s.releaseLockout).seat = s.seat ∧ (s.releaseLockout).weigh = s.weigh ∧
    (s.releaseLockout).comp = s.comp ∧ (s.releaseLockout).prn = s.prn := by
  unfold State.releaseLockout
  try dsimp only
  repeat' split
  all_goals simp

@[simp] theorem State.takeClearFaults_frame (s : State) (n : Nat) :
    (s.takeClearFaults n).pending = s.pending ∧ (s.takeClearFaults n).clk = s.clk ∧
    (s.takeClearFaults n).time = s.time ∧ (s.takeClearFaults n).cause = s.cause ∧
    (s.takeClearFaults n).gauge = s.gauge ∧ (s.takeClearFaults n).nv = s.nv ∧
    (s.takeClearFaults n).seat = s.seat ∧ (s.takeClearFaults n).weigh = s.weigh ∧
    (s.takeClearFaults n).comp = s.comp ∧ (s.takeClearFaults n).prn = s.prn := by
  simp [State.takeClearFaults]

end Sys2Proof.Machine
end

