-- ==== Sys2Proof/Laws/FrameStore.lean ====
section
/-! SUPPORT. Laws/FrameStore.lean: what each operation of Machine/Composer, Machine/Nv leaves unchanged. -/

namespace Sys2Proof.Machine

@[simp] theorem State.readRecord_frame (s : State) (k : Nat) :
    (s.readRecord k).pending = s.pending ∧ (s.readRecord k).clk = s.clk ∧ (s.readRecord k).time = s.time ∧
    (s.readRecord k).cause = s.cause ∧ (s.readRecord k).slots = s.slots ∧ (s.readRecord k).jr = s.jr ∧
    (s.readRecord k).att = s.att ∧ (s.readRecord k).gauge = s.gauge ∧ (s.readRecord k).eng = s.eng ∧
    (s.readRecord k).nv = s.nv ∧ (s.readRecord k).seat = s.seat ∧ (s.readRecord k).drv = s.drv ∧
    (s.readRecord k).dtest = s.dtest ∧ (s.readRecord k).tab = s.tab ∧ (s.readRecord k).weigh = s.weigh ∧
    (s.readRecord k).run = s.run ∧ (s.readRecord k).plate = s.plate ∧ (s.readRecord k).seq = s.seq ∧
    (s.readRecord k).disp = s.disp ∧ (s.readRecord k).prn = s.prn := by
  unfold State.readRecord
  try dsimp only
  repeat' split
  all_goals simp

@[simp] theorem State.stateRead_frame (s : State) :
    (s.stateRead).pending = s.pending ∧ (s.stateRead).clk = s.clk ∧ (s.stateRead).time = s.time ∧
    (s.stateRead).cause = s.cause ∧ (s.stateRead).slots = s.slots ∧ (s.stateRead).jr = s.jr ∧
    (s.stateRead).att = s.att ∧ (s.stateRead).gauge = s.gauge ∧ (s.stateRead).eng = s.eng ∧
    (s.stateRead).nv = s.nv ∧ (s.stateRead).seat = s.seat ∧ (s.stateRead).drv = s.drv ∧
    (s.stateRead).dtest = s.dtest ∧ (s.stateRead).tab = s.tab ∧ (s.stateRead).weigh = s.weigh ∧
    (s.stateRead).run = s.run ∧ (s.stateRead).plate = s.plate ∧ (s.stateRead).seq = s.seq ∧
    (s.stateRead).disp = s.disp ∧ (s.stateRead).prn = s.prn := by
  unfold State.stateRead
  exact ⟨foldl_keeps _ State.pending (by simp) _ _,
    foldl_keeps _ State.clk (by simp) _ _,
    foldl_keeps _ State.time (by simp) _ _,
    foldl_keeps _ State.cause (by simp) _ _,
    foldl_keeps _ State.slots (by simp) _ _,
    foldl_keeps _ State.jr (by simp) _ _,
    foldl_keeps _ State.att (by simp) _ _,
    foldl_keeps _ State.gauge (by simp) _ _,
    foldl_keeps _ State.eng (by simp) _ _,
    foldl_keeps _ State.nv (by simp) _ _,
    foldl_keeps _ State.seat (by simp) _ _,
    foldl_keeps _ State.drv (by simp) _ _,
    foldl_keeps _ State.dtest (by simp) _ _,
    foldl_keeps _ State.tab (by simp) _ _,
    foldl_keeps _ State.weigh (by simp) _ _,
    foldl_keeps _ State.run (by simp) _ _,
    foldl_keeps _ State.plate (by simp) _ _,
    foldl_keeps _ State.seq (by simp) _ _,
    foldl_keeps _ State.disp (by simp) _ _,
    foldl_keeps _ State.prn (by simp) _ _⟩

@[simp] theorem State.clearCert_frame (s : State) (k : Nat) (st : RecordState) :
    (s.clearCert k st).pending = s.pending ∧ (s.clearCert k st).clk = s.clk ∧ (s.clearCert k st).time = s.time ∧
    (s.clearCert k st).cause = s.cause ∧ (s.clearCert k st).slots = s.slots ∧ (s.clearCert k st).jr = s.jr ∧
    (s.clearCert k st).att = s.att ∧ (s.clearCert k st).gauge = s.gauge ∧ (s.clearCert k st).eng = s.eng ∧
    (s.clearCert k st).nv = s.nv ∧ (s.clearCert k st).seat = s.seat ∧ (s.clearCert k st).drv = s.drv ∧
    (s.clearCert k st).dtest = s.dtest ∧ (s.clearCert k st).tab = s.tab ∧ (s.clearCert k st).weigh = s.weigh ∧
    (s.clearCert k st).run = s.run ∧ (s.clearCert k st).plate = s.plate ∧ (s.clearCert k st).seq = s.seq ∧
    (s.clearCert k st).disp = s.disp ∧ (s.clearCert k st).prn = s.prn := by
  simp [State.clearCert]

@[simp] theorem State.clearFill_frame (s : State) (k : Nat) :
    (s.clearFill k).pending = s.pending ∧ (s.clearFill k).clk = s.clk ∧ (s.clearFill k).time = s.time ∧
    (s.clearFill k).cause = s.cause ∧ (s.clearFill k).slots = s.slots ∧ (s.clearFill k).jr = s.jr ∧
    (s.clearFill k).att = s.att ∧ (s.clearFill k).gauge = s.gauge ∧ (s.clearFill k).eng = s.eng ∧
    (s.clearFill k).nv = s.nv ∧ (s.clearFill k).seat = s.seat ∧ (s.clearFill k).drv = s.drv ∧
    (s.clearFill k).dtest = s.dtest ∧ (s.clearFill k).tab = s.tab ∧ (s.clearFill k).weigh = s.weigh ∧
    (s.clearFill k).run = s.run ∧ (s.clearFill k).plate = s.plate ∧ (s.clearFill k).seq = s.seq ∧
    (s.clearFill k).disp = s.disp ∧ (s.clearFill k).prn = s.prn := by
  simp [State.clearFill]

@[simp] theorem State.endCompose_frame (s : State) (c : ComposeOp) (o : ReqOutcome) (d : Detail) :
    (s.endCompose c o d).pending = s.pending ∧ (s.endCompose c o d).clk = s.clk ∧
    (s.endCompose c o d).time = s.time ∧ (s.endCompose c o d).cause = s.cause ∧
    (s.endCompose c o d).gauge = s.gauge ∧ (s.endCompose c o d).eng = s.eng ∧ (s.endCompose c o d).nv = s.nv ∧
    (s.endCompose c o d).seat = s.seat ∧ (s.endCompose c o d).drv = s.drv ∧
    (s.endCompose c o d).dtest = s.dtest ∧ (s.endCompose c o d).tab = s.tab ∧
    (s.endCompose c o d).weigh = s.weigh ∧ (s.endCompose c o d).run = s.run ∧
    (s.endCompose c o d).plate = s.plate ∧ (s.endCompose c o d).seq = s.seq ∧
    (s.endCompose c o d).disp = s.disp ∧ (s.endCompose c o d).prn = s.prn := by
  simp [State.endCompose]

@[simp] theorem State.fill_frame (s : State) (c : ComposeOp) (value : Nat) :
    (s.fill c value).pending = s.pending ∧ (s.fill c value).clk = s.clk ∧ (s.fill c value).time = s.time ∧
    (s.fill c value).cause = s.cause ∧ (s.fill c value).slots = s.slots ∧ (s.fill c value).jr = s.jr ∧
    (s.fill c value).att = s.att ∧ (s.fill c value).gauge = s.gauge ∧ (s.fill c value).eng = s.eng ∧
    (s.fill c value).nv = s.nv ∧ (s.fill c value).seat = s.seat ∧ (s.fill c value).drv = s.drv ∧
    (s.fill c value).dtest = s.dtest ∧ (s.fill c value).tab = s.tab ∧ (s.fill c value).weigh = s.weigh ∧
    (s.fill c value).run = s.run ∧ (s.fill c value).plate = s.plate ∧ (s.fill c value).seq = s.seq ∧
    (s.fill c value).disp = s.disp ∧ (s.fill c value).prn = s.prn := by
  simp [State.fill]

@[simp] theorem State.issueCert_frame (s : State) (c : ComposeOp) (n : Nat) :
    (s.issueCert c n).pending = s.pending ∧ (s.issueCert c n).clk = s.clk ∧ (s.issueCert c n).time = s.time ∧
    (s.issueCert c n).cause = s.cause ∧ (s.issueCert c n).gauge = s.gauge ∧ (s.issueCert c n).eng = s.eng ∧
    (s.issueCert c n).nv = s.nv ∧ (s.issueCert c n).seat = s.seat ∧ (s.issueCert c n).drv = s.drv ∧
    (s.issueCert c n).dtest = s.dtest ∧ (s.issueCert c n).weigh = s.weigh ∧ (s.issueCert c n).run = s.run ∧
    (s.issueCert c n).plate = s.plate ∧ (s.issueCert c n).seq = s.seq ∧ (s.issueCert c n).disp = s.disp ∧
    (s.issueCert c n).prn = s.prn := by
  unfold State.issueCert
  try dsimp only
  repeat' split
  all_goals simp

@[simp] theorem State.storeWrite_frame (s : State) (op : NvOp) (cut : NvCut) :
    (s.storeWrite op cut).pending = s.pending ∧ (s.storeWrite op cut).mem = s.mem ∧
    (s.storeWrite op cut).clk = s.clk ∧ (s.storeWrite op cut).time = s.time ∧
    (s.storeWrite op cut).cause = s.cause ∧ (s.storeWrite op cut).slots = s.slots ∧
    (s.storeWrite op cut).jr = s.jr ∧ (s.storeWrite op cut).att = s.att ∧ (s.storeWrite op cut).gauge = s.gauge ∧
    (s.storeWrite op cut).eng = s.eng ∧ (s.storeWrite op cut).seat = s.seat ∧ (s.storeWrite op cut).drv = s.drv ∧
    (s.storeWrite op cut).dtest = s.dtest ∧ (s.storeWrite op cut).tab = s.tab ∧
    (s.storeWrite op cut).weigh = s.weigh ∧ (s.storeWrite op cut).run = s.run ∧
    (s.storeWrite op cut).plate = s.plate ∧ (s.storeWrite op cut).seq = s.seq ∧
    (s.storeWrite op cut).disp = s.disp ∧ (s.storeWrite op cut).comp = s.comp ∧ (s.storeWrite op cut).prn = s.prn := by
  simp [State.storeWrite]

@[simp] theorem State.startNv_frame (s : State) (op : NvOp) :
    (s.startNv op).pending = s.pending ∧ (s.startNv op).mem = s.mem ∧ (s.startNv op).clk = s.clk ∧
    (s.startNv op).time = s.time ∧ (s.startNv op).cause = s.cause ∧ (s.startNv op).slots = s.slots ∧
    (s.startNv op).jr = s.jr ∧ (s.startNv op).att = s.att ∧ (s.startNv op).gauge = s.gauge ∧
    (s.startNv op).eng = s.eng ∧ (s.startNv op).seat = s.seat ∧ (s.startNv op).drv = s.drv ∧
    (s.startNv op).dtest = s.dtest ∧ (s.startNv op).tab = s.tab ∧ (s.startNv op).weigh = s.weigh ∧
    (s.startNv op).run = s.run ∧ (s.startNv op).plate = s.plate ∧ (s.startNv op).seq = s.seq ∧
    (s.startNv op).disp = s.disp ∧ (s.startNv op).comp = s.comp ∧ (s.startNv op).prn = s.prn := by
  unfold State.startNv
  try dsimp only
  repeat' split
  all_goals simp

@[simp] theorem State.releasePort_frame (s : State) :
    (s.releasePort).pending = s.pending ∧ (s.releasePort).mem = s.mem ∧ (s.releasePort).clk = s.clk ∧
    (s.releasePort).time = s.time ∧ (s.releasePort).cause = s.cause ∧ (s.releasePort).slots = s.slots ∧
    (s.releasePort).jr = s.jr ∧ (s.releasePort).att = s.att ∧ (s.releasePort).gauge = s.gauge ∧
    (s.releasePort).eng = s.eng ∧ (s.releasePort).seat = s.seat ∧ (s.releasePort).drv = s.drv ∧
    (s.releasePort).dtest = s.dtest ∧ (s.releasePort).tab = s.tab ∧ (s.releasePort).weigh = s.weigh ∧
    (s.releasePort).run = s.run ∧ (s.releasePort).plate = s.plate ∧ (s.releasePort).seq = s.seq ∧
    (s.releasePort).disp = s.disp ∧ (s.releasePort).comp = s.comp ∧ (s.releasePort).prn = s.prn := by
  simp [State.releasePort]

@[simp] theorem State.nextNv_frame (s : State) (op : NvOp) :
    (s.nextNv op).pending = s.pending ∧ (s.nextNv op).mem = s.mem ∧ (s.nextNv op).clk = s.clk ∧
    (s.nextNv op).time = s.time ∧ (s.nextNv op).cause = s.cause ∧ (s.nextNv op).slots = s.slots ∧
    (s.nextNv op).jr = s.jr ∧ (s.nextNv op).att = s.att ∧ (s.nextNv op).gauge = s.gauge ∧
    (s.nextNv op).eng = s.eng ∧ (s.nextNv op).seat = s.seat ∧ (s.nextNv op).drv = s.drv ∧
    (s.nextNv op).dtest = s.dtest ∧ (s.nextNv op).tab = s.tab ∧ (s.nextNv op).weigh = s.weigh ∧
    (s.nextNv op).run = s.run ∧ (s.nextNv op).plate = s.plate ∧ (s.nextNv op).seq = s.seq ∧
    (s.nextNv op).disp = s.disp ∧ (s.nextNv op).comp = s.comp ∧ (s.nextNv op).prn = s.prn := by
  simp [State.nextNv]

@[simp] theorem State.correctedEntry_frame (s : State) (marker word : Nat) (r : ReadResult) :
    (s.correctedEntry marker word r).pending = s.pending ∧ (s.correctedEntry marker word r).clk = s.clk ∧
    (s.correctedEntry marker word r).time = s.time ∧ (s.correctedEntry marker word r).cause = s.cause ∧
    (s.correctedEntry marker word r).slots = s.slots ∧ (s.correctedEntry marker word r).gauge = s.gauge ∧
    (s.correctedEntry marker word r).eng = s.eng ∧ (s.correctedEntry marker word r).nv = s.nv ∧
    (s.correctedEntry marker word r).seat = s.seat ∧ (s.correctedEntry marker word r).drv = s.drv ∧
    (s.correctedEntry marker word r).dtest = s.dtest ∧ (s.correctedEntry marker word r).tab = s.tab ∧
    (s.correctedEntry marker word r).weigh = s.weigh ∧ (s.correctedEntry marker word r).run = s.run ∧
    (s.correctedEntry marker word r).plate = s.plate ∧ (s.correctedEntry marker word r).seq = s.seq ∧
    (s.correctedEntry marker word r).disp = s.disp ∧ (s.correctedEntry marker word r).comp = s.comp ∧
    (s.correctedEntry marker word r).prn = s.prn := by
  unfold State.correctedEntry
  try dsimp only
  repeat' split
  all_goals simp

@[simp] theorem State.nvErrorEntry_frame (s : State) (marker word : Nat) :
    (s.nvErrorEntry marker word).pending = s.pending ∧ (s.nvErrorEntry marker word).clk = s.clk ∧
    (s.nvErrorEntry marker word).time = s.time ∧ (s.nvErrorEntry marker word).cause = s.cause ∧
    (s.nvErrorEntry marker word).slots = s.slots ∧ (s.nvErrorEntry marker word).gauge = s.gauge ∧
    (s.nvErrorEntry marker word).eng = s.eng ∧ (s.nvErrorEntry marker word).nv = s.nv ∧
    (s.nvErrorEntry marker word).seat = s.seat ∧ (s.nvErrorEntry marker word).drv = s.drv ∧
    (s.nvErrorEntry marker word).dtest = s.dtest ∧ (s.nvErrorEntry marker word).tab = s.tab ∧
    (s.nvErrorEntry marker word).weigh = s.weigh ∧ (s.nvErrorEntry marker word).run = s.run ∧
    (s.nvErrorEntry marker word).plate = s.plate ∧ (s.nvErrorEntry marker word).seq = s.seq ∧
    (s.nvErrorEntry marker word).disp = s.disp ∧ (s.nvErrorEntry marker word).comp = s.comp ∧
    (s.nvErrorEntry marker word).prn = s.prn := by
  simp [State.nvErrorEntry]

@[simp] theorem State.readEntries_frame (s : State) (marker word : Nat) (r : ReadResult) :
    (s.readEntries marker word r).pending = s.pending ∧ (s.readEntries marker word r).clk = s.clk ∧
    (s.readEntries marker word r).time = s.time ∧ (s.readEntries marker word r).cause = s.cause ∧
    (s.readEntries marker word r).slots = s.slots ∧ (s.readEntries marker word r).gauge = s.gauge ∧
    (s.readEntries marker word r).eng = s.eng ∧ (s.readEntries marker word r).nv = s.nv ∧
    (s.readEntries marker word r).seat = s.seat ∧ (s.readEntries marker word r).drv = s.drv ∧
    (s.readEntries marker word r).dtest = s.dtest ∧ (s.readEntries marker word r).tab = s.tab ∧
    (s.readEntries marker word r).weigh = s.weigh ∧ (s.readEntries marker word r).run = s.run ∧
    (s.readEntries marker word r).plate = s.plate ∧ (s.readEntries marker word r).seq = s.seq ∧
    (s.readEntries marker word r).disp = s.disp ∧ (s.readEntries marker word r).comp = s.comp ∧
    (s.readEntries marker word r).prn = s.prn := by
  unfold State.readEntries
  try dsimp only
  repeat' split
  all_goals simp

@[simp] theorem State.loadZeroWord_frame (s : State) (ch : Nat) (r : ReadResult) :
    (s.loadZeroWord ch r).pending = s.pending ∧ (s.loadZeroWord ch r).clk = s.clk ∧
    (s.loadZeroWord ch r).time = s.time ∧ (s.loadZeroWord ch r).cause = s.cause ∧
    (s.loadZeroWord ch r).slots = s.slots ∧ (s.loadZeroWord ch r).gauge = s.gauge ∧
    (s.loadZeroWord ch r).nv = s.nv ∧ (s.loadZeroWord ch r).seat = s.seat ∧ (s.loadZeroWord ch r).drv = s.drv ∧
    (s.loadZeroWord ch r).dtest = s.dtest ∧ (s.loadZeroWord ch r).tab = s.tab ∧
    (s.loadZeroWord ch r).weigh = s.weigh ∧ (s.loadZeroWord ch r).run = s.run ∧
    (s.loadZeroWord ch r).plate = s.plate ∧ (s.loadZeroWord ch r).seq = s.seq ∧
    (s.loadZeroWord ch r).disp = s.disp ∧ (s.loadZeroWord ch r).comp = s.comp ∧ (s.loadZeroWord ch r).prn = s.prn := by
  simp [State.loadZeroWord]

@[simp] theorem State.loadGainWord_frame (s : State) (ch : Nat) (r : ReadResult) :
    (s.loadGainWord ch r).pending = s.pending ∧ (s.loadGainWord ch r).clk = s.clk ∧
    (s.loadGainWord ch r).time = s.time ∧ (s.loadGainWord ch r).cause = s.cause ∧
    (s.loadGainWord ch r).slots = s.slots ∧ (s.loadGainWord ch r).gauge = s.gauge ∧
    (s.loadGainWord ch r).nv = s.nv ∧ (s.loadGainWord ch r).seat = s.seat ∧ (s.loadGainWord ch r).drv = s.drv ∧
    (s.loadGainWord ch r).dtest = s.dtest ∧ (s.loadGainWord ch r).tab = s.tab ∧
    (s.loadGainWord ch r).weigh = s.weigh ∧ (s.loadGainWord ch r).run = s.run ∧
    (s.loadGainWord ch r).plate = s.plate ∧ (s.loadGainWord ch r).seq = s.seq ∧
    (s.loadGainWord ch r).disp = s.disp ∧ (s.loadGainWord ch r).comp = s.comp ∧ (s.loadGainWord ch r).prn = s.prn := by
  unfold State.loadGainWord
  try dsimp only
  repeat' split
  all_goals simp

@[simp] theorem State.loadIdentity_frame (s : State) (r : ReadResult) :
    (s.loadIdentity r).pending = s.pending ∧ (s.loadIdentity r).clk = s.clk ∧ (s.loadIdentity r).time = s.time ∧
    (s.loadIdentity r).cause = s.cause ∧ (s.loadIdentity r).slots = s.slots ∧
    (s.loadIdentity r).gauge = s.gauge ∧ (s.loadIdentity r).eng = s.eng ∧ (s.loadIdentity r).nv = s.nv ∧
    (s.loadIdentity r).seat = s.seat ∧ (s.loadIdentity r).drv = s.drv ∧ (s.loadIdentity r).dtest = s.dtest ∧
    (s.loadIdentity r).tab = s.tab ∧ (s.loadIdentity r).weigh = s.weigh ∧ (s.loadIdentity r).run = s.run ∧
    (s.loadIdentity r).seq = s.seq ∧ (s.loadIdentity r).disp = s.disp ∧ (s.loadIdentity r).comp = s.comp ∧
    (s.loadIdentity r).prn = s.prn := by
  unfold State.loadIdentity
  try dsimp only
  repeat' split
  all_goals simp

@[simp] theorem State.endLoad_frame (s : State) :
    (s.endLoad).pending = s.pending ∧ (s.endLoad).clk = s.clk ∧ (s.endLoad).time = s.time ∧
    (s.endLoad).cause = s.cause ∧ (s.endLoad).gauge = s.gauge ∧ (s.endLoad).seat = s.seat ∧
    (s.endLoad).comp = s.comp ∧ (s.endLoad).prn = s.prn := by
  simp [State.endLoad]

@[simp] theorem State.loadStep_frame (s : State) (k : Nat) (r : ReadResult) :
    (s.loadStep k r).pending = s.pending ∧ (s.loadStep k r).clk = s.clk ∧ (s.loadStep k r).time = s.time ∧
    (s.loadStep k r).cause = s.cause ∧ (s.loadStep k r).gauge = s.gauge ∧ (s.loadStep k r).seat = s.seat ∧
    (s.loadStep k r).comp = s.comp ∧ (s.loadStep k r).prn = s.prn := by
  unfold State.loadStep
  try dsimp only
  repeat' split
  all_goals simp

@[simp] theorem State.loadExpires_frame (s : State) :
    (s.loadExpires).pending = s.pending ∧ (s.loadExpires).clk = s.clk ∧ (s.loadExpires).time = s.time ∧
    (s.loadExpires).cause = s.cause ∧ (s.loadExpires).gauge = s.gauge ∧ (s.loadExpires).seat = s.seat ∧
    (s.loadExpires).comp = s.comp ∧ (s.loadExpires).prn = s.prn := by
  unfold State.loadExpires
  try dsimp only
  repeat' split
  all_goals simp

@[simp] theorem State.calWriteEnds_frame (s : State) (ch : Nat) (success : Bool) :
    (s.calWriteEnds ch success).pending = s.pending ∧ (s.calWriteEnds ch success).clk = s.clk ∧
    (s.calWriteEnds ch success).time = s.time ∧ (s.calWriteEnds ch success).cause = s.cause ∧
    (s.calWriteEnds ch success).gauge = s.gauge ∧ (s.calWriteEnds ch success).seat = s.seat ∧
    (s.calWriteEnds ch success).comp = s.comp ∧ (s.calWriteEnds ch success).prn = s.prn := by
  unfold State.calWriteEnds
  try dsimp only
  repeat' split
  all_goals simp

@[simp] theorem State.counterReadEnds_frame (s : State) (c : ComposeOp) (value : Option Nat) (failed : Nat) :
    (s.counterReadEnds c value failed).pending = s.pending ∧ (s.counterReadEnds c value failed).clk = s.clk ∧
    (s.counterReadEnds c value failed).time = s.time ∧ (s.counterReadEnds c value failed).cause = s.cause ∧
    (s.counterReadEnds c value failed).gauge = s.gauge ∧ (s.counterReadEnds c value failed).eng = s.eng ∧
    (s.counterReadEnds c value failed).seat = s.seat ∧ (s.counterReadEnds c value failed).drv = s.drv ∧
    (s.counterReadEnds c value failed).dtest = s.dtest ∧ (s.counterReadEnds c value failed).tab = s.tab ∧
    (s.counterReadEnds c value failed).weigh = s.weigh ∧ (s.counterReadEnds c value failed).run = s.run ∧
    (s.counterReadEnds c value failed).plate = s.plate ∧ (s.counterReadEnds c value failed).seq = s.seq ∧
    (s.counterReadEnds c value failed).disp = s.disp ∧ (s.counterReadEnds c value failed).prn = s.prn := by
  unfold State.counterReadEnds
  try dsimp only
  repeat' split
  all_goals simp

@[simp] theorem State.counterReadExpires_frame (s : State) :
    (s.counterReadExpires).pending = s.pending ∧ (s.counterReadExpires).clk = s.clk ∧
    (s.counterReadExpires).time = s.time ∧ (s.counterReadExpires).cause = s.cause ∧
    (s.counterReadExpires).gauge = s.gauge ∧ (s.counterReadExpires).eng = s.eng ∧
    (s.counterReadExpires).seat = s.seat ∧ (s.counterReadExpires).drv = s.drv ∧
    (s.counterReadExpires).dtest = s.dtest ∧ (s.counterReadExpires).tab = s.tab ∧
    (s.counterReadExpires).weigh = s.weigh ∧ (s.counterReadExpires).run = s.run ∧
    (s.counterReadExpires).plate = s.plate ∧ (s.counterReadExpires).seq = s.seq ∧
    (s.counterReadExpires).disp = s.disp ∧ (s.counterReadExpires).prn = s.prn := by
  unfold State.counterReadExpires
  try dsimp only
  repeat' split
  all_goals simp

@[simp] theorem State.counterWriteEnds_frame (s : State) (c : ComposeOp) (value : Nat) (success : Bool) :
    (s.counterWriteEnds c value success).pending = s.pending ∧ (s.counterWriteEnds c value success).clk = s.clk ∧
    (s.counterWriteEnds c value success).time = s.time ∧ (s.counterWriteEnds c value success).cause = s.cause ∧
    (s.counterWriteEnds c value success).gauge = s.gauge ∧ (s.counterWriteEnds c value success).eng = s.eng ∧
    (s.counterWriteEnds c value success).seat = s.seat ∧ (s.counterWriteEnds c value success).drv = s.drv ∧
    (s.counterWriteEnds c value success).dtest = s.dtest ∧ (s.counterWriteEnds c value success).weigh = s.weigh ∧
    (s.counterWriteEnds c value success).run = s.run ∧ (s.counterWriteEnds c value success).plate = s.plate ∧
    (s.counterWriteEnds c value success).seq = s.seq ∧ (s.counterWriteEnds c value success).disp = s.disp ∧
    (s.counterWriteEnds c value success).prn = s.prn := by
  unfold State.counterWriteEnds
  try dsimp only
  repeat' split
  all_goals simp

@[simp] theorem State.calWriteExpires_frame (s : State) (cut : NvCut) :
    (s.calWriteExpires cut).pending = s.pending ∧ (s.calWriteExpires cut).clk = s.clk ∧
    (s.calWriteExpires cut).time = s.time ∧ (s.calWriteExpires cut).cause = s.cause ∧
    (s.calWriteExpires cut).gauge = s.gauge ∧ (s.calWriteExpires cut).seat = s.seat ∧
    (s.calWriteExpires cut).comp = s.comp ∧ (s.calWriteExpires cut).prn = s.prn := by
  unfold State.calWriteExpires
  try dsimp only
  repeat' split
  all_goals simp


@[simp] theorem State.counterWriteExpires_frame (s : State) (cut : NvCut) :
    (s.counterWriteExpires cut).pending = s.pending ∧ (s.counterWriteExpires cut).clk = s.clk ∧
    (s.counterWriteExpires cut).time = s.time ∧ (s.counterWriteExpires cut).cause = s.cause ∧
    (s.counterWriteExpires cut).gauge = s.gauge ∧ (s.counterWriteExpires cut).eng = s.eng ∧
    (s.counterWriteExpires cut).seat = s.seat ∧ (s.counterWriteExpires cut).drv = s.drv ∧
    (s.counterWriteExpires cut).dtest = s.dtest ∧ (s.counterWriteExpires cut).weigh = s.weigh ∧
    (s.counterWriteExpires cut).run = s.run ∧ (s.counterWriteExpires cut).plate = s.plate ∧
    (s.counterWriteExpires cut).seq = s.seq ∧ (s.counterWriteExpires cut).disp = s.disp ∧
    (s.counterWriteExpires cut).prn = s.prn := by
  unfold State.counterWriteExpires
  try dsimp only
  repeat' split
  all_goals simp


@[simp] theorem State.brokenEnds_frame (s : State) (cut : NvCut) :
    (s.brokenEnds cut).pending = s.pending ∧ (s.brokenEnds cut).mem = s.mem ∧ (s.brokenEnds cut).clk = s.clk ∧
    (s.brokenEnds cut).time = s.time ∧ (s.brokenEnds cut).cause = s.cause ∧ (s.brokenEnds cut).slots = s.slots ∧
    (s.brokenEnds cut).jr = s.jr ∧ (s.brokenEnds cut).att = s.att ∧ (s.brokenEnds cut).gauge = s.gauge ∧
    (s.brokenEnds cut).eng = s.eng ∧ (s.brokenEnds cut).seat = s.seat ∧ (s.brokenEnds cut).drv = s.drv ∧
    (s.brokenEnds cut).dtest = s.dtest ∧ (s.brokenEnds cut).tab = s.tab ∧ (s.brokenEnds cut).weigh = s.weigh ∧
    (s.brokenEnds cut).run = s.run ∧ (s.brokenEnds cut).plate = s.plate ∧ (s.brokenEnds cut).seq = s.seq ∧
    (s.brokenEnds cut).disp = s.disp ∧ (s.brokenEnds cut).comp = s.comp ∧ (s.brokenEnds cut).prn = s.prn := by
  unfold State.brokenEnds
  try dsimp only
  repeat' split
  all_goals simp


end Sys2Proof.Machine
end

