-- ==== Sys2Proof/Laws/FramePrinter.lean ====
section
/-! SUPPORT. Laws/FramePrinter.lean: what each operation of Machine/Printer leaves unchanged. -/

namespace Sys2Proof.Machine

@[simp] theorem State.sendWire_frame (s : State) (w : WireFrame) :
    (s.sendWire w).pending = s.pending ∧ (s.sendWire w).mem = s.mem ∧ (s.sendWire w).clk = s.clk ∧
    (s.sendWire w).time = s.time ∧ (s.sendWire w).cause = s.cause ∧ (s.sendWire w).slots = s.slots ∧
    (s.sendWire w).jr = s.jr ∧ (s.sendWire w).att = s.att ∧ (s.sendWire w).gauge = s.gauge ∧
    (s.sendWire w).eng = s.eng ∧ (s.sendWire w).nv = s.nv ∧ (s.sendWire w).seat = s.seat ∧
    (s.sendWire w).drv = s.drv ∧ (s.sendWire w).dtest = s.dtest ∧ (s.sendWire w).tab = s.tab ∧
    (s.sendWire w).weigh = s.weigh ∧ (s.sendWire w).run = s.run ∧ (s.sendWire w).plate = s.plate ∧
    (s.sendWire w).seq = s.seq ∧ (s.sendWire w).disp = s.disp ∧ (s.sendWire w).comp = s.comp := by
  simp [State.sendWire]

@[simp] theorem State.sendLine_frame (s : State) :
    (s.sendLine).pending = s.pending ∧ (s.sendLine).mem = s.mem ∧ (s.sendLine).clk = s.clk ∧
    (s.sendLine).time = s.time ∧ (s.sendLine).cause = s.cause ∧ (s.sendLine).slots = s.slots ∧
    (s.sendLine).jr = s.jr ∧ (s.sendLine).att = s.att ∧ (s.sendLine).gauge = s.gauge ∧ (s.sendLine).eng = s.eng ∧
    (s.sendLine).nv = s.nv ∧ (s.sendLine).seat = s.seat ∧ (s.sendLine).drv = s.drv ∧
    (s.sendLine).dtest = s.dtest ∧ (s.sendLine).tab = s.tab ∧ (s.sendLine).weigh = s.weigh ∧
    (s.sendLine).run = s.run ∧ (s.sendLine).plate = s.plate ∧ (s.sendLine).seq = s.seq ∧
    (s.sendLine).disp = s.disp ∧ (s.sendLine).comp = s.comp := by
  simp [State.sendLine]

@[simp] theorem State.sendNewLine_frame (s : State) (text : List Byte) (cancel : Bool) :
    (s.sendNewLine text cancel).pending = s.pending ∧ (s.sendNewLine text cancel).mem = s.mem ∧
    (s.sendNewLine text cancel).clk = s.clk ∧ (s.sendNewLine text cancel).time = s.time ∧
    (s.sendNewLine text cancel).cause = s.cause ∧ (s.sendNewLine text cancel).slots = s.slots ∧
    (s.sendNewLine text cancel).jr = s.jr ∧ (s.sendNewLine text cancel).att = s.att ∧
    (s.sendNewLine text cancel).gauge = s.gauge ∧ (s.sendNewLine text cancel).eng = s.eng ∧
    (s.sendNewLine text cancel).nv = s.nv ∧ (s.sendNewLine text cancel).seat = s.seat ∧
    (s.sendNewLine text cancel).drv = s.drv ∧ (s.sendNewLine text cancel).dtest = s.dtest ∧
    (s.sendNewLine text cancel).tab = s.tab ∧ (s.sendNewLine text cancel).weigh = s.weigh ∧
    (s.sendNewLine text cancel).run = s.run ∧ (s.sendNewLine text cancel).plate = s.plate ∧
    (s.sendNewLine text cancel).seq = s.seq ∧ (s.sendNewLine text cancel).disp = s.disp ∧
    (s.sendNewLine text cancel).comp = s.comp := by
  simp [State.sendNewLine]

@[simp] theorem State.sendPoll_frame (s : State) :
    (s.sendPoll).pending = s.pending ∧ (s.sendPoll).mem = s.mem ∧ (s.sendPoll).clk = s.clk ∧
    (s.sendPoll).time = s.time ∧ (s.sendPoll).cause = s.cause ∧ (s.sendPoll).slots = s.slots ∧
    (s.sendPoll).jr = s.jr ∧ (s.sendPoll).att = s.att ∧ (s.sendPoll).gauge = s.gauge ∧ (s.sendPoll).eng = s.eng ∧
    (s.sendPoll).nv = s.nv ∧ (s.sendPoll).seat = s.seat ∧ (s.sendPoll).drv = s.drv ∧
    (s.sendPoll).dtest = s.dtest ∧ (s.sendPoll).tab = s.tab ∧ (s.sendPoll).weigh = s.weigh ∧
    (s.sendPoll).run = s.run ∧ (s.sendPoll).plate = s.plate ∧ (s.sendPoll).seq = s.seq ∧
    (s.sendPoll).disp = s.disp ∧ (s.sendPoll).comp = s.comp := by
  simp [State.sendPoll]

@[simp] theorem State.setLink_frame (s : State) (new : LinkState) :
    (s.setLink new).pending = s.pending ∧ (s.setLink new).clk = s.clk ∧ (s.setLink new).time = s.time ∧
    (s.setLink new).cause = s.cause ∧ (s.setLink new).slots = s.slots ∧ (s.setLink new).gauge = s.gauge ∧
    (s.setLink new).eng = s.eng ∧ (s.setLink new).nv = s.nv ∧ (s.setLink new).seat = s.seat ∧
    (s.setLink new).drv = s.drv ∧ (s.setLink new).dtest = s.dtest ∧ (s.setLink new).tab = s.tab ∧
    (s.setLink new).weigh = s.weigh ∧ (s.setLink new).run = s.run ∧ (s.setLink new).plate = s.plate ∧
    (s.setLink new).seq = s.seq ∧ (s.setLink new).disp = s.disp ∧ (s.setLink new).comp = s.comp := by
  unfold State.setLink
  try dsimp only
  repeat' split
  all_goals simp

@[simp] theorem State.updateJob_frame (s : State) (slot : Nat) (f : Job → Job) :
    (s.updateJob slot f).pending = s.pending ∧ (s.updateJob slot f).mem = s.mem ∧
    (s.updateJob slot f).clk = s.clk ∧ (s.updateJob slot f).time = s.time ∧
    (s.updateJob slot f).cause = s.cause ∧ (s.updateJob slot f).slots = s.slots ∧
    (s.updateJob slot f).jr = s.jr ∧ (s.updateJob slot f).att = s.att ∧ (s.updateJob slot f).gauge = s.gauge ∧
    (s.updateJob slot f).eng = s.eng ∧ (s.updateJob slot f).nv = s.nv ∧ (s.updateJob slot f).seat = s.seat ∧
    (s.updateJob slot f).drv = s.drv ∧ (s.updateJob slot f).dtest = s.dtest ∧ (s.updateJob slot f).tab = s.tab ∧
    (s.updateJob slot f).weigh = s.weigh ∧ (s.updateJob slot f).run = s.run ∧
    (s.updateJob slot f).plate = s.plate ∧ (s.updateJob slot f).seq = s.seq ∧
    (s.updateJob slot f).disp = s.disp ∧ (s.updateJob slot f).comp = s.comp := by
  simp [State.updateJob]

@[simp] theorem State.printEntry_frame (s : State) (j : Job) (st : JobState) :
    (s.printEntry j st).pending = s.pending ∧ (s.printEntry j st).clk = s.clk ∧
    (s.printEntry j st).time = s.time ∧ (s.printEntry j st).cause = s.cause ∧
    (s.printEntry j st).slots = s.slots ∧ (s.printEntry j st).gauge = s.gauge ∧ (s.printEntry j st).eng = s.eng ∧
    (s.printEntry j st).nv = s.nv ∧ (s.printEntry j st).seat = s.seat ∧ (s.printEntry j st).drv = s.drv ∧
    (s.printEntry j st).dtest = s.dtest ∧ (s.printEntry j st).tab = s.tab ∧ (s.printEntry j st).weigh = s.weigh ∧
    (s.printEntry j st).run = s.run ∧ (s.printEntry j st).plate = s.plate ∧ (s.printEntry j st).seq = s.seq ∧
    (s.printEntry j st).disp = s.disp ∧ (s.printEntry j st).comp = s.comp ∧ (s.printEntry j st).prn = s.prn := by
  simp [State.printEntry]

@[simp] theorem State.selectJob_frame (s : State) :
    (s.selectJob).pending = s.pending ∧ (s.selectJob).clk = s.clk ∧ (s.selectJob).time = s.time ∧
    (s.selectJob).cause = s.cause ∧ (s.selectJob).slots = s.slots ∧ (s.selectJob).gauge = s.gauge ∧
    (s.selectJob).eng = s.eng ∧ (s.selectJob).nv = s.nv ∧ (s.selectJob).seat = s.seat ∧
    (s.selectJob).drv = s.drv ∧ (s.selectJob).dtest = s.dtest ∧ (s.selectJob).tab = s.tab ∧
    (s.selectJob).weigh = s.weigh ∧ (s.selectJob).run = s.run ∧ (s.selectJob).plate = s.plate ∧
    (s.selectJob).seq = s.seq ∧ (s.selectJob).disp = s.disp ∧ (s.selectJob).comp = s.comp := by
  unfold State.selectJob
  try dsimp only
  repeat' split
  all_goals simp

@[simp] theorem State.enterReady_frame (s : State) :
    (s.enterReady).pending = s.pending ∧ (s.enterReady).clk = s.clk ∧ (s.enterReady).time = s.time ∧
    (s.enterReady).cause = s.cause ∧ (s.enterReady).slots = s.slots ∧ (s.enterReady).gauge = s.gauge ∧
    (s.enterReady).eng = s.eng ∧ (s.enterReady).nv = s.nv ∧ (s.enterReady).seat = s.seat ∧
    (s.enterReady).drv = s.drv ∧ (s.enterReady).dtest = s.dtest ∧ (s.enterReady).tab = s.tab ∧
    (s.enterReady).weigh = s.weigh ∧ (s.enterReady).run = s.run ∧ (s.enterReady).plate = s.plate ∧
    (s.enterReady).seq = s.seq ∧ (s.enterReady).disp = s.disp ∧ (s.enterReady).comp = s.comp := by
  simp [State.enterReady]

@[simp] theorem State.countPrint_frame (s : State) (k : Nat) :
    (s.countPrint k).pending = s.pending ∧ (s.countPrint k).mem = s.mem ∧ (s.countPrint k).clk = s.clk ∧
    (s.countPrint k).time = s.time ∧ (s.countPrint k).cause = s.cause ∧ (s.countPrint k).slots = s.slots ∧
    (s.countPrint k).jr = s.jr ∧ (s.countPrint k).att = s.att ∧ (s.countPrint k).gauge = s.gauge ∧
    (s.countPrint k).eng = s.eng ∧ (s.countPrint k).nv = s.nv ∧ (s.countPrint k).seat = s.seat ∧
    (s.countPrint k).drv = s.drv ∧ (s.countPrint k).dtest = s.dtest ∧ (s.countPrint k).tab = s.tab ∧
    (s.countPrint k).weigh = s.weigh ∧ (s.countPrint k).run = s.run ∧ (s.countPrint k).plate = s.plate ∧
    (s.countPrint k).seq = s.seq ∧ (s.countPrint k).disp = s.disp ∧ (s.countPrint k).prn = s.prn := by
  simp [State.countPrint]

@[simp] theorem State.endJob_frame (s : State) (j : Job) (st : JobState) (o : ReqOutcome) (d : Detail) :
    (s.endJob j st o d).pending = s.pending ∧ (s.endJob j st o d).clk = s.clk ∧
    (s.endJob j st o d).time = s.time ∧ (s.endJob j st o d).cause = s.cause ∧
    (s.endJob j st o d).gauge = s.gauge ∧ (s.endJob j st o d).eng = s.eng ∧ (s.endJob j st o d).nv = s.nv ∧
    (s.endJob j st o d).seat = s.seat ∧ (s.endJob j st o d).drv = s.drv ∧ (s.endJob j st o d).dtest = s.dtest ∧
    (s.endJob j st o d).tab = s.tab ∧ (s.endJob j st o d).weigh = s.weigh ∧ (s.endJob j st o d).run = s.run ∧
    (s.endJob j st o d).plate = s.plate ∧ (s.endJob j st o d).seq = s.seq ∧ (s.endJob j st o d).disp = s.disp := by
  unfold State.endJob
  try dsimp only
  repeat' split
  all_goals simp

@[simp] theorem State.failJob_frame (s : State) (d : Detail) :
    (s.failJob d).pending = s.pending ∧ (s.failJob d).clk = s.clk ∧ (s.failJob d).time = s.time ∧
    (s.failJob d).cause = s.cause ∧ (s.failJob d).gauge = s.gauge ∧ (s.failJob d).eng = s.eng ∧
    (s.failJob d).nv = s.nv ∧ (s.failJob d).seat = s.seat ∧ (s.failJob d).drv = s.drv ∧
    (s.failJob d).dtest = s.dtest ∧ (s.failJob d).tab = s.tab ∧ (s.failJob d).weigh = s.weigh ∧
    (s.failJob d).run = s.run ∧ (s.failJob d).plate = s.plate ∧ (s.failJob d).seq = s.seq ∧
    (s.failJob d).disp = s.disp := by
  unfold State.failJob
  try dsimp only
  repeat' split
  all_goals simp

@[simp] theorem State.resendLine_frame (s : State) :
    (s.resendLine).pending = s.pending ∧ (s.resendLine).clk = s.clk ∧ (s.resendLine).time = s.time ∧
    (s.resendLine).cause = s.cause ∧ (s.resendLine).slots = s.slots ∧ (s.resendLine).gauge = s.gauge ∧
    (s.resendLine).eng = s.eng ∧ (s.resendLine).nv = s.nv ∧ (s.resendLine).seat = s.seat ∧
    (s.resendLine).drv = s.drv ∧ (s.resendLine).dtest = s.dtest ∧ (s.resendLine).tab = s.tab ∧
    (s.resendLine).weigh = s.weigh ∧ (s.resendLine).run = s.run ∧ (s.resendLine).plate = s.plate ∧
    (s.resendLine).seq = s.seq ∧ (s.resendLine).disp = s.disp ∧ (s.resendLine).comp = s.comp := by
  simp [State.resendLine]

@[simp] theorem State.sendCancelled_frame (s : State) :
    (s.sendCancelled).pending = s.pending ∧ (s.sendCancelled).clk = s.clk ∧ (s.sendCancelled).time = s.time ∧
    (s.sendCancelled).cause = s.cause ∧ (s.sendCancelled).slots = s.slots ∧ (s.sendCancelled).gauge = s.gauge ∧
    (s.sendCancelled).eng = s.eng ∧ (s.sendCancelled).nv = s.nv ∧ (s.sendCancelled).seat = s.seat ∧
    (s.sendCancelled).drv = s.drv ∧ (s.sendCancelled).dtest = s.dtest ∧ (s.sendCancelled).tab = s.tab ∧
    (s.sendCancelled).weigh = s.weigh ∧ (s.sendCancelled).run = s.run ∧ (s.sendCancelled).plate = s.plate ∧
    (s.sendCancelled).seq = s.seq ∧ (s.sendCancelled).disp = s.disp ∧ (s.sendCancelled).comp = s.comp := by
  simp [State.sendCancelled]

@[simp] theorem State.afterExchange_frame (s : State) (cancelMark : Bool) :
    (s.afterExchange cancelMark).pending = s.pending ∧ (s.afterExchange cancelMark).clk = s.clk ∧
    (s.afterExchange cancelMark).time = s.time ∧ (s.afterExchange cancelMark).cause = s.cause ∧
    (s.afterExchange cancelMark).slots = s.slots ∧ (s.afterExchange cancelMark).gauge = s.gauge ∧
    (s.afterExchange cancelMark).eng = s.eng ∧ (s.afterExchange cancelMark).nv = s.nv ∧
    (s.afterExchange cancelMark).seat = s.seat ∧ (s.afterExchange cancelMark).drv = s.drv ∧
    (s.afterExchange cancelMark).dtest = s.dtest ∧ (s.afterExchange cancelMark).tab = s.tab ∧
    (s.afterExchange cancelMark).weigh = s.weigh ∧ (s.afterExchange cancelMark).run = s.run ∧
    (s.afterExchange cancelMark).plate = s.plate ∧ (s.afterExchange cancelMark).seq = s.seq ∧
    (s.afterExchange cancelMark).disp = s.disp ∧ (s.afterExchange cancelMark).comp = s.comp := by
  unfold State.afterExchange
  try dsimp only
  repeat' split
  all_goals simp

@[simp] theorem State.lineReady_frame (s : State) (j : Job) :
    (s.lineReady j).pending = s.pending ∧ (s.lineReady j).clk = s.clk ∧ (s.lineReady j).time = s.time ∧
    (s.lineReady j).cause = s.cause ∧ (s.lineReady j).gauge = s.gauge ∧ (s.lineReady j).eng = s.eng ∧
    (s.lineReady j).nv = s.nv ∧ (s.lineReady j).seat = s.seat ∧ (s.lineReady j).drv = s.drv ∧
    (s.lineReady j).dtest = s.dtest ∧ (s.lineReady j).tab = s.tab ∧ (s.lineReady j).weigh = s.weigh ∧
    (s.lineReady j).run = s.run ∧ (s.lineReady j).plate = s.plate ∧ (s.lineReady j).seq = s.seq ∧
    (s.lineReady j).disp = s.disp := by
  unfold State.lineReady
  try dsimp only
  repeat' split
  all_goals simp

@[simp] theorem State.lineBusy_frame (s : State) :
    (s.lineBusy).pending = s.pending ∧ (s.lineBusy).clk = s.clk ∧ (s.lineBusy).time = s.time ∧
    (s.lineBusy).cause = s.cause ∧ (s.lineBusy).slots = s.slots ∧ (s.lineBusy).gauge = s.gauge ∧
    (s.lineBusy).eng = s.eng ∧ (s.lineBusy).nv = s.nv ∧ (s.lineBusy).seat = s.seat ∧ (s.lineBusy).drv = s.drv ∧
    (s.lineBusy).dtest = s.dtest ∧ (s.lineBusy).tab = s.tab ∧ (s.lineBusy).weigh = s.weigh ∧
    (s.lineBusy).run = s.run ∧ (s.lineBusy).plate = s.plate ∧ (s.lineBusy).seq = s.seq ∧
    (s.lineBusy).disp = s.disp ∧ (s.lineBusy).comp = s.comp := by
  simp [State.lineBusy]

@[simp] theorem State.lineBad_frame (s : State) (j : Job) :
    (s.lineBad j).pending = s.pending ∧ (s.lineBad j).clk = s.clk ∧ (s.lineBad j).time = s.time ∧
    (s.lineBad j).cause = s.cause ∧ (s.lineBad j).gauge = s.gauge ∧ (s.lineBad j).eng = s.eng ∧
    (s.lineBad j).nv = s.nv ∧ (s.lineBad j).seat = s.seat ∧ (s.lineBad j).drv = s.drv ∧
    (s.lineBad j).dtest = s.dtest ∧ (s.lineBad j).tab = s.tab ∧ (s.lineBad j).weigh = s.weigh ∧
    (s.lineBad j).run = s.run ∧ (s.lineBad j).plate = s.plate ∧ (s.lineBad j).seq = s.seq ∧
    (s.lineBad j).disp = s.disp := by
  unfold State.lineBad
  try dsimp only
  repeat' split
  all_goals simp

@[simp] theorem State.linePaper_frame (s : State) (j : Job) :
    (s.linePaper j).pending = s.pending ∧ (s.linePaper j).clk = s.clk ∧ (s.linePaper j).time = s.time ∧
    (s.linePaper j).cause = s.cause ∧ (s.linePaper j).gauge = s.gauge ∧ (s.linePaper j).eng = s.eng ∧
    (s.linePaper j).nv = s.nv ∧ (s.linePaper j).seat = s.seat ∧ (s.linePaper j).drv = s.drv ∧
    (s.linePaper j).dtest = s.dtest ∧ (s.linePaper j).tab = s.tab ∧ (s.linePaper j).weigh = s.weigh ∧
    (s.linePaper j).run = s.run ∧ (s.linePaper j).plate = s.plate ∧ (s.linePaper j).seq = s.seq ∧
    (s.linePaper j).disp = s.disp := by
  unfold State.linePaper
  try dsimp only
  repeat' split
  all_goals simp

@[simp] theorem State.lineReply_frame (s : State) (r : Reply) :
    (s.lineReply r).pending = s.pending ∧ (s.lineReply r).clk = s.clk ∧ (s.lineReply r).time = s.time ∧
    (s.lineReply r).cause = s.cause ∧ (s.lineReply r).gauge = s.gauge ∧ (s.lineReply r).eng = s.eng ∧
    (s.lineReply r).nv = s.nv ∧ (s.lineReply r).seat = s.seat ∧ (s.lineReply r).drv = s.drv ∧
    (s.lineReply r).dtest = s.dtest ∧ (s.lineReply r).tab = s.tab ∧ (s.lineReply r).weigh = s.weigh ∧
    (s.lineReply r).run = s.run ∧ (s.lineReply r).plate = s.plate ∧ (s.lineReply r).seq = s.seq ∧
    (s.lineReply r).disp = s.disp := by
  unfold State.lineReply
  try dsimp only
  repeat' split
  all_goals simp

@[simp] theorem State.pausedReady_frame (s : State) :
    (s.pausedReady).pending = s.pending ∧ (s.pausedReady).clk = s.clk ∧ (s.pausedReady).time = s.time ∧
    (s.pausedReady).cause = s.cause ∧ (s.pausedReady).slots = s.slots ∧ (s.pausedReady).gauge = s.gauge ∧
    (s.pausedReady).eng = s.eng ∧ (s.pausedReady).nv = s.nv ∧ (s.pausedReady).seat = s.seat ∧
    (s.pausedReady).drv = s.drv ∧ (s.pausedReady).dtest = s.dtest ∧ (s.pausedReady).tab = s.tab ∧
    (s.pausedReady).weigh = s.weigh ∧ (s.pausedReady).run = s.run ∧ (s.pausedReady).plate = s.plate ∧
    (s.pausedReady).seq = s.seq ∧ (s.pausedReady).disp = s.disp ∧ (s.pausedReady).comp = s.comp := by
  unfold State.pausedReady
  try dsimp only
  repeat' split
  all_goals simp

@[simp] theorem State.pollReply_frame (s : State) (r : Reply) :
    (s.pollReply r).pending = s.pending ∧ (s.pollReply r).clk = s.clk ∧ (s.pollReply r).time = s.time ∧
    (s.pollReply r).cause = s.cause ∧ (s.pollReply r).gauge = s.gauge ∧ (s.pollReply r).eng = s.eng ∧
    (s.pollReply r).nv = s.nv ∧ (s.pollReply r).seat = s.seat ∧ (s.pollReply r).drv = s.drv ∧
    (s.pollReply r).dtest = s.dtest ∧ (s.pollReply r).tab = s.tab ∧ (s.pollReply r).weigh = s.weigh ∧
    (s.pollReply r).run = s.run ∧ (s.pollReply r).plate = s.plate ∧ (s.pollReply r).seq = s.seq ∧
    (s.pollReply r).disp = s.disp := by
  unfold State.pollReply
  try dsimp only
  repeat' split
  all_goals simp

@[simp] theorem State.frameLeft_frame (s : State) :
    (s.frameLeft).pending = s.pending ∧ (s.frameLeft).clk = s.clk ∧ (s.frameLeft).time = s.time ∧
    (s.frameLeft).cause = s.cause ∧ (s.frameLeft).slots = s.slots ∧ (s.frameLeft).gauge = s.gauge ∧
    (s.frameLeft).eng = s.eng ∧ (s.frameLeft).nv = s.nv ∧ (s.frameLeft).seat = s.seat ∧
    (s.frameLeft).drv = s.drv ∧ (s.frameLeft).dtest = s.dtest ∧ (s.frameLeft).tab = s.tab ∧
    (s.frameLeft).weigh = s.weigh ∧ (s.frameLeft).run = s.run ∧ (s.frameLeft).plate = s.plate ∧
    (s.frameLeft).seq = s.seq ∧ (s.frameLeft).disp = s.disp ∧ (s.frameLeft).comp = s.comp := by
  unfold State.frameLeft
  try dsimp only
  repeat' split
  all_goals simp

@[simp] theorem State.replyTaken_frame (s : State) :
    (s.replyTaken).pending = s.pending ∧ (s.replyTaken).mem = s.mem ∧ (s.replyTaken).clk = s.clk ∧
    (s.replyTaken).time = s.time ∧ (s.replyTaken).cause = s.cause ∧ (s.replyTaken).slots = s.slots ∧
    (s.replyTaken).jr = s.jr ∧ (s.replyTaken).att = s.att ∧ (s.replyTaken).gauge = s.gauge ∧
    (s.replyTaken).eng = s.eng ∧ (s.replyTaken).nv = s.nv ∧ (s.replyTaken).seat = s.seat ∧
    (s.replyTaken).drv = s.drv ∧ (s.replyTaken).dtest = s.dtest ∧ (s.replyTaken).tab = s.tab ∧
    (s.replyTaken).weigh = s.weigh ∧ (s.replyTaken).run = s.run ∧ (s.replyTaken).plate = s.plate ∧
    (s.replyTaken).seq = s.seq ∧ (s.replyTaken).disp = s.disp ∧ (s.replyTaken).comp = s.comp := by
  simp [State.replyTaken]

@[simp] theorem State.lineSilent_frame (s : State) :
    (s.lineSilent).pending = s.pending ∧ (s.lineSilent).clk = s.clk ∧ (s.lineSilent).time = s.time ∧
    (s.lineSilent).cause = s.cause ∧ (s.lineSilent).gauge = s.gauge ∧ (s.lineSilent).eng = s.eng ∧
    (s.lineSilent).nv = s.nv ∧ (s.lineSilent).seat = s.seat ∧ (s.lineSilent).drv = s.drv ∧
    (s.lineSilent).dtest = s.dtest ∧ (s.lineSilent).tab = s.tab ∧ (s.lineSilent).weigh = s.weigh ∧
    (s.lineSilent).run = s.run ∧ (s.lineSilent).plate = s.plate ∧ (s.lineSilent).seq = s.seq ∧
    (s.lineSilent).disp = s.disp := by
  unfold State.lineSilent
  try dsimp only
  repeat' split
  all_goals simp

@[simp] theorem State.pollSilent_frame (s : State) :
    (s.pollSilent).pending = s.pending ∧ (s.pollSilent).clk = s.clk ∧ (s.pollSilent).time = s.time ∧
    (s.pollSilent).cause = s.cause ∧ (s.pollSilent).gauge = s.gauge ∧ (s.pollSilent).eng = s.eng ∧
    (s.pollSilent).nv = s.nv ∧ (s.pollSilent).seat = s.seat ∧ (s.pollSilent).drv = s.drv ∧
    (s.pollSilent).dtest = s.dtest ∧ (s.pollSilent).tab = s.tab ∧ (s.pollSilent).weigh = s.weigh ∧
    (s.pollSilent).run = s.run ∧ (s.pollSilent).plate = s.plate ∧ (s.pollSilent).seq = s.seq ∧
    (s.pollSilent).disp = s.disp := by
  unfold State.pollSilent
  try dsimp only
  repeat' split
  all_goals simp

@[simp] theorem State.createJob_frame (s : State) (n k : Nat) (noRetry : Bool) :
    (s.createJob n k noRetry).pending = s.pending ∧ (s.createJob n k noRetry).clk = s.clk ∧
    (s.createJob n k noRetry).time = s.time ∧ (s.createJob n k noRetry).cause = s.cause ∧
    (s.createJob n k noRetry).gauge = s.gauge ∧ (s.createJob n k noRetry).eng = s.eng ∧
    (s.createJob n k noRetry).nv = s.nv ∧ (s.createJob n k noRetry).seat = s.seat ∧
    (s.createJob n k noRetry).drv = s.drv ∧ (s.createJob n k noRetry).dtest = s.dtest ∧
    (s.createJob n k noRetry).tab = s.tab ∧ (s.createJob n k noRetry).weigh = s.weigh ∧
    (s.createJob n k noRetry).run = s.run ∧ (s.createJob n k noRetry).plate = s.plate ∧
    (s.createJob n k noRetry).seq = s.seq ∧ (s.createJob n k noRetry).disp = s.disp ∧
    (s.createJob n k noRetry).comp = s.comp := by
  unfold State.createJob
  try dsimp only
  repeat' split
  all_goals simp

@[simp] theorem State.takePrint_frame (s : State) (n : Nat) :
    (s.takePrint n).pending = s.pending ∧ (s.takePrint n).clk = s.clk ∧ (s.takePrint n).time = s.time ∧
    (s.takePrint n).cause = s.cause ∧ (s.takePrint n).gauge = s.gauge ∧ (s.takePrint n).eng = s.eng ∧
    (s.takePrint n).nv = s.nv ∧ (s.takePrint n).seat = s.seat ∧ (s.takePrint n).drv = s.drv ∧
    (s.takePrint n).dtest = s.dtest ∧ (s.takePrint n).tab = s.tab ∧ (s.takePrint n).weigh = s.weigh ∧
    (s.takePrint n).run = s.run ∧ (s.takePrint n).plate = s.plate ∧ (s.takePrint n).seq = s.seq ∧
    (s.takePrint n).disp = s.disp := by
  unfold State.takePrint
  try dsimp only
  repeat' split
  all_goals simp

@[simp] theorem State.cancelPrint_frame (s : State) (n : Nat) :
    (s.cancelPrint n).pending = s.pending ∧ (s.cancelPrint n).clk = s.clk ∧ (s.cancelPrint n).time = s.time ∧
    (s.cancelPrint n).cause = s.cause ∧ (s.cancelPrint n).gauge = s.gauge ∧ (s.cancelPrint n).eng = s.eng ∧
    (s.cancelPrint n).nv = s.nv ∧ (s.cancelPrint n).seat = s.seat ∧ (s.cancelPrint n).drv = s.drv ∧
    (s.cancelPrint n).dtest = s.dtest ∧ (s.cancelPrint n).tab = s.tab ∧ (s.cancelPrint n).weigh = s.weigh ∧
    (s.cancelPrint n).run = s.run ∧ (s.cancelPrint n).plate = s.plate ∧ (s.cancelPrint n).seq = s.seq ∧
    (s.cancelPrint n).disp = s.disp := by
  unfold State.cancelPrint
  try dsimp only
  repeat' split
  all_goals simp

end Sys2Proof.Machine
end

