-- ==== Sys2Proof/Laws/FrameRuns.lean ====
section
/-! SUPPORT. Laws/FrameRuns.lean: what each operation of Machine/RunSteps leaves unchanged. -/

namespace Sys2Proof.Machine

@[simp] theorem State.beginServiceWait_frame (s : State) :
    (s.beginServiceWait).pending = s.pending ∧ (s.beginServiceWait).clk = s.clk ∧
    (s.beginServiceWait).time = s.time ∧ (s.beginServiceWait).cause = s.cause ∧
    (s.beginServiceWait).slots = s.slots ∧ (s.beginServiceWait).gauge = s.gauge ∧
    (s.beginServiceWait).eng = s.eng ∧ (s.beginServiceWait).nv = s.nv ∧ (s.beginServiceWait).seat = s.seat ∧
    (s.beginServiceWait).drv = s.drv ∧ (s.beginServiceWait).dtest = s.dtest ∧ (s.beginServiceWait).tab = s.tab ∧
    (s.beginServiceWait).weigh = s.weigh ∧ (s.beginServiceWait).comp = s.comp ∧ (s.beginServiceWait).prn = s.prn := by
  simp [State.beginServiceWait]

@[simp] theorem State.endHold_frame (s : State) :
    (s.endHold).pending = s.pending ∧ (s.endHold).clk = s.clk ∧ (s.endHold).time = s.time ∧
    (s.endHold).cause = s.cause ∧ (s.endHold).slots = s.slots ∧ (s.endHold).gauge = s.gauge ∧
    (s.endHold).eng = s.eng ∧ (s.endHold).nv = s.nv ∧ (s.endHold).seat = s.seat ∧ (s.endHold).weigh = s.weigh ∧
    (s.endHold).comp = s.comp ∧ (s.endHold).prn = s.prn := by
  unfold State.endHold
  try dsimp only
  repeat' split
  all_goals simp

@[simp] theorem State.judgeRamp_frame (s : State) (o : RampOutcome) :
    (s.judgeRamp o).pending = s.pending ∧ (s.judgeRamp o).clk = s.clk ∧ (s.judgeRamp o).time = s.time ∧
    (s.judgeRamp o).cause = s.cause ∧ (s.judgeRamp o).slots = s.slots ∧ (s.judgeRamp o).gauge = s.gauge ∧
    (s.judgeRamp o).eng = s.eng ∧ (s.judgeRamp o).nv = s.nv ∧ (s.judgeRamp o).seat = s.seat ∧
    (s.judgeRamp o).drv = s.drv ∧ (s.judgeRamp o).dtest = s.dtest ∧ (s.judgeRamp o).weigh = s.weigh ∧
    (s.judgeRamp o).comp = s.comp ∧ (s.judgeRamp o).prn = s.prn := by
  unfold State.judgeRamp
  try dsimp only
  repeat' split
  all_goals simp

@[simp] theorem State.rampTest_frame (s : State) :
    (s.rampTest).pending = s.pending ∧ (s.rampTest).clk = s.clk ∧ (s.rampTest).time = s.time ∧
    (s.rampTest).cause = s.cause ∧ (s.rampTest).slots = s.slots ∧ (s.rampTest).gauge = s.gauge ∧
    (s.rampTest).eng = s.eng ∧ (s.rampTest).nv = s.nv ∧ (s.rampTest).seat = s.seat ∧ (s.rampTest).drv = s.drv ∧
    (s.rampTest).dtest = s.dtest ∧ (s.rampTest).weigh = s.weigh ∧ (s.rampTest).comp = s.comp ∧
    (s.rampTest).prn = s.prn := by
  unfold State.rampTest
  try dsimp only
  repeat' split
  all_goals simp

@[simp] theorem State.serviceOnsetNow_frame (s : State) :
    (s.serviceOnsetNow).pending = s.pending ∧ (s.serviceOnsetNow).clk = s.clk ∧
    (s.serviceOnsetNow).time = s.time ∧ (s.serviceOnsetNow).cause = s.cause ∧
    (s.serviceOnsetNow).slots = s.slots ∧ (s.serviceOnsetNow).gauge = s.gauge ∧ (s.serviceOnsetNow).eng = s.eng ∧
    (s.serviceOnsetNow).nv = s.nv ∧ (s.serviceOnsetNow).seat = s.seat ∧ (s.serviceOnsetNow).drv = s.drv ∧
    (s.serviceOnsetNow).dtest = s.dtest ∧ (s.serviceOnsetNow).weigh = s.weigh ∧
    (s.serviceOnsetNow).comp = s.comp ∧ (s.serviceOnsetNow).prn = s.prn := by
  simp [State.serviceOnsetNow]

@[simp] theorem State.ovalityOnsetNow_frame (s : State) :
    (s.ovalityOnsetNow).pending = s.pending ∧ (s.ovalityOnsetNow).mem = s.mem ∧ (s.ovalityOnsetNow).clk = s.clk ∧
    (s.ovalityOnsetNow).time = s.time ∧ (s.ovalityOnsetNow).cause = s.cause ∧
    (s.ovalityOnsetNow).slots = s.slots ∧ (s.ovalityOnsetNow).jr = s.jr ∧ (s.ovalityOnsetNow).att = s.att ∧
    (s.ovalityOnsetNow).gauge = s.gauge ∧ (s.ovalityOnsetNow).eng = s.eng ∧ (s.ovalityOnsetNow).nv = s.nv ∧
    (s.ovalityOnsetNow).seat = s.seat ∧ (s.ovalityOnsetNow).drv = s.drv ∧ (s.ovalityOnsetNow).dtest = s.dtest ∧
    (s.ovalityOnsetNow).tab = s.tab ∧ (s.ovalityOnsetNow).weigh = s.weigh ∧ (s.ovalityOnsetNow).plate = s.plate ∧
    (s.ovalityOnsetNow).seq = s.seq ∧ (s.ovalityOnsetNow).disp = s.disp ∧ (s.ovalityOnsetNow).comp = s.comp ∧
    (s.ovalityOnsetNow).prn = s.prn := by
  simp [State.ovalityOnsetNow]

@[simp] theorem State.parkOnsetNow_frame (s : State) :
    (s.parkOnsetNow).pending = s.pending ∧ (s.parkOnsetNow).clk = s.clk ∧ (s.parkOnsetNow).time = s.time ∧
    (s.parkOnsetNow).cause = s.cause ∧ (s.parkOnsetNow).slots = s.slots ∧ (s.parkOnsetNow).gauge = s.gauge ∧
    (s.parkOnsetNow).eng = s.eng ∧ (s.parkOnsetNow).nv = s.nv ∧ (s.parkOnsetNow).seat = s.seat ∧
    (s.parkOnsetNow).drv = s.drv ∧ (s.parkOnsetNow).dtest = s.dtest ∧ (s.parkOnsetNow).tab = s.tab ∧
    (s.parkOnsetNow).weigh = s.weigh ∧ (s.parkOnsetNow).comp = s.comp ∧ (s.parkOnsetNow).prn = s.prn := by
  simp [State.parkOnsetNow]

@[simp] theorem State.ovalitySample_frame (s : State) :
    (s.ovalitySample).pending = s.pending ∧ (s.ovalitySample).clk = s.clk ∧ (s.ovalitySample).time = s.time ∧
    (s.ovalitySample).cause = s.cause ∧ (s.ovalitySample).slots = s.slots ∧ (s.ovalitySample).gauge = s.gauge ∧
    (s.ovalitySample).eng = s.eng ∧ (s.ovalitySample).nv = s.nv ∧ (s.ovalitySample).seat = s.seat ∧
    (s.ovalitySample).weigh = s.weigh ∧ (s.ovalitySample).comp = s.comp ∧ (s.ovalitySample).prn = s.prn := by
  unfold State.ovalitySample
  try dsimp only
  repeat' split
  all_goals simp

@[simp] theorem State.phaseSample_frame (s : State) :
    (s.phaseSample).pending = s.pending ∧ (s.phaseSample).clk = s.clk ∧ (s.phaseSample).time = s.time ∧
    (s.phaseSample).cause = s.cause ∧ (s.phaseSample).slots = s.slots ∧ (s.phaseSample).gauge = s.gauge ∧
    (s.phaseSample).eng = s.eng ∧ (s.phaseSample).nv = s.nv ∧ (s.phaseSample).seat = s.seat ∧
    (s.phaseSample).weigh = s.weigh ∧ (s.phaseSample).comp = s.comp ∧ (s.phaseSample).prn = s.prn := by
  unfold State.phaseSample
  try dsimp only
  repeat' split
  all_goals simp

@[simp] theorem State.runSample_frame (s : State) :
    (s.runSample).pending = s.pending ∧ (s.runSample).clk = s.clk ∧ (s.runSample).time = s.time ∧
    (s.runSample).cause = s.cause ∧ (s.runSample).slots = s.slots ∧ (s.runSample).gauge = s.gauge ∧
    (s.runSample).eng = s.eng ∧ (s.runSample).nv = s.nv ∧ (s.runSample).seat = s.seat ∧
    (s.runSample).weigh = s.weigh ∧ (s.runSample).comp = s.comp ∧ (s.runSample).prn = s.prn := by
  simp [State.runSample]

@[simp] theorem State.startWindowExpires_frame (s : State) :
    (s.startWindowExpires).pending = s.pending ∧ (s.startWindowExpires).clk = s.clk ∧
    (s.startWindowExpires).time = s.time ∧ (s.startWindowExpires).cause = s.cause ∧
    (s.startWindowExpires).slots = s.slots ∧ (s.startWindowExpires).gauge = s.gauge ∧
    (s.startWindowExpires).eng = s.eng ∧ (s.startWindowExpires).nv = s.nv ∧
    (s.startWindowExpires).seat = s.seat ∧ (s.startWindowExpires).weigh = s.weigh ∧
    (s.startWindowExpires).comp = s.comp ∧ (s.startWindowExpires).prn = s.prn := by
  unfold State.startWindowExpires
  try dsimp only
  repeat' split
  all_goals simp

@[simp] theorem State.settleEnds_frame (s : State) :
    (s.settleEnds).pending = s.pending ∧ (s.settleEnds).mem = s.mem ∧ (s.settleEnds).clk = s.clk ∧
    (s.settleEnds).time = s.time ∧ (s.settleEnds).cause = s.cause ∧ (s.settleEnds).slots = s.slots ∧
    (s.settleEnds).jr = s.jr ∧ (s.settleEnds).att = s.att ∧ (s.settleEnds).gauge = s.gauge ∧
    (s.settleEnds).eng = s.eng ∧ (s.settleEnds).nv = s.nv ∧ (s.settleEnds).seat = s.seat ∧
    (s.settleEnds).drv = s.drv ∧ (s.settleEnds).dtest = s.dtest ∧ (s.settleEnds).tab = s.tab ∧
    (s.settleEnds).weigh = s.weigh ∧ (s.settleEnds).plate = s.plate ∧ (s.settleEnds).seq = s.seq ∧
    (s.settleEnds).disp = s.disp ∧ (s.settleEnds).comp = s.comp ∧ (s.settleEnds).prn = s.prn := by
  simp [State.settleEnds]

@[simp] theorem State.holdCompletes_frame (s : State) :
    (s.holdCompletes).pending = s.pending ∧ (s.holdCompletes).mem = s.mem ∧ (s.holdCompletes).clk = s.clk ∧
    (s.holdCompletes).time = s.time ∧ (s.holdCompletes).cause = s.cause ∧ (s.holdCompletes).slots = s.slots ∧
    (s.holdCompletes).jr = s.jr ∧ (s.holdCompletes).att = s.att ∧ (s.holdCompletes).gauge = s.gauge ∧
    (s.holdCompletes).eng = s.eng ∧ (s.holdCompletes).nv = s.nv ∧ (s.holdCompletes).seat = s.seat ∧
    (s.holdCompletes).drv = s.drv ∧ (s.holdCompletes).dtest = s.dtest ∧ (s.holdCompletes).tab = s.tab ∧
    (s.holdCompletes).weigh = s.weigh ∧ (s.holdCompletes).plate = s.plate ∧ (s.holdCompletes).seq = s.seq ∧
    (s.holdCompletes).disp = s.disp ∧ (s.holdCompletes).comp = s.comp ∧ (s.holdCompletes).prn = s.prn := by
  simp [State.holdCompletes]

@[simp] theorem State.parkWindowExpires_frame (s : State) :
    (s.parkWindowExpires).pending = s.pending ∧ (s.parkWindowExpires).clk = s.clk ∧
    (s.parkWindowExpires).time = s.time ∧ (s.parkWindowExpires).cause = s.cause ∧
    (s.parkWindowExpires).slots = s.slots ∧ (s.parkWindowExpires).gauge = s.gauge ∧
    (s.parkWindowExpires).eng = s.eng ∧ (s.parkWindowExpires).nv = s.nv ∧ (s.parkWindowExpires).seat = s.seat ∧
    (s.parkWindowExpires).weigh = s.weigh ∧ (s.parkWindowExpires).comp = s.comp ∧
    (s.parkWindowExpires).prn = s.prn := by
  unfold State.parkWindowExpires
  try dsimp only
  repeat' split
  all_goals simp

end Sys2Proof.Machine
end

