-- ==== Sys2Proof/Laws/FrameRequests.lean ====
section
/-! SUPPORT. Laws/FrameRequests.lean: what each operation of Machine/Requests, Machine/Reset, Machine/Sample leaves unchanged. -/

namespace Sys2Proof.Machine

@[simp] theorem State.acknowledge_frame (s : State) (value : Word) :
    (s.acknowledge value).pending = s.pending ∧ (s.acknowledge value).mem = s.mem ∧
    (s.acknowledge value).clk = s.clk ∧ (s.acknowledge value).time = s.time ∧
    (s.acknowledge value).cause = s.cause ∧ (s.acknowledge value).slots = s.slots ∧
    (s.acknowledge value).att = s.att ∧ (s.acknowledge value).gauge = s.gauge ∧
    (s.acknowledge value).eng = s.eng ∧ (s.acknowledge value).nv = s.nv ∧ (s.acknowledge value).seat = s.seat ∧
    (s.acknowledge value).drv = s.drv ∧ (s.acknowledge value).dtest = s.dtest ∧
    (s.acknowledge value).tab = s.tab ∧ (s.acknowledge value).weigh = s.weigh ∧
    (s.acknowledge value).run = s.run ∧ (s.acknowledge value).plate = s.plate ∧
    (s.acknowledge value).seq = s.seq ∧ (s.acknowledge value).disp = s.disp ∧
    (s.acknowledge value).comp = s.comp ∧ (s.acknowledge value).prn = s.prn := by
  unfold State.acknowledge
  try dsimp only
  repeat' split
  all_goals simp

@[simp] theorem State.postIgnored_frame (s : State) (n : Nat) (found : Word) :
    (s.postIgnored n found).pending = s.pending ∧ (s.postIgnored n found).clk = s.clk ∧
    (s.postIgnored n found).time = s.time ∧ (s.postIgnored n found).cause = s.cause ∧
    (s.postIgnored n found).slots = s.slots ∧ (s.postIgnored n found).gauge = s.gauge ∧
    (s.postIgnored n found).eng = s.eng ∧ (s.postIgnored n found).nv = s.nv ∧
    (s.postIgnored n found).seat = s.seat ∧ (s.postIgnored n found).drv = s.drv ∧
    (s.postIgnored n found).dtest = s.dtest ∧ (s.postIgnored n found).tab = s.tab ∧
    (s.postIgnored n found).weigh = s.weigh ∧ (s.postIgnored n found).run = s.run ∧
    (s.postIgnored n found).plate = s.plate ∧ (s.postIgnored n found).seq = s.seq ∧
    (s.postIgnored n found).disp = s.disp ∧ (s.postIgnored n found).comp = s.comp ∧
    (s.postIgnored n found).prn = s.prn := by
  simp [State.postIgnored]

@[simp] theorem State.postSlot_frame (s : State) (n : Nat) :
    (s.postSlot n).pending = s.pending ∧ (s.postSlot n).clk = s.clk ∧ (s.postSlot n).time = s.time ∧
    (s.postSlot n).cause = s.cause ∧ (s.postSlot n).gauge = s.gauge ∧ (s.postSlot n).eng = s.eng ∧
    (s.postSlot n).nv = s.nv ∧ (s.postSlot n).seat = s.seat ∧ (s.postSlot n).drv = s.drv ∧
    (s.postSlot n).dtest = s.dtest ∧ (s.postSlot n).tab = s.tab ∧ (s.postSlot n).weigh = s.weigh ∧
    (s.postSlot n).run = s.run ∧ (s.postSlot n).plate = s.plate ∧ (s.postSlot n).seq = s.seq ∧
    (s.postSlot n).disp = s.disp ∧ (s.postSlot n).comp = s.comp ∧ (s.postSlot n).prn = s.prn := by
  unfold State.postSlot
  try dsimp only
  repeat' split
  all_goals simp

@[simp] theorem State.abortZero_frame (s : State) (n : Nat) :
    (s.abortZero n).pending = s.pending ∧ (s.abortZero n).clk = s.clk ∧ (s.abortZero n).time = s.time ∧
    (s.abortZero n).cause = s.cause ∧ (s.abortZero n).gauge = s.gauge ∧ (s.abortZero n).nv = s.nv ∧
    (s.abortZero n).seat = s.seat ∧ (s.abortZero n).drv = s.drv ∧ (s.abortZero n).dtest = s.dtest ∧
    (s.abortZero n).tab = s.tab ∧ (s.abortZero n).weigh = s.weigh ∧ (s.abortZero n).run = s.run ∧
    (s.abortZero n).plate = s.plate ∧ (s.abortZero n).seq = s.seq ∧ (s.abortZero n).disp = s.disp ∧
    (s.abortZero n).comp = s.comp ∧ (s.abortZero n).prn = s.prn := by
  unfold State.abortZero
  try dsimp only
  repeat' split
  all_goals simp

@[simp] theorem State.abortCalibrate_frame (s : State) :
    (s.abortCalibrate).pending = s.pending ∧ (s.abortCalibrate).mem = s.mem ∧ (s.abortCalibrate).clk = s.clk ∧
    (s.abortCalibrate).time = s.time ∧ (s.abortCalibrate).cause = s.cause ∧ (s.abortCalibrate).slots = s.slots ∧
    (s.abortCalibrate).jr = s.jr ∧ (s.abortCalibrate).att = s.att ∧ (s.abortCalibrate).gauge = s.gauge ∧
    (s.abortCalibrate).nv = s.nv ∧ (s.abortCalibrate).seat = s.seat ∧ (s.abortCalibrate).drv = s.drv ∧
    (s.abortCalibrate).dtest = s.dtest ∧ (s.abortCalibrate).tab = s.tab ∧ (s.abortCalibrate).weigh = s.weigh ∧
    (s.abortCalibrate).run = s.run ∧ (s.abortCalibrate).plate = s.plate ∧ (s.abortCalibrate).seq = s.seq ∧
    (s.abortCalibrate).disp = s.disp ∧ (s.abortCalibrate).comp = s.comp ∧ (s.abortCalibrate).prn = s.prn := by
  simp [State.abortCalibrate]

@[simp] theorem State.abortTest_frame (s : State) :
    (s.abortTest).pending = s.pending ∧ (s.abortTest).clk = s.clk ∧ (s.abortTest).time = s.time ∧
    (s.abortTest).cause = s.cause ∧ (s.abortTest).slots = s.slots ∧ (s.abortTest).gauge = s.gauge ∧
    (s.abortTest).eng = s.eng ∧ (s.abortTest).nv = s.nv ∧ (s.abortTest).seat = s.seat ∧
    (s.abortTest).weigh = s.weigh ∧ (s.abortTest).comp = s.comp ∧ (s.abortTest).prn = s.prn := by
  unfold State.abortTest
  try dsimp only
  repeat' split
  all_goals simp

@[simp] theorem State.abortCompose_frame (s : State) :
    (s.abortCompose).pending = s.pending ∧ (s.abortCompose).mem = s.mem ∧ (s.abortCompose).clk = s.clk ∧
    (s.abortCompose).time = s.time ∧ (s.abortCompose).cause = s.cause ∧ (s.abortCompose).slots = s.slots ∧
    (s.abortCompose).jr = s.jr ∧ (s.abortCompose).att = s.att ∧ (s.abortCompose).gauge = s.gauge ∧
    (s.abortCompose).eng = s.eng ∧ (s.abortCompose).nv = s.nv ∧ (s.abortCompose).seat = s.seat ∧
    (s.abortCompose).drv = s.drv ∧ (s.abortCompose).dtest = s.dtest ∧ (s.abortCompose).tab = s.tab ∧
    (s.abortCompose).weigh = s.weigh ∧ (s.abortCompose).run = s.run ∧ (s.abortCompose).plate = s.plate ∧
    (s.abortCompose).seq = s.seq ∧ (s.abortCompose).disp = s.disp ∧ (s.abortCompose).prn = s.prn := by
  simp [State.abortCompose]

@[simp] theorem State.abortActive_frame (s : State) (n : Nat) (k : Kind) :
    (s.abortActive n k).pending = s.pending ∧ (s.abortActive n k).clk = s.clk ∧
    (s.abortActive n k).time = s.time ∧ (s.abortActive n k).cause = s.cause ∧
    (s.abortActive n k).gauge = s.gauge ∧ (s.abortActive n k).nv = s.nv ∧ (s.abortActive n k).seat = s.seat := by
  unfold State.abortActive
  try dsimp only
  repeat' split
  all_goals simp

@[simp] theorem State.abortSlot_frame (s : State) (n : Nat) :
    (s.abortSlot n).pending = s.pending ∧ (s.abortSlot n).clk = s.clk ∧ (s.abortSlot n).time = s.time ∧
    (s.abortSlot n).cause = s.cause ∧ (s.abortSlot n).gauge = s.gauge ∧ (s.abortSlot n).nv = s.nv ∧
    (s.abortSlot n).seat = s.seat := by
  unfold State.abortSlot
  try dsimp only
  repeat' split
  all_goals simp

@[simp] theorem State.withdraw_frame (s : State) (n : Nat) :
    (s.withdraw n).pending = s.pending ∧ (s.withdraw n).clk = s.clk ∧ (s.withdraw n).time = s.time ∧
    (s.withdraw n).cause = s.cause ∧ (s.withdraw n).gauge = s.gauge ∧ (s.withdraw n).eng = s.eng ∧
    (s.withdraw n).nv = s.nv ∧ (s.withdraw n).seat = s.seat ∧ (s.withdraw n).drv = s.drv ∧
    (s.withdraw n).dtest = s.dtest ∧ (s.withdraw n).tab = s.tab ∧ (s.withdraw n).weigh = s.weigh ∧
    (s.withdraw n).run = s.run ∧ (s.withdraw n).plate = s.plate ∧ (s.withdraw n).seq = s.seq ∧
    (s.withdraw n).disp = s.disp ∧ (s.withdraw n).comp = s.comp ∧ (s.withdraw n).prn = s.prn := by
  simp [State.withdraw]

@[simp] theorem State.offerAgain_frame (s : State) (k : Nat) :
    (s.offerAgain k).pending = s.pending ∧ (s.offerAgain k).mem = s.mem ∧ (s.offerAgain k).clk = s.clk ∧
    (s.offerAgain k).time = s.time ∧ (s.offerAgain k).cause = s.cause ∧ (s.offerAgain k).slots = s.slots ∧
    (s.offerAgain k).jr = s.jr ∧ (s.offerAgain k).att = s.att ∧ (s.offerAgain k).gauge = s.gauge ∧
    (s.offerAgain k).eng = s.eng ∧ (s.offerAgain k).nv = s.nv ∧ (s.offerAgain k).seat = s.seat ∧
    (s.offerAgain k).drv = s.drv ∧ (s.offerAgain k).dtest = s.dtest ∧ (s.offerAgain k).tab = s.tab ∧
    (s.offerAgain k).weigh = s.weigh ∧ (s.offerAgain k).run = s.run ∧ (s.offerAgain k).plate = s.plate ∧
    (s.offerAgain k).comp = s.comp ∧ (s.offerAgain k).prn = s.prn := by
  unfold State.offerAgain
  try dsimp only
  repeat' split
  all_goals simp

@[simp] theorem State.discardTop_frame (s : State) (n k : Nat) (a : Attempt) :
    (s.discardTop n k a).pending = s.pending ∧ (s.discardTop n k a).clk = s.clk ∧
    (s.discardTop n k a).time = s.time ∧ (s.discardTop n k a).cause = s.cause ∧
    (s.discardTop n k a).gauge = s.gauge ∧ (s.discardTop n k a).eng = s.eng ∧ (s.discardTop n k a).nv = s.nv ∧
    (s.discardTop n k a).seat = s.seat ∧ (s.discardTop n k a).drv = s.drv ∧
    (s.discardTop n k a).dtest = s.dtest ∧ (s.discardTop n k a).weigh = s.weigh ∧
    (s.discardTop n k a).run = s.run ∧ (s.discardTop n k a).plate = s.plate ∧
    (s.discardTop n k a).comp = s.comp ∧ (s.discardTop n k a).prn = s.prn := by
  simp [State.discardTop]

@[simp] theorem State.takeDiscard_frame (s : State) (n : Nat) :
    (s.takeDiscard n).pending = s.pending ∧ (s.takeDiscard n).clk = s.clk ∧ (s.takeDiscard n).time = s.time ∧
    (s.takeDiscard n).cause = s.cause ∧ (s.takeDiscard n).gauge = s.gauge ∧ (s.takeDiscard n).eng = s.eng ∧
    (s.takeDiscard n).nv = s.nv ∧ (s.takeDiscard n).seat = s.seat ∧ (s.takeDiscard n).drv = s.drv ∧
    (s.takeDiscard n).dtest = s.dtest ∧ (s.takeDiscard n).weigh = s.weigh ∧ (s.takeDiscard n).run = s.run ∧
    (s.takeDiscard n).plate = s.plate ∧ (s.takeDiscard n).comp = s.comp ∧ (s.takeDiscard n).prn = s.prn := by
  unfold State.takeDiscard
  try dsimp only
  repeat' split
  all_goals simp

@[simp] theorem State.takeSetTime_frame (s : State) (n : Nat) :
    (s.takeSetTime n).pending = s.pending ∧ (s.takeSetTime n).clk = s.clk ∧ (s.takeSetTime n).cause = s.cause ∧
    (s.takeSetTime n).gauge = s.gauge ∧ (s.takeSetTime n).eng = s.eng ∧ (s.takeSetTime n).nv = s.nv ∧
    (s.takeSetTime n).seat = s.seat ∧ (s.takeSetTime n).drv = s.drv ∧ (s.takeSetTime n).dtest = s.dtest ∧
    (s.takeSetTime n).tab = s.tab ∧ (s.takeSetTime n).weigh = s.weigh ∧ (s.takeSetTime n).run = s.run ∧
    (s.takeSetTime n).plate = s.plate ∧ (s.takeSetTime n).seq = s.seq ∧ (s.takeSetTime n).disp = s.disp ∧
    (s.takeSetTime n).comp = s.comp ∧ (s.takeSetTime n).prn = s.prn := by
  simp [State.takeSetTime]

@[simp] theorem State.takeZero_frame (s : State) (n : Nat) :
    (s.takeZero n).pending = s.pending ∧ (s.takeZero n).clk = s.clk ∧ (s.takeZero n).time = s.time ∧
    (s.takeZero n).cause = s.cause ∧ (s.takeZero n).gauge = s.gauge ∧ (s.takeZero n).nv = s.nv ∧
    (s.takeZero n).seat = s.seat ∧ (s.takeZero n).drv = s.drv ∧ (s.takeZero n).dtest = s.dtest ∧
    (s.takeZero n).tab = s.tab ∧ (s.takeZero n).weigh = s.weigh ∧ (s.takeZero n).run = s.run ∧
    (s.takeZero n).plate = s.plate ∧ (s.takeZero n).seq = s.seq ∧ (s.takeZero n).disp = s.disp ∧
    (s.takeZero n).comp = s.comp ∧ (s.takeZero n).prn = s.prn := by
  unfold State.takeZero
  try dsimp only
  repeat' split
  all_goals simp

@[simp] theorem State.takeCalibrate_frame (s : State) (n : Nat) :
    (s.takeCalibrate n).pending = s.pending ∧ (s.takeCalibrate n).clk = s.clk ∧
    (s.takeCalibrate n).time = s.time ∧ (s.takeCalibrate n).cause = s.cause ∧
    (s.takeCalibrate n).gauge = s.gauge ∧ (s.takeCalibrate n).seat = s.seat ∧ (s.takeCalibrate n).drv = s.drv ∧
    (s.takeCalibrate n).dtest = s.dtest ∧ (s.takeCalibrate n).tab = s.tab ∧ (s.takeCalibrate n).weigh = s.weigh ∧
    (s.takeCalibrate n).run = s.run ∧ (s.takeCalibrate n).plate = s.plate ∧ (s.takeCalibrate n).seq = s.seq ∧
    (s.takeCalibrate n).disp = s.disp ∧ (s.takeCalibrate n).comp = s.comp ∧ (s.takeCalibrate n).prn = s.prn := by
  unfold State.takeCalibrate
  try dsimp only
  repeat' split
  all_goals simp

@[simp] theorem State.openPlan_frame (s : State) (n : Nat) (p : Plan) :
    (s.openPlan n p).pending = s.pending ∧ (s.openPlan n p).clk = s.clk ∧ (s.openPlan n p).time = s.time ∧
    (s.openPlan n p).cause = s.cause ∧ (s.openPlan n p).gauge = s.gauge ∧ (s.openPlan n p).eng = s.eng ∧
    (s.openPlan n p).nv = s.nv ∧ (s.openPlan n p).seat = s.seat ∧ (s.openPlan n p).drv = s.drv ∧
    (s.openPlan n p).dtest = s.dtest ∧ (s.openPlan n p).weigh = s.weigh ∧ (s.openPlan n p).run = s.run ∧
    (s.openPlan n p).comp = s.comp ∧ (s.openPlan n p).prn = s.prn := by
  simp [State.openPlan]

@[simp] theorem State.takeRunPlan_frame (s : State) (n : Nat) :
    (s.takeRunPlan n).pending = s.pending ∧ (s.takeRunPlan n).clk = s.clk ∧ (s.takeRunPlan n).time = s.time ∧
    (s.takeRunPlan n).cause = s.cause ∧ (s.takeRunPlan n).gauge = s.gauge ∧ (s.takeRunPlan n).eng = s.eng ∧
    (s.takeRunPlan n).nv = s.nv ∧ (s.takeRunPlan n).seat = s.seat ∧ (s.takeRunPlan n).drv = s.drv ∧
    (s.takeRunPlan n).dtest = s.dtest ∧ (s.takeRunPlan n).weigh = s.weigh ∧ (s.takeRunPlan n).run = s.run ∧
    (s.takeRunPlan n).comp = s.comp ∧ (s.takeRunPlan n).prn = s.prn := by
  unfold State.takeRunPlan
  try dsimp only
  repeat' split
  all_goals simp

@[simp] theorem State.takeDriveTest_frame (s : State) (n : Nat) :
    (s.takeDriveTest n).pending = s.pending ∧ (s.takeDriveTest n).clk = s.clk ∧
    (s.takeDriveTest n).time = s.time ∧ (s.takeDriveTest n).cause = s.cause ∧
    (s.takeDriveTest n).gauge = s.gauge ∧ (s.takeDriveTest n).eng = s.eng ∧ (s.takeDriveTest n).nv = s.nv ∧
    (s.takeDriveTest n).seat = s.seat ∧ (s.takeDriveTest n).tab = s.tab ∧ (s.takeDriveTest n).weigh = s.weigh ∧
    (s.takeDriveTest n).run = s.run ∧ (s.takeDriveTest n).plate = s.plate ∧ (s.takeDriveTest n).seq = s.seq ∧
    (s.takeDriveTest n).comp = s.comp ∧ (s.takeDriveTest n).prn = s.prn := by
  unfold State.takeDriveTest
  try dsimp only
  repeat' split
  all_goals simp

@[simp] theorem State.startCompose_frame (s : State) (n k : Nat) :
    (s.startCompose n k).pending = s.pending ∧ (s.startCompose n k).clk = s.clk ∧
    (s.startCompose n k).time = s.time ∧ (s.startCompose n k).cause = s.cause ∧ (s.startCompose n k).jr = s.jr ∧
    (s.startCompose n k).att = s.att ∧ (s.startCompose n k).gauge = s.gauge ∧ (s.startCompose n k).eng = s.eng ∧
    (s.startCompose n k).seat = s.seat ∧ (s.startCompose n k).drv = s.drv ∧
    (s.startCompose n k).dtest = s.dtest ∧ (s.startCompose n k).tab = s.tab ∧
    (s.startCompose n k).weigh = s.weigh ∧ (s.startCompose n k).run = s.run ∧
    (s.startCompose n k).plate = s.plate ∧ (s.startCompose n k).seq = s.seq ∧
    (s.startCompose n k).disp = s.disp ∧ (s.startCompose n k).prn = s.prn := by
  simp [State.startCompose]

@[simp] theorem State.takeCompose_frame (s : State) (n : Nat) :
    (s.takeCompose n).pending = s.pending ∧ (s.takeCompose n).clk = s.clk ∧ (s.takeCompose n).time = s.time ∧
    (s.takeCompose n).cause = s.cause ∧ (s.takeCompose n).gauge = s.gauge ∧ (s.takeCompose n).eng = s.eng ∧
    (s.takeCompose n).seat = s.seat ∧ (s.takeCompose n).drv = s.drv ∧ (s.takeCompose n).dtest = s.dtest ∧
    (s.takeCompose n).tab = s.tab ∧ (s.takeCompose n).weigh = s.weigh ∧ (s.takeCompose n).run = s.run ∧
    (s.takeCompose n).plate = s.plate ∧ (s.takeCompose n).seq = s.seq ∧ (s.takeCompose n).disp = s.disp ∧
    (s.takeCompose n).prn = s.prn := by
  unfold State.takeCompose
  try dsimp only
  repeat' split
  all_goals simp

@[simp] theorem State.updateGauge_frame (s : State) :
    (s.updateGauge).pending = s.pending ∧ (s.updateGauge).clk = s.clk ∧ (s.updateGauge).time = s.time ∧
    (s.updateGauge).cause = s.cause ∧ (s.updateGauge).slots = s.slots ∧ (s.updateGauge).jr = s.jr ∧
    (s.updateGauge).att = s.att ∧ (s.updateGauge).eng = s.eng ∧ (s.updateGauge).nv = s.nv ∧
    (s.updateGauge).seat = s.seat ∧ (s.updateGauge).drv = s.drv ∧ (s.updateGauge).dtest = s.dtest ∧
    (s.updateGauge).tab = s.tab ∧ (s.updateGauge).weigh = s.weigh ∧ (s.updateGauge).run = s.run ∧
    (s.updateGauge).plate = s.plate ∧ (s.updateGauge).seq = s.seq ∧ (s.updateGauge).disp = s.disp ∧
    (s.updateGauge).comp = s.comp ∧ (s.updateGauge).prn = s.prn := by
  unfold State.updateGauge
  try dsimp only
  repeat' split
  all_goals simp

@[simp] theorem State.resetSlot_frame (s : State) (n : Nat) :
    (s.resetSlot n).pending = s.pending ∧ (s.resetSlot n).clk = s.clk ∧ (s.resetSlot n).time = s.time ∧
    (s.resetSlot n).cause = s.cause ∧ (s.resetSlot n).jr = s.jr ∧ (s.resetSlot n).att = s.att ∧
    (s.resetSlot n).gauge = s.gauge ∧ (s.resetSlot n).eng = s.eng ∧ (s.resetSlot n).nv = s.nv ∧
    (s.resetSlot n).seat = s.seat ∧ (s.resetSlot n).drv = s.drv ∧ (s.resetSlot n).dtest = s.dtest ∧
    (s.resetSlot n).tab = s.tab ∧ (s.resetSlot n).weigh = s.weigh ∧ (s.resetSlot n).run = s.run ∧
    (s.resetSlot n).plate = s.plate ∧ (s.resetSlot n).seq = s.seq ∧ (s.resetSlot n).disp = s.disp ∧
    (s.resetSlot n).comp = s.comp ∧ (s.resetSlot n).prn = s.prn := by
  unfold State.resetSlot
  try dsimp only
  repeat' split
  all_goals simp

@[simp] theorem State.resetSlots_frame (s : State) :
    (s.resetSlots).pending = s.pending ∧ (s.resetSlots).clk = s.clk ∧ (s.resetSlots).time = s.time ∧
    (s.resetSlots).cause = s.cause ∧ (s.resetSlots).jr = s.jr ∧ (s.resetSlots).att = s.att ∧
    (s.resetSlots).gauge = s.gauge ∧ (s.resetSlots).eng = s.eng ∧ (s.resetSlots).nv = s.nv ∧
    (s.resetSlots).seat = s.seat ∧ (s.resetSlots).drv = s.drv ∧ (s.resetSlots).dtest = s.dtest ∧
    (s.resetSlots).tab = s.tab ∧ (s.resetSlots).weigh = s.weigh ∧ (s.resetSlots).run = s.run ∧
    (s.resetSlots).plate = s.plate ∧ (s.resetSlots).seq = s.seq ∧ (s.resetSlots).disp = s.disp ∧
    (s.resetSlots).comp = s.comp ∧ (s.resetSlots).prn = s.prn := by
  unfold State.resetSlots
  exact ⟨foldl_keeps _ State.pending (by simp) _ _,
    foldl_keeps _ State.clk (by simp) _ _,
    foldl_keeps _ State.time (by simp) _ _,
    foldl_keeps _ State.cause (by simp) _ _,
    foldl_keeps _ State.jr (by simp) _ _,
    foldl_keeps _ State.att (by simp) _ _,
    foldl_keeps _ State.gauge (by simp) _ _,
    foldl_keeps _ State.eng (by simp) _ _,
    foldl_keeps _ State.nv (by simp) _ _,
    foldl_keeps _ State.seat (by simp) _ _,
    foldl_keeps _ State.drv (by simp) _ _,
    foldl_keeps _ State.dtest (by simp) _ _,
    foldl_keeps _ State.tab (by simp) _ _,
    foldl_keeps _ State.weigh (by simp) _ _,
    foldl_keeps _ State.run (by simp) _ _,
    foldl_keeps _ State.plate (by simp) _ _,
    foldl_keeps _ State.seq (by simp) _ _,
    foldl_keeps _ State.disp (by simp) _ _,
    foldl_keeps _ State.comp (by simp) _ _,
    foldl_keeps _ State.prn (by simp) _ _⟩

@[simp] theorem State.resetCerts_frame (s : State) :
    (s.resetCerts).pending = s.pending ∧ (s.resetCerts).clk = s.clk ∧ (s.resetCerts).time = s.time ∧
    (s.resetCerts).cause = s.cause ∧ (s.resetCerts).slots = s.slots ∧ (s.resetCerts).jr = s.jr ∧
    (s.resetCerts).att = s.att ∧ (s.resetCerts).gauge = s.gauge ∧ (s.resetCerts).eng = s.eng ∧
    (s.resetCerts).nv = s.nv ∧ (s.resetCerts).seat = s.seat ∧ (s.resetCerts).drv = s.drv ∧
    (s.resetCerts).dtest = s.dtest ∧ (s.resetCerts).tab = s.tab ∧ (s.resetCerts).weigh = s.weigh ∧
    (s.resetCerts).run = s.run ∧ (s.resetCerts).plate = s.plate ∧ (s.resetCerts).seq = s.seq ∧
    (s.resetCerts).disp = s.disp ∧ (s.resetCerts).prn = s.prn := by
  unfold State.resetCerts
  try dsimp only
  repeat' split
  all_goals simp

@[simp] theorem State.laneReset_frame (s : State) :
    (s.laneReset).pending = s.pending ∧ (s.laneReset).clk = s.clk ∧ (s.laneReset).time = s.time := by
  simp [State.laneReset]

/-- A taking keeps the queue and the start cause if its work does. -/
theorem State.taking_keeps (takes : Nat → Bool) (work : State → Nat → State)
    (h : ∀ s n, (work s n).pending = s.pending ∧ (work s n).cause = s.cause) (s : State) :
    (s.taking takes work).pending = s.pending ∧ (s.taking takes work).cause = s.cause := by
  unfold State.taking
  repeat' split
  all_goals simp [h]

theorem onlyOne_keeps (k : Kind) (work : State → Nat → State)
    (h : ∀ s n, (work s n).pending = s.pending ∧ (work s n).cause = s.cause) (s : State) (n : Nat) :
    (onlyOne k work s n).pending = s.pending ∧ (onlyOne k work s n).cause = s.cause := by
  unfold onlyOne
  split <;> simp [h]

/-- Every step that the state makes due keeps the queue and the start cause. -/
theorem dueSteps_keep : ∀ e ∈ dueSteps, ∀ s, (e.act s).pending = s.pending ∧ (e.act s).cause = s.cause := by
  simp only [dueSteps, settleSteps, sampleSteps, windowSteps, timerSteps, takeSteps, List.map_cons, List.map_nil,
    List.forall_mem_append, List.forall_mem_cons, settleStep, takeStep]
  refine ⟨⟨⟨⟨?_, ?_⟩, ?_⟩, ?_⟩, ?_⟩
  · simp
  · simp
  · simp
  · refine ⟨?_, ?_, ?_, ?_, ?_, ?_, ?_, ?_, ?_, ?_, ?_, ?_, ?_⟩ <;> try simp
    all_goals (intro s; split <;> simp)
  · refine ⟨?_, ?_, ?_, ?_, ?_, ?_, ?_, ?_, ?_, ?_, ?_⟩
    all_goals first
      | exact fun s => State.taking_keeps _ _ (by simp) s
      | exact fun s => State.taking_keeps _ _ (onlyOne_keeps _ _ (by simp)) s
      | simp

theorem State.catchUp_keeps (n : Nat) (s : State) :
    (s.catchUp n).pending = s.pending ∧ (s.catchUp n).cause = s.cause := by
  induction n generalizing s with
  | zero => simp [State.catchUp]
  | succ n ih =>
    unfold State.catchUp
    split
    · rename_i e he
      have hk := dueSteps_keep e (List.mem_of_find?_eq_some he) s
      simp [ih, hk]
    · simp

@[simp] theorem State.caughtUp_frame (s : State) : s.caughtUp.pending = s.pending ∧ s.caughtUp.cause = s.cause :=
  State.catchUp_keeps _ s


@[simp] theorem State.firstSample_frame (s : State) (l : Levels) :
    (s.firstSample l).pending = s.pending ∧ (s.firstSample l).clk = s.clk ∧ (s.firstSample l).time = s.time ∧
    (s.firstSample l).cause = s.cause ∧ (s.firstSample l).gauge = s.gauge ∧ (s.firstSample l).nv = s.nv ∧
    (s.firstSample l).seat = s.seat ∧ (s.firstSample l).weigh = s.weigh ∧ (s.firstSample l).comp = s.comp := by
  unfold State.firstSample
  try dsimp only
  repeat' split
  all_goals simp

@[simp] theorem State.discreteSample_frame (s : State) (l : Levels) :
    (s.discreteSample l).pending = s.pending ∧ (s.discreteSample l).clk = s.clk ∧
    (s.discreteSample l).time = s.time ∧ (s.discreteSample l).cause = s.cause ∧
    (s.discreteSample l).gauge = s.gauge ∧ (s.discreteSample l).nv = s.nv ∧ (s.discreteSample l).seat = s.seat ∧
    (s.discreteSample l).weigh = s.weigh ∧ (s.discreteSample l).comp = s.comp := by
  unfold State.discreteSample
  try dsimp only
  repeat' split
  all_goals simp

@[simp] theorem State.countSample_frame (s : State) (p : Pulses) :
    (s.countSample p).pending = s.pending ∧ (s.countSample p).mem = s.mem ∧ (s.countSample p).clk = s.clk ∧
    (s.countSample p).time = s.time ∧ (s.countSample p).cause = s.cause ∧ (s.countSample p).slots = s.slots ∧
    (s.countSample p).jr = s.jr ∧ (s.countSample p).att = s.att ∧ (s.countSample p).nv = s.nv ∧
    (s.countSample p).seat = s.seat ∧ (s.countSample p).drv = s.drv ∧ (s.countSample p).dtest = s.dtest ∧
    (s.countSample p).tab = s.tab ∧ (s.countSample p).weigh = s.weigh ∧ (s.countSample p).run = s.run ∧
    (s.countSample p).plate = s.plate ∧ (s.countSample p).seq = s.seq ∧ (s.countSample p).disp = s.disp ∧
    (s.countSample p).comp = s.comp ∧ (s.countSample p).prn = s.prn := by
  simp [State.countSample]

@[simp] theorem State.analogSample_frame (s : State) (i : SampleInput) :
    (s.analogSample i).pending = s.pending ∧ (s.analogSample i).clk = s.clk ∧ (s.analogSample i).time = s.time ∧
    (s.analogSample i).cause = s.cause ∧ (s.analogSample i).nv = s.nv ∧ (s.analogSample i).comp = s.comp ∧
    (s.analogSample i).prn = s.prn := by
  simp [State.analogSample]

@[simp] theorem State.takeSample_frame (s : State) (i : SampleInput) :
    (s.takeSample i).pending = s.pending ∧ (s.takeSample i).time = s.time ∧ (s.takeSample i).cause = s.cause ∧
    (s.takeSample i).nv = s.nv ∧ (s.takeSample i).comp = s.comp := by
  unfold State.takeSample
  try dsimp only
  repeat' split
  all_goals simp

@[simp] theorem State.tick_frame (s : State) :
    (s.tick).pending = s.pending ∧ (s.tick).time = s.time + 1 ∧ (s.tick).cause = s.cause ∧ (s.tick).slots = s.slots ∧
    (s.tick).jr = s.jr ∧ (s.tick).gauge = s.gauge ∧ (s.tick).eng = s.eng ∧ (s.tick).nv = s.nv ∧
    (s.tick).seat = s.seat ∧ (s.tick).drv = s.drv ∧ (s.tick).dtest = s.dtest ∧ (s.tick).tab = s.tab ∧
    (s.tick).weigh = s.weigh ∧ (s.tick).run = s.run ∧ (s.tick).plate = s.plate ∧ (s.tick).seq = s.seq ∧
    (s.tick).disp = s.disp ∧ (s.tick).comp = s.comp ∧ (s.tick).prn = s.prn := by
  unfold State.tick
  try dsimp only
  repeat' split
  all_goals simp

end Sys2Proof.Machine
end

