-- ==== Sys2Proof/Laws/Memory.lean ====
section
/-! SUPPORT. Laws/Memory.lean: reading after writing, what a write leaves alone, and the canonical form under every memory
operation. -/

namespace Sys2Proof.Machine

/-! ## One byte -/

theorem Memory.readByte_writeByte (m : Memory) (hm : Memory.wf m) (a b : Nat) (v : Byte) :
    Memory.readByte (Memory.writeByte m a v) b = if b = a then v else Memory.readByte m b := by
  induction m with
  | nil =>
    unfold Memory.writeByte
    by_cases hb : b = a
    · subst hb; split <;> simp_all [Memory.readByte]
    · split <;> simp [Memory.readByte, Ne.symm hb]
  | cons c m ih =>
    obtain ⟨k, w⟩ := c
    obtain ⟨hp, hz⟩ := hm
    have hw : Memory.wf m := ⟨(List.pairwise_cons.1 hp).2, fun c hc => hz c (List.mem_cons_of_mem _ hc)⟩
    have hlow : ∀ (l : Memory) (n : Nat), (∀ c ∈ l, n < c.1) → Memory.readByte l n = 0 := by
      intro l n hl
      induction l with
      | nil => rfl
      | cons d l ihl =>
        have hd := hl d List.mem_cons_self
        have : d.1 ≠ n := by omega
        simp [Memory.readByte, this, ihl (fun c hc => hl c (List.mem_cons_of_mem _ hc))]
    have hk : ∀ c ∈ m, k < c.1 := (List.pairwise_cons.1 hp).1
    unfold Memory.writeByte
    split
    · rename_i hlt
      have h0 : Memory.readByte m a = 0 := hlow m a (fun c hc => by have := hk c hc; omega)
      split
      · rename_i hv
        by_cases hb : b = a
        · subst hb
          have : k ≠ b := by omega
          simp [Memory.readByte, this, h0, hv]
        · simp [hb]
      · by_cases hb : b = a
        · simp [Memory.readByte, hb]
        · simp [Memory.readByte, hb, Ne.symm hb]
    · split
      · rename_i _ hak
        subst hak
        split
        · rename_i hv
          by_cases hb : b = a
          · subst hb; simp [hlow m b hk, hv]
          · simp [Memory.readByte, hb, Ne.symm hb]
        · by_cases hb : b = a
          · simp [Memory.readByte, hb]
          · simp [Memory.readByte, hb, Ne.symm hb]
      · rename_i _ hak
        simp only [Memory.readByte, ih hw]
        by_cases hb : b = a
        · subst hb; simp [Ne.symm hak]
        · simp [hb]

/-- What one byte write lists: addresses of the old list or the written one, no zero. -/
theorem Memory.mem_writeByte (m : Memory) (a : Nat) (v : Byte) (c : Host.Cell) (h : c ∈ Memory.writeByte m a v) :
    c ∈ m ∨ (c = (a, v) ∧ v ≠ 0) := by
  induction m with
  | nil => unfold Memory.writeByte at h; split at h <;> simp_all
  | cons d m ih =>
    obtain ⟨k, w⟩ := d
    unfold Memory.writeByte at h
    repeat' split at h
    all_goals simp only [List.mem_cons] at h ⊢
    all_goals grind

theorem Memory.wf_writeByte (m : Memory) (hm : Memory.wf m) (a : Nat) (v : Byte) : Memory.wf (Memory.writeByte m a v) := by
  refine ⟨?_, fun c hc => ?_⟩
  · induction m with
    | nil => unfold Memory.writeByte; split <;> simp
    | cons d m ih =>
      obtain ⟨k, w⟩ := d
      obtain ⟨hp, hz⟩ := hm
      obtain ⟨hk, hp⟩ := List.pairwise_cons.1 hp
      have hw : Memory.wf m := ⟨hp, fun c hc => hz c (List.mem_cons_of_mem _ hc)⟩
      unfold Memory.writeByte
      repeat' split
      · exact List.pairwise_cons.2 ⟨hk, hp⟩
      · refine List.pairwise_cons.2 ⟨fun c hc => ?_, List.pairwise_cons.2 ⟨hk, hp⟩⟩
        rcases List.mem_cons.1 hc with rfl | hc
        · assumption
        · have := hk c hc; dsimp only at this ⊢; omega
      · exact hp
      · rename_i hak _
        exact List.pairwise_cons.2 ⟨fun c hc => by subst hak; exact hk c hc, hp⟩
      · refine List.pairwise_cons.2 ⟨fun c hc => ?_, ih hw⟩
        rcases Memory.mem_writeByte m a v c hc with h | ⟨rfl, _⟩
        · exact hk c h
        · dsimp only; omega
  · rcases Memory.mem_writeByte m a v c hc with h | ⟨rfl, h⟩
    · exact hm.2 c h
    · exact h

/-- A byte write leaves every other address alone, whatever the list. -/
theorem Memory.readByte_writeByte_ne (m : Memory) (a b : Nat) (v : Byte) (h : b ≠ a) :
    Memory.readByte (Memory.writeByte m a v) b = Memory.readByte m b := by
  induction m with
  | nil => unfold Memory.writeByte; split <;> simp [Memory.readByte, h.symm]
  | cons c m ih =>
    obtain ⟨k, w⟩ := c
    unfold Memory.writeByte
    repeat' split
    all_goals simp_all [Memory.readByte]
    all_goals grind

/-! ## Words -/

theorem Memory.wf_writeWord (m : Memory) (hm : Memory.wf m) (a : Nat) (w : Word) : Memory.wf (Memory.writeWord m a w) :=
  Memory.wf_writeByte _ (Memory.wf_writeByte _ hm _ _) _ _

theorem Memory.wf_writeWords (ws : List Word) (m : Memory) (hm : Memory.wf m) (a : Nat) :
    Memory.wf (Memory.writeWords m a ws) := by
  induction ws generalizing m a with
  | nil => exact hm
  | cons w ws ih => exact ih _ (Memory.wf_writeWord _ hm _ _) _

theorem Memory.wf_writeChanged (os ns : List Word) (m : Memory) (hm : Memory.wf m) (a : Nat) :
    Memory.wf (Memory.writeChanged m a os ns) := by
  induction os generalizing m a ns with
  | nil => exact hm
  | cons o os ih =>
    cases ns with
    | nil => exact hm
    | cons n ns =>
      refine ih ns _ ?_ _
      split
      · exact hm
      · exact Memory.wf_writeWord _ hm _ _

/-- A word write leaves every byte but its two alone. -/
theorem Memory.readByte_writeWord (m : Memory) (a b : Nat) (w : Word) (h : b < a ∨ a + 2 ≤ b) :
    Memory.readByte (Memory.writeWord m a w) b = Memory.readByte m b := by
  unfold Memory.writeWord
  rw [Memory.readByte_writeByte_ne _ _ _ _ (by omega), Memory.readByte_writeByte_ne _ _ _ _ (by omega)]

/-- A write of consecutive words leaves every byte outside its span alone. -/
theorem Memory.readByte_writeWords (ws : List Word) (m : Memory) (a b : Nat) (h : b < a ∨ a + 2 * ws.length ≤ b) :
    Memory.readByte (Memory.writeWords m a ws) b = Memory.readByte m b := by
  induction ws generalizing m a with
  | nil => rfl
  | cons w ws ih =>
    simp only [List.length_cons] at h
    rw [Memory.writeWords, ih _ _ (by omega), Memory.readByte_writeWord _ _ _ _ (by omega)]

/-- A rewrite of the words that changed leaves every byte outside the new image alone. -/
theorem Memory.readByte_writeChanged (os ns : List Word) (m : Memory) (a b : Nat) (h : b < a ∨ a + 2 * ns.length ≤ b) :
    Memory.readByte (Memory.writeChanged m a os ns) b = Memory.readByte m b := by
  induction os generalizing m a ns with
  | nil => rfl
  | cons o os ih =>
    cases ns with
    | nil => rfl
    | cons n ns =>
      simp only [List.length_cons] at h
      rw [Memory.writeChanged, ih _ _ _ (by omega)]
      split
      · rfl
      · exact Memory.readByte_writeWord _ _ _ _ (by omega)

/-- A rewrite of an image that has not changed changes nothing. -/
theorem Memory.writeChanged_self (ws : List Word) (m : Memory) (a : Nat) : Memory.writeChanged m a ws ws = m := by
  induction ws generalizing a with
  | nil => rfl
  | cons w ws ih => simp [Memory.writeChanged, ih]

/-- A word put together from the bytes of a word is that word. -/
theorem word_of_bytes (w : Word) : (highByte w).append (lowByte w) = w := by
  apply BitVec.eq_of_toNat_eq
  have h := w.isLt
  change ((highByte w) ++ (lowByte w)).toNat = w.toNat
  rw [BitVec.toNat_append]
  simp only [highByte, lowByte, BitVec.extractLsb'_toNat, Nat.shiftRight_zero]
  rw [Nat.shiftLeft_eq, ← Nat.shiftLeft_eq, Nat.shiftRight_eq_div_pow, ← Nat.shiftLeft_add_eq_or_of_lt (by omega),
    Nat.shiftLeft_eq]
  omega

theorem Memory.readWord_writeWord (m : Memory) (hm : Memory.wf m) (a : Nat) (w : Word) :
    Memory.readWord (Memory.writeWord m a w) a = w := by
  unfold Memory.readWord Memory.writeWord
  have h1 := Memory.wf_writeByte m hm a (lowByte w)
  rw [Memory.readByte_writeByte _ h1, Memory.readByte_writeByte _ h1, if_pos rfl, if_neg (by omega),
    Memory.readByte_writeByte _ hm, if_pos rfl, word_of_bytes]

/-- A word elsewhere is not changed by a word write. -/
theorem Memory.readWord_writeWord_ne (m : Memory) (a b : Nat) (w : Word) (h : b + 2 ≤ a ∨ a + 2 ≤ b) :
    Memory.readWord (Memory.writeWord m a w) b = Memory.readWord m b := by
  unfold Memory.readWord
  rw [Memory.readByte_writeWord _ _ _ _ (by omega), Memory.readByte_writeWord _ _ _ _ (by omega)]

theorem Memory.readWord_writeWords_ne (ws : List Word) (m : Memory) (a b : Nat) (h : b + 2 ≤ a ∨ a + 2 * ws.length ≤ b) :
    Memory.readWord (Memory.writeWords m a ws) b = Memory.readWord m b := by
  unfold Memory.readWord
  rw [Memory.readByte_writeWords _ _ _ _ (by omega), Memory.readByte_writeWords _ _ _ _ (by omega)]

/-- Word k of a block of words that was written. -/
theorem Memory.readWord_writeWords (ws : List Word) (m : Memory) (hm : Memory.wf m) (a k : Nat) (h : k < ws.length) :
    Memory.readWord (Memory.writeWords m a ws) (a + 2 * k) = ws[k] := by
  induction ws generalizing m a k with
  | nil => simp at h
  | cons w ws ih =>
    rw [Memory.writeWords]
    cases k with
    | zero =>
      rw [Memory.readWord_writeWords_ne _ _ _ _ (by omega)]
      simpa using Memory.readWord_writeWord m hm a w
    | succ k =>
      have := ih (Memory.writeWord m a w) (Memory.wf_writeWord _ hm _ _) (a + 2) k (by simpa using h)
      rw [show a + 2 * (k + 1) = a + 2 + 2 * k by omega, this]
      rfl

/-- Word k of an image of which the changed words were rewritten. -/
theorem Memory.readWord_writeChanged (os ns : List Word) (m : Memory) (hm : Memory.wf m) (a k : Nat) (ho : k < os.length)
    (hn : k < ns.length) :
    Memory.readWord (Memory.writeChanged m a os ns) (a + 2 * k)
      = if os[k] = ns[k] then Memory.readWord m (a + 2 * k) else ns[k] := by
  induction os generalizing m a ns k with
  | nil => simp at ho
  | cons o os ih =>
    cases ns with
    | nil => simp at hn
    | cons n ns =>
      rw [Memory.writeChanged]
      have hlen : ∀ (m : Memory) b, b + 2 ≤ a + 2 →
          Memory.readWord (Memory.writeChanged m (a + 2) os ns) b = Memory.readWord m b := by
        intro m b hb
        unfold Memory.readWord
        rw [Memory.readByte_writeChanged _ _ _ _ _ (by omega), Memory.readByte_writeChanged _ _ _ _ _ (by omega)]
      cases k with
      | zero =>
        rw [hlen _ _ (by omega)]
        simp only [Nat.mul_zero, Nat.add_zero, List.getElem_cons_zero]
        split
        · rfl
        · exact Memory.readWord_writeWord m hm a n
      | succ k =>
        rw [show a + 2 * (k + 1) = a + 2 + 2 * k by omega, ih ns _ ?_ (a + 2) k (by simpa using ho) (by simpa using hn)]
        · simp only [List.getElem_cons_succ]
          split
          · split
            · rfl
            · exact Memory.readWord_writeWord_ne _ _ _ _ (by omega)
          · rfl
        · split
          · exact hm
          · exact Memory.wf_writeWord _ hm _ _

end Sys2Proof.Machine
end

