-- ==== Sys2Proof/Laws/Images.lean ====
section
/-! SUPPORT. Laws/Images.lean: where the images lie, and what their publication changes in lane memory. -/

namespace Sys2Proof.Machine

@[simp] theorem headerWords_length (s : State) : (headerWords s).length = 32 := by simp [headerWords]

@[simp] theorem padWords_length (n : Nat) (l : List Word) : (padWords n l).length = n := by
  simp [padWords]; omega

@[simp] theorem tableWords_length (t : AxleTable) : (tableWords t).length = 1152 := by
  simp [tableWords, tableHeaderWords, recordWords, List.range_succ]

@[simp] theorem certWords_length (c : CertRecord) : (certWords c).length = 512 := by simp [certWords]

@[simp] theorem attemptWords_length (a : Attempt) : (attemptWords a).length = 16 := by simp [attemptWords]

@[simp] theorem entryWords_length (q : Word) (c a g : Nat) (t : DWord) (p1 p2 : Word) :
    (entryWords q c a g t p1 p2).length = 8 := rfl

@[simp] theorem resultWords_length (l : List Word) : (resultWords l).length = 6 := by simp [resultWords]

@[simp] theorem gaugeWords_length (s : State) (q : Word) : (s.gaugeWords q).length = 32 := by simp [State.gaugeWords]

@[simp] theorem headerWords_setPending (s : State) (x : List Instr) : headerWords (s.setPending x) = headerWords s := rfl
@[simp] theorem headerWords_setMem (s : State) (x : Memory) : headerWords (s.setMem x) = headerWords s := rfl
@[simp] theorem headerWords_setClk (s : State) (x : Clock) : headerWords (s.setClk x) = headerWords s := rfl
@[simp] theorem headerWords_setCause (s : State) (x : StartCause) : headerWords (s.setCause x) = headerWords s := rfl
@[simp] theorem headerWords_setSlots (s : State) (x : List Held) : headerWords (s.setSlots x) = headerWords s := rfl
@[simp] theorem headerWords_setAtt (s : State) (x : Attention) : headerWords (s.setAtt x) = headerWords s := rfl
@[simp] theorem headerWords_setGauge (s : State) (x : Gauge) : headerWords (s.setGauge x) = headerWords s := rfl
@[simp] theorem headerWords_setNv (s : State) (x : Nv) : headerWords (s.setNv x) = headerWords s := rfl
@[simp] theorem headerWords_setSeat (s : State) (x : Seating) : headerWords (s.setSeat x) = headerWords s := rfl
@[simp] theorem headerWords_setDtest (s : State) (x : Option DriveTest) : headerWords (s.setDtest x) = headerWords s := rfl
@[simp] theorem headerWords_setWeigh (s : State) (x : Option Weighing) : headerWords (s.setWeigh x) = headerWords s := rfl
@[simp] theorem headerWords_setRun (s : State) (x : RunUnit) : headerWords (s.setRun x) = headerWords s := rfl
@[simp] theorem headerWords_setPlate (s : State) (x : Plate) : headerWords (s.setPlate x) = headerWords s := rfl

@[simp] theorem headerDWords_setMem (s : State) (x : Memory) : headerDWords (s.setMem x) = headerDWords s := rfl

/-! ## The header -/

/-- The 32-bit values of the header lie between the put index and the plate count. -/
theorem headerDWords_range (s : State) : ∀ x ∈ headerDWords s, 0x0012 ≤ x.1 ∧ x.1 + 4 ≤ 0x003E := by
  simp [headerDWords]

theorem Memory.writeChangedDWords_self (l : List (Nat × DWord)) (m : Memory) : Memory.writeChangedDWords m l l = m := by
  induction l with
  | nil => rfl
  | cons x l ih => simp [Memory.writeChangedDWords, ih]

theorem Memory.wf_writeChangedDWords (os ns : List (Nat × DWord)) (m : Memory) (h : Memory.wf m) :
    Memory.wf (Memory.writeChangedDWords m os ns) := by
  induction os generalizing m ns with
  | nil => exact h
  | cons o os ih =>
    cases ns with
    | nil => exact h
    | cons n ns =>
      refine ih _ _ ?_
      split
      · exact h
      · exact Memory.wf_writeWords _ _ h _

theorem Memory.readByte_writeChangedDWords (os ns : List (Nat × DWord)) (m : Memory) (a : Nat)
    (h : ∀ x ∈ ns, a < x.1 ∨ x.1 + 4 ≤ a) :
    Memory.readByte (Memory.writeChangedDWords m os ns) a = Memory.readByte m a := by
  induction os generalizing m ns with
  | nil => rfl
  | cons o os ih =>
    cases ns with
    | nil => rfl
    | cons n ns =>
      rw [Memory.writeChangedDWords, ih _ _ (fun x hx => h x (by simp [hx]))]
      split
      · rfl
      · exact Memory.readByte_writeWords _ _ _ _ (by simpa using h n (by simp))

/-- The header's publication leaves every byte from 0x040 on alone. -/
theorem publishHeader_readByte (old new : State) (a : Nat) (h : 0x0040 ≤ a) :
    Memory.readByte (publishHeader old new) a = Memory.readByte new.mem a := by
  rw [publishHeader, Memory.readByte_writeChangedDWords _ _ _ _ (fun x hx => by
    have := headerDWords_range new x hx; omega)]
  exact Memory.readByte_writeChanged _ _ _ _ _ (by simp only [headerWords_length]; omega)

theorem publishHeader_wf (old new : State) (h : Memory.wf new.mem) : Memory.wf (publishHeader old new) :=
  Memory.wf_writeChangedDWords _ _ _ (Memory.wf_writeChanged _ _ _ h _)

/-! ## Publication -/

/-- The bytes that publication may rewrite. -/
def imageByte (a : Nat) : Prop := headerByte a ∨ tableByte a ∨ ∃ k, k < 4 ∧ certByte k a

theorem publishCert_readByte (old new : State) (m : Memory) (k a : Nat) (h : ¬ certByte k a) :
    Memory.readByte (publishCert old new m k) a = Memory.readByte m a := by
  unfold publishCert
  split
  · rfl
  · unfold certByte at h
    exact Memory.readByte_writeChanged _ _ _ _ _ (by simp only [certWords_length]; omega)

theorem publishCert_wf (old new : State) (m : Memory) (k : Nat) (h : Memory.wf m) : Memory.wf (publishCert old new m k) := by
  unfold publishCert
  split
  · exact h
  · exact Memory.wf_writeChanged _ _ _ h _

/-- Publication leaves every byte outside the images alone. -/
theorem publishedMem_readByte (old new : State) (a : Nat) (h : ¬ imageByte a) :
    Memory.readByte (publishedMem old new) a = Memory.readByte new.mem a := by
  have hh : ¬ headerByte a := fun x => h (.inl x)
  have ht : ¬ tableByte a := fun x => h (.inr (.inl x))
  have hc : ∀ k, k < 4 → ¬ certByte k a := fun k hk x => h (.inr (.inr ⟨k, hk, x⟩))
  unfold headerByte at hh
  unfold tableByte at ht
  simp only [publishedMem, List.range_succ, List.range_zero, List.nil_append, List.foldl_append, List.foldl_cons,
    List.foldl_nil]
  rw [publishCert_readByte _ _ _ _ _ (hc 3 (by omega)), publishCert_readByte _ _ _ _ _ (hc 2 (by omega)),
    publishCert_readByte _ _ _ _ _ (hc 1 (by omega)), publishCert_readByte _ _ _ _ _ (hc 0 (by omega))]
  have h1 : ∀ m : Memory, Memory.readByte (if old.tab = new.tab then m
      else Memory.writeChanged m 0x0900 (tableWords old.tab) (tableWords new.tab)) a = Memory.readByte m a := by
    intro m
    split
    · rfl
    · exact Memory.readByte_writeChanged _ _ _ _ _ (by simp only [tableWords_length]; omega)
  have h2 : ∀ m : Memory, Memory.readByte (if old.gauge.skipped = new.gauge.skipped then m
      else Memory.writeWord m 0x0046 new.gauge.skipped) a = Memory.readByte m a := by
    intro m
    split
    · rfl
    · exact Memory.readByte_writeWord _ _ _ _ (by omega)
  rw [h1, h2]
  exact publishHeader_readByte _ _ _ (by omega)

theorem publish_readByte (old new : State) (a : Nat) (h : ¬ imageByte a) :
    Memory.readByte (publish old new).mem a = Memory.readByte new.mem a := publishedMem_readByte old new a h

/-- With the axle table and the certificate records unchanged, publication rewrites the header alone. -/
theorem publish_readByte_header (old new : State) (ht : old.tab = new.tab) (hc : old.comp.records = new.comp.records)
    (a : Nat) (h : ¬ headerByte a) : Memory.readByte (publish old new).mem a = Memory.readByte new.mem a := by
  have hk : ∀ k, old.cert k = new.cert k := fun k => by simp [State.cert, hc]
  unfold headerByte at h
  simp only [publish, State.setMem_mem, publishedMem, List.range_succ, List.range_zero, List.nil_append,
    List.foldl_append, List.foldl_cons, List.foldl_nil, publishCert, hk, ht, if_true]
  rw [show ∀ m : Memory, Memory.readByte (if old.gauge.skipped = new.gauge.skipped then m
      else Memory.writeWord m 0x0046 new.gauge.skipped) a = Memory.readByte m a from fun m => by
        split
        · rfl
        · exact Memory.readByte_writeWord _ _ _ _ (by omega)]
  exact publishHeader_readByte _ _ _ (by omega)

/-- With the certificate records unchanged, publication rewrites the header and the axle table alone. -/
theorem publish_readByte_table (old new : State) (hc : old.comp.records = new.comp.records)
    (a : Nat) (h : ¬ headerByte a) (h' : ¬ tableByte a) :
    Memory.readByte (publish old new).mem a = Memory.readByte new.mem a := by
  have hk : ∀ k, old.cert k = new.cert k := fun k => by simp [State.cert, hc]
  unfold headerByte at h
  unfold tableByte at h'
  simp only [publish, State.setMem_mem, publishedMem, List.range_succ, List.range_zero, List.nil_append,
    List.foldl_append, List.foldl_cons, List.foldl_nil, publishCert, hk, if_true]
  rw [show ∀ m : Memory, Memory.readByte (if old.tab = new.tab then m
      else Memory.writeChanged m 0x0900 (tableWords old.tab) (tableWords new.tab)) a = Memory.readByte m a from fun m => by
        split
        · rfl
        · exact Memory.readByte_writeChanged _ _ _ _ _ (by simp only [tableWords_length]; omega),
    show ∀ m : Memory, Memory.readByte (if old.gauge.skipped = new.gauge.skipped then m
      else Memory.writeWord m 0x0046 new.gauge.skipped) a = Memory.readByte m a from fun m => by
        split
        · rfl
        · exact Memory.readByte_writeWord _ _ _ _ (by omega)]
  exact publishHeader_readByte _ _ _ (by omega)

/-- One word of a memory after the 32-bit values of a list are written: as it was, or one of the words written there. -/
theorem Memory.readWord_writeChangedDWords (os ns : List (Nat × DWord)) (m : Memory) (hm : Memory.wf m) (a : Nat) (v : Word)
    (hv : Memory.readWord m a = v) (h : ∀ x ∈ ns, (a = x.1 ∧ v = lowWord x.2) ∨ (a = x.1 + 2 ∧ v = highWord x.2) ∨
      a + 2 ≤ x.1 ∨ x.1 + 4 ≤ a) :
    Memory.readWord (Memory.writeChangedDWords m os ns) a = v := by
  induction os generalizing m ns with
  | nil => exact hv
  | cons o os ih =>
    cases ns with
    | nil => exact hv
    | cons n ns =>
      refine ih _ _ ?_ ?_ (fun x hx => h x (by simp [hx]))
      · split
        · exact hm
        · exact Memory.wf_writeWords _ _ hm _
      · split
        · exact hv
        · rcases h n (by simp) with ⟨rfl, hx⟩ | ⟨rfl, hx⟩ | hx | hx
          · rw [hx]; exact Memory.readWord_writeWords [lowWord n.2, highWord n.2] m hm n.1 0 (by simp)
          · rw [hx]; exact Memory.readWord_writeWords [lowWord n.2, highWord n.2] m hm n.1 1 (by simp)
          · rw [Memory.readWord_writeWords_ne _ _ _ _ (.inl hx), hv]
          · rw [Memory.readWord_writeWords_ne _ _ _ _ (.inr (by simpa using hx)), hv]

/-- The words of the header that hold no half of a 32-bit value of its list. -/
def singleWord (k : Nat) : Prop := k < 9 ∨ 17 ≤ k ∧ k < 29 ∨ k = 31

/-- Past the header, publication leaves the header's words alone. -/
theorem publish_readWord_header (old new : State) (k : Nat) (hk : k < 32) :
    Memory.readWord (publish old new).mem (2 * k) = Memory.readWord (publishHeader old new) (2 * k) := by
  simp only [publish, State.setMem_mem, publishedMem, List.range_succ, List.range_zero, List.nil_append,
    List.foldl_append, List.foldl_cons, List.foldl_nil]
  have hc : ∀ (m : Memory) j, Memory.readWord (publishCert old new m j) (2 * k) = Memory.readWord m (2 * k) := by
    intro m j
    unfold Memory.readWord
    rw [publishCert_readByte _ _ _ _ _ (by unfold certByte certBase; omega),
      publishCert_readByte _ _ _ _ _ (by unfold certByte certBase; omega)]
  rw [hc, hc, hc, hc]
  have ht : ∀ m : Memory, Memory.readWord (if old.tab = new.tab then m
      else Memory.writeChanged m 0x0900 (tableWords old.tab) (tableWords new.tab)) (2 * k) = Memory.readWord m (2 * k) := by
    intro m
    split
    · rfl
    · unfold Memory.readWord
      rw [Memory.readByte_writeChanged _ _ _ _ _ (by omega), Memory.readByte_writeChanged _ _ _ _ _ (by omega)]
  rw [ht]
  split
  · rfl
  · exact Memory.readWord_writeWord_ne _ _ _ _ (by omega)

/-- Word k of the header after publication (R196), where no half of a 32-bit value stands. -/
theorem publish_headerWord (old new : State) (hw : Memory.wf new.mem) (k : Nat) (hk : k < 32) (hs : singleWord k) :
    Memory.readWord (publish old new).mem (2 * k)
      = if (headerWords old)[k]'(by simpa using hk) = (headerWords new)[k]'(by simpa using hk)
        then Memory.readWord new.mem (2 * k) else (headerWords new)[k]'(by simpa using hk) := by
  have h := Memory.readWord_writeChanged (headerWords old) (headerWords new) new.mem hw 0x0000 k (by simpa using hk)
    (by simpa using hk)
  rw [Nat.zero_add] at h
  rw [publish_readWord_header _ _ _ hk, publishHeader, ← h]
  refine Memory.readWord_writeChangedDWords _ _ _ (Memory.wf_writeChanged _ _ _ hw _) _ _ rfl ?_
  unfold singleWord at hs
  simp only [headerDWords, List.mem_cons, List.not_mem_nil, or_false, forall_eq_or_imp, forall_eq]
  refine ⟨?_, ?_, ?_, ?_, ?_⟩ <;> exact .inr (.inr (by omega))

/-- A header word that showed the state before, or shows the state already, shows the state after publication (R196). -/
theorem publish_headerWord_shown (old new : State) (hw : Memory.wf new.mem) (k : Nat) (hk : k < 32)
    (h : Memory.readWord new.mem (2 * k) = (headerWords old)[k]'(by simpa using hk) ∨
      Memory.readWord new.mem (2 * k) = (headerWords new)[k]'(by simpa using hk)) :
    Memory.readWord (publish old new).mem (2 * k) = (headerWords new)[k]'(by simpa using hk) := by
  have h0 := Memory.readWord_writeChanged (headerWords old) (headerWords new) new.mem hw 0x0000 k (by simpa using hk)
    (by simpa using hk)
  rw [Nat.zero_add] at h0
  rw [publish_readWord_header _ _ _ hk, publishHeader]
  refine Memory.readWord_writeChangedDWords _ _ _ (Memory.wf_writeChanged _ _ _ hw _) _ _ ?_ ?_
  · rw [h0]
    split
    · rename_i he
      rcases h with h | h
      · rw [h, he]
      · exact h
    · rfl
  · simp only [headerDWords, List.mem_cons, List.not_mem_nil, or_false, forall_eq_or_imp, forall_eq]
    by_cases hs : singleWord k
    · unfold singleWord at hs
      refine ⟨?_, ?_, ?_, ?_, ?_⟩ <;> exact .inr (.inr (by omega))
    · have : k = 9 ∨ k = 10 ∨ k = 11 ∨ k = 12 ∨ k = 13 ∨ k = 14 ∨ k = 15 ∨ k = 16 ∨ k = 29 ∨ k = 30 := by
        unfold singleWord at hs; omega
      rcases this with rfl | rfl | rfl | rfl | rfl | rfl | rfl | rfl | rfl | rfl <;>
        refine ⟨?_, ?_, ?_, ?_, ?_⟩ <;>
        first
          | exact .inr (.inr (by omega))
          | exact .inl ⟨by omega, rfl⟩
          | exact .inr (.inl ⟨by omega, rfl⟩)

/-- The gauge skip count of the header. -/
theorem publish_skipWord (old new : State) (hw : Memory.wf new.mem) :
    Memory.readWord (publish old new).mem 0x0046
      = if old.gauge.skipped = new.gauge.skipped then Memory.readWord new.mem 0x0046 else new.gauge.skipped := by
  have h : Memory.readWord (publishHeader old new) 0x0046 = Memory.readWord new.mem 0x0046 := by
    unfold Memory.readWord
    rw [publishHeader_readByte _ _ _ (by omega), publishHeader_readByte _ _ _ (by omega)]
  have hwf : Memory.wf (publishHeader old new) := publishHeader_wf old new hw
  simp only [publish, State.setMem_mem, publishedMem, List.range_succ, List.range_zero, List.nil_append,
    List.foldl_append, List.foldl_cons, List.foldl_nil]
  have hc : ∀ (m : Memory) j, Memory.readWord (publishCert old new m j) 0x0046 = Memory.readWord m 0x0046 := by
    intro m j
    unfold Memory.readWord
    rw [publishCert_readByte _ _ _ _ _ (by unfold certByte certBase; omega),
      publishCert_readByte _ _ _ _ _ (by unfold certByte certBase; omega)]
  rw [hc, hc, hc, hc]
  have ht : ∀ m : Memory, Memory.readWord (if old.tab = new.tab then m
      else Memory.writeChanged m 0x0900 (tableWords old.tab) (tableWords new.tab)) 0x0046 = Memory.readWord m 0x0046 := by
    intro m
    split
    · rfl
    · unfold Memory.readWord
      rw [Memory.readByte_writeChanged _ _ _ _ _ (by omega), Memory.readByte_writeChanged _ _ _ _ _ (by omega)]
  rw [ht]
  split
  · exact h
  · exact Memory.readWord_writeWord _ hwf _ _

/-- Word k of the axle table area after publication: it is rewritten where the table's word has changed, and otherwise keeps what
stands there (R47, R196). -/
theorem publish_tableWord (old new : State) (hw : Memory.wf new.mem) (k : Nat) (hk : k < 1152) :
    Memory.readWord (publish old new).mem (0x0900 + 2 * k)
      = if (tableWords old.tab)[k]'(by simpa using hk) = (tableWords new.tab)[k]'(by simpa using hk)
        then Memory.readWord new.mem (0x0900 + 2 * k) else (tableWords new.tab)[k]'(by simpa using hk) := by
  have hh : Memory.readWord (publishHeader old new) (0x0900 + 2 * k) = Memory.readWord new.mem (0x0900 + 2 * k) := by
    unfold Memory.readWord
    rw [publishHeader_readByte _ _ _ (by omega), publishHeader_readByte _ _ _ (by omega)]
  have hc : ∀ (m : Memory) j, Memory.readWord (publishCert old new m j) (0x0900 + 2 * k)
      = Memory.readWord m (0x0900 + 2 * k) := by
    intro m j
    unfold Memory.readWord
    rw [publishCert_readByte _ _ _ _ _ (by unfold certByte certBase; omega),
      publishCert_readByte _ _ _ _ _ (by unfold certByte certBase; omega)]
  simp only [publish, State.setMem_mem, publishedMem, List.range_succ, List.range_zero, List.nil_append,
    List.foldl_append, List.foldl_cons, List.foldl_nil]
  rw [hc, hc, hc, hc]
  have hs : Memory.wf (if old.gauge.skipped = new.gauge.skipped then publishHeader old new
      else Memory.writeWord (publishHeader old new) 0x0046 new.gauge.skipped) ∧
      Memory.readWord (if old.gauge.skipped = new.gauge.skipped then publishHeader old new
        else Memory.writeWord (publishHeader old new) 0x0046 new.gauge.skipped) (0x0900 + 2 * k)
      = Memory.readWord new.mem (0x0900 + 2 * k) := by
    split
    · exact ⟨publishHeader_wf old new hw, hh⟩
    · exact ⟨Memory.wf_writeWord _ (publishHeader_wf old new hw) _ _,
        (Memory.readWord_writeWord_ne _ _ _ _ (by omega)).trans hh⟩
  by_cases ht : old.tab = new.tab
  · simp only [ht, if_true]
    exact hs.2
  · simp only [ht, if_false]
    rw [Memory.readWord_writeChanged _ _ _ hs.1 _ k (by simpa using hk) (by simpa using hk), hs.2]

theorem publish_wf (old new : State) (h : Memory.wf new.mem) : Memory.wf (publish old new).mem := by
  simp only [publish, State.setMem_mem, publishedMem, List.range_succ, List.range_zero, List.nil_append,
    List.foldl_append, List.foldl_cons, List.foldl_nil]
  refine publishCert_wf _ _ _ _ (publishCert_wf _ _ _ _ (publishCert_wf _ _ _ _ (publishCert_wf _ _ _ _ ?_)))
  have h1 : Memory.wf (publishHeader old new) := publishHeader_wf old new h
  have h2 : ∀ m : Memory, Memory.wf m → Memory.wf (if old.gauge.skipped = new.gauge.skipped then m
      else Memory.writeWord m 0x0046 new.gauge.skipped) := by
    intro m hm
    split
    · exact hm
    · exact Memory.wf_writeWord _ hm _ _
  split
  · exact h2 _ h1
  · exact Memory.wf_writeChanged _ _ _ (h2 _ h1) _

/-! ## The certificate records -/

@[simp] theorem textWords_length (n : Nat) (l : List Byte) : (textWords n l).length = n := by
  fun_induction textWords n l <;> simp_all

@[simp] theorem certSpanWords_length (c : CertRecord) : (certSpanWords c).length = 287 := by
  simp [certSpanWords, limitsWords, dwords]

/-- The publication of record j leaves the words of another record alone. -/
theorem publishCert_readWord_ne (old new : State) (m : Memory) (j k i : Nat) (hj : j ≠ k) (hi : i < 512) :
    Memory.readWord (publishCert old new m j) (certBase k + 2 * i) = Memory.readWord m (certBase k + 2 * i) := by
  unfold Memory.readWord
  rw [publishCert_readByte _ _ _ _ _ (by unfold certByte certBase; omega),
    publishCert_readByte _ _ _ _ _ (by unfold certByte certBase; omega)]

/-- Word i of record k after the publication of that record. -/
theorem publishCert_word (old new : State) (m : Memory) (hm : Memory.wf m) (k i : Nat) (hi : i < 512) :
    Memory.readWord (publishCert old new m k) (certBase k + 2 * i)
      = if (certWords (old.cert k))[i]'(by simpa using hi) = (certWords (new.cert k))[i]'(by simpa using hi)
        then Memory.readWord m (certBase k + 2 * i) else (certWords (new.cert k))[i]'(by simpa using hi) := by
  unfold publishCert
  split
  · rename_i h
    simp [h]
  · exact Memory.readWord_writeChanged _ _ _ hm _ i (by simpa using hi) (by simpa using hi)

/-- Word i of certificate record k after publication: it is rewritten where the record's word has changed, and otherwise keeps what stands
there (R170, R171, R196). -/
theorem publish_certWord (old new : State) (hw : Memory.wf new.mem) (k : Nat) (hk : k < 4) (i : Nat) (hi : i < 512) :
    Memory.readWord (publish old new).mem (certBase k + 2 * i)
      = if (certWords (old.cert k))[i]'(by simpa using hi) = (certWords (new.cert k))[i]'(by simpa using hi)
        then Memory.readWord new.mem (certBase k + 2 * i) else (certWords (new.cert k))[i]'(by simpa using hi) := by
  have hb : 0x1A40 ≤ certBase k := by unfold certBase; omega
  have hh : Memory.readWord (publishHeader old new) (certBase k + 2 * i) = Memory.readWord new.mem (certBase k + 2 * i) := by
    unfold Memory.readWord
    rw [publishHeader_readByte _ _ _ (by omega), publishHeader_readByte _ _ _ (by omega)]
  have hs : ∀ m : Memory, Memory.wf m → Memory.wf (if old.gauge.skipped = new.gauge.skipped then m
        else Memory.writeWord m 0x0046 new.gauge.skipped) ∧
      Memory.readWord (if old.gauge.skipped = new.gauge.skipped then m
        else Memory.writeWord m 0x0046 new.gauge.skipped) (certBase k + 2 * i) = Memory.readWord m (certBase k + 2 * i) := by
    intro m hm
    split
    · exact ⟨hm, rfl⟩
    · exact ⟨Memory.wf_writeWord _ hm _ _, Memory.readWord_writeWord_ne _ _ _ _ (by omega)⟩
  have ht : ∀ m : Memory, Memory.wf m → Memory.wf (if old.tab = new.tab then m
        else Memory.writeChanged m 0x0900 (tableWords old.tab) (tableWords new.tab)) ∧
      Memory.readWord (if old.tab = new.tab then m
        else Memory.writeChanged m 0x0900 (tableWords old.tab) (tableWords new.tab)) (certBase k + 2 * i)
        = Memory.readWord m (certBase k + 2 * i) := by
    intro m hm
    split
    · exact ⟨hm, rfl⟩
    · refine ⟨Memory.wf_writeChanged _ _ _ hm _, ?_⟩
      unfold Memory.readWord
      rw [Memory.readByte_writeChanged _ _ _ _ _ (by simp only [tableWords_length]; omega),
        Memory.readByte_writeChanged _ _ _ _ _ (by simp only [tableWords_length]; omega)]
  have h1 := hs _ (publishHeader_wf old new hw)
  have h2 := ht _ h1.1
  have h3 := h2.2.trans (h1.2.trans hh)
  simp only [publish, State.setMem_mem, publishedMem, List.range_succ, List.range_zero, List.nil_append,
    List.foldl_append, List.foldl_cons, List.foldl_nil]
  rw [← h3]
  have hc : k = 0 ∨ k = 1 ∨ k = 2 ∨ k = 3 := by omega
  rcases hc with rfl | rfl | rfl | rfl
  · rw [publishCert_readWord_ne _ _ _ 3 0 i (by omega) hi, publishCert_readWord_ne _ _ _ 2 0 i (by omega) hi,
      publishCert_readWord_ne _ _ _ 1 0 i (by omega) hi]
    exact publishCert_word _ _ _ h2.1 0 i hi
  · rw [publishCert_readWord_ne _ _ _ 3 1 i (by omega) hi, publishCert_readWord_ne _ _ _ 2 1 i (by omega) hi,
      publishCert_word _ _ _ (publishCert_wf _ _ _ _ h2.1) 1 i hi, publishCert_readWord_ne _ _ _ 0 1 i (by omega) hi]
  · rw [publishCert_readWord_ne _ _ _ 3 2 i (by omega) hi,
      publishCert_word _ _ _ (publishCert_wf _ _ _ _ (publishCert_wf _ _ _ _ h2.1)) 2 i hi,
      publishCert_readWord_ne _ _ _ 1 2 i (by omega) hi, publishCert_readWord_ne _ _ _ 0 2 i (by omega) hi]
  · rw [publishCert_word _ _ _ (publishCert_wf _ _ _ _ (publishCert_wf _ _ _ _ (publishCert_wf _ _ _ _ h2.1))) 3 i hi,
      publishCert_readWord_ne _ _ _ 2 3 i (by omega) hi, publishCert_readWord_ne _ _ _ 1 3 i (by omega) hi,
      publishCert_readWord_ne _ _ _ 0 3 i (by omega) hi]

/-- The words 3 to 287 of a certificate record, which a fill writes, are those of its span without the number (R171, R172). -/
theorem certWords_fill_eq_span (c : CertRecord) : ((certWords c).drop 3).take 285 = (certSpanWords c).drop 2 := by
  have h := certSpanWords_length c
  have h' : ((certSpanWords c).drop 2).length = 285 := by rw [List.length_drop, h]
  simp only [certWords, padWords, List.drop_take, List.take_take, List.append_assoc, List.cons_append, List.nil_append,
    List.drop_succ_cons, List.drop_append_of_le_length (by omega : 2 ≤ (certSpanWords c).length)]
  rw [show min 285 (512 - 3) = 285 from rfl, List.take_append_of_le_length (by omega), List.take_of_length_le (by omega)]

/-- Writing the words of a fill leaves every other byte alone. -/
theorem State.rewriteFill_readByte (s : State) (k a : Nat) (h : a < certBase k + 6 ∨ certBase k + 0x240 ≤ a) :
    Memory.readByte (s.rewriteFill k).mem a = Memory.readByte s.mem a := by
  have hl : (((certWords (s.cert k)).drop 3).take 285).length = 285 := by simp
  exact Memory.readByte_writeWords _ _ _ _ (by rw [hl]; omega)

/-- Writing the words of a fill shows them, whatever stood there before. -/
theorem State.rewriteFill_word (s : State) (hw : Memory.wf s.mem) (k i : Nat) (h3 : 3 ≤ i) (h : i < 288) :
    Memory.readWord (s.rewriteFill k).mem (certBase k + 2 * i) = (certWords (s.cert k))[i]'(by simp; omega) := by
  have hl : (((certWords (s.cert k)).drop 3).take 285).length = 285 := by simp
  have := Memory.readWord_writeWords (((certWords (s.cert k)).drop 3).take 285) s.mem hw (certBase k + 2 * 3) (i - 3)
    (by rw [hl]; omega)
  rw [show certBase k + 2 * 3 + 2 * (i - 3) = certBase k + 2 * i from by omega] at this
  simp only [List.getElem_take, List.getElem_drop, show 3 + (i - 3) = i from by omega] at this
  exact this

/-- A change of the sequencer's own state shows its word in the header and leaves every other byte alone (R196). -/
theorem State.putSeq_word (s : State) (hw : Memory.wf s.mem) (x : Sequencer) :
    Memory.readWord (s.putSeq x).mem 0x0002 = word (codeOfSeq x.state) := Memory.readWord_writeWord _ hw _ _

theorem State.putSeq_readByte (s : State) (x : Sequencer) (a : Nat) (h : a < 2 ∨ 4 ≤ a) :
    Memory.readByte (s.putSeq x).mem a = Memory.readByte s.mem a := Memory.readByte_writeWord _ _ _ _ h

/-! ## Events that change no image -/

/-- An event that changes no part behind an image changes no image. -/
theorem publish_self (s : State) : publish s s = s := by
  simp [publish, publishedMem, publishHeader, Memory.writeChanged_self, Memory.writeChangedDWords_self, publishCert,
    List.range_succ, State.setMem]

/-- With every state behind an image unchanged, publication changes nothing. -/
theorem publish_same (old new : State) (hh : headerWords old = headerWords new) (hd : headerDWords old = headerDWords new)
    (hg : old.gauge.skipped = new.gauge.skipped) (ht : old.tab = new.tab) (hc : old.comp.records = new.comp.records) :
    publish old new = new := by
  have hk : ∀ k, old.cert k = new.cert k := fun k => by simp [State.cert, hc]
  simp [publish, publishedMem, publishHeader, hh, hd, hg, ht, hk, Memory.writeChanged_self, Memory.writeChangedDWords_self,
    publishCert, List.range_succ, State.setMem]

end Sys2Proof.Machine
end

