-- ==== Sys2Proof/Laws/Abort.lean ====
section
/-! SUPPORT. Laws/Abort.lean: what an abort of the plan does to the axle records, and the bytes of lane memory it leaves as the host
finds them (R47, R147). -/

namespace Sys2Proof.Machine

/-- A record that step 4 of R147 has written. -/
def AxleRecord.aborted (r : AxleRecord) : AxleRecord := { r with status := .skipped, skip := some .aborted }

/-- Byte a lies among the status, presence and skip reason words of the image of axle record k. -/
def statusByte (k a : Nat) : Prop := 0x0A00 + 256 * k ≤ a ∧ a < 0x0A00 + 256 * k + 6

@[simp] theorem State.rewriteFields_record (s : State) (k i n j : Nat) : (s.rewriteFields k i n).record j = s.record j := by
  simp [State.record]

theorem State.setRecord_record (s : State) (k j : Nat) (r : AxleRecord) (h : k < s.tab.records.length) :
    (s.setRecord k r).record j = if j = k then r else s.record j := by
  by_cases hj : j = k
  · subst hj
    simp [State.record, State.setRecord, h]
  · simp [State.record, State.setRecord, hj, Ne.symm hj]

/-- A record outside the list reads as EMPTY, so an abort does not write it. -/
theorem State.lt_of_untested {s : State} {k : Nat} (h : (s.record k).untested = true) : k < s.tab.records.length := by
  by_contra hk
  simp [State.record, List.getElem?_eq_none (Nat.le_of_not_lt hk), AxleRecord.untested, AxleRecord.cleared] at h

theorem State.rewriteFields_readByte (s : State) (k i n a : Nat) (hn : i + n ≤ 128)
    (h : a < 0x0A00 + 256 * k + 2 * i ∨ 0x0A00 + 256 * k + 2 * i + 2 * n ≤ a) :
    Memory.readByte (s.rewriteFields k i n).mem a = Memory.readByte s.mem a := by
  unfold State.rewriteFields
  split
  · exact Memory.readByte_writeWords _ _ _ _ (by simp [recordWords]; omega)
  · rfl

/-- What step 4 of R147 does to one record: it is written if it is untested, and every other record stays. -/
theorem State.abortRecord_record (s : State) (k j : Nat) :
    (s.abortRecord k).record j = if j = k ∧ (s.record k).untested = true then (s.record k).aborted else s.record j := by
  unfold State.abortRecord
  split <;> rename_i hs
  · simp [hs, State.setStatus, State.setRecord_record _ _ _ _ (State.lt_of_untested hs), AxleRecord.aborted]
  · simp [hs]

/-- The bytes that step 4 of R147 may change at one record. -/
theorem State.abortRecord_readByte (s : State) (k a : Nat) (h : (s.record k).untested = true → ¬ statusByte k a) :
    Memory.readByte (s.abortRecord k).mem a = Memory.readByte s.mem a := by
  unfold State.abortRecord
  split <;> rename_i hs
  · have ha := h hs
    unfold statusByte at ha
    rw [State.setStatus, State.rewriteFields_readByte _ _ _ _ _ (by omega) (by omega)]
    rfl
  · rfl

/-- The first n records of an abort, in axle order. -/
theorem abortFold (s : State) (n : Nat) :
    let t := (List.range n).foldl State.abortRecord s
    (∀ j, t.record j = if j < n ∧ (s.record j).untested = true then (s.record j).aborted else s.record j) ∧
    ∀ a, (∀ k, k < n → (s.record k).untested = true → ¬ statusByte k a) → Memory.readByte t.mem a = Memory.readByte s.mem a := by
  induction n with
  | zero => simp
  | succ n ih =>
    obtain ⟨hr, hm⟩ := ih
    simp only [List.range_succ, List.foldl_append, List.foldl_cons, List.foldl_nil]
    have hn : (List.foldl State.abortRecord s (List.range n)).record n = s.record n := by simp [hr]
    refine ⟨fun j => ?_, fun a ha => ?_⟩
    · rw [State.abortRecord_record, hn, hr]
      by_cases hj : j = n
      · subst hj; simp
      · have : j < n + 1 ↔ j < n := by omega
        simp [hj, this]
    · rw [State.abortRecord_readByte _ _ _ (by rw [hn]; exact ha n (by omega))]
      exact hm a fun k hk => ha k (by omega)

/-- The records after step 4 of R147: those below the axle count that were untested are SKIPPED / ABORTED, the others stay. -/
theorem State.abortRecords_record (s : State) (j : Nat) :
    s.abortRecords.record j =
      if j < s.tab.axleCount ∧ (s.record j).untested = true then (s.record j).aborted else s.record j :=
  (abortFold s _).1 j

/-- What the host reads in a record that step 4 of R147 does not write stays, and so does every other byte (R47). -/
theorem State.abortRecords_readByte (s : State) (a : Nat)
    (ha : ∀ k, k < s.tab.axleCount → (s.record k).untested = true → ¬ statusByte k a) :
    Memory.readByte s.abortRecords.mem a = Memory.readByte s.mem a :=
  (abortFold s _).2 a ha

/-! ## The table's words -/

@[simp] theorem recordWords_length (r : AxleRecord) : (recordWords r).length = 128 := by simp [recordWords]

/-- From the weights on, the image of a record does not show an abort. -/
theorem recordWords_aborted (r : AxleRecord) (i : Nat) (h : 3 ≤ i) : (recordWords r.aborted)[i]? = (recordWords r)[i]? := by
  obtain ⟨n, rfl⟩ : ∃ n, i = n + 3 := ⟨i - 3, by omega⟩
  simp [recordWords, padWords, AxleRecord.aborted]

/-- Word i of the image of axle record k stands at word 128 + 128 k + i of the table area (R211). -/
theorem tableWords_record (t : AxleTable) (k i : Nat) (hk : k < 8) (hi : i < 128) :
    (tableWords t)[128 + 128 * k + i]? = (recordWords (t.records.getD k (AxleRecord.cleared .empty)))[i]? := by
  have hf : ∀ (f : Nat → List Word) (n : Nat), (∀ j, (f j).length = 128) → k < n →
      ((List.range n).flatMap f)[128 * k + i]? = (f k)[i]? := by
    intro f n hl
    induction n with
    | zero => omega
    | succ n ih =>
      intro hkn
      rw [List.range_succ, List.flatMap_append]
      have hlen : ((List.range n).flatMap f).length = 128 * n := by
        simp [List.length_flatMap, hl, Nat.mul_comm]
      rcases Nat.lt_or_ge k n with h | h
      · rw [List.getElem?_append_left (by omega)]
        exact ih h
      · obtain rfl : k = n := by omega
        rw [List.getElem?_append_right (by omega), hlen]
        simp
  unfold tableWords
  rw [List.getElem?_append_right (by simp [tableHeaderWords]; omega)]
  have := hf (fun k => recordWords (t.records.getD k (AxleRecord.cleared .empty))) 8 (fun j => recordWords_length _) hk
  rw [show 128 + 128 * k + i - (tableHeaderWords t).length = 128 * k + i by simp [tableHeaderWords]; omega]
  exact this

end Sys2Proof.Machine
end

