-- ==== Sys2Proof/Laws/Entries.lean ====
section
/-! SUPPORT. Laws/Entries.lean: what producing a journal entry and completing a slot do (R200, R202, R204, R205). -/

namespace Sys2Proof.Machine

/-! ## Reading blocks of words -/

theorem Memory.readWord_congr (m m' : Memory) (a : Nat) (h : ∀ b, a ≤ b → b < a + 2 → Memory.readByte m' b = Memory.readByte m b) :
    Memory.readWord m' a = Memory.readWord m a := by
  unfold Memory.readWord
  rw [h a (by omega) (by omega), h (a + 1) (by omega) (by omega)]

theorem Memory.readWords_congr (m m' : Memory) (n a : Nat)
    (h : ∀ b, a ≤ b → b < a + 2 * n → Memory.readByte m' b = Memory.readByte m b) :
    Memory.readWords m' a n = Memory.readWords m a n := by
  induction n generalizing a with
  | zero => rfl
  | succ n ih =>
    rw [Memory.readWords, Memory.readWords, ih _ (fun b h1 h2 => h b (by omega) (by omega)),
      Memory.readWord_congr m m' a (fun b h1 h2 => h b h1 (by omega))]

/-- A block of words that was written reads as written. -/
theorem Memory.readWords_writeWords (ws : List Word) (m : Memory) (hm : Memory.wf m) (a : Nat) :
    Memory.readWords (Memory.writeWords m a ws) a ws.length = ws := by
  induction ws generalizing m a with
  | nil => rfl
  | cons w ws ih =>
    rw [List.length_cons, Memory.readWords, Memory.writeWords, ih _ (Memory.wf_writeWord _ hm _ _),
      Memory.readWord_writeWords_ne _ _ _ _ (by omega), Memory.readWord_writeWord _ hm]

/-- The first words of a block. -/
theorem Memory.readWords_take (m : Memory) (a n k : Nat) (h : k ≤ n) :
    (Memory.readWords m a n).take k = Memory.readWords m a k := by
  induction n generalizing a k with
  | zero =>
    obtain rfl : k = 0 := by omega
    rfl
  | succ n ih =>
    cases k with
    | zero => rfl
    | succ k => rw [Memory.readWords, List.take_succ_cons, Memory.readWords, ih _ _ (by omega)]

/-! ## Production (R202) -/

theorem entryBase_range (i : Nat) : 0x1240 ≤ entryBase i ∧ entryBase i + 16 ≤ 0x1A40 := by
  unfold entryBase; omega

theorem nextEntryByte_ring (j : Journal) (a : Nat) (h : nextEntryByte j a) : ringByte a := by
  have := entryBase_range j.put.toNat
  unfold nextEntryByte at h
  unfold ringByte
  omega

theorem ringByte_not_image (a : Nat) (h : ringByte a) : ¬ imageByte a := by
  unfold ringByte at h
  unfold imageByte headerByte tableByte certByte certBase
  rintro (h' | h' | ⟨k, hk, h'⟩) <;> omega

@[simp] theorem State.raiseAttn_mem (s : State) (b : Byte) : (s.raiseAttn b).mem = s.mem := by simp
@[simp] theorem State.afterWritten_mem (s : State) (f g : Bool) : (s.afterWritten f g).mem = s.mem := by simp

/-- A production writes at most the next ring position. -/
theorem State.produce_readByte (s : State) (code axle : Nat) (p1 p2 : Word) (a : Nat) (h : ¬ nextEntryByte s.jr a) :
    Memory.readByte (s.produce code axle p1 p2).mem a = Memory.readByte s.mem a := by
  unfold State.produce
  unfold nextEntryByte at h
  split
  · simp
  · simp only [State.afterWritten_mem, State.setJr_mem, State.setMem_mem]
    exact Memory.readByte_writeWords _ _ _ _ (by simp only [entryWords_length]; omega)

theorem State.produce_wf (s : State) (code axle : Nat) (p1 p2 : Word) (h : Memory.wf s.mem) :
    Memory.wf (s.produce code axle p1 p2).mem := by
  unfold State.produce
  split
  · simpa using h
  · simp only [State.afterWritten_mem, State.setJr_mem, State.setMem_mem]
    exact Memory.wf_writeWords _ _ h _

/-- The journal after the work that follows a written entry: only the stale timer can have changed. -/
theorem State.afterWritten_jr (s : State) (full first : Bool) :
    (s.afterWritten full first).jr = { s.jr with staleTimer := if first then s.staleLoad else s.jr.staleTimer } := by
  unfold State.afterWritten
  cases first <;> cases full <;> simp only [Bool.false_eq_true, if_false, if_true] <;> split <;> simp

/-- A written entry leaves the stale time word alone. -/
theorem State.staleLoad_written (s : State) (j : Journal) (i : Nat) (ws : List Word) :
    ((s.setMem (Memory.writeWords s.mem (entryBase i) ws)).setJr j).staleLoad = s.staleLoad := by
  have hr := entryBase_range i
  have h := Memory.readWord_writeWords_ne ws s.mem (entryBase i) 0x042 (by omega)
  simp [State.staleLoad, State.timerIn, h]

/-- The journal after a production (R202, R205). -/
theorem State.produce_jr (s : State) (code axle : Nat) (p1 p2 : Word) :
    (s.produce code axle p1 p2).jr =
      if s.jr.blocks then s.jr.droppedEntry
      else { s.jr.written (decide (128 ≤ s.jr.count)) with
        staleTimer := if s.jr.count = 0 then s.staleLoad else s.jr.staleTimer } := by
  unfold State.produce
  split
  · simp
  · dsimp only
    rw [State.afterWritten_jr, State.staleLoad_written, State.setJr_jr]
    simp [Journal.written]

/-- Every production raises the produced total by 1 (R202). -/
theorem State.produce_produced (s : State) (code axle : Nat) (p1 p2 : Word) :
    (s.produce code axle p1 p2).jr.produced = s.jr.produced + 1 := by
  rw [State.produce_jr]
  split <;> simp [Journal.droppedEntry, Journal.written]

theorem State.produce_mode (s : State) (code axle : Nat) (p1 p2 : Word) :
    (s.produce code axle p1 p2).jr.mode = s.jr.mode := by
  rw [State.produce_jr]
  split <;> simp [Journal.droppedEntry, Journal.written]

/-- A written entry leaves the watermark word alone. -/
theorem State.watermark_written (s : State) (j : Journal) (i : Nat) (ws : List Word) :
    ((s.setMem (Memory.writeWords s.mem (entryBase i) ws)).setJr j).watermark = s.watermark := by
  have hr := entryBase_range i
  have h := Memory.readWord_writeWords_ne ws s.mem (entryBase i) 0x040 (by omega)
  simp [State.watermark, h]

/-- The attention register after the work that follows a written entry (R202, R204). -/
theorem State.afterWritten_att (s : State) (full first : Bool) :
    (s.afterWritten full first).att.bits
        = s.att.bits ||| (if s.watermark ≤ s.jr.count then attnJournal else 0) ||| (if full then attnLost else 0) ∧
      (s.afterWritten full first).att.mask = s.att.mask ∧
      (s.att.line = attentionLine s.att.bits s.att.mask →
        (s.afterWritten full first).att.line
          = attentionLine (s.afterWritten full first).att.bits (s.afterWritten full first).att.mask) := by
  unfold State.afterWritten
  generalize hs1 : (if first then s.setJr { s.jr with staleTimer := s.staleLoad } else s) = s1
  have ha : s1.att = s.att := by subst hs1; split <;> rfl
  have hw : s1.watermark = s.watermark := by subst hs1; split <;> rfl
  have hc : s1.jr.count = s.jr.count := by subst hs1; split <;> rfl
  simp only [hw, hc]
  by_cases h : s.watermark ≤ s.jr.count <;> cases full <;>
    simp [h, ha, State.raiseAttn, State.setAttn]

/-- The attention register after a production (R202, R204). -/
theorem State.produce_attBits (s : State) (code axle : Nat) (p1 p2 : Word) :
    (s.produce code axle p1 p2).att.bits =
      if s.jr.blocks then s.att.bits ||| attnLost
      else s.att.bits ||| (if s.watermark ≤ (s.produce code axle p1 p2).jr.count then attnJournal else 0)
        ||| (if 128 ≤ s.jr.count then attnLost else 0) := by
  by_cases hb : s.jr.blocks
  · simp [State.produce, hb, State.raiseAttn, State.setAttn]
  · have hc : (s.produce code axle p1 p2).jr.count = (s.jr.written (decide (128 ≤ s.jr.count))).count := by
      rw [State.produce_jr, if_neg hb]; rfl
    rw [hc, if_neg hb]
    unfold State.produce
    rw [if_neg hb]
    dsimp only
    rw [(State.afterWritten_att _ _ _).1, State.watermark_written]
    by_cases hf : 128 ≤ s.jr.count <;> simp [hf]

/-- A production keeps the mask. -/
theorem State.produce_attMask (s : State) (code axle : Nat) (p1 p2 : Word) :
    (s.produce code axle p1 p2).att.mask = s.att.mask := by
  unfold State.produce
  split
  · simp [State.raiseAttn, State.setAttn]
  · dsimp only
    rw [(State.afterWritten_att _ _ _).2.1]
    simp

/-- A production leaves the attention line as its rule asks (R195). -/
theorem State.produce_attLine (s : State) (code axle : Nat) (p1 p2 : Word)
    (h : s.att.line = attentionLine s.att.bits s.att.mask) :
    (s.produce code axle p1 p2).att.line
      = attentionLine (s.produce code axle p1 p2).att.bits (s.produce code axle p1 p2).att.mask := by
  unfold State.produce
  split
  · simp [State.raiseAttn, State.setAttn]
  · exact (State.afterWritten_att _ _ _).2.2 (by simpa using h)

/-- A production makes its entry (R202). -/
theorem entryMade_produce (s s' t : State) (code axle : Nat) (p1 p2 : Word) (hj : s'.jr = s.jr) (ht : s'.time = s.time)
    (hw : Memory.wf s'.mem) (hjt : t.jr = (s'.produce code axle p1 p2).jr)
    (hm : ∀ a, nextEntryByte s.jr a → Memory.readByte t.mem a = Memory.readByte (s'.produce code axle p1 p2).mem a) :
    EntryMade s t code axle p1 p2 := by
  refine ⟨by rw [hjt, State.produce_produced, hj], fun hb => ?_⟩
  have hb' : s'.jr.blocks = false := by rw [hj]; exact hb
  refine ⟨?_, ?_, ?_⟩
  · rw [hjt, State.produce_jr, hb']; simp [Journal.written, hj]
  · rw [hjt, State.produce_jr, hb']; simp [Journal.written, hj]
  · rw [Memory.readWords_congr (s'.produce code axle p1 p2).mem]
    · unfold State.produce
      rw [if_neg (by simp [hb'])]
      simp only [State.afterWritten_mem, State.setJr_mem, State.setMem_mem, hj, ht]
      exact Memory.readWords_writeWords (entryWords (lowWord (s.jr.produced + 1)) code axle s.jr.gap s.time p1 p2) _ hw _
    · intro b h1 h2
      exact hm b ⟨h1, by omega⟩

/-! ## Completion of a slot (R200) -/

theorem slotByte_not_image (n a : Nat) (h : slotByte n a) : ¬ imageByte a := by
  unfold slotByte slotBase at h
  unfold imageByte headerByte tableByte certByte certBase
  rintro (h' | h' | ⟨k, hk, h'⟩) <;> omega

theorem slotByte_not_ring (n a : Nat) (h : slotByte n a) : ¬ ringByte a := by
  unfold slotByte slotBase at h
  unfold ringByte
  omega

/-- A completion writes the part's words of the slot alone. -/
theorem State.finishSlot_readByte (s : State) (n : Nat) (o : ReqOutcome) (d : Detail) (r : List Word) (a : Nat)
    (h : ¬ slotByte n a) : Memory.readByte (s.finishSlot n o d r).mem a = Memory.readByte s.mem a := by
  unfold slotByte at h
  simp only [State.finishSlot, State.setHeld, State.setSlots_mem, State.setMem_mem]
  rw [Memory.readByte_writeWord _ _ _ _ (by omega), Memory.readByte_writeWords _ _ _ _ (by simp; omega),
    Memory.readByte_writeWord _ _ _ _ (by omega), Memory.readByte_writeWord _ _ _ _ (by omega)]

theorem State.finishSlot_wf (s : State) (n : Nat) (o : ReqOutcome) (d : Detail) (r : List Word) (h : Memory.wf s.mem) :
    Memory.wf (s.finishSlot n o d r).mem := by
  simp only [State.finishSlot, State.setHeld, State.setSlots_mem, State.setMem_mem]
  exact Memory.wf_writeWord _ (Memory.wf_writeWords _ _ (Memory.wf_writeWord _ (Memory.wf_writeWord _ h _ _) _ _) _) _ _

/-- The slot after its words are written (R200). -/
theorem State.finishSlot_done (s : State) (n : Nat) (o : ReqOutcome) (d : Detail) (r : List Word) (h : Memory.wf s.mem) :
    SlotDone (s.finishSlot n o d r) n o d r := by
  have h1 := Memory.wf_writeWord _ h (slotBase n + 0x08) (word (codeOfOutcome o))
  have h2 := Memory.wf_writeWord _ h1 (slotBase n + 0x0A) (word (codeOfDetail d))
  have h3 := Memory.wf_writeWords (resultWords r) _ h2 (slotBase n + 0x34)
  unfold SlotDone State.slotState State.held
  simp only [State.finishSlot, State.setHeld, State.setSlots_mem, State.setMem_mem, State.setSlots_slots,
    State.setMem_slots]
  refine ⟨?_, Memory.readWord_writeWord _ h3 _ _, ?_, ?_, ?_⟩
  · by_cases hn : n < s.slots.length
    · simp [List.getD_eq_getElem?_getD, hn]
    · simp [List.getD_eq_getElem?_getD, hn]
  · rw [Memory.readWord_writeWord_ne _ _ _ _ (by omega), Memory.readWord_writeWords_ne _ _ _ _ (by simp),
      Memory.readWord_writeWord_ne _ _ _ _ (by omega), Memory.readWord_writeWord _ h]
  · rw [Memory.readWord_writeWord_ne _ _ _ _ (by omega), Memory.readWord_writeWords_ne _ _ _ _ (by simp),
      Memory.readWord_writeWord _ h1]
  · have := Memory.readWords_writeWords (resultWords r) _ h2 (slotBase n + 0x34)
    rw [resultWords_length] at this
    refine Eq.trans (Memory.readWords_congr _ _ _ _ fun b h4 h5 => ?_) this
    exact Memory.readByte_writeWord _ _ _ _ (by omega)

/-- A slot that shows DONE goes on showing it while its words and the request unit's record stay as they are. -/
theorem SlotDone.congr {s t : State} {n : Nat} {o : ReqOutcome} {d : Detail} {r : List Word} (h : SlotDone s n o d r)
    (hs : t.slots = s.slots) (hm : ∀ a, slotByte n a → Memory.readByte t.mem a = Memory.readByte s.mem a) :
    SlotDone t n o d r := by
  unfold SlotDone State.slotState State.held at h ⊢
  unfold slotByte at hm
  rw [hs, Memory.readWord_congr s.mem t.mem _ (fun b h1 h2 => hm b (by omega)),
    Memory.readWord_congr s.mem t.mem (slotBase n + 0x08) (fun b h1 h2 => hm b (by omega)),
    Memory.readWord_congr s.mem t.mem (slotBase n + 0x0A) (fun b h1 h2 => hm b (by omega)),
    Memory.readWords_congr s.mem t.mem 6 (slotBase n + 0x34) (fun b h1 h2 => hm b (by omega))]
  exact h

theorem State.complete_jr (s : State) (n k : Nat) (o : ReqOutcome) (d : Detail) (r : List Word) :
    (s.complete n k o d r).jr = ((s.finishSlot n o d r).produce evRequestDone 0 (bytePair n k)
      (bytePair (codeOfDetail d) (codeOfOutcome o))).jr := by simp [State.complete]

theorem State.complete_mem (s : State) (n k : Nat) (o : ReqOutcome) (d : Detail) (r : List Word) :
    (s.complete n k o d r).mem = ((s.finishSlot n o d r).produce evRequestDone 0 (bytePair n k)
      (bytePair (codeOfDetail d) (codeOfOutcome o))).mem := by simp [State.complete]

theorem State.complete_wf (s : State) (n k : Nat) (o : ReqOutcome) (d : Detail) (r : List Word) (h : Memory.wf s.mem) :
    Memory.wf (s.complete n k o d r).mem := by
  rw [State.complete_mem]
  exact State.produce_wf _ _ _ _ _ (State.finishSlot_wf _ _ _ _ _ h)

/-- The completion of a slot leaves every byte alone but the slot's words and the next ring position. -/
theorem State.complete_readByte (s : State) (n k : Nat) (o : ReqOutcome) (d : Detail) (r : List Word) (a : Nat)
    (h1 : ¬ slotByte n a) (h2 : ¬ nextEntryByte s.jr a) :
    Memory.readByte (s.complete n k o d r).mem a = Memory.readByte s.mem a := by
  rw [State.complete_mem, State.produce_readByte _ _ _ _ _ _ (by simpa using h2), State.finishSlot_readByte _ _ _ _ _ _ h1]

/-- The completion of a slot: the slot is DONE and the request unit lets it go (R200). -/
theorem State.complete_done (s : State) (n k : Nat) (o : ReqOutcome) (d : Detail) (r : List Word)
    (h : Memory.wf s.mem) : SlotDone (s.complete n k o d r) n o d r := by
  refine (State.finishSlot_done s n o d r h).congr (by simp [State.complete]) fun a ha => ?_
  rw [State.complete_mem, State.produce_readByte]
  exact fun hr => slotByte_not_ring n a ha (nextEntryByte_ring _ _ hr)

/-- The completion of a slot makes its REQUEST_DONE entry (R200, R206). -/
theorem entryMade_complete (s s' t : State) (n k : Nat) (o : ReqOutcome) (d : Detail) (r : List Word) (hj : s'.jr = s.jr)
    (ht : s'.time = s.time) (hw : Memory.wf s'.mem) (hjt : t.jr = (s'.complete n k o d r).jr)
    (hm : ∀ a, nextEntryByte s.jr a → Memory.readByte t.mem a = Memory.readByte (s'.complete n k o d r).mem a) :
    EntryMade s t evRequestDone 0 (bytePair n k) (bytePair (codeOfDetail d) (codeOfOutcome o)) := by
  refine entryMade_produce s (s'.finishSlot n o d r) t _ _ _ _ (by simp [hj]) (by simp [ht])
    (State.finishSlot_wf _ _ _ _ _ hw) (by rw [hjt, State.complete_jr]) (fun a ha => ?_)
  rw [hm a ha, State.complete_mem]

end Sys2Proof.Machine
end

