-- ==== Sys2Proof/Laws/Frames.lean ====
section
/-! SUPPORT. Laws/Frames.lean: the frame a state composes is the one `frameShown` spells, and what a frame that falls due does to the
display link. -/

namespace Sys2Proof.Machine

/-- The message of the prompt (R71, R159). -/
theorem promptMessage_eq_shown (r : RunUnit) : promptMessage r.prompt = runMessageShown r := by
  unfold RunUnit.prompt runMessageShown
  cases r.phase <;> cases r.step <;> simp only <;> (try split) <;> rfl

/-- The message of a frame is that of the first test of R159 that holds. -/
theorem State.message_eq_shown (s : State) : s.message = messageShown s := by
  unfold State.message messageShown messageTests
  rw [promptMessage_eq_shown]
  generalize runMessageShown s.run = p
  generalize s.level .estop = e
  generalize s.level .presence = q
  generalize s.eng.loading = l
  generalize (s.eng.mode == .failsafe) = f
  generalize (s.drv.state == .lockout) = d
  generalize s.seq.refusal = r
  generalize s.seq.offer = o
  cases s.seq.state <;> cases l <;> cases f <;> cases d <;> cases e <;> cases q <;> first
    | rfl
    | (cases o <;> rfl)

/-- The bytes of the fields of a message (R155, R160, R211). -/
theorem State.messageFields_eq_shown (s : State) (m : Nat) :
    (s.messageFields m).map (fun f => (f.1, codeOfUnit f.2)) = fieldsShown s m := by
  have hd : ∀ (u : UnitCode) (v : Option Int), ((displayField u v).1, codeOfUnit (displayField u v).2)
      = (v.getD 0, if v.isSome then codeOfUnit u else 0) := by
    rintro u (_ | v) <;> rfl
  unfold fieldsShown
  split <;> simp_all [State.messageFields, State.axlePressure, AxleRecord.top] <;> simp [codeOfUnit]

theorem flatMap_fieldBytes (l : List (Int × UnitCode)) : l.flatMap fieldBytes
    = (l.map (fun f => (f.1, codeOfUnit f.2))).flatMap
      (fun f => [lowByte (signedWord f.1), highByte (signedWord f.1), BitVec.ofNat 8 f.2]) := by
  rw [List.flatMap_map]; rfl

theorem State.blink_eq_shown (s : State) (m : Nat) :
    s.blink m = decide (m = 9 ∨ m = 16 ∨ m = 17 ∨ s.disp.repeatMark ≠ none) := by
  unfold State.blink
  cases s.disp.repeatMark <;> simp [Bool.or_assoc]
  rfl

/-- The frame composed in a state is the one `frameShown` spells (R152 to R154, R159 to R161). -/
theorem State.composeFrame_eq_shown (s : State) : s.composeFrame = frameShown s := by
  have hf := State.messageFields_eq_shown s (messageShown s)
  unfold State.composeFrame frameShown frameBytes
  simp only [State.message_eq_shown, ← hf, flatMap_fieldBytes, State.blink_eq_shown, List.length_map, forceBar, truncDiv,
    State.planAxleNumber, List.map_cons, List.map_nil, Bool.and_eq_true, decide_eq_true_eq]

/-- A frame reads of the display link only the repeat mark (R161). -/
theorem frameShown_setDisp (s : State) (d : Display) (h : d.repeatMark = s.disp.repeatMark) :
    frameShown (s.setDisp d) = frameShown s := by
  unfold frameShown
  rw [show (s.setDisp d).disp.repeatMark = s.disp.repeatMark from h]
  rfl

/-- A frame that falls due shows the state, begins on an IDLE link and waits on a SENDING one (R151, R156 to R158). -/
theorem State.frameDue_fell (s : State) : FrameFell s s.frameDue := by
  have hf : ∀ d e : Display, d.repeatMark = s.disp.repeatMark → e.repeatMark = d.repeatMark →
      frameShown ((s.setDisp d).setDisp e) = frameShown s := fun d e h1 h2 =>
    (frameShown_setDisp _ _ h2).trans (frameShown_setDisp _ _ h1)
  unfold FrameFell State.frameDue State.loadRefresh
  rw [State.composeFrame_eq_shown]
  cases hs : s.disp.sending <;> cases hv : s.drv.state <;> simp [hs, hv, State.timerIn, refreshPeriod] <;>
    first | exact (hf _ _ rfl rfl).symm | exact ⟨(hf _ _ rfl rfl).symm, rfl⟩

end Sys2Proof.Machine
end

