-- ==== Sys2Proof/Laws/Recorded.lean ====
section
/-! SUPPORT. Laws/Recorded.lean: what every operation does to the journal and to lane memory: it makes productions, and it
writes no byte below the request slots but the words of lane time and of the sequencer state. -/

namespace Sys2Proof.Machine

set_option Elab.async false

/-- One journal comes from another by productions alone (R202, R205). -/
inductive JrSteps : Journal → Journal → Prop where
  | refl (j : Journal) : JrSteps j j
  | dropped {j k : Journal} (h : JrSteps j k) (hb : k.blocks = true) : JrSteps j k.droppedEntry
  | written {j k : Journal} (h : JrSteps j k) (hb : k.blocks = false) (timer : Option Nat) :
      JrSteps j { k.written (decide (128 ≤ k.count)) with staleTimer := timer }

/-- A byte of the two words of lane time in the header (R209). -/
def timeByte (a : Nat) : Prop := 0x000A ≤ a ∧ a < 0x000E

/-- The header shows the lane time of the state (R209). -/
def TimeShown (s : State) : Prop := Memory.readWords s.mem 0x000A 2 = [lowWord s.time, highWord s.time]

/-- A byte of the sequencer state's word in the header (R130, R196). -/
def seqByte (a : Nat) : Prop := a = 0x0002 ∨ a = 0x0003

/-- The header shows the sequencer state (R130, R211). -/
def SeqShown (s : State) : Prop := Memory.readWord s.mem 0x0002 = word (codeOfSeq s.seq.state)

/-- Between two states only productions were made, and lane memory was written from the request slots on, keeping its canonical
form; the words of lane time are as they were, or show lane time, and the word of the sequencer state is as it was, or shows that state. -/
structure Recorded (σ s : State) : Prop where
  wf : Memory.wf σ.mem → Memory.wf s.mem
  low : ∀ a, a < 0x0200 → ¬ timeByte a → ¬ seqByte a → Memory.readByte s.mem a = Memory.readByte σ.mem a
  time : Memory.wf σ.mem → (∀ a, timeByte a → Memory.readByte s.mem a = Memory.readByte σ.mem a) ∧ s.time = σ.time ∨ TimeShown s
  seq : Memory.wf σ.mem → (∀ a, seqByte a → Memory.readByte s.mem a = Memory.readByte σ.mem a) ∨ SeqShown s
  jr : JrSteps σ.jr s.jr

theorem Recorded.refl (s : State) : Recorded s s :=
  ⟨id, fun _ _ _ _ => rfl, fun _ => .inl ⟨fun _ _ => rfl, rfl⟩, fun _ => .inl fun _ _ => rfl, .refl _⟩

/-- Only lane memory, lane time, the sequencer state and the journal matter. -/
theorem Recorded.congr {σ s t : State} (hm : t.mem = s.mem) (hj : t.jr = s.jr) (ht : t.time = s.time := by simp)
    (hq : t.seq.state = s.seq.state := by simp) : Recorded σ t ↔ Recorded σ s := by
  constructor
  · rintro ⟨h1, h2, h3, h4, h5⟩
    unfold TimeShown at h3
    unfold SeqShown at h4
    rw [hm] at h1 h2 h3 h4
    rw [ht] at h3
    rw [hq] at h4
    exact ⟨h1, h2, h3, h4, by rwa [hj] at h5⟩
  · rintro ⟨h1, h2, h3, h4, h5⟩
    refine ⟨by rwa [hm], by rwa [hm], ?_, ?_, by rwa [hj]⟩
    · unfold TimeShown
      rw [hm, ht]
      exact h3
    · unfold SeqShown
      rw [hm, hq]
      exact h4

/-- Lane memory that differs from a recorded one from the request slots on is recorded. -/
theorem Recorded.above {σ s t : State} (h : Recorded σ s) (hw : Memory.wf s.mem → Memory.wf t.mem)
    (hm : ∀ a, a < 0x0200 → Memory.readByte t.mem a = Memory.readByte s.mem a) (ht : t.time = s.time)
    (hq : t.seq.state = s.seq.state) (hj : JrSteps σ.jr t.jr) : Recorded σ t := by
  refine ⟨fun x => hw (h.wf x), fun a ha hn hs => by rw [hm a ha, h.low a ha hn hs], fun x => ?_, fun x => ?_, hj⟩
  · have h9 : Memory.readWords t.mem 0x000A 2 = Memory.readWords s.mem 0x000A 2 := by
      simp [Memory.readWords, Memory.readWord, hm]
    unfold TimeShown
    rw [h9, ht]
    rcases h.time x with ⟨hb, hs⟩ | hs
    · exact .inl ⟨fun a ha => by rw [hm a (by unfold timeByte at ha; omega), hb a ha], hs⟩
    · exact .inr hs
  · have h9 : Memory.readWord t.mem 0x0002 = Memory.readWord s.mem 0x0002 := by simp [Memory.readWord, hm]
    unfold SeqShown
    rw [h9, hq]
    rcases h.seq x with hb | hs
    · exact .inl fun a ha => by rw [hm a (by unfold seqByte at ha; omega), hb a ha]
    · exact .inr hs

@[simp] theorem State.setPending_rec (σ s : State) (x : List Instr) : Recorded σ (s.setPending x) ↔ Recorded σ s := Recorded.congr rfl rfl
@[simp] theorem State.setClk_rec (σ s : State) (x : Clock) : Recorded σ (s.setClk x) ↔ Recorded σ s := Recorded.congr rfl rfl
@[simp] theorem State.setCause_rec (σ s : State) (x : StartCause) : Recorded σ (s.setCause x) ↔ Recorded σ s := Recorded.congr rfl rfl
@[simp] theorem State.setSlots_rec (σ s : State) (x : List Held) : Recorded σ (s.setSlots x) ↔ Recorded σ s := Recorded.congr rfl rfl
@[simp] theorem State.setAtt_rec (σ s : State) (x : Attention) : Recorded σ (s.setAtt x) ↔ Recorded σ s := Recorded.congr rfl rfl
@[simp] theorem State.setGauge_rec (σ s : State) (x : Gauge) : Recorded σ (s.setGauge x) ↔ Recorded σ s := Recorded.congr rfl rfl
@[simp] theorem State.setEng_rec (σ s : State) (x : Engine) : Recorded σ (s.setEng x) ↔ Recorded σ s := Recorded.congr rfl rfl
@[simp] theorem State.setNv_rec (σ s : State) (x : Nv) : Recorded σ (s.setNv x) ↔ Recorded σ s := Recorded.congr rfl rfl
@[simp] theorem State.setSeat_rec (σ s : State) (x : Seating) : Recorded σ (s.setSeat x) ↔ Recorded σ s := Recorded.congr rfl rfl
@[simp] theorem State.setDrv_rec (σ s : State) (x : Drive) : Recorded σ (s.setDrv x) ↔ Recorded σ s := Recorded.congr rfl rfl
@[simp] theorem State.setDtest_rec (σ s : State) (x : Option DriveTest) : Recorded σ (s.setDtest x) ↔ Recorded σ s := Recorded.congr rfl rfl
@[simp] theorem State.setTab_rec (σ s : State) (x : AxleTable) : Recorded σ (s.setTab x) ↔ Recorded σ s := Recorded.congr rfl rfl
@[simp] theorem State.setWeigh_rec (σ s : State) (x : Option Weighing) : Recorded σ (s.setWeigh x) ↔ Recorded σ s := Recorded.congr rfl rfl
@[simp] theorem State.setRun_rec (σ s : State) (x : RunUnit) : Recorded σ (s.setRun x) ↔ Recorded σ s := Recorded.congr rfl rfl
@[simp] theorem State.setPlate_rec (σ s : State) (x : Plate) : Recorded σ (s.setPlate x) ↔ Recorded σ s := Recorded.congr rfl rfl
@[simp] theorem State.setSeq_rec (σ s : State) (x : Sequencer) (hx : x.state = s.seq.state) :
    Recorded σ (s.setSeq x) ↔ Recorded σ s := Recorded.congr rfl rfl rfl hx
@[simp] theorem State.setDisp_rec (σ s : State) (x : Display) : Recorded σ (s.setDisp x) ↔ Recorded σ s := Recorded.congr rfl rfl
@[simp] theorem State.setComp_rec (σ s : State) (x : Composer) : Recorded σ (s.setComp x) ↔ Recorded σ s := Recorded.congr rfl rfl
@[simp] theorem State.setPrn_rec (σ s : State) (x : Printer) : Recorded σ (s.setPrn x) ↔ Recorded σ s := Recorded.congr rfl rfl

theorem Recorded.setMem_writeWords {σ s : State} (h : Recorded σ s) (m : Memory) (a : Nat) (ws : List Word)
    (hm : m = s.mem) (ha : 0x0200 ≤ a) : Recorded σ (s.setMem (Memory.writeWords m a ws)) := by
  subst hm
  exact h.above (fun x => Memory.wf_writeWords _ _ x _)
    (fun b hb => by rw [State.setMem_mem, Memory.readByte_writeWords _ _ _ _ (by omega)]) rfl rfl h.jr

theorem Recorded.setMem_writeWord {σ s : State} (h : Recorded σ s) (a : Nat) (w : Word)
    (ha : 0x0200 ≤ a) : Recorded σ (s.setMem (Memory.writeWord s.mem a w)) :=
  h.above (fun x => Memory.wf_writeWord _ x _ _)
    (fun b hb => by rw [State.setMem_mem, Memory.readByte_writeWord _ _ _ _ (by omega)]) rfl rfl h.jr

@[simp] theorem State.putTime_rec {σ s : State} (v : DWord) (h : Recorded σ s) : Recorded σ (s.putTime v) := by
  have hr : ∀ a, ¬ timeByte a → Memory.readByte (s.putTime v).mem a = Memory.readByte s.mem a := fun a ha => by
    unfold timeByte at ha
    exact Memory.readByte_writeWords _ _ _ _ (by simp; omega)
  refine ⟨fun x => Memory.wf_writeWords _ _ (h.wf x) _, fun a ha hn hs => by rw [hr a hn, h.low a ha hn hs],
    fun x => .inr (Memory.readWords_writeWords [lowWord v, highWord v] _ (h.wf x) 0x000A), fun x => ?_, h.jr⟩
  have h2 : ∀ a, seqByte a → ¬ timeByte a := fun a ha => by unfold seqByte at ha; unfold timeByte; omega
  rcases h.seq x with hb | hb
  · exact .inl fun a ha => by rw [hr a (h2 a ha), hb a ha]
  · refine .inr ?_
    unfold SeqShown Memory.readWord at *
    rw [hr _ (h2 _ (.inl rfl)), hr _ (h2 _ (.inr rfl))]
    exact hb

/-- A change of the sequencer's own state with its word in the header. -/
@[simp] theorem State.putSeq_rec {σ s : State} (x : Sequencer) (h : Recorded σ s) : Recorded σ (s.putSeq x) := by
  have hr : ∀ a, ¬ seqByte a → Memory.readByte (s.putSeq x).mem a = Memory.readByte s.mem a := fun a ha => by
    unfold seqByte at ha
    exact Memory.readByte_writeWord _ _ _ _ (by omega)
  refine ⟨fun y => Memory.wf_writeWord _ (h.wf y) _ _, fun a ha hn hs => by rw [hr a hs, h.low a ha hn hs], fun y => ?_,
    fun y => .inr (Memory.readWord_writeWord _ (h.wf y) _ _), h.jr⟩
  have h2 : ∀ a, timeByte a → ¬ seqByte a := fun a ha => by unfold timeByte at ha; unfold seqByte; omega
  rcases h.time y with ⟨hb, ht⟩ | hb
  · exact .inl ⟨fun a ha => by rw [hr a (h2 a ha), hb a ha], ht⟩
  · refine .inr ?_
    unfold TimeShown at *
    simp only [Memory.readWords, Memory.readWord] at *
    rw [hr _ (h2 _ (by unfold timeByte; omega)), hr _ (h2 _ (by unfold timeByte; omega)),
      hr _ (h2 _ (by unfold timeByte; omega)), hr _ (h2 _ (by unfold timeByte; omega))]
    exact hb

@[simp] theorem State.raiseAttn_rec (σ s : State) (b : Byte) : Recorded σ (s.raiseAttn b) ↔ Recorded σ s :=
  Recorded.congr (by simp) (by simp)

@[simp] theorem State.produce_rec {σ s : State} (code axle : Nat) (p1 p2 : Word) (h : Recorded σ s) :
    Recorded σ (s.produce code axle p1 p2) := by
  refine h.above (State.produce_wf _ _ _ _ _) (fun a ha => ?_) (by simp) (by simp) ?_
  · refine State.produce_readByte _ _ _ _ _ _ (fun hn => ?_)
    have := nextEntryByte_ring _ _ hn
    unfold ringByte at this
    omega
  · rw [State.produce_jr]
    split
    · rename_i hb; exact h.jr.dropped hb
    · rename_i hb; exact h.jr.written (by simpa using hb) _

@[simp] theorem State.finishSlot_rec {σ s : State} (n : Nat) (o : ReqOutcome) (d : Detail) (r : List Word)
    (h : Recorded σ s) : Recorded σ (s.finishSlot n o d r) := by
  refine h.above (State.finishSlot_wf _ _ _ _ _) (fun a ha => ?_) (by simp) (by simp) (by simpa using h.jr)
  refine State.finishSlot_readByte _ _ _ _ _ _ (fun hn => ?_)
  unfold slotByte slotBase at hn
  omega

@[simp] theorem State.complete_rec {σ s : State} (n k : Nat) (o : ReqOutcome) (d : Detail) (r : List Word)
    (h : Recorded σ s) : Recorded σ (s.complete n k o d r) := by
  simp [State.complete, h]

@[simp] theorem State.activate_rec {σ s : State} (n : Nat) (k : Kind) (h : Recorded σ s) : Recorded σ (s.activate n k) := by
  unfold State.activate State.setHeld slotBase
  rw [State.setSlots_rec]
  exact h.setMem_writeWord _ _ (by omega)

@[simp] theorem State.rewriteTable_rec {σ s : State} (h : Recorded σ s) : Recorded σ s.rewriteTable :=
  h.setMem_writeWords _ _ _ rfl (by omega)

@[simp] theorem State.rewriteFields_rec {σ s : State} (k i n : Nat) (h : Recorded σ s) : Recorded σ (s.rewriteFields k i n) := by
  unfold State.rewriteFields
  split
  · exact h.setMem_writeWords _ _ _ rfl (by omega)
  · exact h

@[simp] theorem State.rewriteOptional_rec {σ s : State} (k i n : Nat) (h : Recorded σ s) :
    Recorded σ (s.rewriteOptional k i n) := by
  simp [State.rewriteOptional, h]

@[simp] theorem State.rewriteAttempt_rec {σ s : State} (k j i : Nat) (h : Recorded σ s) :
    Recorded σ (s.rewriteAttempt k j i) := by
  simp [State.rewriteAttempt, h]

@[simp] theorem State.rewriteCert_rec {σ s : State} (k : Nat) (h : Recorded σ s) : Recorded σ (s.rewriteCert k) :=
  h.setMem_writeWords _ _ _ rfl (by unfold certBase; omega)

@[simp] theorem State.rewriteCertWords_rec {σ s : State} (k i n : Nat) (h : Recorded σ s) :
    Recorded σ (s.rewriteCertWords k i n) :=
  h.setMem_writeWords _ _ _ rfl (by unfold certBase; omega)

@[simp] theorem State.rewriteFill_rec {σ s : State} (k : Nat) (h : Recorded σ s) : Recorded σ (s.rewriteFill k) :=
  State.rewriteCertWords_rec k _ _ h

@[simp] theorem State.rewriteNumber_rec {σ s : State} (k : Nat) (h : Recorded σ s) : Recorded σ (s.rewriteNumber k) := by
  refine h.above (fun x => Memory.wf_writeWord _ (Memory.wf_writeWords _ _ x _) _ _) (fun b hb => ?_) rfl rfl h.jr
  rw [State.rewriteNumber, State.setMem_mem, Memory.readByte_writeWord _ _ _ _ (by unfold certBase; omega),
    Memory.readByte_writeWords _ _ _ _ (by unfold certBase; omega)]

@[simp] theorem frameAfter_rec (σ old s : State) : Recorded σ (frameAfter old s) ↔ Recorded σ s :=
  Recorded.congr (by simp) (by simp)

/-- A fold of such operations is one. -/
theorem foldl_rec {α : Type} {σ : State} (f : State → α → State) (hf : ∀ s x, Recorded σ s → Recorded σ (f s x)) (l : List α)
    (s : State) (h : Recorded σ s) : Recorded σ (l.foldl f s) := by
  induction l generalizing s with
  | nil => exact h
  | cons x l ih => exact ih _ (hf _ _ h)

end Sys2Proof.Machine
end

