-- ==== Sys2Proof/Laws/RecBase.lean ====
section
/-! SUPPORT. Laws/RecBase.lean: the operations of Machine/Ops, Machine/Flags, Machine/Journal, Machine/Images, Machine/Display,
Machine/SeqCore make productions and write lane memory from 0x0200 on or the words of lane time, and do no more to the journal
and to lane memory. -/

namespace Sys2Proof.Machine

set_option Elab.async false

@[simp] theorem State.setRecord_rec (σ s : State) (k : Nat) (r : AxleRecord) :
    Recorded σ (s.setRecord k r) ↔ Recorded σ s := Recorded.congr (by simp) (by simp)

@[simp] theorem State.setCert_rec (σ s : State) (k : Nat) (c : CertRecord) :
    Recorded σ (s.setCert k c) ↔ Recorded σ s := Recorded.congr (by simp) (by simp)

@[simp] theorem State.setAttn_rec (σ s : State) (bits : Byte) :
    Recorded σ (s.setAttn bits) ↔ Recorded σ s := Recorded.congr (by simp) (by simp)

@[simp] theorem State.clearAttn_rec (σ s : State) (bits : Byte) :
    Recorded σ (s.clearAttn bits) ↔ Recorded σ s := Recorded.congr (by simp) (by simp)

@[simp] theorem State.setMask_rec (σ s : State) (mask : Byte) :
    Recorded σ (s.setMask mask) ↔ Recorded σ s := Recorded.congr (by simp) (by simp)

@[simp] theorem State.produceHere_rec {σ s : State} (code : Nat) (p1 p2 : Word) (h : Recorded σ s) :
    Recorded σ (s.produceHere code p1 p2) := by
  simp (maxDischargeDepth := 40) [State.produceHere, h]

@[simp] theorem State.setHeld_rec (σ s : State) (n : Nat) (h : Held) :
    Recorded σ (s.setHeld n h) ↔ Recorded σ s := Recorded.congr (by simp) (by simp)

@[simp] theorem State.completeKind_rec {σ s : State} (n : Nat) (k : Kind) (o : ReqOutcome) (d : Detail) (result : List Word) (h : Recorded σ s) :
    Recorded σ (s.completeKind n k o d result) := by
  simp (maxDischargeDepth := 40) [State.completeKind, h]

@[simp] theorem State.loadRefresh_rec (σ s : State) :
    Recorded σ (s.loadRefresh) ↔ Recorded σ s := Recorded.congr (by simp) (by simp)

@[simp] theorem State.reloadRefresh_rec (σ s : State) :
    Recorded σ (s.reloadRefresh) ↔ Recorded σ s := Recorded.congr (by simp) (by simp)

@[simp] theorem State.frameDue_rec (σ s : State) :
    Recorded σ (s.frameDue) ↔ Recorded σ s := Recorded.congr (by simp) (by simp)

@[simp] theorem State.promptRepeat_rec (σ s : State) :
    Recorded σ (s.promptRepeat) ↔ Recorded σ s := Recorded.congr (by simp) (by simp)

@[simp] theorem State.lapseRepeat_rec (σ s : State) :
    Recorded σ (s.lapseRepeat) ↔ Recorded σ s := Recorded.congr (by simp) (by simp)

@[simp] theorem State.setStatus_rec {σ s : State} (k : Nat) (st : AxleStatus) (skip : Option SkipReason) (h : Recorded σ s) :
    Recorded σ (s.setStatus k st skip) := by
  simp [State.setStatus, h]

@[simp] theorem State.discardCrossing_rec (σ s : State) :
    Recorded σ (s.discardCrossing) ↔ Recorded σ s := Recorded.congr (by simp) (by simp)

@[simp] theorem State.enterSeq_rec {σ s : State} (n : SeqState) (h : Recorded σ s) : Recorded σ (s.enterSeq n) := by
  unfold State.enterSeq
  try dsimp only
  repeat' split
  all_goals simp (maxDischargeDepth := 40) [h]

@[simp] theorem State.handPhase_rec {σ s : State} (h : Recorded σ s) : Recorded σ (s.handPhase) := by
  unfold State.handPhase
  try dsimp only
  repeat' split
  all_goals simp (maxDischargeDepth := 40) [h]

@[simp] theorem State.takeEndOfSpin_rec {σ s : State} (owed : Bool) (h : Recorded σ s) :
    Recorded σ (s.takeEndOfSpin owed) := by
  unfold State.takeEndOfSpin
  try dsimp only
  repeat' split
  all_goals simp (maxDischargeDepth := 40) [h]

@[simp] theorem State.takeDriveStop_rec {σ s : State} (h : Recorded σ s) : Recorded σ (s.takeDriveStop) := by
  unfold State.takeDriveStop
  try dsimp only
  repeat' split
  all_goals simp (maxDischargeDepth := 40) [h]

end Sys2Proof.Machine
end

