-- ==== Sys2Proof/Laws/RecDrive.lean ====
section
/-! SUPPORT. Laws/RecDrive.lean: the operations of Machine/BrakeRun, Machine/Drive make productions and write lane memory from
0x0200 on or the words of lane time, and do no more to the journal and to lane memory. -/

namespace Sys2Proof.Machine

set_option Elab.async false

@[simp] theorem State.armUnit_rec (σ s : State) (axle : Nat) (r : Runs) :
    Recorded σ (s.armUnit axle r) ↔ Recorded σ s := Recorded.congr (by simp) (by simp)

@[simp] theorem State.idleUnit_rec (σ s : State) :
    Recorded σ (s.idleUnit) ↔ Recorded σ s := Recorded.congr (by simp) (by simp)

@[simp] theorem State.markNow_rec (σ s : State) :
    Recorded σ (s.markNow) ↔ Recorded σ s := Recorded.congr (by simp) (by simp)

@[simp] theorem State.trackPeaks_rec (σ s : State) :
    Recorded σ (s.trackPeaks) ↔ Recorded σ s := Recorded.congr (by simp) (by simp)

@[simp] theorem State.trackParking_rec (σ s : State) :
    Recorded σ (s.trackParking) ↔ Recorded σ s := Recorded.congr (by simp) (by simp)

@[simp] theorem State.trackExtremes_rec (σ s : State) :
    Recorded σ (s.trackExtremes) ↔ Recorded σ s := Recorded.congr (by simp) (by simp)

@[simp] theorem State.trackImbalance_rec (σ s : State) :
    Recorded σ (s.trackImbalance) ↔ Recorded σ s := Recorded.congr (by simp) (by simp)

@[simp] theorem State.watch_rec (σ s : State) :
    Recorded σ (s.watch) ↔ Recorded σ s := Recorded.congr (by simp) (by simp)

@[simp] theorem State.raiseViolation_rec (σ s : State) :
    Recorded σ (s.raiseViolation) ↔ Recorded σ s := Recorded.congr (by simp) (by simp)

@[simp] theorem State.lowerViolation_rec (σ s : State) :
    Recorded σ (s.lowerViolation) ↔ Recorded σ s := Recorded.congr (by simp) (by simp)

@[simp] theorem State.violation_rec {σ s : State} (cause : Nat) (h : Recorded σ s) : Recorded σ (s.violation cause) := by
  simp (maxDischargeDepth := 40) [State.violation, h]

@[simp] theorem State.pushAttempt_rec {σ s : State} (axle : Nat) (a : Attempt) (h : Recorded σ s) :
    Recorded σ (s.pushAttempt axle a) := by
  simp (maxDischargeDepth := 40) [State.pushAttempt, h]

@[simp] theorem State.writeParking_rec {σ s : State} (reason : EndReason) (h : Recorded σ s) :
    Recorded σ (s.writeParking reason) := by
  unfold State.writeParking
  try dsimp only
  repeat' split
  all_goals simp (maxDischargeDepth := 40) [h]

@[simp] theorem State.pushHeld_rec {σ s : State} (h : Recorded σ s) : Recorded σ (s.pushHeld) := by
  unfold State.pushHeld
  try dsimp only
  repeat' split
  all_goals simp (maxDischargeDepth := 40) [h]

@[simp] theorem State.disturb_rec (σ s : State) :
    Recorded σ (s.disturb) ↔ Recorded σ s := Recorded.congr (by simp) (by simp)

@[simp] theorem State.endAttempt_rec {σ s : State} (reason : EndReason) (h : Recorded σ s) :
    Recorded σ (s.endAttempt reason) := by
  simp (maxDischargeDepth := 40) [State.endAttempt, h]

@[simp] theorem State.endParking_rec {σ s : State} (reason : EndReason) (h : Recorded σ s) :
    Recorded σ (s.endParking reason) := by
  simp (maxDischargeDepth := 40) [State.endParking, h]

@[simp] theorem State.runStop_rec {σ s : State} (r : StopReason) (h : Recorded σ s) : Recorded σ (s.runStop r) := by
  unfold State.runStop
  try dsimp only
  repeat' split
  all_goals simp (maxDischargeDepth := 40) [h]

@[simp] theorem State.runEnd_rec {σ s : State} (reason : EndReason) (h : Recorded σ s) :
    Recorded σ (s.runEnd reason) := by
  unfold State.runEnd
  try dsimp only
  repeat' split
  all_goals simp (maxDischargeDepth := 40) [h]

@[simp] theorem State.driveEntry_rec {σ s : State} (p2 : Word) (h : Recorded σ s) : Recorded σ (s.driveEntry p2) := by
  simp (maxDischargeDepth := 40) [State.driveEntry, h]

@[simp] theorem State.startDrive_rec {σ s : State} (owner : Owner) (mode : DirMode) (limit : Nat) (h : Recorded σ s) :
    Recorded σ (s.startDrive owner mode limit) := by
  unfold State.startDrive
  try dsimp only
  repeat' split
  all_goals simp (maxDischargeDepth := 40) [h]

@[simp] theorem State.enterStopping_rec {σ s : State} (r : StopReason) (h : Recorded σ s) :
    Recorded σ (s.enterStopping r) := by
  simp (maxDischargeDepth := 40) [State.enterStopping, h]

@[simp] theorem State.testStop_rec (σ s : State) (r : StopReason) :
    Recorded σ (s.testStop r) ↔ Recorded σ s := Recorded.congr (by simp) (by simp)

@[simp] theorem State.ownerStop_rec {σ s : State} (r : StopReason) (h : Recorded σ s) : Recorded σ (s.ownerStop r) := by
  unfold State.ownerStop
  try dsimp only
  repeat' split
  all_goals simp (maxDischargeDepth := 40) [h]

@[simp] theorem State.haltDrive_rec {σ s : State} (h : Recorded σ s) : Recorded σ (s.haltDrive) := by
  unfold State.haltDrive
  try dsimp only
  repeat' split
  all_goals simp (maxDischargeDepth := 40) [h]

@[simp] theorem State.stopDrive_rec {σ s : State} (r : StopReason) (h : Recorded σ s) : Recorded σ (s.stopDrive r) := by
  unfold State.stopDrive
  try dsimp only
  repeat' split
  all_goals simp (maxDischargeDepth := 40) [h]

@[simp] theorem State.stopEvent_rec {σ s : State} (r : StopReason) (h : Recorded σ s) : Recorded σ (s.stopEvent r) := by
  simp (maxDischargeDepth := 40) [State.stopEvent, h]

@[simp] theorem State.handEndOfSpin_rec {σ s : State} (owed : Bool) (h : Recorded σ s) :
    Recorded σ (s.handEndOfSpin owed) := by
  unfold State.handEndOfSpin
  try dsimp only
  repeat' split
  all_goals simp (maxDischargeDepth := 40) [h]

@[simp] theorem State.ownEnd_rec {σ s : State} (reason : EndReason) (noOnset : Bool) (h : Recorded σ s) :
    Recorded σ (s.ownEnd reason noOnset) := by
  unfold State.ownEnd
  try dsimp only
  repeat' split
  all_goals simp (maxDischargeDepth := 40) [h]

@[simp] theorem State.ownParkEnd_rec {σ s : State} (reason : EndReason) (h : Recorded σ s) :
    Recorded σ (s.ownParkEnd reason) := by
  simp (maxDischargeDepth := 40) [State.ownParkEnd, h]

@[simp] theorem State.parkNoOnset_rec {σ s : State} (h : Recorded σ s) : Recorded σ (s.parkNoOnset) := by
  simp (maxDischargeDepth := 40) [State.parkNoOnset, h]

@[simp] theorem State.finishTest_rec {σ s : State} (driveFault : Bool) (h : Recorded σ s) :
    Recorded σ (s.finishTest driveFault) := by
  unfold State.finishTest
  try dsimp only
  repeat' split
  all_goals simp (maxDischargeDepth := 40) [h]

end Sys2Proof.Machine
end

