-- ==== Sys2Proof/Laws/RecSequencer.lean ====
section
/-! SUPPORT. Laws/RecSequencer.lean: the operations of Machine/Sequencer, Machine/Weighing make productions and write lane
memory from 0x0200 on or the words of lane time, and do no more to the journal and to lane memory. -/

namespace Sys2Proof.Machine

set_option Elab.async false

@[simp] theorem State.setCursor_rec (σ s : State) (n : Nat) :
    Recorded σ (s.setCursor n) ↔ Recorded σ s := Recorded.congr (by simp) (by simp) (by simp) rfl

@[simp] theorem State.completePlan_rec {σ s : State} (o : ReqOutcome) (d : Detail) (h : Recorded σ s) :
    Recorded σ (s.completePlan o d) := by
  unfold State.completePlan
  try dsimp only
  repeat' split
  all_goals simp (maxDischargeDepth := 40) [h]

@[simp] theorem State.issueStart_rec {σ s : State} (h : Recorded σ s) : Recorded σ (s.issueStart) := by
  unfold State.issueStart
  try dsimp only
  repeat' split
  all_goals simp (maxDischargeDepth := 40) [h]

@[simp] theorem State.repeatStart_rec {σ s : State} (h : Recorded σ s) : Recorded σ (s.repeatStart) := by
  unfold State.repeatStart
  try dsimp only
  repeat' split
  all_goals simp (maxDischargeDepth := 40) [h]

@[simp] theorem State.setReviewMark_rec (σ s : State) :
    Recorded σ (s.setReviewMark) ↔ Recorded σ s := Recorded.congr (by simp) (by simp) (by simp) rfl

@[simp] theorem State.evaluateOffer_rec (σ s : State) :
    Recorded σ (s.evaluateOffer) ↔ Recorded σ s := Recorded.congr (by simp) (by simp) (by simp) rfl

@[simp] theorem State.enterReview_rec {σ s : State} (h : Recorded σ s) : Recorded σ (s.enterReview) := by
  simp (maxDischargeDepth := 40) [State.enterReview, h]

@[simp] theorem State.enterSpinup_rec {σ s : State} (runs : Runs) (h : Recorded σ s) :
    Recorded σ (s.enterSpinup runs) := by
  unfold State.enterSpinup
  try dsimp only
  repeat' split
  all_goals simp (maxDischargeDepth := 40) [h]

@[simp] theorem State.enterComplete_rec {σ s : State} (h : Recorded σ s) : Recorded σ (s.enterComplete) := by
  simp (maxDischargeDepth := 40) [State.enterComplete, h]

@[simp] theorem State.advanceCursor_rec {σ s : State} (next : SeqState) (h : Recorded σ s) :
    Recorded σ (s.advanceCursor next) := by
  unfold State.advanceCursor
  try dsimp only
  repeat' split
  all_goals simp (maxDischargeDepth := 40) [h]

@[simp] theorem State.exitForward_rec {σ s : State} (h : Recorded σ s) : Recorded σ (s.exitForward) := by
  unfold State.exitForward
  try dsimp only
  repeat' split
  all_goals simp (maxDischargeDepth := 40) [h]

@[simp] theorem State.exitBackward_rec {σ s : State} (h : Recorded σ s) : Recorded σ (s.exitBackward) := by
  simp (maxDischargeDepth := 40) [State.exitBackward, h]

@[simp] theorem State.enterExitWait_rec {σ s : State} (h : Recorded σ s) : Recorded σ (s.enterExitWait) := by
  unfold State.enterExitWait
  try dsimp only
  repeat' split
  all_goals simp (maxDischargeDepth := 40) [h]

@[simp] theorem State.leaveSpindown_rec {σ s : State} (h : Recorded σ s) : Recorded σ (s.leaveSpindown) := by
  unfold State.leaveSpindown
  try dsimp only
  repeat' split
  all_goals simp (maxDischargeDepth := 40) [h]

@[simp] theorem State.startWeighing_rec (σ s : State) :
    Recorded σ (s.startWeighing) ↔ Recorded σ s := Recorded.congr (by simp) (by simp)

@[simp] theorem State.axleCourse_rec {σ s : State} (h : Recorded σ s) : Recorded σ (s.axleCourse) := by
  unfold State.axleCourse
  try dsimp only
  repeat' split
  all_goals simp (maxDischargeDepth := 40) [h]

@[simp] theorem State.seqSeated_rec {σ s : State} (h : Recorded σ s) : Recorded σ (s.seqSeated) := by
  unfold State.seqSeated
  try dsimp only
  repeat' split
  all_goals simp (maxDischargeDepth := 40) [h]

@[simp] theorem State.seqUnseated_rec {σ s : State} (h : Recorded σ s) : Recorded σ (s.seqUnseated) := by
  unfold State.seqUnseated
  try dsimp only
  repeat' split
  all_goals simp (maxDischargeDepth := 40) [h]

@[simp] theorem State.seqPass_rec {σ s : State} (forward : Bool) (h : Recorded σ s) : Recorded σ (s.seqPass forward) := by
  unfold State.seqPass
  try dsimp only
  repeat' split
  all_goals simp (maxDischargeDepth := 40) [h]

@[simp] theorem State.seqExit_rec {σ s : State} (forward : Bool) (h : Recorded σ s) : Recorded σ (s.seqExit forward) := by
  unfold State.seqExit
  try dsimp only
  repeat' split
  all_goals simp (maxDischargeDepth := 40) [h]

@[simp] theorem State.seqWeighed_rec {σ s : State} (h : Recorded σ s) : Recorded σ (s.seqWeighed) := by
  unfold State.seqWeighed
  try dsimp only
  repeat' split
  all_goals simp (maxDischargeDepth := 40) [h]

@[simp] theorem State.giveUpWork_rec {σ s : State} (reason : EndReason) (h : Recorded σ s) :
    Recorded σ (s.giveUpWork reason) := by
  simp (maxDischargeDepth := 40) [State.giveUpWork, h]

@[simp] theorem State.pauseWork_rec {σ s : State} (h : Recorded σ s) : Recorded σ (s.pauseWork) := by
  simp (maxDischargeDepth := 40) [State.pauseWork, h]

@[simp] theorem State.skipAxle_rec {σ s : State} (h : Recorded σ s) : Recorded σ (s.skipAxle) := by
  simp (maxDischargeDepth := 40) [State.skipAxle, h]

@[simp] theorem State.resume_rec {σ s : State} (h : Recorded σ s) : Recorded σ (s.resume) := by
  unfold State.resume
  try dsimp only
  repeat' split
  all_goals simp (maxDischargeDepth := 40) [h]

@[simp] theorem State.seqKey_rec {σ s : State} (k : Input) (h : Recorded σ s) : Recorded σ (s.seqKey k) := by
  unfold State.seqKey
  try dsimp only
  repeat' split
  all_goals simp (maxDischargeDepth := 40) [h]

@[simp] theorem State.abortRecord_rec {σ s : State} (k : Nat) (h : Recorded σ s) : Recorded σ (s.abortRecord k) := by
  unfold State.abortRecord
  split <;> simp [h]

@[simp] theorem State.abortRecords_rec {σ s : State} (h : Recorded σ s) : Recorded σ (s.abortRecords) :=
  foldl_rec _ (fun _ k h => State.abortRecord_rec k h) _ _ h

@[simp] theorem State.abortPlan_rec {σ s : State} (o : ReqOutcome) (d : Detail) (h : Recorded σ s) :
    Recorded σ (s.abortPlan o d) := by
  unfold State.abortPlan
  try dsimp only
  repeat' split
  all_goals simp (maxDischargeDepth := 40) [h]

@[simp] theorem State.beginRuns_rec (σ s : State) :
    Recorded σ (s.beginRuns) ↔ Recorded σ s := Recorded.congr (by simp) (by simp)

@[simp] theorem State.spinReachesRun_rec {σ s : State} (h : Recorded σ s) : Recorded σ (s.spinReachesRun) := by
  unfold State.spinReachesRun
  try dsimp only
  repeat' split
  all_goals simp (maxDischargeDepth := 40) [h]

@[simp] theorem State.driveRun_rec {σ s : State} (h : Recorded σ s) : Recorded σ (s.driveRun) := by
  simp (maxDischargeDepth := 40) [State.driveRun, h]

@[simp] theorem State.seqDriveEnds_rec {σ s : State} (h : Recorded σ s) : Recorded σ (s.seqDriveEnds) := by
  unfold State.seqDriveEnds
  try dsimp only
  repeat' split
  all_goals simp (maxDischargeDepth := 40) [h]

@[simp] theorem State.driveOff_rec {σ s : State} (p2 : Word) (h : Recorded σ s) : Recorded σ (s.driveOff p2) := by
  simp (maxDischargeDepth := 40) [State.driveOff, h]

@[simp] theorem State.driveLockout_rec {σ s : State} (cause : LockCause) (h : Recorded σ s) :
    Recorded σ (s.driveLockout cause) := by
  simp (maxDischargeDepth := 40) [State.driveLockout, h]

@[simp] theorem State.weighSample_rec (σ s : State) :
    Recorded σ (s.weighSample) ↔ Recorded σ s := Recorded.congr (by simp) (by simp)

@[simp] theorem State.weighHandsOver_rec {σ s : State} (h : Recorded σ s) : Recorded σ (s.weighHandsOver) := by
  simp (maxDischargeDepth := 40) [State.weighHandsOver, h]

@[simp] theorem State.weighAccepted_rec {σ s : State} (w : Weighing) (h : Recorded σ s) :
    Recorded σ (s.weighAccepted w) := by
  simp (maxDischargeDepth := 40) [State.weighAccepted, h]

@[simp] theorem State.weighUnstable_rec {σ s : State} (w : Weighing) (h : Recorded σ s) :
    Recorded σ (s.weighUnstable w) := by
  simp (maxDischargeDepth := 40) [State.weighUnstable, h]

@[simp] theorem State.weighWindow_rec {σ s : State} (h : Recorded σ s) : Recorded σ (s.weighWindow) := by
  unfold State.weighWindow
  try dsimp only
  repeat' split
  all_goals simp (maxDischargeDepth := 40) [h]

end Sys2Proof.Machine
end

