-- ==== Sys2Proof/Laws/RecLane.lean ====
section
/-! SUPPORT. Laws/RecLane.lean: the operations of Machine/Plate, Machine/Detector, Machine/Windows, Machine/Engine make
productions and write lane memory from 0x0200 on or the words of lane time, and do no more to the journal and to lane memory. -/

namespace Sys2Proof.Machine

set_option Elab.async false

@[simp] theorem State.setPlateCount_rec (σ s : State) (n : Nat) :
    Recorded σ (s.setPlateCount n) ↔ Recorded σ s := Recorded.congr (by simp) (by simp)

@[simp] theorem State.setSideSlip_rec {σ s : State} (k : Nat) (x : SideSlip) (h : Recorded σ s) :
    Recorded σ (s.setSideSlip k x) := by
  simp [State.setSideSlip, h]

@[simp] theorem State.plateExtra_rec {σ s : State} (forward : Bool) (h : Recorded σ s) :
    Recorded σ (s.plateExtra forward) := by
  simp (maxDischargeDepth := 40) [State.plateExtra, h]

@[simp] theorem State.openCrossing_rec (σ s : State) (c : Crossing) :
    Recorded σ (s.openCrossing c) ↔ Recorded σ s := Recorded.congr (by simp) (by simp)

@[simp] theorem State.afterCrossing_rec (σ s : State) (c : Crossing) :
    Recorded σ (s.afterCrossing c) ↔ Recorded σ s := Recorded.congr (by simp) (by simp)

@[simp] theorem State.endForward_rec {σ s : State} (h : Recorded σ s) : Recorded σ (s.endForward) := by
  unfold State.endForward
  try dsimp only
  repeat' split
  all_goals simp (maxDischargeDepth := 40) [h]

@[simp] theorem State.endReverse_rec {σ s : State} (h : Recorded σ s) : Recorded σ (s.endReverse) := by
  unfold State.endReverse
  try dsimp only
  repeat' split
  all_goals simp (maxDischargeDepth := 40) [h]

@[simp] theorem State.noteFollower_rec (σ s : State) (more : Bool) :
    Recorded σ (s.noteFollower more) ↔ Recorded σ s := Recorded.congr (by simp) (by simp)

@[simp] theorem State.plateChange_rec {σ s : State} (inOn outOn : Bool) (h : Recorded σ s) :
    Recorded σ (s.plateChange inOn outOn) := by
  unfold State.plateChange
  try dsimp only
  repeat' split
  all_goals simp (maxDischargeDepth := 40) [h]

@[simp] theorem State.markMissed_rec {σ s : State} (n i k : Nat) (h : Recorded σ s) :
    Recorded σ (State.markMissed s n i k) := by
  induction k generalizing s i with
  | zero => simpa [State.markMissed] using h
  | succ k ih => exact ih _ (State.produce_rec _ _ _ _ (State.setSideSlip_rec _ _ h))

@[simp] theorem State.reconcile_rec {σ s : State} (h : Recorded σ s) : Recorded σ (s.reconcile) := by
  unfold State.reconcile
  try dsimp only
  repeat' split
  all_goals simp (maxDischargeDepth := 40) [h]

@[simp] theorem State.crossingExpires_rec {σ s : State} (h : Recorded σ s) : Recorded σ (s.crossingExpires) := by
  simp (maxDischargeDepth := 40) [State.crossingExpires, h]

@[simp] theorem State.loadEntry_rec {σ s : State} (code : Nat) (h : Recorded σ s) : Recorded σ (s.loadEntry code) := by
  simp (maxDischargeDepth := 40) [State.loadEntry, h]

@[simp] theorem State.startTracker_rec (σ s : State) (rearDecided frontDecided : Bool) :
    Recorded σ (s.startTracker rearDecided frontDecided) ↔ Recorded σ s := Recorded.congr (by simp) (by simp)

@[simp] theorem State.reportPass_rec {σ s : State} (forward : Bool) (h : Recorded σ s) :
    Recorded σ (s.reportPass forward) := by
  unfold State.reportPass
  try dsimp only
  repeat' split
  all_goals simp (maxDischargeDepth := 40) [h]

@[simp] theorem State.trackBeams_rec {σ s : State} (rear front : Bool) (h : Recorded σ s) :
    Recorded σ (s.trackBeams rear front) := by
  unfold State.trackBeams
  try dsimp only
  repeat' split
  all_goals simp (maxDischargeDepth := 40) [h]

@[simp] theorem State.trackLoad_rec (σ s : State) :
    Recorded σ (s.trackLoad) ↔ Recorded σ s := Recorded.congr (by simp) (by simp)

@[simp] theorem State.reportExit_rec {σ s : State} (e : ExitReport) (rearDecided frontDecided : Bool) (h : Recorded σ s) :
    Recorded σ (s.reportExit e rearDecided frontDecided) := by
  simp (maxDischargeDepth := 40) [State.reportExit, h]

@[simp] theorem State.windowBeams_rec {σ s : State} (rear front : Bool) (h : Recorded σ s) :
    Recorded σ (s.windowBeams rear front) := by
  unfold State.windowBeams
  try dsimp only
  repeat' split
  all_goals simp (maxDischargeDepth := 40) [h]

@[simp] theorem State.settleLevel_rec (σ s : State) (i : Input) :
    Recorded σ (s.settleLevel i) ↔ Recorded σ s := Recorded.congr (by simp) (by simp)

@[simp] theorem State.seatedBeam_rec (σ s : State) (i : Input) :
    Recorded σ (s.seatedBeam i) ↔ Recorded σ s := Recorded.congr (by simp) (by simp)

@[simp] theorem State.freeBeam_rec {σ s : State} (rear front : Bool) (h : Recorded σ s) :
    Recorded σ (s.freeBeam rear front) := by
  unfold State.freeBeam
  try dsimp only
  repeat' split
  all_goals simp (maxDischargeDepth := 40) [h]

@[simp] theorem State.beamSettles_rec {σ s : State} (i : Input) (h : Recorded σ s) : Recorded σ (s.beamSettles i) := by
  unfold State.beamSettles
  try dsimp only
  repeat' split
  all_goals simp (maxDischargeDepth := 40) [h]

@[simp] theorem State.lastBeamChanges_rec {σ s : State} (h : Recorded σ s) : Recorded σ (s.lastBeamChanges) := by
  unfold State.lastBeamChanges
  try dsimp only
  repeat' split
  all_goals simp (maxDischargeDepth := 40) [h]

@[simp] theorem State.decideExit_rec {σ s : State} (last : Option Beam) (h : Recorded σ s) :
    Recorded σ (s.decideExit last) := by
  unfold State.decideExit
  try dsimp only
  repeat' split
  all_goals simp (maxDischargeDepth := 40) [h]

@[simp] theorem State.unseat_rec {σ s : State} (h : Recorded σ s) : Recorded σ (s.unseat) := by
  simp (maxDischargeDepth := 40) [State.unseat, h]

@[simp] theorem State.seatNow_rec {σ s : State} (h : Recorded σ s) : Recorded σ (s.seatNow) := by
  unfold State.seatNow
  try dsimp only
  repeat' split
  all_goals simp (maxDischargeDepth := 40) [h]

@[simp] theorem State.detectorSample_rec {σ s : State} (h : Recorded σ s) : Recorded σ (s.detectorSample) := by
  unfold State.detectorSample
  try dsimp only
  repeat' split
  all_goals simp (maxDischargeDepth := 40) [h]

@[simp] theorem State.beginTracker_rec (σ s : State) :
    Recorded σ (s.beginTracker) ↔ Recorded σ s := Recorded.congr (by simp) (by simp)

@[simp] theorem State.trackerSample_rec (σ s : State) (analog : Bool) :
    Recorded σ (s.trackerSample analog) ↔ Recorded σ s := Recorded.congr (by simp) (by simp)

@[simp] theorem State.engineWindow_rec (σ s : State) :
    Recorded σ (s.engineWindow) ↔ Recorded σ s := Recorded.congr (by simp) (by simp)

@[simp] theorem State.driveWindow_rec {σ s : State} (pdL pdR : Nat) (h : Recorded σ s) :
    Recorded σ (s.driveWindow pdL pdR) := by
  unfold State.driveWindow
  try dsimp only
  repeat' split
  all_goals simp (maxDischargeDepth := 40) [h]

@[simp] theorem State.windowEnds_rec {σ s : State} (h : Recorded σ s) : Recorded σ (s.windowEnds) := by
  simp (maxDischargeDepth := 40) [State.windowEnds, h]

@[simp] theorem State.setFaultsOf_rec (σ s : State) (i : Nat) (f : FaultFlags) :
    Recorded σ (s.setFaultsOf i f) ↔ Recorded σ s := Recorded.congr (by simp) (by simp)

@[simp] theorem State.faultEntry_rec {σ s : State} (i : Nat) (flag : Word) (h : Recorded σ s) :
    Recorded σ (s.faultEntry i flag) := by
  simp (maxDischargeDepth := 40) [State.faultEntry, h]

@[simp] theorem State.noPulseMet_rec {σ s : State} (side : Side) (h : Recorded σ s) : Recorded σ (s.noPulseMet side) := by
  unfold State.noPulseMet
  try dsimp only
  repeat' split
  all_goals simp (maxDischargeDepth := 40) [h]

@[simp] theorem State.rest_rec {σ s : State} (h : Recorded σ s) : Recorded σ (s.rest) := by
  unfold State.rest
  try dsimp only
  repeat' split
  all_goals simp (maxDischargeDepth := 40) [h]

@[simp] theorem State.decideTest_rec (σ s : State) (o : ReqOutcome) (d : Detail) :
    Recorded σ (s.decideTest o d) ↔ Recorded σ s := Recorded.congr (by simp) (by simp)

@[simp] theorem State.modeTaken_rec {σ s : State} (old : LaneMode) (h : Recorded σ s) : Recorded σ (s.modeTaken old) := by
  unfold State.modeTaken
  try dsimp only
  repeat' split
  all_goals simp (maxDischargeDepth := 40) [h]

@[simp] theorem State.deriveMode_rec {σ s : State} (h : Recorded σ s) : Recorded σ (s.deriveMode) := by
  unfold State.deriveMode
  try dsimp only
  repeat' split
  all_goals simp (maxDischargeDepth := 40) [h]

@[simp] theorem State.keyEntry_rec {σ s : State} (i : Input) (h : Recorded σ s) : Recorded σ (s.keyEntry i) := by
  simp (maxDischargeDepth := 40) [State.keyEntry, h]

@[simp] theorem State.keySettles_rec {σ s : State} (h : Recorded σ s) : Recorded σ (s.keySettles) := by
  unfold State.keySettles
  try dsimp only
  repeat' split
  all_goals simp (maxDischargeDepth := 40) [h]

@[simp] theorem State.presenceSettles_rec {σ s : State} (h : Recorded σ s) : Recorded σ (s.presenceSettles) := by
  unfold State.presenceSettles
  try dsimp only
  repeat' split
  all_goals simp (maxDischargeDepth := 40) [h]

@[simp] theorem State.estopActive_rec {σ s : State} (h : Recorded σ s) : Recorded σ (s.estopActive) := by
  unfold State.estopActive
  try dsimp only
  repeat' split
  all_goals simp (maxDischargeDepth := 40) [h]

@[simp] theorem State.estopSettles_rec {σ s : State} (h : Recorded σ s) : Recorded σ (s.estopSettles) := by
  unfold State.estopSettles
  try dsimp only
  repeat' split
  all_goals simp (maxDischargeDepth := 40) [h]

@[simp] theorem State.mechanicKey_rec {σ s : State} (i : Input) (h : Recorded σ s) : Recorded σ (s.mechanicKey i) := by
  unfold State.mechanicKey
  try dsimp only
  repeat' split
  all_goals simp (maxDischargeDepth := 40) [h]

@[simp] theorem State.plateSettles_rec {σ s : State} (i : Input) (h : Recorded σ s) : Recorded σ (s.plateSettles i) := by
  unfold State.plateSettles
  try dsimp only
  repeat' split
  all_goals simp (maxDischargeDepth := 40) [h]

@[simp] theorem State.inputSettles_rec {σ s : State} (i : Input) (h : Recorded σ s) : Recorded σ (s.inputSettles i) := by
  unfold State.inputSettles
  try dsimp only
  repeat' split
  all_goals simp (maxDischargeDepth := 40) [h]

@[simp] theorem State.convert_rec (σ s : State) (raws : List Int) :
    Recorded σ (s.convert raws) ↔ Recorded σ s := Recorded.congr (by simp) (by simp)

@[simp] theorem State.faultTest_rec {σ s : State} (i : Nat) (raw : Int) (h : Recorded σ s) :
    Recorded σ (s.faultTest i raw) := by
  unfold State.faultTest
  try dsimp only
  repeat' split
  all_goals simp (maxDischargeDepth := 40) [h]

@[simp] theorem State.faultTests_rec {σ s : State} (raws : List Int) (h : Recorded σ s) :
    Recorded σ (s.faultTests raws) := by
  unfold State.faultTests
  exact foldl_rec _ (fun s x h => by simp (maxDischargeDepth := 40) [h]) _ _ h

@[simp] theorem State.rePrime_rec (σ s : State) (which : Nat → Bool) :
    Recorded σ (s.rePrime which) ↔ Recorded σ s := Recorded.congr (by simp) (by simp)

@[simp] theorem State.captureSample_rec {σ s : State} (raws : List Int) (h : Recorded σ s) :
    Recorded σ (s.captureSample raws) := by
  unfold State.captureSample
  try dsimp only
  repeat' split
  all_goals simp (maxDischargeDepth := 40) [h]

@[simp] theorem State.captureEnds_rec {σ s : State} (h : Recorded σ s) : Recorded σ (s.captureEnds) := by
  unfold State.captureEnds
  try dsimp only
  repeat' split
  all_goals simp (maxDischargeDepth := 40) [h]

@[simp] theorem State.clearedEntry_rec {σ s : State} (i : Nat) (flag : Word) (h : Recorded σ s) :
    Recorded σ (s.clearedEntry i flag) := by
  simp (maxDischargeDepth := 40) [State.clearedEntry, h]

@[simp] theorem State.releaseHold_rec (σ s : State) (i : Nat) :
    Recorded σ (s.releaseHold i) ↔ Recorded σ s := Recorded.congr (by simp) (by simp)

@[simp] theorem State.clearChannel_rec {σ s : State} (i : Nat) (h : Recorded σ s) : Recorded σ (s.clearChannel i) := by
  unfold State.clearChannel
  try dsimp only
  repeat' split
  all_goals simp (maxDischargeDepth := 40) [h]

@[simp] theorem State.clearAll_rec {σ s : State} (h : Recorded σ s) : Recorded σ (s.clearAll) := by
  unfold State.clearAll
  exact foldl_rec _ (fun s x h => by simp (maxDischargeDepth := 40) [h]) _ _ h

@[simp] theorem State.releaseLockout_rec {σ s : State} (h : Recorded σ s) : Recorded σ (s.releaseLockout) := by
  unfold State.releaseLockout
  try dsimp only
  repeat' split
  all_goals simp (maxDischargeDepth := 40) [h]

@[simp] theorem State.takeClearFaults_rec {σ s : State} (n : Nat) (h : Recorded σ s) :
    Recorded σ (s.takeClearFaults n) := by
  simp (maxDischargeDepth := 40) [State.takeClearFaults, h]

end Sys2Proof.Machine
end

