-- ==== Sys2Proof/Laws/RecStore.lean ====
section
/-! SUPPORT. Laws/RecStore.lean: the operations of Machine/Composer, Machine/Nv make productions and write lane memory from
0x0200 on or the words of lane time, and do no more to the journal and to lane memory. -/

namespace Sys2Proof.Machine

set_option Elab.async false

@[simp] theorem State.readRecord_rec {σ s : State} (k : Nat) (h : Recorded σ s) : Recorded σ (s.readRecord k) := by
  unfold State.readRecord certBase
  dsimp only
  repeat' split
  · simp [State.setCert, h]
  · exact h
  · exact h.setMem_writeWord _ _ (by omega)

@[simp] theorem State.stateRead_rec {σ s : State} (h : Recorded σ s) : Recorded σ (s.stateRead) := by
  unfold State.stateRead
  exact foldl_rec _ (fun s x h => by simp (maxDischargeDepth := 40) [h]) _ _ h

@[simp] theorem State.clearCert_rec {σ s : State} (k : Nat) (st : RecordState) (h : Recorded σ s) :
    Recorded σ (s.clearCert k st) := by
  simp (maxDischargeDepth := 40) [State.clearCert, h]

@[simp] theorem State.clearFill_rec {σ s : State} (k : Nat) (h : Recorded σ s) : Recorded σ (s.clearFill k) := by
  simp (maxDischargeDepth := 40) [State.clearFill, h]

@[simp] theorem State.endCompose_rec {σ s : State} (c : ComposeOp) (o : ReqOutcome) (d : Detail) (h : Recorded σ s) :
    Recorded σ (s.endCompose c o d) := by
  simp (maxDischargeDepth := 40) [State.endCompose, h]

@[simp] theorem State.fill_rec {σ s : State} (c : ComposeOp) (value : Nat) (h : Recorded σ s) :
    Recorded σ (s.fill c value) := by
  simp (maxDischargeDepth := 40) [State.fill, h]

@[simp] theorem State.issueCert_rec {σ s : State} (c : ComposeOp) (n : Nat) (h : Recorded σ s) :
    Recorded σ (s.issueCert c n) := by
  unfold State.issueCert
  try dsimp only
  repeat' split
  all_goals simp (maxDischargeDepth := 40) [h]

@[simp] theorem State.storeWrite_rec (σ s : State) (op : NvOp) (cut : NvCut) :
    Recorded σ (s.storeWrite op cut) ↔ Recorded σ s := Recorded.congr (by simp) (by simp)

@[simp] theorem State.startNv_rec (σ s : State) (op : NvOp) :
    Recorded σ (s.startNv op) ↔ Recorded σ s := Recorded.congr (by simp) (by simp)

@[simp] theorem State.releasePort_rec (σ s : State) :
    Recorded σ (s.releasePort) ↔ Recorded σ s := Recorded.congr (by simp) (by simp)

@[simp] theorem State.nextNv_rec (σ s : State) (op : NvOp) :
    Recorded σ (s.nextNv op) ↔ Recorded σ s := Recorded.congr (by simp) (by simp)

@[simp] theorem State.correctedEntry_rec {σ s : State} (marker word : Nat) (r : ReadResult) (h : Recorded σ s) :
    Recorded σ (s.correctedEntry marker word r) := by
  unfold State.correctedEntry
  try dsimp only
  repeat' split
  all_goals simp (maxDischargeDepth := 40) [h]

@[simp] theorem State.nvErrorEntry_rec {σ s : State} (marker word : Nat) (h : Recorded σ s) :
    Recorded σ (s.nvErrorEntry marker word) := by
  simp (maxDischargeDepth := 40) [State.nvErrorEntry, h]

@[simp] theorem State.readEntries_rec {σ s : State} (marker word : Nat) (r : ReadResult) (h : Recorded σ s) :
    Recorded σ (s.readEntries marker word r) := by
  unfold State.readEntries
  try dsimp only
  repeat' split
  all_goals simp (maxDischargeDepth := 40) [h]

@[simp] theorem State.loadZeroWord_rec {σ s : State} (ch : Nat) (r : ReadResult) (h : Recorded σ s) :
    Recorded σ (s.loadZeroWord ch r) := by
  simp (maxDischargeDepth := 40) [State.loadZeroWord, h]

@[simp] theorem State.loadGainWord_rec {σ s : State} (ch : Nat) (r : ReadResult) (h : Recorded σ s) :
    Recorded σ (s.loadGainWord ch r) := by
  unfold State.loadGainWord
  try dsimp only
  repeat' split
  all_goals simp (maxDischargeDepth := 40) [h]

@[simp] theorem State.loadIdentity_rec {σ s : State} (r : ReadResult) (h : Recorded σ s) :
    Recorded σ (s.loadIdentity r) := by
  unfold State.loadIdentity
  try dsimp only
  repeat' split
  all_goals simp (maxDischargeDepth := 40) [h]

@[simp] theorem State.endLoad_rec {σ s : State} (h : Recorded σ s) : Recorded σ (s.endLoad) := by
  simp (maxDischargeDepth := 40) [State.endLoad, h]

@[simp] theorem State.loadStep_rec {σ s : State} (k : Nat) (r : ReadResult) (h : Recorded σ s) :
    Recorded σ (s.loadStep k r) := by
  unfold State.loadStep
  try dsimp only
  repeat' split
  all_goals simp (maxDischargeDepth := 40) [h]

@[simp] theorem State.loadExpires_rec {σ s : State} (h : Recorded σ s) : Recorded σ (s.loadExpires) := by
  unfold State.loadExpires
  try dsimp only
  repeat' split
  all_goals simp (maxDischargeDepth := 40) [h]

@[simp] theorem State.calWriteEnds_rec {σ s : State} (ch : Nat) (success : Bool) (h : Recorded σ s) :
    Recorded σ (s.calWriteEnds ch success) := by
  unfold State.calWriteEnds
  try dsimp only
  repeat' split
  all_goals simp (maxDischargeDepth := 40) [h]

@[simp] theorem State.counterReadEnds_rec {σ s : State} (c : ComposeOp) (value : Option Nat) (failed : Nat) (h : Recorded σ s) :
    Recorded σ (s.counterReadEnds c value failed) := by
  unfold State.counterReadEnds
  try dsimp only
  repeat' split
  all_goals simp (maxDischargeDepth := 40) [h]

@[simp] theorem State.counterReadExpires_rec {σ s : State} (h : Recorded σ s) : Recorded σ (s.counterReadExpires) := by
  unfold State.counterReadExpires
  try dsimp only
  repeat' split
  all_goals simp (maxDischargeDepth := 40) [h]

@[simp] theorem State.counterWriteEnds_rec {σ s : State} (c : ComposeOp) (value : Nat) (success : Bool) (h : Recorded σ s) :
    Recorded σ (s.counterWriteEnds c value success) := by
  unfold State.counterWriteEnds
  try dsimp only
  repeat' split
  all_goals simp (maxDischargeDepth := 40) [h]

@[simp] theorem State.calWriteExpires_rec {σ s : State} (cut : NvCut) (h : Recorded σ s) :
    Recorded σ (s.calWriteExpires cut) := by
  unfold State.calWriteExpires
  try dsimp only
  repeat' split
  all_goals simp (maxDischargeDepth := 40) [h]

@[simp] theorem State.counterWriteExpires_rec {σ s : State} (cut : NvCut) (h : Recorded σ s) :
    Recorded σ (s.counterWriteExpires cut) := by
  unfold State.counterWriteExpires
  try dsimp only
  repeat' split
  all_goals simp (maxDischargeDepth := 40) [h]

@[simp] theorem State.brokenEnds_rec (σ s : State) (cut : NvCut) :
    Recorded σ (s.brokenEnds cut) ↔ Recorded σ s := Recorded.congr (by simp) (by simp)

end Sys2Proof.Machine
end

