-- ==== Sys2Proof/Laws/RecPrinter.lean ====
section
/-! SUPPORT. Laws/RecPrinter.lean: the operations of Machine/Printer make productions and write lane memory from 0x0200 on or
the words of lane time, and do no more to the journal and to lane memory. -/

namespace Sys2Proof.Machine

set_option Elab.async false

@[simp] theorem State.sendWire_rec (σ s : State) (w : WireFrame) :
    Recorded σ (s.sendWire w) ↔ Recorded σ s := Recorded.congr (by simp) (by simp)

@[simp] theorem State.sendLine_rec (σ s : State) :
    Recorded σ (s.sendLine) ↔ Recorded σ s := Recorded.congr (by simp) (by simp)

@[simp] theorem State.sendNewLine_rec (σ s : State) (text : List Byte) (cancel : Bool) :
    Recorded σ (s.sendNewLine text cancel) ↔ Recorded σ s := Recorded.congr (by simp) (by simp)

@[simp] theorem State.sendPoll_rec (σ s : State) :
    Recorded σ (s.sendPoll) ↔ Recorded σ s := Recorded.congr (by simp) (by simp)

@[simp] theorem State.setLink_rec {σ s : State} (new : LinkState) (h : Recorded σ s) : Recorded σ (s.setLink new) := by
  unfold State.setLink
  try dsimp only
  repeat' split
  all_goals simp (maxDischargeDepth := 40) [h]

@[simp] theorem State.updateJob_rec (σ s : State) (slot : Nat) (f : Job → Job) :
    Recorded σ (s.updateJob slot f) ↔ Recorded σ s := Recorded.congr (by simp) (by simp)

@[simp] theorem State.printEntry_rec {σ s : State} (j : Job) (st : JobState) (h : Recorded σ s) :
    Recorded σ (s.printEntry j st) := by
  simp (maxDischargeDepth := 40) [State.printEntry, h]

@[simp] theorem State.selectJob_rec {σ s : State} (h : Recorded σ s) : Recorded σ (s.selectJob) := by
  unfold State.selectJob
  try dsimp only
  repeat' split
  all_goals simp (maxDischargeDepth := 40) [h]

@[simp] theorem State.enterReady_rec {σ s : State} (h : Recorded σ s) : Recorded σ (s.enterReady) := by
  simp (maxDischargeDepth := 40) [State.enterReady, h]

@[simp] theorem State.countPrint_rec (σ s : State) (k : Nat) :
    Recorded σ (s.countPrint k) ↔ Recorded σ s := Recorded.congr (by simp) (by simp)

@[simp] theorem State.endJob_rec {σ s : State} (j : Job) (st : JobState) (o : ReqOutcome) (d : Detail) (h : Recorded σ s) :
    Recorded σ (s.endJob j st o d) := by
  unfold State.endJob
  try dsimp only
  repeat' split
  all_goals simp (maxDischargeDepth := 40) [h]

@[simp] theorem State.failJob_rec {σ s : State} (d : Detail) (h : Recorded σ s) : Recorded σ (s.failJob d) := by
  unfold State.failJob
  try dsimp only
  repeat' split
  all_goals simp (maxDischargeDepth := 40) [h]

@[simp] theorem State.resendLine_rec {σ s : State} (h : Recorded σ s) : Recorded σ (s.resendLine) := by
  simp (maxDischargeDepth := 40) [State.resendLine, h]

@[simp] theorem State.sendCancelled_rec {σ s : State} (h : Recorded σ s) : Recorded σ (s.sendCancelled) := by
  simp (maxDischargeDepth := 40) [State.sendCancelled, h]

@[simp] theorem State.afterExchange_rec {σ s : State} (cancelMark : Bool) (h : Recorded σ s) :
    Recorded σ (s.afterExchange cancelMark) := by
  unfold State.afterExchange
  try dsimp only
  repeat' split
  all_goals simp (maxDischargeDepth := 40) [h]

@[simp] theorem State.lineReady_rec {σ s : State} (j : Job) (h : Recorded σ s) : Recorded σ (s.lineReady j) := by
  unfold State.lineReady
  try dsimp only
  repeat' split
  all_goals simp (maxDischargeDepth := 40) [h]

@[simp] theorem State.lineBusy_rec {σ s : State} (h : Recorded σ s) : Recorded σ (s.lineBusy) := by
  simp (maxDischargeDepth := 40) [State.lineBusy, h]

@[simp] theorem State.lineBad_rec {σ s : State} (j : Job) (h : Recorded σ s) : Recorded σ (s.lineBad j) := by
  unfold State.lineBad
  try dsimp only
  repeat' split
  all_goals simp (maxDischargeDepth := 40) [h]

@[simp] theorem State.linePaper_rec {σ s : State} (j : Job) (h : Recorded σ s) : Recorded σ (s.linePaper j) := by
  unfold State.linePaper
  try dsimp only
  repeat' split
  all_goals simp (maxDischargeDepth := 40) [h]

@[simp] theorem State.lineReply_rec {σ s : State} (r : Reply) (h : Recorded σ s) : Recorded σ (s.lineReply r) := by
  unfold State.lineReply
  try dsimp only
  repeat' split
  all_goals simp (maxDischargeDepth := 40) [h]

@[simp] theorem State.pausedReady_rec {σ s : State} (h : Recorded σ s) : Recorded σ (s.pausedReady) := by
  unfold State.pausedReady
  try dsimp only
  repeat' split
  all_goals simp (maxDischargeDepth := 40) [h]

@[simp] theorem State.pollReply_rec {σ s : State} (r : Reply) (h : Recorded σ s) : Recorded σ (s.pollReply r) := by
  unfold State.pollReply
  try dsimp only
  repeat' split
  all_goals simp (maxDischargeDepth := 40) [h]

@[simp] theorem State.frameLeft_rec {σ s : State} (h : Recorded σ s) : Recorded σ (s.frameLeft) := by
  unfold State.frameLeft
  try dsimp only
  repeat' split
  all_goals simp (maxDischargeDepth := 40) [h]

@[simp] theorem State.replyTaken_rec (σ s : State) :
    Recorded σ (s.replyTaken) ↔ Recorded σ s := Recorded.congr (by simp) (by simp)

@[simp] theorem State.lineSilent_rec {σ s : State} (h : Recorded σ s) : Recorded σ (s.lineSilent) := by
  unfold State.lineSilent
  try dsimp only
  repeat' split
  all_goals simp (maxDischargeDepth := 40) [h]

@[simp] theorem State.pollSilent_rec {σ s : State} (h : Recorded σ s) : Recorded σ (s.pollSilent) := by
  unfold State.pollSilent
  try dsimp only
  repeat' split
  all_goals simp (maxDischargeDepth := 40) [h]

@[simp] theorem State.createJob_rec {σ s : State} (n k : Nat) (noRetry : Bool) (h : Recorded σ s) :
    Recorded σ (s.createJob n k noRetry) := by
  unfold State.createJob
  try dsimp only
  repeat' split
  all_goals simp (maxDischargeDepth := 40) [h]

@[simp] theorem State.takePrint_rec {σ s : State} (n : Nat) (h : Recorded σ s) : Recorded σ (s.takePrint n) := by
  unfold State.takePrint
  try dsimp only
  repeat' split
  all_goals simp (maxDischargeDepth := 40) [h]

@[simp] theorem State.cancelPrint_rec {σ s : State} (n : Nat) (h : Recorded σ s) : Recorded σ (s.cancelPrint n) := by
  unfold State.cancelPrint
  try dsimp only
  repeat' split
  all_goals simp (maxDischargeDepth := 40) [h]

end Sys2Proof.Machine
end

