-- ==== Sys2Proof/Laws/RecRuns.lean ====
section
/-! SUPPORT. Laws/RecRuns.lean: the operations of Machine/RunSteps make productions and write lane memory from 0x0200 on or the
words of lane time, and do no more to the journal and to lane memory. -/

namespace Sys2Proof.Machine

set_option Elab.async false

@[simp] theorem State.beginServiceWait_rec {σ s : State} (h : Recorded σ s) : Recorded σ (s.beginServiceWait) := by
  simp (maxDischargeDepth := 40) [State.beginServiceWait, h]

@[simp] theorem State.endHold_rec {σ s : State} (h : Recorded σ s) : Recorded σ (s.endHold) := by
  unfold State.endHold
  try dsimp only
  repeat' split
  all_goals simp (maxDischargeDepth := 40) [h]

@[simp] theorem State.judgeRamp_rec {σ s : State} (o : RampOutcome) (h : Recorded σ s) : Recorded σ (s.judgeRamp o) := by
  unfold State.judgeRamp
  try dsimp only
  repeat' split
  all_goals simp (maxDischargeDepth := 40) [h]

@[simp] theorem State.rampTest_rec {σ s : State} (h : Recorded σ s) : Recorded σ (s.rampTest) := by
  unfold State.rampTest
  try dsimp only
  repeat' split
  all_goals simp (maxDischargeDepth := 40) [h]

@[simp] theorem State.serviceOnsetNow_rec {σ s : State} (h : Recorded σ s) : Recorded σ (s.serviceOnsetNow) := by
  simp (maxDischargeDepth := 40) [State.serviceOnsetNow, h]

@[simp] theorem State.ovalityOnsetNow_rec (σ s : State) :
    Recorded σ (s.ovalityOnsetNow) ↔ Recorded σ s := Recorded.congr (by simp) (by simp)

@[simp] theorem State.parkOnsetNow_rec {σ s : State} (h : Recorded σ s) : Recorded σ (s.parkOnsetNow) := by
  simp (maxDischargeDepth := 40) [State.parkOnsetNow, h]

@[simp] theorem State.ovalitySample_rec {σ s : State} (h : Recorded σ s) : Recorded σ (s.ovalitySample) := by
  unfold State.ovalitySample
  try dsimp only
  repeat' split
  all_goals simp (maxDischargeDepth := 40) [h]

@[simp] theorem State.phaseSample_rec {σ s : State} (h : Recorded σ s) : Recorded σ (s.phaseSample) := by
  unfold State.phaseSample
  try dsimp only
  repeat' split
  all_goals simp (maxDischargeDepth := 40) [h]

@[simp] theorem State.runSample_rec {σ s : State} (h : Recorded σ s) : Recorded σ (s.runSample) := by
  simp (maxDischargeDepth := 40) [State.runSample, h]

@[simp] theorem State.startWindowExpires_rec {σ s : State} (h : Recorded σ s) : Recorded σ (s.startWindowExpires) := by
  unfold State.startWindowExpires
  try dsimp only
  repeat' split
  all_goals simp (maxDischargeDepth := 40) [h]

@[simp] theorem State.settleEnds_rec (σ s : State) :
    Recorded σ (s.settleEnds) ↔ Recorded σ s := Recorded.congr (by simp) (by simp)

@[simp] theorem State.holdCompletes_rec (σ s : State) :
    Recorded σ (s.holdCompletes) ↔ Recorded σ s := Recorded.congr (by simp) (by simp)

@[simp] theorem State.parkWindowExpires_rec {σ s : State} (h : Recorded σ s) : Recorded σ (s.parkWindowExpires) := by
  unfold State.parkWindowExpires
  try dsimp only
  repeat' split
  all_goals simp (maxDischargeDepth := 40) [h]

end Sys2Proof.Machine
end

