-- ==== Sys2Proof/Laws/RecRequests.lean ====
section
/-! SUPPORT. Laws/RecRequests.lean: the operations of Machine/Requests, Machine/Reset, Machine/Sample make productions and write
lane memory from 0x0200 on or the words of lane time, and do no more to the journal and to lane memory. -/

namespace Sys2Proof.Machine

set_option Elab.async false

@[simp] theorem State.postIgnored_rec {σ s : State} (n : Nat) (found : Word) (h : Recorded σ s) :
    Recorded σ (s.postIgnored n found) := by
  simp (maxDischargeDepth := 40) [State.postIgnored, h]

@[simp] theorem State.postSlot_rec {σ s : State} (n : Nat) (h : Recorded σ s) : Recorded σ (s.postSlot n) := by
  unfold State.postSlot slotBase
  dsimp only
  repeat' split
  · exact State.postIgnored_rec _ _ (h.setMem_writeWord _ _ (by omega))
  · rw [State.setHeld_rec]
    exact h.setMem_writeWord _ _ (by omega)
  · exact State.postIgnored_rec _ _ h

@[simp] theorem State.abortZero_rec {σ s : State} (n : Nat) (h : Recorded σ s) : Recorded σ (s.abortZero n) := by
  unfold State.abortZero
  try dsimp only
  repeat' split
  all_goals simp (maxDischargeDepth := 40) [h]

@[simp] theorem State.abortCalibrate_rec (σ s : State) :
    Recorded σ (s.abortCalibrate) ↔ Recorded σ s := Recorded.congr (by simp) (by simp)

@[simp] theorem State.abortTest_rec {σ s : State} (h : Recorded σ s) : Recorded σ (s.abortTest) := by
  unfold State.abortTest
  try dsimp only
  repeat' split
  all_goals simp (maxDischargeDepth := 40) [h]

@[simp] theorem State.abortCompose_rec (σ s : State) :
    Recorded σ (s.abortCompose) ↔ Recorded σ s := Recorded.congr (by simp) (by simp)

@[simp] theorem State.abortActive_rec {σ s : State} (n : Nat) (k : Kind) (h : Recorded σ s) :
    Recorded σ (s.abortActive n k) := by
  unfold State.abortActive
  try dsimp only
  repeat' split
  all_goals simp (maxDischargeDepth := 40) [h]

@[simp] theorem State.abortSlot_rec {σ s : State} (n : Nat) (h : Recorded σ s) : Recorded σ (s.abortSlot n) := by
  unfold State.abortSlot
  try dsimp only
  repeat' split
  all_goals simp (maxDischargeDepth := 40) [h]

@[simp] theorem State.withdraw_rec {σ s : State} (n : Nat) (h : Recorded σ s) : Recorded σ (s.withdraw n) := by
  simp (maxDischargeDepth := 40) [State.withdraw, h]

theorem State.taking_rec {σ s : State} (takes : Nat → Bool) (work : State → Nat → State)
    (hw : ∀ s n, Recorded σ s → Recorded σ (work s n)) (h : Recorded σ s) : Recorded σ (s.taking takes work) := by
  unfold State.taking
  repeat' split
  all_goals simp [h, hw]

theorem onlyOne_rec {σ : State} (k : Kind) (work : State → Nat → State)
    (hw : ∀ s n, Recorded σ s → Recorded σ (work s n)) (s : State) (n : Nat) (h : Recorded σ s) :
    Recorded σ (onlyOne k work s n) := by
  unfold onlyOne
  split <;> simp [h, hw]

@[simp] theorem State.offerAgain_rec (σ s : State) (k : Nat) :
    Recorded σ (s.offerAgain k) ↔ Recorded σ s := by
  refine Recorded.congr (by simp) (by simp) (by simp) ?_
  unfold State.offerAgain State.evaluateOffer
  split <;> simp

@[simp] theorem State.discardTop_rec {σ s : State} (n k : Nat) (a : Attempt) (h : Recorded σ s) :
    Recorded σ (s.discardTop n k a) := by
  simp (maxDischargeDepth := 40) [State.discardTop, h]

@[simp] theorem State.takeDiscard_rec {σ s : State} (n : Nat) (h : Recorded σ s) : Recorded σ (s.takeDiscard n) := by
  unfold State.takeDiscard
  try dsimp only
  repeat' split
  all_goals simp (maxDischargeDepth := 40) [h]

@[simp] theorem State.takeSetTime_rec {σ s : State} (n : Nat) (h : Recorded σ s) : Recorded σ (s.takeSetTime n) := by
  simp (maxDischargeDepth := 40) [State.takeSetTime, h]

@[simp] theorem State.takeZero_rec {σ s : State} (n : Nat) (h : Recorded σ s) : Recorded σ (s.takeZero n) := by
  unfold State.takeZero
  try dsimp only
  repeat' split
  all_goals simp (maxDischargeDepth := 40) [h]

@[simp] theorem State.takeCalibrate_rec {σ s : State} (n : Nat) (h : Recorded σ s) : Recorded σ (s.takeCalibrate n) := by
  unfold State.takeCalibrate
  try dsimp only
  repeat' split
  all_goals simp (maxDischargeDepth := 40) [h]

@[simp] theorem State.openPlan_rec {σ s : State} (n : Nat) (p : Plan) (h : Recorded σ s) :
    Recorded σ (s.openPlan n p) := by
  simp (maxDischargeDepth := 40) [State.openPlan, h, Sequencer.cleared]

@[simp] theorem State.takeRunPlan_rec {σ s : State} (n : Nat) (h : Recorded σ s) : Recorded σ (s.takeRunPlan n) := by
  unfold State.takeRunPlan
  try dsimp only
  repeat' split
  all_goals simp (maxDischargeDepth := 40) [h]

@[simp] theorem State.takeDriveTest_rec {σ s : State} (n : Nat) (h : Recorded σ s) : Recorded σ (s.takeDriveTest n) := by
  unfold State.takeDriveTest
  try dsimp only
  repeat' split
  all_goals simp (maxDischargeDepth := 40) [h]

@[simp] theorem State.startCompose_rec {σ s : State} (n k : Nat) (h : Recorded σ s) :
    Recorded σ (s.startCompose n k) := by
  simp (maxDischargeDepth := 40) [State.startCompose, h]

@[simp] theorem State.takeCompose_rec {σ s : State} (n : Nat) (h : Recorded σ s) : Recorded σ (s.takeCompose n) := by
  unfold State.takeCompose
  try dsimp only
  repeat' split
  all_goals simp (maxDischargeDepth := 40) [h]

@[simp] theorem State.updateGauge_rec {σ s : State} (h : Recorded σ s) : Recorded σ s.updateGauge := by
  unfold State.updateGauge
  split
  · exact Recorded.setMem_writeWords (by simpa using h) _ _ _ (by simp) (by omega)
  · simpa using h

@[simp] theorem State.resetSlot_rec {σ s : State} (n : Nat) (h : Recorded σ s) : Recorded σ (s.resetSlot n) := by
  unfold State.resetSlot
  try dsimp only
  repeat' split
  all_goals simp (maxDischargeDepth := 40) [h]

@[simp] theorem State.resetSlots_rec {σ s : State} (h : Recorded σ s) : Recorded σ (s.resetSlots) := by
  unfold State.resetSlots
  exact foldl_rec _ (fun s x h => by simp (maxDischargeDepth := 40) [h]) _ _ h

@[simp] theorem State.resetCerts_rec {σ s : State} (h : Recorded σ s) : Recorded σ (s.resetCerts) := by
  unfold State.resetCerts
  try dsimp only
  repeat' split
  all_goals simp (maxDischargeDepth := 40) [h]

@[simp] theorem State.firstSample_rec {σ s : State} (l : Levels) (h : Recorded σ s) : Recorded σ (s.firstSample l) := by
  unfold State.firstSample
  try dsimp only
  repeat' split
  all_goals simp (maxDischargeDepth := 40) [h]

@[simp] theorem State.discreteSample_rec {σ s : State} (l : Levels) (h : Recorded σ s) :
    Recorded σ (s.discreteSample l) := by
  unfold State.discreteSample
  try dsimp only
  repeat' split
  all_goals simp (maxDischargeDepth := 40) [h]

@[simp] theorem State.countSample_rec (σ s : State) (p : Pulses) :
    Recorded σ (s.countSample p) ↔ Recorded σ s := Recorded.congr (by simp) (by simp)

@[simp] theorem State.analogSample_rec {σ s : State} (i : SampleInput) (h : Recorded σ s) :
    Recorded σ (s.analogSample i) := by
  simp (maxDischargeDepth := 40) [State.analogSample, h]

@[simp] theorem State.takeSample_rec {σ s : State} (i : SampleInput) (h : Recorded σ s) :
    Recorded σ (s.takeSample i) := by
  unfold State.takeSample
  try dsimp only
  repeat' split
  all_goals simp (maxDischargeDepth := 40) [h]

@[simp] theorem State.tick_rec {σ s : State} (h : Recorded σ s) : Recorded σ (s.tick) := by
  unfold State.tick
  dsimp only
  split
  all_goals simp [h]

end Sys2Proof.Machine
end

