-- ==== Sys2Proof/Laws/Selection.lean ====
section
/-! SUPPORT. Laws/Selection.lean: the selection of a print job (R183) in the words the statements use. -/

namespace Sys2Proof.Machine

theorem Job.find?_and (p q : Job → Bool) (l : List Job) :
    l.find? (fun j => p j && q j) = (l.filter p).find? q := by
  induction l with
  | nil => rfl
  | cons a l ih => cases hp : p a <;> cases hq : q a <;> simp_all

/-- Where no job of a list is an ORIGINAL, its first COPY is its first job. -/
theorem Job.find?_copy (l : List Job) (h : l.find? (fun j => j.cls == .original) = none) :
    l.find? (fun j => j.cls == .copy) = l.head? := by
  cases l with
  | nil => rfl
  | cons a l => cases ha : a.cls <;> simp_all

/-- The job that the spool selects is the one R183 names. -/
theorem State.nextJob_eq (s : State) : s.nextJob = jobSelected s.prn.jobs := by
  unfold State.nextJob jobSelected
  rw [Job.find?_and (fun j => j.state == .queued) (fun j => j.cls == .original),
    Job.find?_and (fun j => j.state == .queued) (fun j => j.cls == .copy)]
  generalize s.prn.jobs.filter (fun j => j.state == .queued) = l
  simp only [List.head?_append, List.head?_filter]
  split
  · simp_all
  · rename_i h
    rw [Job.find?_copy l h]
    simp [h]

end Sys2Proof.Machine
end

