-- ==== Sys2Proof/Laws/Shape.lean ====
section
/-! SUPPORT. Laws/Shape.lean: every operation keeps the lengths of the lists of the state and the target of a COMPOSE (`ShapeLaw`). -/

namespace Sys2Proof.Machine

set_option Elab.async false

/-- Only the slots, the lengths of the engine's lists, the axle records and the composer matter. -/
theorem ShapeLaw.congr {s t : State} (hs : t.slots.length = s.slots.length)
    (hi : t.eng.inputs.length = s.eng.inputs.length) (hf : t.eng.faults.length = s.eng.faults.length)
    (ht : t.tab.records.length = s.tab.records.length) (hc : t.comp = s.comp) : ShapeLaw t ↔ ShapeLaw s := by
  unfold ShapeLaw
  rw [hs, hi, hf, ht, hc]

@[simp] theorem State.setPending_shape (s : State) (x : List Instr) : ShapeLaw (s.setPending x) ↔ ShapeLaw s := .rfl
@[simp] theorem State.setMem_shape (s : State) (x : Memory) : ShapeLaw (s.setMem x) ↔ ShapeLaw s := .rfl
@[simp] theorem State.setClk_shape (s : State) (x : Clock) : ShapeLaw (s.setClk x) ↔ ShapeLaw s := .rfl
@[simp] theorem State.setCause_shape (s : State) (x : StartCause) : ShapeLaw (s.setCause x) ↔ ShapeLaw s := .rfl
@[simp] theorem State.setJr_shape (s : State) (x : Journal) : ShapeLaw (s.setJr x) ↔ ShapeLaw s := .rfl
@[simp] theorem State.setAtt_shape (s : State) (x : Attention) : ShapeLaw (s.setAtt x) ↔ ShapeLaw s := .rfl
@[simp] theorem State.setGauge_shape (s : State) (x : Gauge) : ShapeLaw (s.setGauge x) ↔ ShapeLaw s := .rfl
@[simp] theorem State.setNv_shape (s : State) (x : Nv) : ShapeLaw (s.setNv x) ↔ ShapeLaw s := .rfl
@[simp] theorem State.setSeat_shape (s : State) (x : Seating) : ShapeLaw (s.setSeat x) ↔ ShapeLaw s := .rfl
@[simp] theorem State.setDrv_shape (s : State) (x : Drive) : ShapeLaw (s.setDrv x) ↔ ShapeLaw s := .rfl
@[simp] theorem State.setDtest_shape (s : State) (x : Option DriveTest) : ShapeLaw (s.setDtest x) ↔ ShapeLaw s := .rfl
@[simp] theorem State.setWeigh_shape (s : State) (x : Option Weighing) : ShapeLaw (s.setWeigh x) ↔ ShapeLaw s := .rfl
@[simp] theorem State.setRun_shape (s : State) (x : RunUnit) : ShapeLaw (s.setRun x) ↔ ShapeLaw s := .rfl
@[simp] theorem State.setPlate_shape (s : State) (x : Plate) : ShapeLaw (s.setPlate x) ↔ ShapeLaw s := .rfl
@[simp] theorem State.setSeq_shape (s : State) (x : Sequencer) : ShapeLaw (s.setSeq x) ↔ ShapeLaw s := .rfl
@[simp] theorem State.setDisp_shape (s : State) (x : Display) : ShapeLaw (s.setDisp x) ↔ ShapeLaw s := .rfl
@[simp] theorem State.setPrn_shape (s : State) (x : Printer) : ShapeLaw (s.setPrn x) ↔ ShapeLaw s := .rfl
@[simp] theorem State.setSlots_shape (s : State) (x : List Held) (hx : x.length = s.slots.length) :
    ShapeLaw (s.setSlots x) ↔ ShapeLaw s := ShapeLaw.congr hx rfl rfl rfl rfl
@[simp] theorem State.setEng_shape (s : State) (x : Engine) (hi : x.inputs.length = s.eng.inputs.length)
    (hf : x.faults.length = s.eng.faults.length) : ShapeLaw (s.setEng x) ↔ ShapeLaw s := ShapeLaw.congr rfl hi hf rfl rfl
@[simp] theorem State.setTab_shape (s : State) (x : AxleTable) (hx : x.records.length = s.tab.records.length) :
    ShapeLaw (s.setTab x) ↔ ShapeLaw s := ShapeLaw.congr rfl rfl rfl hx rfl
/-- A composer with four records that works on one of the four, or on none. -/
theorem ShapeLaw.setComp {s : State} (h : ShapeLaw s) (x : Composer) (hr : x.records.length = s.comp.records.length)
    (hx : ∀ c, x.op = some c → c.target < 4) : ShapeLaw (s.setComp x) :=
  ⟨h.1, h.2.1, h.2.2.1, h.2.2.2.1, hr.trans h.2.2.2.2.1, hx⟩

@[simp] theorem State.putTime_shape (s : State) (v : DWord) : ShapeLaw (s.putTime v) ↔ ShapeLaw s := .rfl
@[simp] theorem State.putSeq_shape (s : State) (x : Sequencer) : ShapeLaw (s.putSeq x) ↔ ShapeLaw s := .rfl
@[simp] theorem publish_shape (old s : State) : ShapeLaw (publish old s) ↔ ShapeLaw s := .rfl

@[simp] theorem State.raiseAttn_shape (s : State) (b : Byte) : ShapeLaw (s.raiseAttn b) ↔ ShapeLaw s :=
  ShapeLaw.congr (by simp) (by simp) (by simp) (by simp) (by simp)

@[simp] theorem State.produce_shape {s : State} (code axle : Nat) (p1 p2 : Word) (h : ShapeLaw s) :
    ShapeLaw (s.produce code axle p1 p2) := by
  unfold State.produce State.afterWritten
  try dsimp only
  repeat' split
  all_goals simp [h]

@[simp] theorem State.finishSlot_shape {s : State} (n : Nat) (o : ReqOutcome) (d : Detail) (r : List Word)
    (h : ShapeLaw s) : ShapeLaw (s.finishSlot n o d r) := by
  unfold State.finishSlot State.setHeld
  dsimp only
  rw [State.setSlots_shape _ _ (by simp), State.setMem_shape]
  exact h

@[simp] theorem State.complete_shape {s : State} (n k : Nat) (o : ReqOutcome) (d : Detail) (r : List Word)
    (h : ShapeLaw s) : ShapeLaw (s.complete n k o d r) := by
  simp [State.complete, h]

@[simp] theorem State.activate_shape {s : State} (n : Nat) (k : Kind) (h : ShapeLaw s) : ShapeLaw (s.activate n k) := by
  unfold State.activate State.setHeld
  rw [State.setSlots_shape _ _ (by simp), State.setMem_shape]
  exact h

@[simp] theorem State.rewriteTable_shape {s : State} (h : ShapeLaw s) : ShapeLaw s.rewriteTable := h

@[simp] theorem State.rewriteFields_shape {s : State} (k i n : Nat) (h : ShapeLaw s) : ShapeLaw (s.rewriteFields k i n) := by
  unfold State.rewriteFields
  split <;> simp [h]

@[simp] theorem State.rewriteOptional_shape {s : State} (k i n : Nat) (h : ShapeLaw s) :
    ShapeLaw (s.rewriteOptional k i n) := by
  simp [State.rewriteOptional, h]

@[simp] theorem State.rewriteAttempt_shape {s : State} (k j i : Nat) (h : ShapeLaw s) :
    ShapeLaw (s.rewriteAttempt k j i) := by
  simp [State.rewriteAttempt, h]

@[simp] theorem State.rewriteCert_shape {s : State} (k : Nat) (h : ShapeLaw s) : ShapeLaw (s.rewriteCert k) := h

@[simp] theorem State.rewriteCertWords_shape {s : State} (k i n : Nat) (h : ShapeLaw s) :
    ShapeLaw (s.rewriteCertWords k i n) := h

@[simp] theorem State.rewriteFill_shape {s : State} (k : Nat) (h : ShapeLaw s) : ShapeLaw (s.rewriteFill k) :=
  State.rewriteCertWords_shape k _ _ h

@[simp] theorem State.rewriteNumber_shape {s : State} (k : Nat) (h : ShapeLaw s) : ShapeLaw (s.rewriteNumber k) := h

@[simp] theorem frameAfter_shape (old s : State) : ShapeLaw (frameAfter old s) ↔ ShapeLaw s :=
  ShapeLaw.congr (by simp) (by simp) (by simp) (by simp) (by simp)

/-- A fold of such operations is one. -/
theorem foldl_shape {α : Type}  (f : State → α → State) (hf : ∀ s x, ShapeLaw s → ShapeLaw (f s x)) (l : List α)
    (s : State) (h : ShapeLaw s) : ShapeLaw (l.foldl f s) := by
  induction l generalizing s with
  | nil => exact h
  | cons x l ih => exact ih _ (hf _ _ h)



@[simp] theorem State.setRecord_shape (s : State) (k : Nat) (r : AxleRecord) :
    ShapeLaw (s.setRecord k r) ↔ ShapeLaw s := by
  simp [State.setRecord]

@[simp] theorem State.setCert_shape (s : State) (k : Nat) (c : CertRecord) :
    ShapeLaw (s.setCert k c) ↔ ShapeLaw s := by
  simp [State.setCert, ShapeLaw]

@[simp] theorem State.setAttn_shape (s : State) (bits : Byte) :
    ShapeLaw (s.setAttn bits) ↔ ShapeLaw s := ShapeLaw.congr (by simp) (by simp) (by simp) (by simp) (by simp)

@[simp] theorem State.clearAttn_shape (s : State) (bits : Byte) :
    ShapeLaw (s.clearAttn bits) ↔ ShapeLaw s := ShapeLaw.congr (by simp) (by simp) (by simp) (by simp) (by simp)

@[simp] theorem State.setMask_shape (s : State) (mask : Byte) :
    ShapeLaw (s.setMask mask) ↔ ShapeLaw s := ShapeLaw.congr (by simp) (by simp) (by simp) (by simp) (by simp)

@[simp] theorem State.produceHere_shape {s : State} (code : Nat) (p1 p2 : Word) (h : ShapeLaw s) :
    ShapeLaw (s.produceHere code p1 p2) := by
  simp (maxDischargeDepth := 40) [State.produceHere, h]

@[simp] theorem State.setHeld_shape (s : State) (n : Nat) (h : Held) :
    ShapeLaw (s.setHeld n h) ↔ ShapeLaw s := by
  simp [State.setHeld]

@[simp] theorem State.completeKind_shape {s : State} (n : Nat) (k : Kind) (o : ReqOutcome) (d : Detail) (result : List Word) (h : ShapeLaw s) :
    ShapeLaw (s.completeKind n k o d result) := by
  simp (maxDischargeDepth := 40) [State.completeKind, h]

@[simp] theorem State.loadRefresh_shape (s : State) :
    ShapeLaw (s.loadRefresh) ↔ ShapeLaw s := ShapeLaw.congr (by simp) (by simp) (by simp) (by simp) (by simp)

@[simp] theorem State.reloadRefresh_shape (s : State) :
    ShapeLaw (s.reloadRefresh) ↔ ShapeLaw s := ShapeLaw.congr (by simp) (by simp) (by simp) (by simp) (by simp)

@[simp] theorem State.frameDue_shape (s : State) :
    ShapeLaw (s.frameDue) ↔ ShapeLaw s := ShapeLaw.congr (by simp) (by simp) (by simp) (by simp) (by simp)

@[simp] theorem State.promptRepeat_shape (s : State) :
    ShapeLaw (s.promptRepeat) ↔ ShapeLaw s := ShapeLaw.congr (by simp) (by simp) (by simp) (by simp) (by simp)

@[simp] theorem State.lapseRepeat_shape (s : State) :
    ShapeLaw (s.lapseRepeat) ↔ ShapeLaw s := ShapeLaw.congr (by simp) (by simp) (by simp) (by simp) (by simp)

@[simp] theorem State.setStatus_shape {s : State} (k : Nat) (st : AxleStatus) (skip : Option SkipReason) (h : ShapeLaw s) :
    ShapeLaw (s.setStatus k st skip) := by
  simp [State.setStatus, h]

@[simp] theorem State.discardCrossing_shape (s : State) :
    ShapeLaw (s.discardCrossing) ↔ ShapeLaw s := ShapeLaw.congr (by simp) (by simp) (by simp) (by simp) (by simp)

@[simp] theorem State.enterSeq_shape {s : State} (n : SeqState) (h : ShapeLaw s) : ShapeLaw (s.enterSeq n) := by
  unfold State.enterSeq
  try dsimp only
  repeat' split
  all_goals simp (maxDischargeDepth := 40) [h]

@[simp] theorem State.handPhase_shape {s : State} (h : ShapeLaw s) : ShapeLaw (s.handPhase) := by
  unfold State.handPhase
  try dsimp only
  repeat' split
  all_goals simp (maxDischargeDepth := 40) [h]

@[simp] theorem State.takeEndOfSpin_shape {s : State} (owed : Bool) (h : ShapeLaw s) :
    ShapeLaw (s.takeEndOfSpin owed) := by
  unfold State.takeEndOfSpin
  try dsimp only
  repeat' split
  all_goals simp (maxDischargeDepth := 40) [h]

@[simp] theorem State.takeDriveStop_shape {s : State} (h : ShapeLaw s) : ShapeLaw (s.takeDriveStop) := by
  unfold State.takeDriveStop
  try dsimp only
  repeat' split
  all_goals simp (maxDischargeDepth := 40) [h]



@[simp] theorem State.armUnit_shape (s : State) (axle : Nat) (r : Runs) :
    ShapeLaw (s.armUnit axle r) ↔ ShapeLaw s := ShapeLaw.congr (by simp) (by simp) (by simp) (by simp) (by simp)

@[simp] theorem State.idleUnit_shape (s : State) :
    ShapeLaw (s.idleUnit) ↔ ShapeLaw s := ShapeLaw.congr (by simp) (by simp) (by simp) (by simp) (by simp)

@[simp] theorem State.markNow_shape (s : State) :
    ShapeLaw (s.markNow) ↔ ShapeLaw s := ShapeLaw.congr (by simp) (by simp) (by simp) (by simp) (by simp)

@[simp] theorem State.trackPeaks_shape (s : State) :
    ShapeLaw (s.trackPeaks) ↔ ShapeLaw s := ShapeLaw.congr (by simp) (by simp) (by simp) (by simp) (by simp)

@[simp] theorem State.trackParking_shape (s : State) :
    ShapeLaw (s.trackParking) ↔ ShapeLaw s := ShapeLaw.congr (by simp) (by simp) (by simp) (by simp) (by simp)

@[simp] theorem State.trackExtremes_shape (s : State) :
    ShapeLaw (s.trackExtremes) ↔ ShapeLaw s := ShapeLaw.congr (by simp) (by simp) (by simp) (by simp) (by simp)

@[simp] theorem State.trackImbalance_shape (s : State) :
    ShapeLaw (s.trackImbalance) ↔ ShapeLaw s := ShapeLaw.congr (by simp) (by simp) (by simp) (by simp) (by simp)

@[simp] theorem State.watch_shape (s : State) :
    ShapeLaw (s.watch) ↔ ShapeLaw s := ShapeLaw.congr (by simp) (by simp) (by simp) (by simp) (by simp)

@[simp] theorem State.raiseViolation_shape (s : State) :
    ShapeLaw (s.raiseViolation) ↔ ShapeLaw s := by
  unfold State.raiseViolation
  dsimp only
  split <;> simp

@[simp] theorem State.lowerViolation_shape (s : State) :
    ShapeLaw (s.lowerViolation) ↔ ShapeLaw s := by
  simp [State.lowerViolation]

@[simp] theorem State.violation_shape {s : State} (cause : Nat) (h : ShapeLaw s) : ShapeLaw (s.violation cause) := by
  simp (maxDischargeDepth := 40) [State.violation, h]

@[simp] theorem State.pushAttempt_shape {s : State} (axle : Nat) (a : Attempt) (h : ShapeLaw s) :
    ShapeLaw (s.pushAttempt axle a) := by
  simp (maxDischargeDepth := 40) [State.pushAttempt, h]

@[simp] theorem State.writeParking_shape {s : State} (reason : EndReason) (h : ShapeLaw s) :
    ShapeLaw (s.writeParking reason) := by
  unfold State.writeParking
  try dsimp only
  repeat' split
  all_goals simp (maxDischargeDepth := 40) [h]

@[simp] theorem State.pushHeld_shape {s : State} (h : ShapeLaw s) : ShapeLaw (s.pushHeld) := by
  unfold State.pushHeld
  try dsimp only
  repeat' split
  all_goals simp (maxDischargeDepth := 40) [h]

@[simp] theorem State.disturb_shape (s : State) :
    ShapeLaw (s.disturb) ↔ ShapeLaw s := ShapeLaw.congr (by simp) (by simp) (by simp) (by simp) (by simp)

@[simp] theorem State.endAttempt_shape {s : State} (reason : EndReason) (h : ShapeLaw s) :
    ShapeLaw (s.endAttempt reason) := by
  simp (maxDischargeDepth := 40) [State.endAttempt, h]

@[simp] theorem State.endParking_shape {s : State} (reason : EndReason) (h : ShapeLaw s) :
    ShapeLaw (s.endParking reason) := by
  simp (maxDischargeDepth := 40) [State.endParking, h]

@[simp] theorem State.runStop_shape {s : State} (r : StopReason) (h : ShapeLaw s) : ShapeLaw (s.runStop r) := by
  unfold State.runStop
  try dsimp only
  repeat' split
  all_goals simp (maxDischargeDepth := 40) [h]

@[simp] theorem State.runEnd_shape {s : State} (reason : EndReason) (h : ShapeLaw s) :
    ShapeLaw (s.runEnd reason) := by
  unfold State.runEnd
  try dsimp only
  repeat' split
  all_goals simp (maxDischargeDepth := 40) [h]

@[simp] theorem State.driveEntry_shape {s : State} (p2 : Word) (h : ShapeLaw s) : ShapeLaw (s.driveEntry p2) := by
  simp (maxDischargeDepth := 40) [State.driveEntry, h]

@[simp] theorem State.startDrive_shape {s : State} (owner : Owner) (mode : DirMode) (limit : Nat) (h : ShapeLaw s) :
    ShapeLaw (s.startDrive owner mode limit) := by
  unfold State.startDrive
  try dsimp only
  repeat' split
  all_goals simp (maxDischargeDepth := 40) [h]

@[simp] theorem State.enterStopping_shape {s : State} (r : StopReason) (h : ShapeLaw s) :
    ShapeLaw (s.enterStopping r) := by
  simp (maxDischargeDepth := 40) [State.enterStopping, h]

@[simp] theorem State.testStop_shape (s : State) (r : StopReason) :
    ShapeLaw (s.testStop r) ↔ ShapeLaw s := ShapeLaw.congr (by simp) (by simp) (by simp) (by simp) (by simp)

@[simp] theorem State.ownerStop_shape {s : State} (r : StopReason) (h : ShapeLaw s) : ShapeLaw (s.ownerStop r) := by
  unfold State.ownerStop
  try dsimp only
  repeat' split
  all_goals simp (maxDischargeDepth := 40) [h]

@[simp] theorem State.haltDrive_shape {s : State} (h : ShapeLaw s) : ShapeLaw (s.haltDrive) := by
  unfold State.haltDrive
  try dsimp only
  repeat' split
  all_goals simp (maxDischargeDepth := 40) [h]

@[simp] theorem State.stopDrive_shape {s : State} (r : StopReason) (h : ShapeLaw s) : ShapeLaw (s.stopDrive r) := by
  unfold State.stopDrive
  try dsimp only
  repeat' split
  all_goals simp (maxDischargeDepth := 40) [h]

@[simp] theorem State.stopEvent_shape {s : State} (r : StopReason) (h : ShapeLaw s) : ShapeLaw (s.stopEvent r) := by
  simp (maxDischargeDepth := 40) [State.stopEvent, h]

@[simp] theorem State.handEndOfSpin_shape {s : State} (owed : Bool) (h : ShapeLaw s) :
    ShapeLaw (s.handEndOfSpin owed) := by
  unfold State.handEndOfSpin
  try dsimp only
  repeat' split
  all_goals simp (maxDischargeDepth := 40) [h]

@[simp] theorem State.ownEnd_shape {s : State} (reason : EndReason) (noOnset : Bool) (h : ShapeLaw s) :
    ShapeLaw (s.ownEnd reason noOnset) := by
  unfold State.ownEnd
  try dsimp only
  repeat' split
  all_goals simp (maxDischargeDepth := 40) [h]

@[simp] theorem State.ownParkEnd_shape {s : State} (reason : EndReason) (h : ShapeLaw s) :
    ShapeLaw (s.ownParkEnd reason) := by
  simp (maxDischargeDepth := 40) [State.ownParkEnd, h]

@[simp] theorem State.parkNoOnset_shape {s : State} (h : ShapeLaw s) : ShapeLaw (s.parkNoOnset) := by
  simp (maxDischargeDepth := 40) [State.parkNoOnset, h]

@[simp] theorem State.finishTest_shape {s : State} (driveFault : Bool) (h : ShapeLaw s) :
    ShapeLaw (s.finishTest driveFault) := by
  unfold State.finishTest
  try dsimp only
  repeat' split
  all_goals simp (maxDischargeDepth := 40) [h]



@[simp] theorem State.setCursor_shape (s : State) (n : Nat) :
    ShapeLaw (s.setCursor n) ↔ ShapeLaw s := by
  simp [State.setCursor]

@[simp] theorem State.completePlan_shape {s : State} (o : ReqOutcome) (d : Detail) (h : ShapeLaw s) :
    ShapeLaw (s.completePlan o d) := by
  unfold State.completePlan
  try dsimp only
  repeat' split
  all_goals simp (maxDischargeDepth := 40) [h]

@[simp] theorem State.issueStart_shape {s : State} (h : ShapeLaw s) : ShapeLaw (s.issueStart) := by
  unfold State.issueStart
  try dsimp only
  repeat' split
  all_goals simp (maxDischargeDepth := 40) [h]

@[simp] theorem State.repeatStart_shape {s : State} (h : ShapeLaw s) : ShapeLaw (s.repeatStart) := by
  unfold State.repeatStart
  try dsimp only
  repeat' split
  all_goals simp (maxDischargeDepth := 40) [h]

@[simp] theorem State.setReviewMark_shape (s : State) :
    ShapeLaw (s.setReviewMark) ↔ ShapeLaw s := by
  simp [State.setReviewMark]

@[simp] theorem State.evaluateOffer_shape (s : State) :
    ShapeLaw (s.evaluateOffer) ↔ ShapeLaw s := by
  simp [State.evaluateOffer]

@[simp] theorem State.enterReview_shape {s : State} (h : ShapeLaw s) : ShapeLaw (s.enterReview) := by
  simp (maxDischargeDepth := 40) [State.enterReview, h]

@[simp] theorem State.enterSpinup_shape {s : State} (runs : Runs) (h : ShapeLaw s) :
    ShapeLaw (s.enterSpinup runs) := by
  unfold State.enterSpinup
  try dsimp only
  repeat' split
  all_goals simp (maxDischargeDepth := 40) [h]

@[simp] theorem State.enterComplete_shape {s : State} (h : ShapeLaw s) : ShapeLaw (s.enterComplete) := by
  simp (maxDischargeDepth := 40) [State.enterComplete, h]

@[simp] theorem State.advanceCursor_shape {s : State} (next : SeqState) (h : ShapeLaw s) :
    ShapeLaw (s.advanceCursor next) := by
  unfold State.advanceCursor
  try dsimp only
  repeat' split
  all_goals simp (maxDischargeDepth := 40) [h]

@[simp] theorem State.exitForward_shape {s : State} (h : ShapeLaw s) : ShapeLaw (s.exitForward) := by
  unfold State.exitForward
  try dsimp only
  repeat' split
  all_goals simp (maxDischargeDepth := 40) [h]

@[simp] theorem State.exitBackward_shape {s : State} (h : ShapeLaw s) : ShapeLaw (s.exitBackward) := by
  simp (maxDischargeDepth := 40) [State.exitBackward, h]

@[simp] theorem State.enterExitWait_shape {s : State} (h : ShapeLaw s) : ShapeLaw (s.enterExitWait) := by
  unfold State.enterExitWait
  try dsimp only
  repeat' split
  all_goals simp (maxDischargeDepth := 40) [h]

@[simp] theorem State.leaveSpindown_shape {s : State} (h : ShapeLaw s) : ShapeLaw (s.leaveSpindown) := by
  unfold State.leaveSpindown
  try dsimp only
  repeat' split
  all_goals simp (maxDischargeDepth := 40) [h]

@[simp] theorem State.startWeighing_shape (s : State) :
    ShapeLaw (s.startWeighing) ↔ ShapeLaw s := ShapeLaw.congr (by simp) (by simp) (by simp) (by simp) (by simp)

@[simp] theorem State.axleCourse_shape {s : State} (h : ShapeLaw s) : ShapeLaw (s.axleCourse) := by
  unfold State.axleCourse
  try dsimp only
  repeat' split
  all_goals simp (maxDischargeDepth := 40) [h]

@[simp] theorem State.seqSeated_shape {s : State} (h : ShapeLaw s) : ShapeLaw (s.seqSeated) := by
  unfold State.seqSeated
  try dsimp only
  repeat' split
  all_goals simp (maxDischargeDepth := 40) [h]

@[simp] theorem State.seqUnseated_shape {s : State} (h : ShapeLaw s) : ShapeLaw (s.seqUnseated) := by
  unfold State.seqUnseated
  try dsimp only
  repeat' split
  all_goals simp (maxDischargeDepth := 40) [h]

@[simp] theorem State.seqPass_shape {s : State} (forward : Bool) (h : ShapeLaw s) : ShapeLaw (s.seqPass forward) := by
  unfold State.seqPass
  try dsimp only
  repeat' split
  all_goals simp (maxDischargeDepth := 40) [h]

@[simp] theorem State.seqExit_shape {s : State} (forward : Bool) (h : ShapeLaw s) : ShapeLaw (s.seqExit forward) := by
  unfold State.seqExit
  try dsimp only
  repeat' split
  all_goals simp (maxDischargeDepth := 40) [h]

@[simp] theorem State.seqWeighed_shape {s : State} (h : ShapeLaw s) : ShapeLaw (s.seqWeighed) := by
  unfold State.seqWeighed
  try dsimp only
  repeat' split
  all_goals simp (maxDischargeDepth := 40) [h]

@[simp] theorem State.giveUpWork_shape {s : State} (reason : EndReason) (h : ShapeLaw s) :
    ShapeLaw (s.giveUpWork reason) := by
  simp (maxDischargeDepth := 40) [State.giveUpWork, h]

@[simp] theorem State.pauseWork_shape {s : State} (h : ShapeLaw s) : ShapeLaw (s.pauseWork) := by
  simp (maxDischargeDepth := 40) [State.pauseWork, h]

@[simp] theorem State.skipAxle_shape {s : State} (h : ShapeLaw s) : ShapeLaw (s.skipAxle) := by
  simp (maxDischargeDepth := 40) [State.skipAxle, h]

@[simp] theorem State.resume_shape {s : State} (h : ShapeLaw s) : ShapeLaw (s.resume) := by
  unfold State.resume
  try dsimp only
  repeat' split
  all_goals simp (maxDischargeDepth := 40) [h]

@[simp] theorem State.seqKey_shape {s : State} (k : Input) (h : ShapeLaw s) : ShapeLaw (s.seqKey k) := by
  unfold State.seqKey
  try dsimp only
  repeat' split
  all_goals simp (maxDischargeDepth := 40) [h]

@[simp] theorem State.abortRecord_shape {s : State} (k : Nat) (h : ShapeLaw s) : ShapeLaw (s.abortRecord k) := by
  unfold State.abortRecord
  split <;> simp [h]

@[simp] theorem State.abortRecords_shape {s : State} (h : ShapeLaw s) : ShapeLaw (s.abortRecords) :=
  foldl_shape _ (fun _ k h => State.abortRecord_shape k h) _ _ h

@[simp] theorem State.abortPlan_shape {s : State} (o : ReqOutcome) (d : Detail) (h : ShapeLaw s) :
    ShapeLaw (s.abortPlan o d) := by
  unfold State.abortPlan
  try dsimp only
  repeat' split
  all_goals simp (maxDischargeDepth := 40) [h]

@[simp] theorem State.beginRuns_shape (s : State) :
    ShapeLaw (s.beginRuns) ↔ ShapeLaw s := ShapeLaw.congr (by simp) (by simp) (by simp) (by simp) (by simp)

@[simp] theorem State.spinReachesRun_shape {s : State} (h : ShapeLaw s) : ShapeLaw (s.spinReachesRun) := by
  unfold State.spinReachesRun
  try dsimp only
  repeat' split
  all_goals simp (maxDischargeDepth := 40) [h]

@[simp] theorem State.driveRun_shape {s : State} (h : ShapeLaw s) : ShapeLaw (s.driveRun) := by
  simp (maxDischargeDepth := 40) [State.driveRun, h]

@[simp] theorem State.seqDriveEnds_shape {s : State} (h : ShapeLaw s) : ShapeLaw (s.seqDriveEnds) := by
  unfold State.seqDriveEnds
  try dsimp only
  repeat' split
  all_goals simp (maxDischargeDepth := 40) [h]

@[simp] theorem State.driveOff_shape {s : State} (p2 : Word) (h : ShapeLaw s) : ShapeLaw (s.driveOff p2) := by
  simp (maxDischargeDepth := 40) [State.driveOff, h]

@[simp] theorem State.driveLockout_shape {s : State} (cause : LockCause) (h : ShapeLaw s) :
    ShapeLaw (s.driveLockout cause) := by
  simp (maxDischargeDepth := 40) [State.driveLockout, h]

@[simp] theorem State.weighSample_shape (s : State) :
    ShapeLaw (s.weighSample) ↔ ShapeLaw s := ShapeLaw.congr (by simp) (by simp) (by simp) (by simp) (by simp)

@[simp] theorem State.weighHandsOver_shape {s : State} (h : ShapeLaw s) : ShapeLaw (s.weighHandsOver) := by
  simp (maxDischargeDepth := 40) [State.weighHandsOver, h]

@[simp] theorem State.weighAccepted_shape {s : State} (w : Weighing) (h : ShapeLaw s) :
    ShapeLaw (s.weighAccepted w) := by
  simp (maxDischargeDepth := 40) [State.weighAccepted, h]

@[simp] theorem State.weighUnstable_shape {s : State} (w : Weighing) (h : ShapeLaw s) :
    ShapeLaw (s.weighUnstable w) := by
  simp (maxDischargeDepth := 40) [State.weighUnstable, h]

@[simp] theorem State.weighWindow_shape {s : State} (h : ShapeLaw s) : ShapeLaw (s.weighWindow) := by
  unfold State.weighWindow
  try dsimp only
  repeat' split
  all_goals simp (maxDischargeDepth := 40) [h]



@[simp] theorem State.setPlateCount_shape (s : State) (n : Nat) :
    ShapeLaw (s.setPlateCount n) ↔ ShapeLaw s := by
  simp [State.setPlateCount]

@[simp] theorem State.setSideSlip_shape {s : State} (k : Nat) (x : SideSlip) (h : ShapeLaw s) :
    ShapeLaw (s.setSideSlip k x) := by
  simp [State.setSideSlip, h]

@[simp] theorem State.plateExtra_shape {s : State} (forward : Bool) (h : ShapeLaw s) :
    ShapeLaw (s.plateExtra forward) := by
  simp (maxDischargeDepth := 40) [State.plateExtra, h]

@[simp] theorem State.openCrossing_shape (s : State) (c : Crossing) :
    ShapeLaw (s.openCrossing c) ↔ ShapeLaw s := ShapeLaw.congr (by simp) (by simp) (by simp) (by simp) (by simp)

@[simp] theorem State.afterCrossing_shape (s : State) (c : Crossing) :
    ShapeLaw (s.afterCrossing c) ↔ ShapeLaw s := ShapeLaw.congr (by simp) (by simp) (by simp) (by simp) (by simp)

@[simp] theorem State.endForward_shape {s : State} (h : ShapeLaw s) : ShapeLaw (s.endForward) := by
  unfold State.endForward
  try dsimp only
  repeat' split
  all_goals simp (maxDischargeDepth := 40) [h]

@[simp] theorem State.endReverse_shape {s : State} (h : ShapeLaw s) : ShapeLaw (s.endReverse) := by
  unfold State.endReverse
  try dsimp only
  repeat' split
  all_goals simp (maxDischargeDepth := 40) [h]

@[simp] theorem State.noteFollower_shape (s : State) (more : Bool) :
    ShapeLaw (s.noteFollower more) ↔ ShapeLaw s := ShapeLaw.congr (by simp) (by simp) (by simp) (by simp) (by simp)

@[simp] theorem State.plateChange_shape {s : State} (inOn outOn : Bool) (h : ShapeLaw s) :
    ShapeLaw (s.plateChange inOn outOn) := by
  unfold State.plateChange
  try dsimp only
  repeat' split
  all_goals simp (maxDischargeDepth := 40) [h]

@[simp] theorem State.markMissed_shape {s : State} (n i k : Nat) (h : ShapeLaw s) :
    ShapeLaw (State.markMissed s n i k) := by
  induction k generalizing s i with
  | zero => simpa [State.markMissed] using h
  | succ k ih => exact ih _ (State.produce_shape _ _ _ _ (State.setSideSlip_shape _ _ h))

@[simp] theorem State.reconcile_shape {s : State} (h : ShapeLaw s) : ShapeLaw (s.reconcile) := by
  unfold State.reconcile
  try dsimp only
  repeat' split
  all_goals simp (maxDischargeDepth := 40) [h]

@[simp] theorem State.crossingExpires_shape {s : State} (h : ShapeLaw s) : ShapeLaw (s.crossingExpires) := by
  simp (maxDischargeDepth := 40) [State.crossingExpires, h]

@[simp] theorem State.loadEntry_shape {s : State} (code : Nat) (h : ShapeLaw s) : ShapeLaw (s.loadEntry code) := by
  simp (maxDischargeDepth := 40) [State.loadEntry, h]

@[simp] theorem State.startTracker_shape (s : State) (rearDecided frontDecided : Bool) :
    ShapeLaw (s.startTracker rearDecided frontDecided) ↔ ShapeLaw s := ShapeLaw.congr (by simp) (by simp) (by simp) (by simp) (by simp)

@[simp] theorem State.reportPass_shape {s : State} (forward : Bool) (h : ShapeLaw s) :
    ShapeLaw (s.reportPass forward) := by
  unfold State.reportPass
  try dsimp only
  repeat' split
  all_goals simp (maxDischargeDepth := 40) [h]

@[simp] theorem State.trackBeams_shape {s : State} (rear front : Bool) (h : ShapeLaw s) :
    ShapeLaw (s.trackBeams rear front) := by
  unfold State.trackBeams
  try dsimp only
  repeat' split
  all_goals simp (maxDischargeDepth := 40) [h]

@[simp] theorem State.trackLoad_shape (s : State) :
    ShapeLaw (s.trackLoad) ↔ ShapeLaw s := ShapeLaw.congr (by simp) (by simp) (by simp) (by simp) (by simp)

@[simp] theorem State.reportExit_shape {s : State} (e : ExitReport) (rearDecided frontDecided : Bool) (h : ShapeLaw s) :
    ShapeLaw (s.reportExit e rearDecided frontDecided) := by
  simp (maxDischargeDepth := 40) [State.reportExit, h]

@[simp] theorem State.windowBeams_shape {s : State} (rear front : Bool) (h : ShapeLaw s) :
    ShapeLaw (s.windowBeams rear front) := by
  unfold State.windowBeams
  try dsimp only
  repeat' split
  all_goals simp (maxDischargeDepth := 40) [h]

@[simp] theorem State.settleLevel_shape (s : State) (i : Input) :
    ShapeLaw (s.settleLevel i) ↔ ShapeLaw s := by
  simp [State.settleLevel]

@[simp] theorem State.seatedBeam_shape (s : State) (i : Input) :
    ShapeLaw (s.seatedBeam i) ↔ ShapeLaw s := ShapeLaw.congr (by simp) (by simp) (by simp) (by simp) (by simp)

@[simp] theorem State.freeBeam_shape {s : State} (rear front : Bool) (h : ShapeLaw s) :
    ShapeLaw (s.freeBeam rear front) := by
  unfold State.freeBeam
  try dsimp only
  repeat' split
  all_goals simp (maxDischargeDepth := 40) [h]

@[simp] theorem State.beamSettles_shape {s : State} (i : Input) (h : ShapeLaw s) : ShapeLaw (s.beamSettles i) := by
  unfold State.beamSettles
  try dsimp only
  repeat' split
  all_goals simp (maxDischargeDepth := 40) [h]

@[simp] theorem State.lastBeamChanges_shape {s : State} (h : ShapeLaw s) : ShapeLaw (s.lastBeamChanges) := by
  unfold State.lastBeamChanges
  try dsimp only
  repeat' split
  all_goals simp (maxDischargeDepth := 40) [h]

@[simp] theorem State.decideExit_shape {s : State} (last : Option Beam) (h : ShapeLaw s) :
    ShapeLaw (s.decideExit last) := by
  unfold State.decideExit
  try dsimp only
  repeat' split
  all_goals simp (maxDischargeDepth := 40) [h]

@[simp] theorem State.unseat_shape {s : State} (h : ShapeLaw s) : ShapeLaw (s.unseat) := by
  simp (maxDischargeDepth := 40) [State.unseat, h]

@[simp] theorem State.seatNow_shape {s : State} (h : ShapeLaw s) : ShapeLaw (s.seatNow) := by
  unfold State.seatNow
  try dsimp only
  repeat' split
  all_goals simp (maxDischargeDepth := 40) [h]

@[simp] theorem State.detectorSample_shape {s : State} (h : ShapeLaw s) : ShapeLaw (s.detectorSample) := by
  unfold State.detectorSample
  try dsimp only
  repeat' split
  all_goals simp (maxDischargeDepth := 40) [h]

@[simp] theorem State.beginTracker_shape (s : State) :
    ShapeLaw (s.beginTracker) ↔ ShapeLaw s := by
  unfold State.beginTracker State.settleBeams
  dsimp only
  repeat' split
  all_goals simp

@[simp] theorem State.trackerSample_shape (s : State) (analog : Bool) :
    ShapeLaw (s.trackerSample analog) ↔ ShapeLaw s := by
  unfold State.trackerSample
  repeat' split
  all_goals simp

@[simp] theorem State.engineWindow_shape (s : State) :
    ShapeLaw (s.engineWindow) ↔ ShapeLaw s := by
  simp [State.engineWindow]

@[simp] theorem State.driveWindow_shape {s : State} (pdL pdR : Nat) (h : ShapeLaw s) :
    ShapeLaw (s.driveWindow pdL pdR) := by
  unfold State.driveWindow
  try dsimp only
  repeat' split
  all_goals simp (maxDischargeDepth := 40) [h]

@[simp] theorem State.windowEnds_shape {s : State} (h : ShapeLaw s) : ShapeLaw (s.windowEnds) := by
  simp (maxDischargeDepth := 40) [State.windowEnds, h]

@[simp] theorem State.setFaultsOf_shape (s : State) (i : Nat) (f : FaultFlags) :
    ShapeLaw (s.setFaultsOf i f) ↔ ShapeLaw s := by
  simp [State.setFaultsOf]

@[simp] theorem State.faultEntry_shape {s : State} (i : Nat) (flag : Word) (h : ShapeLaw s) :
    ShapeLaw (s.faultEntry i flag) := by
  simp (maxDischargeDepth := 40) [State.faultEntry, h]

@[simp] theorem State.noPulseMet_shape {s : State} (side : Side) (h : ShapeLaw s) : ShapeLaw (s.noPulseMet side) := by
  unfold State.noPulseMet
  try dsimp only
  repeat' split
  all_goals simp (maxDischargeDepth := 40) [h]

@[simp] theorem State.rest_shape {s : State} (h : ShapeLaw s) : ShapeLaw (s.rest) := by
  unfold State.rest
  try dsimp only
  repeat' split
  all_goals simp (maxDischargeDepth := 40) [h]

@[simp] theorem State.decideTest_shape (s : State) (o : ReqOutcome) (d : Detail) :
    ShapeLaw (s.decideTest o d) ↔ ShapeLaw s := ShapeLaw.congr (by simp) (by simp) (by simp) (by simp) (by simp)

@[simp] theorem State.modeTaken_shape {s : State} (old : LaneMode) (h : ShapeLaw s) : ShapeLaw (s.modeTaken old) := by
  unfold State.modeTaken
  try dsimp only
  repeat' split
  all_goals simp (maxDischargeDepth := 40) [h]

@[simp] theorem State.deriveMode_shape {s : State} (h : ShapeLaw s) : ShapeLaw (s.deriveMode) := by
  unfold State.deriveMode
  try dsimp only
  repeat' split
  all_goals simp (maxDischargeDepth := 40) [h]

@[simp] theorem State.keyEntry_shape {s : State} (i : Input) (h : ShapeLaw s) : ShapeLaw (s.keyEntry i) := by
  simp (maxDischargeDepth := 40) [State.keyEntry, h]

@[simp] theorem State.keySettles_shape {s : State} (h : ShapeLaw s) : ShapeLaw (s.keySettles) := by
  unfold State.keySettles
  try dsimp only
  repeat' split
  all_goals simp (maxDischargeDepth := 40) [h]

@[simp] theorem State.presenceSettles_shape {s : State} (h : ShapeLaw s) : ShapeLaw (s.presenceSettles) := by
  unfold State.presenceSettles
  try dsimp only
  repeat' split
  all_goals simp (maxDischargeDepth := 40) [h]

@[simp] theorem State.estopActive_shape {s : State} (h : ShapeLaw s) : ShapeLaw (s.estopActive) := by
  unfold State.estopActive
  try dsimp only
  repeat' split
  all_goals simp (maxDischargeDepth := 40) [h]

@[simp] theorem State.estopSettles_shape {s : State} (h : ShapeLaw s) : ShapeLaw (s.estopSettles) := by
  unfold State.estopSettles
  try dsimp only
  repeat' split
  all_goals simp (maxDischargeDepth := 40) [h]

@[simp] theorem State.mechanicKey_shape {s : State} (i : Input) (h : ShapeLaw s) : ShapeLaw (s.mechanicKey i) := by
  unfold State.mechanicKey
  try dsimp only
  repeat' split
  all_goals simp (maxDischargeDepth := 40) [h]

@[simp] theorem State.plateSettles_shape {s : State} (i : Input) (h : ShapeLaw s) : ShapeLaw (s.plateSettles i) := by
  unfold State.plateSettles
  try dsimp only
  repeat' split
  all_goals simp (maxDischargeDepth := 40) [h]

@[simp] theorem State.inputSettles_shape {s : State} (i : Input) (h : ShapeLaw s) : ShapeLaw (s.inputSettles i) := by
  unfold State.inputSettles
  try dsimp only
  repeat' split
  all_goals simp (maxDischargeDepth := 40) [h]

@[simp] theorem State.convert_shape (s : State) (raws : List Int) :
    ShapeLaw (s.convert raws) ↔ ShapeLaw s := by
  simp [State.convert]

@[simp] theorem State.faultTest_shape {s : State} (i : Nat) (raw : Int) (h : ShapeLaw s) :
    ShapeLaw (s.faultTest i raw) := by
  unfold State.faultTest
  try dsimp only
  repeat' split
  all_goals simp (maxDischargeDepth := 40) [h]

@[simp] theorem State.faultTests_shape {s : State} (raws : List Int) (h : ShapeLaw s) :
    ShapeLaw (s.faultTests raws) := by
  unfold State.faultTests
  exact foldl_shape _ (fun s x h => by simp (maxDischargeDepth := 40) [h]) _ _ h

@[simp] theorem State.rePrime_shape (s : State) (which : Nat → Bool) :
    ShapeLaw (s.rePrime which) ↔ ShapeLaw s := by
  simp [State.rePrime]

@[simp] theorem State.captureSample_shape {s : State} (raws : List Int) (h : ShapeLaw s) :
    ShapeLaw (s.captureSample raws) := by
  unfold State.captureSample
  try dsimp only
  repeat' split
  all_goals simp (maxDischargeDepth := 40) [h]

@[simp] theorem State.captureEnds_shape {s : State} (h : ShapeLaw s) : ShapeLaw (s.captureEnds) := by
  unfold State.captureEnds
  try dsimp only
  repeat' split
  all_goals simp (maxDischargeDepth := 40) [h]

@[simp] theorem State.clearedEntry_shape {s : State} (i : Nat) (flag : Word) (h : ShapeLaw s) :
    ShapeLaw (s.clearedEntry i flag) := by
  simp (maxDischargeDepth := 40) [State.clearedEntry, h]

@[simp] theorem State.releaseHold_shape (s : State) (i : Nat) :
    ShapeLaw (s.releaseHold i) ↔ ShapeLaw s := by
  simp [State.releaseHold]

@[simp] theorem State.clearChannel_shape {s : State} (i : Nat) (h : ShapeLaw s) : ShapeLaw (s.clearChannel i) := by
  unfold State.clearChannel
  try dsimp only
  repeat' split
  all_goals simp (maxDischargeDepth := 40) [h]

@[simp] theorem State.clearAll_shape {s : State} (h : ShapeLaw s) : ShapeLaw (s.clearAll) := by
  unfold State.clearAll
  exact foldl_shape _ (fun s x h => by simp (maxDischargeDepth := 40) [h]) _ _ h

@[simp] theorem State.releaseLockout_shape {s : State} (h : ShapeLaw s) : ShapeLaw (s.releaseLockout) := by
  unfold State.releaseLockout
  try dsimp only
  repeat' split
  all_goals simp (maxDischargeDepth := 40) [h]

@[simp] theorem State.takeClearFaults_shape {s : State} (n : Nat) (h : ShapeLaw s) :
    ShapeLaw (s.takeClearFaults n) := by
  simp (maxDischargeDepth := 40) [State.takeClearFaults, h]



@[simp] theorem State.readRecord_shape {s : State} (k : Nat) (h : ShapeLaw s) : ShapeLaw (s.readRecord k) := by
  unfold State.readRecord
  dsimp only
  repeat' split
  all_goals simp [h]

@[simp] theorem State.stateRead_shape {s : State} (h : ShapeLaw s) : ShapeLaw (s.stateRead) := by
  unfold State.stateRead
  exact foldl_shape _ (fun s x h => by simp (maxDischargeDepth := 40) [h]) _ _ h

@[simp] theorem State.clearCert_shape {s : State} (k : Nat) (st : RecordState) (h : ShapeLaw s) :
    ShapeLaw (s.clearCert k st) := by
  simp (maxDischargeDepth := 40) [State.clearCert, h]

@[simp] theorem State.clearFill_shape {s : State} (k : Nat) (h : ShapeLaw s) : ShapeLaw (s.clearFill k) := by
  simp (maxDischargeDepth := 40) [State.clearFill, h]

@[simp] theorem State.endCompose_shape {s : State} (c : ComposeOp) (o : ReqOutcome) (d : Detail) (h : ShapeLaw s) :
    ShapeLaw (s.endCompose c o d) := by
  have h1 : ShapeLaw (s.setCert c.target (CertRecord.cleared .empty)) := by simp [h]
  unfold State.endCompose
  exact State.completeKind_shape _ _ _ _ _ (h1.setComp _ (by simp) (by simp))

theorem State.fill_shape {s : State} (c : ComposeOp) (value : Nat) (hc : c.target < 4) (h : ShapeLaw s) :
    ShapeLaw (s.fill c value) := by
  have h1 : ShapeLaw ((s.setCert c.target (filledRecord s.tab s.time)).rewriteFill c.target) := by simp [h]
  exact h1.setComp _ (by simp) (by simpa using hc)

@[simp] theorem State.issueCert_shape {s : State} (c : ComposeOp) (n : Nat) (h : ShapeLaw s) :
    ShapeLaw (s.issueCert c n) := by
  have h1 : ShapeLaw (((s.setCert c.target ((s.cert c.target).issue n)).rewriteNumber c.target).setTab { s.tab with certified := true }) :=
    (State.setTab_shape _ _ (by simp)).2 (by simp [h])
  unfold State.issueCert
  dsimp only
  exact State.completeKind_shape _ _ _ _ _ (State.produce_shape _ _ _ _ (ShapeLaw.setComp (by simpa using h1) _ (by simp) (by simp)))

@[simp] theorem State.storeWrite_shape (s : State) (op : NvOp) (cut : NvCut) :
    ShapeLaw (s.storeWrite op cut) ↔ ShapeLaw s := ShapeLaw.congr (by simp) (by simp) (by simp) (by simp) (by simp)

@[simp] theorem State.startNv_shape (s : State) (op : NvOp) :
    ShapeLaw (s.startNv op) ↔ ShapeLaw s := ShapeLaw.congr (by simp) (by simp) (by simp) (by simp) (by simp)

@[simp] theorem State.releasePort_shape (s : State) :
    ShapeLaw (s.releasePort) ↔ ShapeLaw s := ShapeLaw.congr (by simp) (by simp) (by simp) (by simp) (by simp)

@[simp] theorem State.nextNv_shape (s : State) (op : NvOp) :
    ShapeLaw (s.nextNv op) ↔ ShapeLaw s := ShapeLaw.congr (by simp) (by simp) (by simp) (by simp) (by simp)

@[simp] theorem State.correctedEntry_shape {s : State} (marker word : Nat) (r : ReadResult) (h : ShapeLaw s) :
    ShapeLaw (s.correctedEntry marker word r) := by
  unfold State.correctedEntry
  try dsimp only
  repeat' split
  all_goals simp (maxDischargeDepth := 40) [h]

@[simp] theorem State.nvErrorEntry_shape {s : State} (marker word : Nat) (h : ShapeLaw s) :
    ShapeLaw (s.nvErrorEntry marker word) := by
  simp (maxDischargeDepth := 40) [State.nvErrorEntry, h]

@[simp] theorem State.readEntries_shape {s : State} (marker word : Nat) (r : ReadResult) (h : ShapeLaw s) :
    ShapeLaw (s.readEntries marker word r) := by
  unfold State.readEntries
  try dsimp only
  repeat' split
  all_goals simp (maxDischargeDepth := 40) [h]

@[simp] theorem State.loadZeroWord_shape {s : State} (ch : Nat) (r : ReadResult) (h : ShapeLaw s) :
    ShapeLaw (s.loadZeroWord ch r) := by
  simp (maxDischargeDepth := 40) [State.loadZeroWord, h]

@[simp] theorem State.loadGainWord_shape {s : State} (ch : Nat) (r : ReadResult) (h : ShapeLaw s) :
    ShapeLaw (s.loadGainWord ch r) := by
  unfold State.loadGainWord
  try dsimp only
  repeat' split
  all_goals simp (maxDischargeDepth := 40) [h]

@[simp] theorem State.loadIdentity_shape {s : State} (r : ReadResult) (h : ShapeLaw s) :
    ShapeLaw (s.loadIdentity r) := by
  unfold State.loadIdentity
  try dsimp only
  repeat' split
  all_goals simp (maxDischargeDepth := 40) [h]

@[simp] theorem State.endLoad_shape {s : State} (h : ShapeLaw s) : ShapeLaw (s.endLoad) := by
  simp (maxDischargeDepth := 40) [State.endLoad, h]

@[simp] theorem State.loadStep_shape {s : State} (k : Nat) (r : ReadResult) (h : ShapeLaw s) :
    ShapeLaw (s.loadStep k r) := by
  unfold State.loadStep
  try dsimp only
  repeat' split
  all_goals simp (maxDischargeDepth := 40) [h]

@[simp] theorem State.loadExpires_shape {s : State} (h : ShapeLaw s) : ShapeLaw (s.loadExpires) := by
  unfold State.loadExpires
  try dsimp only
  repeat' split
  all_goals simp (maxDischargeDepth := 40) [h]

@[simp] theorem State.calWriteEnds_shape {s : State} (ch : Nat) (success : Bool) (h : ShapeLaw s) :
    ShapeLaw (s.calWriteEnds ch success) := by
  unfold State.calWriteEnds
  try dsimp only
  repeat' split
  all_goals simp (maxDischargeDepth := 40) [h]

theorem State.counterReadEnds_shape {s : State} (c : ComposeOp) (value : Option Nat) (failed : Nat) (hc : c.target < 4)
    (h : ShapeLaw s) :
    ShapeLaw (s.counterReadEnds c value failed) := by
  unfold State.counterReadEnds
  try dsimp only
  repeat' split
  all_goals simp (maxDischargeDepth := 40) [h, hc, State.fill_shape]

@[simp] theorem State.counterReadExpires_shape {s : State} (h : ShapeLaw s) : ShapeLaw (s.counterReadExpires) := by
  unfold State.counterReadExpires
  split
  · rename_i c hc
    exact State.counterReadEnds_shape c none 2 (h.2.2.2.2.2 c hc) h
  · exact h

@[simp] theorem State.counterWriteEnds_shape {s : State} (c : ComposeOp) (value : Nat) (success : Bool) (h : ShapeLaw s) :
    ShapeLaw (s.counterWriteEnds c value success) := by
  unfold State.counterWriteEnds
  try dsimp only
  repeat' split
  all_goals simp (maxDischargeDepth := 40) [h]

@[simp] theorem State.calWriteExpires_shape {s : State} (cut : NvCut) (h : ShapeLaw s) :
    ShapeLaw (s.calWriteExpires cut) := by
  unfold State.calWriteExpires
  try dsimp only
  repeat' split
  all_goals simp (maxDischargeDepth := 40) [h]

@[simp] theorem State.counterWriteExpires_shape {s : State} (cut : NvCut) (h : ShapeLaw s) :
    ShapeLaw (s.counterWriteExpires cut) := by
  unfold State.counterWriteExpires
  try dsimp only
  repeat' split
  all_goals simp (maxDischargeDepth := 40) [h]

@[simp] theorem State.brokenEnds_shape (s : State) (cut : NvCut) :
    ShapeLaw (s.brokenEnds cut) ↔ ShapeLaw s := ShapeLaw.congr (by simp) (by simp) (by simp) (by simp) (by simp)



@[simp] theorem State.sendWire_shape (s : State) (w : WireFrame) :
    ShapeLaw (s.sendWire w) ↔ ShapeLaw s := ShapeLaw.congr (by simp) (by simp) (by simp) (by simp) (by simp)

@[simp] theorem State.sendLine_shape (s : State) :
    ShapeLaw (s.sendLine) ↔ ShapeLaw s := ShapeLaw.congr (by simp) (by simp) (by simp) (by simp) (by simp)

@[simp] theorem State.sendNewLine_shape (s : State) (text : List Byte) (cancel : Bool) :
    ShapeLaw (s.sendNewLine text cancel) ↔ ShapeLaw s := ShapeLaw.congr (by simp) (by simp) (by simp) (by simp) (by simp)

@[simp] theorem State.sendPoll_shape (s : State) :
    ShapeLaw (s.sendPoll) ↔ ShapeLaw s := ShapeLaw.congr (by simp) (by simp) (by simp) (by simp) (by simp)

@[simp] theorem State.setLink_shape {s : State} (new : LinkState) (h : ShapeLaw s) : ShapeLaw (s.setLink new) := by
  unfold State.setLink
  try dsimp only
  repeat' split
  all_goals simp (maxDischargeDepth := 40) [h]

@[simp] theorem State.updateJob_shape (s : State) (slot : Nat) (f : Job → Job) :
    ShapeLaw (s.updateJob slot f) ↔ ShapeLaw s := ShapeLaw.congr (by simp) (by simp) (by simp) (by simp) (by simp)

@[simp] theorem State.printEntry_shape {s : State} (j : Job) (st : JobState) (h : ShapeLaw s) :
    ShapeLaw (s.printEntry j st) := by
  simp (maxDischargeDepth := 40) [State.printEntry, h]

@[simp] theorem State.selectJob_shape {s : State} (h : ShapeLaw s) : ShapeLaw (s.selectJob) := by
  unfold State.selectJob
  try dsimp only
  repeat' split
  all_goals simp (maxDischargeDepth := 40) [h]

@[simp] theorem State.enterReady_shape {s : State} (h : ShapeLaw s) : ShapeLaw (s.enterReady) := by
  simp (maxDischargeDepth := 40) [State.enterReady, h]

@[simp] theorem State.countPrint_shape (s : State) (k : Nat) :
    ShapeLaw (s.countPrint k) ↔ ShapeLaw s := by
  simp [State.countPrint]

@[simp] theorem State.endJob_shape {s : State} (j : Job) (st : JobState) (o : ReqOutcome) (d : Detail) (h : ShapeLaw s) :
    ShapeLaw (s.endJob j st o d) := by
  unfold State.endJob
  try dsimp only
  repeat' split
  all_goals simp (maxDischargeDepth := 40) [h]

@[simp] theorem State.failJob_shape {s : State} (d : Detail) (h : ShapeLaw s) : ShapeLaw (s.failJob d) := by
  unfold State.failJob
  try dsimp only
  repeat' split
  all_goals simp (maxDischargeDepth := 40) [h]

@[simp] theorem State.resendLine_shape {s : State} (h : ShapeLaw s) : ShapeLaw (s.resendLine) := by
  simp (maxDischargeDepth := 40) [State.resendLine, h]

@[simp] theorem State.sendCancelled_shape {s : State} (h : ShapeLaw s) : ShapeLaw (s.sendCancelled) := by
  simp (maxDischargeDepth := 40) [State.sendCancelled, h]

@[simp] theorem State.afterExchange_shape {s : State} (cancelMark : Bool) (h : ShapeLaw s) :
    ShapeLaw (s.afterExchange cancelMark) := by
  unfold State.afterExchange
  try dsimp only
  repeat' split
  all_goals simp (maxDischargeDepth := 40) [h]

@[simp] theorem State.lineReady_shape {s : State} (j : Job) (h : ShapeLaw s) : ShapeLaw (s.lineReady j) := by
  unfold State.lineReady
  try dsimp only
  repeat' split
  all_goals simp (maxDischargeDepth := 40) [h]

@[simp] theorem State.lineBusy_shape {s : State} (h : ShapeLaw s) : ShapeLaw (s.lineBusy) := by
  simp (maxDischargeDepth := 40) [State.lineBusy, h]

@[simp] theorem State.lineBad_shape {s : State} (j : Job) (h : ShapeLaw s) : ShapeLaw (s.lineBad j) := by
  unfold State.lineBad
  try dsimp only
  repeat' split
  all_goals simp (maxDischargeDepth := 40) [h]

@[simp] theorem State.linePaper_shape {s : State} (j : Job) (h : ShapeLaw s) : ShapeLaw (s.linePaper j) := by
  unfold State.linePaper
  try dsimp only
  repeat' split
  all_goals simp (maxDischargeDepth := 40) [h]

@[simp] theorem State.lineReply_shape {s : State} (r : Reply) (h : ShapeLaw s) : ShapeLaw (s.lineReply r) := by
  unfold State.lineReply
  try dsimp only
  repeat' split
  all_goals simp (maxDischargeDepth := 40) [h]

@[simp] theorem State.pausedReady_shape {s : State} (h : ShapeLaw s) : ShapeLaw (s.pausedReady) := by
  unfold State.pausedReady
  try dsimp only
  repeat' split
  all_goals simp (maxDischargeDepth := 40) [h]

@[simp] theorem State.pollReply_shape {s : State} (r : Reply) (h : ShapeLaw s) : ShapeLaw (s.pollReply r) := by
  unfold State.pollReply
  try dsimp only
  repeat' split
  all_goals simp (maxDischargeDepth := 40) [h]

@[simp] theorem State.frameLeft_shape {s : State} (h : ShapeLaw s) : ShapeLaw (s.frameLeft) := by
  unfold State.frameLeft
  try dsimp only
  repeat' split
  all_goals simp (maxDischargeDepth := 40) [h]

@[simp] theorem State.replyTaken_shape (s : State) :
    ShapeLaw (s.replyTaken) ↔ ShapeLaw s := ShapeLaw.congr (by simp) (by simp) (by simp) (by simp) (by simp)

@[simp] theorem State.lineSilent_shape {s : State} (h : ShapeLaw s) : ShapeLaw (s.lineSilent) := by
  unfold State.lineSilent
  try dsimp only
  repeat' split
  all_goals simp (maxDischargeDepth := 40) [h]

@[simp] theorem State.pollSilent_shape {s : State} (h : ShapeLaw s) : ShapeLaw (s.pollSilent) := by
  unfold State.pollSilent
  try dsimp only
  repeat' split
  all_goals simp (maxDischargeDepth := 40) [h]

@[simp] theorem State.createJob_shape {s : State} (n k : Nat) (noRetry : Bool) (h : ShapeLaw s) :
    ShapeLaw (s.createJob n k noRetry) := by
  unfold State.createJob
  try dsimp only
  repeat' split
  all_goals simp (maxDischargeDepth := 40) [h]

@[simp] theorem State.takePrint_shape {s : State} (n : Nat) (h : ShapeLaw s) : ShapeLaw (s.takePrint n) := by
  unfold State.takePrint
  try dsimp only
  repeat' split
  all_goals simp (maxDischargeDepth := 40) [h]

@[simp] theorem State.cancelPrint_shape {s : State} (n : Nat) (h : ShapeLaw s) : ShapeLaw (s.cancelPrint n) := by
  unfold State.cancelPrint
  try dsimp only
  repeat' split
  all_goals simp (maxDischargeDepth := 40) [h]



@[simp] theorem State.beginServiceWait_shape {s : State} (h : ShapeLaw s) : ShapeLaw (s.beginServiceWait) := by
  simp (maxDischargeDepth := 40) [State.beginServiceWait, h]

@[simp] theorem State.endHold_shape {s : State} (h : ShapeLaw s) : ShapeLaw (s.endHold) := by
  unfold State.endHold
  try dsimp only
  repeat' split
  all_goals simp (maxDischargeDepth := 40) [h]

@[simp] theorem State.judgeRamp_shape {s : State} (o : RampOutcome) (h : ShapeLaw s) : ShapeLaw (s.judgeRamp o) := by
  unfold State.judgeRamp
  try dsimp only
  repeat' split
  all_goals simp (maxDischargeDepth := 40) [h]

@[simp] theorem State.rampTest_shape {s : State} (h : ShapeLaw s) : ShapeLaw (s.rampTest) := by
  unfold State.rampTest
  try dsimp only
  repeat' split
  all_goals simp (maxDischargeDepth := 40) [h]

@[simp] theorem State.serviceOnsetNow_shape {s : State} (h : ShapeLaw s) : ShapeLaw (s.serviceOnsetNow) := by
  simp (maxDischargeDepth := 40) [State.serviceOnsetNow, h]

@[simp] theorem State.ovalityOnsetNow_shape (s : State) :
    ShapeLaw (s.ovalityOnsetNow) ↔ ShapeLaw s := ShapeLaw.congr (by simp) (by simp) (by simp) (by simp) (by simp)

@[simp] theorem State.parkOnsetNow_shape {s : State} (h : ShapeLaw s) : ShapeLaw (s.parkOnsetNow) := by
  simp (maxDischargeDepth := 40) [State.parkOnsetNow, h]

@[simp] theorem State.ovalitySample_shape {s : State} (h : ShapeLaw s) : ShapeLaw (s.ovalitySample) := by
  unfold State.ovalitySample
  try dsimp only
  repeat' split
  all_goals simp (maxDischargeDepth := 40) [h]

@[simp] theorem State.phaseSample_shape {s : State} (h : ShapeLaw s) : ShapeLaw (s.phaseSample) := by
  unfold State.phaseSample
  try dsimp only
  repeat' split
  all_goals simp (maxDischargeDepth := 40) [h]

@[simp] theorem State.runSample_shape {s : State} (h : ShapeLaw s) : ShapeLaw (s.runSample) := by
  simp (maxDischargeDepth := 40) [State.runSample, h]

@[simp] theorem State.startWindowExpires_shape {s : State} (h : ShapeLaw s) : ShapeLaw (s.startWindowExpires) := by
  unfold State.startWindowExpires
  try dsimp only
  repeat' split
  all_goals simp (maxDischargeDepth := 40) [h]

@[simp] theorem State.settleEnds_shape (s : State) :
    ShapeLaw (s.settleEnds) ↔ ShapeLaw s := ShapeLaw.congr (by simp) (by simp) (by simp) (by simp) (by simp)

@[simp] theorem State.holdCompletes_shape (s : State) :
    ShapeLaw (s.holdCompletes) ↔ ShapeLaw s := ShapeLaw.congr (by simp) (by simp) (by simp) (by simp) (by simp)

@[simp] theorem State.parkWindowExpires_shape {s : State} (h : ShapeLaw s) : ShapeLaw (s.parkWindowExpires) := by
  unfold State.parkWindowExpires
  try dsimp only
  repeat' split
  all_goals simp (maxDischargeDepth := 40) [h]



@[simp] theorem State.postIgnored_shape {s : State} (n : Nat) (found : Word) (h : ShapeLaw s) :
    ShapeLaw (s.postIgnored n found) := by
  simp (maxDischargeDepth := 40) [State.postIgnored, h]

@[simp] theorem State.postSlot_shape {s : State} (n : Nat) (h : ShapeLaw s) : ShapeLaw (s.postSlot n) := by
  unfold State.postSlot
  dsimp only
  repeat' split
  all_goals simp [h]

@[simp] theorem State.abortZero_shape {s : State} (n : Nat) (h : ShapeLaw s) : ShapeLaw (s.abortZero n) := by
  unfold State.abortZero
  try dsimp only
  repeat' split
  all_goals simp (maxDischargeDepth := 40) [h]

@[simp] theorem State.abortCalibrate_shape (s : State) :
    ShapeLaw (s.abortCalibrate) ↔ ShapeLaw s := by
  simp [State.abortCalibrate]

@[simp] theorem State.abortTest_shape {s : State} (h : ShapeLaw s) : ShapeLaw (s.abortTest) := by
  unfold State.abortTest
  try dsimp only
  repeat' split
  all_goals simp (maxDischargeDepth := 40) [h]

@[simp] theorem State.abortCompose_shape (s : State) :
    ShapeLaw (s.abortCompose) ↔ ShapeLaw s := by
  unfold State.abortCompose ShapeLaw
  cases hc : s.comp.op with
  | none => simp
  | some c => cases hs : c.stage <;> simp [hs]

@[simp] theorem State.abortActive_shape {s : State} (n : Nat) (k : Kind) (h : ShapeLaw s) :
    ShapeLaw (s.abortActive n k) := by
  unfold State.abortActive
  try dsimp only
  repeat' split
  all_goals simp (maxDischargeDepth := 40) [h]

@[simp] theorem State.abortSlot_shape {s : State} (n : Nat) (h : ShapeLaw s) : ShapeLaw (s.abortSlot n) := by
  unfold State.abortSlot
  try dsimp only
  repeat' split
  all_goals simp (maxDischargeDepth := 40) [h]

@[simp] theorem State.withdraw_shape {s : State} (n : Nat) (h : ShapeLaw s) : ShapeLaw (s.withdraw n) := by
  simp (maxDischargeDepth := 40) [State.withdraw, h]

theorem State.taking_shape {s : State} (takes : Nat → Bool) (work : State → Nat → State)
    (hw : ∀ s n, ShapeLaw s → ShapeLaw (work s n)) (h : ShapeLaw s) : ShapeLaw (s.taking takes work) := by
  unfold State.taking
  repeat' split
  all_goals simp [h, hw]

theorem onlyOne_shape  (k : Kind) (work : State → Nat → State)
    (hw : ∀ s n, ShapeLaw s → ShapeLaw (work s n)) (s : State) (n : Nat) (h : ShapeLaw s) :
    ShapeLaw (onlyOne k work s n) := by
  unfold onlyOne
  split <;> simp [h, hw]

@[simp] theorem State.offerAgain_shape (s : State) (k : Nat) :
    ShapeLaw (s.offerAgain k) ↔ ShapeLaw s := by
  unfold State.offerAgain
  split <;> simp

@[simp] theorem State.discardTop_shape {s : State} (n k : Nat) (a : Attempt) (h : ShapeLaw s) :
    ShapeLaw (s.discardTop n k a) := by
  simp (maxDischargeDepth := 40) [State.discardTop, h]

@[simp] theorem State.takeDiscard_shape {s : State} (n : Nat) (h : ShapeLaw s) : ShapeLaw (s.takeDiscard n) := by
  unfold State.takeDiscard
  try dsimp only
  repeat' split
  all_goals simp (maxDischargeDepth := 40) [h]

@[simp] theorem State.takeSetTime_shape {s : State} (n : Nat) (h : ShapeLaw s) : ShapeLaw (s.takeSetTime n) := by
  simp (maxDischargeDepth := 40) [State.takeSetTime, h]

@[simp] theorem State.takeZero_shape {s : State} (n : Nat) (h : ShapeLaw s) : ShapeLaw (s.takeZero n) := by
  unfold State.takeZero
  try dsimp only
  repeat' split
  all_goals simp (maxDischargeDepth := 40) [h]

@[simp] theorem State.takeCalibrate_shape {s : State} (n : Nat) (h : ShapeLaw s) : ShapeLaw (s.takeCalibrate n) := by
  unfold State.takeCalibrate
  try dsimp only
  repeat' split
  all_goals simp (maxDischargeDepth := 40) [h]

@[simp] theorem State.openPlan_shape {s : State} (n : Nat) (p : Plan) (h : ShapeLaw s) :
    ShapeLaw (s.openPlan n p) := by
  have h1 : ShapeLaw (s.setTab (openedTable p (readLimits s.mem p.limitsRow.toNat) s.tab.runId)) :=
    (State.setTab_shape _ _ (by simp [openedTable, h.2.2.2.1])).2 h
  simp only [State.openPlan, frameAfter_shape]
  exact State.enterSeq_shape _ (State.activate_shape _ _ ((State.setSeq_shape _ _).2 (State.rewriteTable_shape h1)))

@[simp] theorem State.takeRunPlan_shape {s : State} (n : Nat) (h : ShapeLaw s) : ShapeLaw (s.takeRunPlan n) := by
  unfold State.takeRunPlan
  try dsimp only
  repeat' split
  all_goals simp (maxDischargeDepth := 40) [h]

@[simp] theorem State.takeDriveTest_shape {s : State} (n : Nat) (h : ShapeLaw s) : ShapeLaw (s.takeDriveTest n) := by
  unfold State.takeDriveTest
  try dsimp only
  repeat' split
  all_goals simp (maxDischargeDepth := 40) [h]

theorem State.startCompose_shape {s : State} (n k : Nat) (hk : k < 4) (h : ShapeLaw s) : ShapeLaw (s.startCompose n k) := by
  have h1 : ShapeLaw ((s.clearCert k .composing).activate n .compose) := by simp [h]
  unfold State.startCompose
  rw [State.startNv_shape]
  exact h1.setComp _ rfl (by simpa using hk)

/-- The target of a COMPOSE that is taken is one of the four records (R175). -/
theorem State.composeTarget_lt (s : State) (t k : Nat) (ht : t ≤ 3 ∨ t = targetAny) (h : s.composeTarget t = .inl k) : k < 4 := by
  unfold State.composeTarget at h
  split at h
  · split at h
    · rename_i hk
      have := List.mem_of_find?_eq_some hk
      simp at h this
      omega
    · simp at h
  · split at h
    · simp at h
    · simp at h
      omega

@[simp] theorem State.takeCompose_shape {s : State} (n : Nat) (h : ShapeLaw s) : ShapeLaw (s.takeCompose n) := by
  unfold State.takeCompose
  dsimp only
  repeat' split
  all_goals first
    | simp [h]
    | (rename_i hp _ _ _ _ _ _ hk
       exact State.startCompose_shape _ _ (State.composeTarget_lt _ _ _ (Classical.not_not.1 hp) hk) (State.stateRead_shape h))

@[simp] theorem State.updateGauge_shape {s : State} (h : ShapeLaw s) : ShapeLaw s.updateGauge := by
  unfold State.updateGauge
  split <;> simp [h]

@[simp] theorem State.resetSlot_shape {s : State} (n : Nat) (h : ShapeLaw s) : ShapeLaw (s.resetSlot n) := by
  unfold State.resetSlot
  try dsimp only
  repeat' split
  all_goals simp (maxDischargeDepth := 40) [h]

@[simp] theorem State.resetSlots_shape {s : State} (h : ShapeLaw s) : ShapeLaw (s.resetSlots) := by
  unfold State.resetSlots
  exact foldl_shape _ (fun s x h => by simp (maxDischargeDepth := 40) [h]) _ _ h

@[simp] theorem State.resetCerts_shape {s : State} (h : ShapeLaw s) : ShapeLaw (s.resetCerts) := by
  unfold State.resetCerts
  dsimp only
  split
  · exact (State.clearCert_shape _ _ h).setComp _ rfl (by simp)
  · exact h.setComp _ rfl (by simp)

@[simp] theorem State.firstSample_shape {s : State} (l : Levels) (h : ShapeLaw s) : ShapeLaw (s.firstSample l) := by
  have h1 : ∀ x : Engine, x.inputs.length = 11 → x.faults.length = 11 → ShapeLaw (s.setEng x) := fun x hi hf =>
    (State.setEng_shape _ _ (by simp [hi, h.2.1]) (by simp [hf, h.2.2.1])).2 h
  unfold State.firstSample
  dsimp only
  repeat' split
  all_goals simp (maxDischargeDepth := 40) [h1, levelList, h.2.2.1]

@[simp] theorem State.discreteSample_shape {s : State} (l : Levels) (h : ShapeLaw s) :
    ShapeLaw (s.discreteSample l) := by
  unfold State.discreteSample levelList
  split
  · simp [h, h.2.1]
  · simp [h]

@[simp] theorem State.countSample_shape (s : State) (p : Pulses) :
    ShapeLaw (s.countSample p) ↔ ShapeLaw s := by
  simp [State.countSample]

@[simp] theorem State.analogSample_shape {s : State} (i : SampleInput) (h : ShapeLaw s) :
    ShapeLaw (s.analogSample i) := by
  simp (maxDischargeDepth := 40) [State.analogSample, h]

@[simp] theorem State.takeSample_shape {s : State} (i : SampleInput) (h : ShapeLaw s) :
    ShapeLaw (s.takeSample i) := by
  unfold State.takeSample
  try dsimp only
  repeat' split
  all_goals simp (maxDischargeDepth := 40) [h]

@[simp] theorem State.tick_shape {s : State} (h : ShapeLaw s) : ShapeLaw (s.tick) := by
  unfold State.tick
  dsimp only
  split
  all_goals simp [h]

@[simp] theorem State.laneReset_shape {s : State} (h : ShapeLaw s) : ShapeLaw s.laneReset := by
  have he : ∀ t : State, ShapeLaw t → ShapeLaw (t.setEng t.eng.afterReset) := fun t ht =>
    (State.setEng_shape t t.eng.afterReset rfl (by simp [Engine.afterReset, ht.2.2.1])).2 ht
  have ht : ∀ (t : State) (n : Nat), ShapeLaw t → ShapeLaw (t.setTab (AxleTable.emptied n)) := fun t n ht =>
    (State.setTab_shape _ _ (by simp [AxleTable.emptied, ht.2.2.2.1])).2 ht
  unfold State.laneReset State.rewriteHeader State.rewriteTable
  simp only [State.setMem_shape, State.frameDue_shape, State.sendPoll_shape, State.setPrn_shape, State.setDisp_shape,
    State.setSeq_shape, State.setPlate_shape, State.setRun_shape, State.setWeigh_shape]
  refine ht _ _ ?_
  rw [State.setSeat_shape]
  refine he _ ?_
  simp [h]

/-- Every step that falls due keeps it. -/
theorem dueSteps_shape : ∀ e ∈ dueSteps, ∀ s, ShapeLaw s → ShapeLaw (e.act s) := by
  simp only [dueSteps, List.forall_mem_append, settleSteps, List.forall_mem_map]
  refine ⟨⟨⟨⟨fun i _ s h => State.inputSettles_shape i h, ?_⟩, ?_⟩, ?_⟩, ?_⟩
  · simp only [sampleSteps, List.forall_mem_cons, List.not_mem_nil, false_imp_iff, implies_true, and_true]
    refine ⟨?_, ?_, ?_, ?_, ?_, ?_, ?_, ?_, ?_, ?_, ?_, ?_, ?_, ?_⟩ <;> intro s h <;> simp [h]
  · simp only [windowSteps, List.forall_mem_cons, List.not_mem_nil, false_imp_iff, implies_true, and_true]
    refine ⟨?_, ?_, ?_, ?_, ?_, ?_, ?_, ?_, ?_, ?_⟩ <;> intro s h <;> simp [h]
  · simp only [timerSteps, List.forall_mem_cons, List.not_mem_nil, false_imp_iff, implies_true, and_true]
    refine ⟨?_, ?_, ?_, ?_, ?_, ?_, ?_, ?_, ?_, ?_, ?_, ?_⟩ <;> intro s h <;> (repeat' split) <;> simp [h]
  · simp only [takeSteps, takeStep, List.forall_mem_cons, List.not_mem_nil, false_imp_iff, implies_true, and_true]
    have one : ∀ (k : Kind) (work : State → Nat → State), (∀ s n, ShapeLaw s → ShapeLaw (work s n)) → ∀ s, ShapeLaw s →
        ShapeLaw (s.taking (isKind k) (onlyOne k work)) := fun k work hw s h =>
      State.taking_shape _ _ (fun s n h => onlyOne_shape k work hw s n h) h
    exact ⟨fun s h => State.taking_shape _ _ (fun s n h => by simp [h]) h,
      fun s h => State.taking_shape _ _ (fun s n h => State.takeClearFaults_shape n h) h,
      fun s h => State.taking_shape _ _ (fun s n h => State.takeDiscard_shape n h) h,
      fun s h => State.taking_shape _ _ (fun s n h => State.takeSetTime_shape n h) h,
      one _ _ fun s n h => State.takeZero_shape n h, one _ _ fun s n h => State.takeCalibrate_shape n h,
      one _ _ fun s n h => State.takeRunPlan_shape n h, one _ _ fun s n h => State.takeDriveTest_shape n h,
      one _ _ fun s n h => State.takeCompose_shape n h,
      fun s h => State.taking_shape _ _ (fun s n h => State.takePrint_shape n h) h⟩

@[simp] theorem State.catchUp_shape (n : Nat) {s : State} (h : ShapeLaw s) : ShapeLaw (s.catchUp n) := by
  induction n generalizing s with
  | zero => exact h
  | succ n ih =>
    unfold State.catchUp
    split
    · rename_i e he
      exact ih ((publish_shape _ _).2 (dueSteps_shape e (List.mem_of_find?_eq_some he) s h))
    · exact h

end Sys2Proof.Machine
end

