-- ==== Sys2Proof/Laws/Takings.lean ====
section
/-! SUPPORT. Laws/Takings.lean: a slot that completes or becomes ACTIVE as the last act of an event, and the taking itself. -/

namespace Sys2Proof.Machine

theorem State.lowestPosted_lt (s : State) (n : Nat) (h : s.lowestPosted = some n) : n < s.slots.length :=
  (List.findIdx?_eq_some_iff_getElem.1 h).1

theorem State.lowestPosted_held (s : State) (n : Nat) (h : s.lowestPosted = some n) : s.held n = .posted := by
  obtain ⟨hl, hp, _⟩ := List.findIdx?_eq_some_iff_getElem.1 h
  unfold State.held
  rw [List.getD_eq_getElem?_getD, List.getElem?_eq_getElem hl]
  simpa using hp

/-- A taking whose command fits the slot's kind does the work of the kind (R198). -/
theorem State.taking_takes (s : State) (n code : Nat) (takes : Nat → Bool) (work : State → Nat → State)
    (h : Takes s n code) (hc : takes code = true) : s.taking takes work = work s n := by
  obtain ⟨h1, h2, h3⟩ := h
  unfold State.taking
  rw [h1]
  simp [h3, hc, h2]

@[simp] theorem State.setHeld_held (s : State) (n : Nat) (h : Held) (m : Nat) (hm : m ≠ n) :
    (s.setHeld n h).held m = s.held m := by
  simp [State.held, State.setHeld, List.getD_eq_getElem?_getD, List.getElem?_set_ne (Ne.symm hm)]

theorem State.finishSlot_held (s : State) (n : Nat) (o : ReqOutcome) (d : Detail) (r : List Word) (m : Nat) (hm : m ≠ n) :
    (s.finishSlot n o d r).held m = s.held m := by
  simp only [State.finishSlot]
  rw [State.setHeld_held _ _ _ _ hm]
  simp [State.held]

theorem State.complete_held (s : State) (n k : Nat) (o : ReqOutcome) (d : Detail) (r : List Word) (m : Nat) (hm : m ≠ n) :
    (s.complete n k o d r).held m = s.held m := by
  rw [← State.finishSlot_held s n o d r m hm]
  simp [State.held, State.complete]

theorem State.complete_attn (s : State) (n k : Nat) (o : ReqOutcome) (d : Detail) (r : List Word) :
    (s.complete n k o d r).att.bits.getLsbD 0 = true := by
  simp [State.complete, State.raiseAttn, State.setAttn, attnReqDone]

/-- The completion of a slot as the only act of an event (R200). -/
theorem completedAlone (s : State) (n k : Nat) (o : ReqOutcome) (d : Detail) (r : List Word)
    (hw : Memory.wf s.mem) : CompletedAlone s (publish s (s.complete n k o d r)) n k o d r := by
  have hout : ∀ a, ¬ headerByte a → Memory.readByte (publish s (s.complete n k o d r)).mem a
      = Memory.readByte (s.complete n k o d r).mem a :=
    fun a ha => publish_readByte_header _ _ (by simp) (by simp) a ha
  refine ⟨?_, ?_, ?_, ?_, ?_, ?_⟩
  · refine (State.complete_done s n k o d r hw).congr (by simp) fun a ha => hout a fun hb => ?_
    exact slotByte_not_image n a ha (.inl hb)
  · refine entryMade_complete s s _ n k o d r rfl rfl hw (by simp) fun a ha => hout a fun hb => ?_
    exact ringByte_not_image a (nextEntryByte_ring _ _ ha) (.inl hb)
  · simpa using State.complete_attn s n k o d r
  · intro m hm
    simpa [State.held] using State.complete_held s n k o d r m hm
  · intro p hp
    cases p <;> simp_all [Part.same]
  · intro a ha
    unfold takingByte at ha
    rw [hout a (fun hb => ha (.inl hb)),
      State.complete_readByte s n k o d r a (fun hb => ha (.inr (.inl hb))) (fun hb => ha (.inr (.inr hb)))]

/-- A slot that becomes ACTIVE (R198). -/
theorem State.activate_active (s x : State) (n : Nat) (k : Kind) (hs : x.slots = s.slots) (hn : n < s.slots.length)
    (hw : Memory.wf x.mem) : BecameActive s (x.activate n k) n k := by
  refine ⟨?_, ?_, fun m hm => ?_⟩
  · simp [State.activate, State.setHeld, State.held, List.getD_eq_getElem?_getD, hs, hn]
  · simpa [State.activate, State.setHeld, State.slotState] using Memory.readWord_writeWord _ hw _ _
  · unfold State.activate
    rw [State.setHeld_held _ _ _ _ hm]
    simp [State.held, hs]

/-- Becoming ACTIVE writes the slot's words alone. -/
theorem State.activate_readByte (s : State) (n : Nat) (k : Kind) (a : Nat) (h : ¬ slotByte n a) :
    Memory.readByte (s.activate n k).mem a = Memory.readByte s.mem a := by
  unfold slotByte at h
  simp only [State.activate, State.setHeld, State.setSlots_mem, State.setMem_mem]
  exact Memory.readByte_writeWord _ _ _ _ (by omega)

theorem State.activate_wf (s : State) (n : Nat) (k : Kind) (h : Memory.wf s.mem) : Memory.wf (s.activate n k).mem := by
  simp only [State.activate, State.setHeld, State.setSlots_mem, State.setMem_mem]
  exact Memory.wf_writeWord _ h _ _

theorem BecameActive.congr {s s' t : State} {n : Nat} {k : Kind} (h : BecameActive s s' n k) (hs : t.slots = s'.slots)
    (hm : ∀ a, slotByte n a → Memory.readByte t.mem a = Memory.readByte s'.mem a) : BecameActive s t n k := by
  unfold BecameActive State.slotState State.held at h ⊢
  unfold slotByte at hm
  rw [hs, Memory.readWord_congr s'.mem t.mem _ (fun b h1 h2 => hm b (by omega))]
  exact h

/-- Publication leaves a slot that became ACTIVE as it is. -/
theorem BecameActive.publish {s s' : State} {n : Nat} {k : Kind} (old : State) (h : BecameActive s s' n k) :
    BecameActive s (publish old s') n k :=
  h.congr (by simp) fun a ha => publish_readByte _ _ _ (slotByte_not_image n a ha)

end Sys2Proof.Machine
end

