-- ==== Sys2Proof/Laws/Stops.lean ====
section
/-! SUPPORT. Laws/Stops.lean: a chain of checks whose first failing test decides, a settled input, and what a stop does to the
drive. -/

namespace Sys2Proof.Machine

/-- The slot a taking takes is one of the sixteen. -/
theorem takes_lt {s : State} {n c : Nat} (hl : s.slots.length = 16) (h : Takes s n c) : n < 16 := by
  have := State.lowestPosted_lt s n h.1; omega

/-- One test of a chain of checks: where the chain's answer is y, the work done is the work for y (R19, R42, R128). -/
theorem refused_step {α : Type} {c : Prop} [Decidable c] {x y : α} {r : Option α} {P Q : State} (A : α → State) (hP : P = A x)
    (h : (if c then some x else r) = some y) (hr : r = some y → Q = A y) : (if c then P else Q) = A y := by
  by_cases hc : c
  · rw [if_pos hc] at h ⊢; rw [hP, Option.some.inj h]
  · rw [if_neg hc] at h ⊢; exact hr h

/-- A settled change moves its own input and no other (R5). -/
theorem input_settle (s : State) (h : s.eng.inputs.length = 11) (i j : Input) :
    (s.settleLevel i).input j = if i = j then ⟨!s.level i, 0⟩ else s.input j := by
  unfold State.settleLevel State.input
  simp only [State.setEng_eng]
  cases i <;> cases j <;> simp [inputIndex, List.getD_eq_getElem?_getD, h]

/-- A start that R33 refuses leaves the drive as it is. -/
theorem repeatStart_drv (s : State) (h : s.startRefusal.isSome) : s.repeatStart.drv = s.drv := by
  unfold State.repeatStart State.issueStart
  split
  · split
    · simp
    · simp_all
  · rfl

/-- ESTOP, PRESENCE and a drive away from OFF each refuse a start (R33). -/
theorem startRefusal_isSome (s : State) (h : s.level .estop = true ∨ s.level .presence = true ∨ s.drv.state ≠ .off) :
    s.startRefusal.isSome := by
  unfold State.startRefusal
  repeat' split
  all_goals simp_all

theorem level_of_inputs {s t : State} (h : t.eng.inputs = s.eng.inputs) (i : Input) : t.level i = s.level i := by
  unfold State.level State.input; rw [h]

/-- A stop of a spinning drive (R38): STOPPING with the reason of the strongest cause of the sample. -/
theorem stopDrive_stopped (s : State) (r : StopReason) (h : isSpinning s.drv.state = true) :
    Stopped s (s.stopDrive r) (s.stopCause r) := by
  have owner : ∀ (x : State) (r : StopReason), (x.ownerStop r).drv = x.drv := by
    intro x r; unfold State.ownerStop State.testStop
    repeat' split
    all_goals simp
  unfold Stopped State.stopDrive
  rw [if_pos h, owner]
  simp [State.enterStopping]

/-- The same with the display frame that follows. -/
theorem stopEvent_stopped (s : State) (r : StopReason) (h : isSpinning s.drv.state = true) :
    Stopped s (s.stopEvent r) (s.stopCause r) := by
  have := stopDrive_stopped s r h
  unfold Stopped at *
  simpa [State.stopEvent] using this

/-- A stop of a drive that does not spin leaves it as it is (R38). -/
theorem stopEvent_at_rest (s : State) (r : StopReason) (h : isSpinning s.drv.state = false) : (s.stopEvent r).drv = s.drv := by
  unfold State.stopEvent State.stopDrive
  rw [if_neg (by simp [h])]
  simp

end Sys2Proof.Machine
end

