-- ==== Sys2Proof/WellFormed.lean ====
section
/-! DEFINITION. WellFormed.lean: which commands something outside the block can send. -/

namespace Sys2Proof

/-- A write is ignored when it goes to IDENT (0x4000) or to an address above 0x400B (R194). -/
def Instr.ignoredAddress (addr : Word) : Bool :=
  addr.toNat == 0x4000 || decide (0x400B < addr.toNat)

/-- The counter's low word is written after its high word: a write broken off at the high word leaves the low word alone
(R178). -/
def NvCut.highFirst (cut : NvCut) : Bool :=
  cut.first == .done || cut.second == .kept

/-- The checks on a command's operands. Every other command carries operands of types that hold only what can be sent. -/
def Instr.wellFormed : Instr → Bool
  | .registerWriteIgnored addr _ => Instr.ignoredAddress addr
  | .counterWriteDone cut _ => cut.highFirst
  | .counterWriteTimeout cut => cut.highFirst
  | .powerOn _ | .setJournalMode _ | .setAttentionMask _ | .laneReset | .post _ | .abort _ | .jack _ | .attnWrite _
  | .badKind | .clearFaults | .discardAttempt | .setTime | .zero | .calibrate | .runPlan | .driveTest | .compose | .print
  | .sample _ | .settledChange _ | .seated | .exitWindowExpiry | .slipWindowEnd | .noPulse _ | .spinupStall | .slipStop
  | .lowSpeedStall | .rollersAtRest | .stopTimeout | .driveTestTimerExpiry | .zeroCaptureEnd | .weighWindowEnd
  | .startWindowExpiry | .ovalitySettleEnd | .holdComplete | .ovalityLimit | .openWindowExpiry | .serviceRelease
  | .serviceRunLimit | .parkWindowExpiry | .parkRelease | .parkRunLimit | .crossingTimeout | .calReadDone _
  | .nvReadTimeout | .calibrateWriteDone _ _ | .calibrateWriteTimeout _ | .nvPortReleased _ | .nvReleaseTimeout _
  | .counterReadDone _ _ | .counterReadTimeout | .displayRefresh | .displayFrameSent | .repeatMarkLapse
  | .printerFrameSent | .printerReply _ | .printerReplyTimeout | .busyResend | .pollTimerExpiry | .staleTimerExpiry
  | .gaugeUpdate | .laneTimeTick => true

end Sys2Proof
end

