-- ==== Sys2Proof/Tests/Slice0.lean ====
section
/-! SUPPORT. Tests/Slice0.lean: small tests of the commands, with results taken from the manual, and for every statement with
hypotheses a state and operands that meet them. -/

namespace Sys2Proof.Tests

set_option Elab.async false

open Sys2Proof.Machine

/-! ## States for the tests -/

/-- The state a command leads to. -/
def after (o : Host.Outcome State Fault Refusal) : State :=
  match o with
  | .next t => t
  | .fault _ | .refused _ => State.reset

/-- A state with some words of lane memory written. -/
def words (l : List (Nat × Nat)) (s : State) : State :=
  s.setMem (l.foldl (fun m x => Memory.writeWord m x.1 (word x.2)) s.mem)

/-- After the load of a lane whose nine records are good, KEY at LOCKED: NORMAL mode, the port free, a first sample taken. -/
def base : State :=
  (State.reset.setEng { State.reset.eng with
    mode := .normal, cals := List.replicate 9 ⟨0, 4096, true⟩, started := true, loading := false }).setNv
      { State.reset.nv with op := none }

/-- Slot 0 is POSTED with a kind and parameters. -/
def posted (kind : Nat) (params : List Nat) (s : State) : State :=
  (words ([(0x200, 2), (0x202, kind)] ++ params.zipIdx.map (fun x => (0x20C + 2 * x.2, x.1))) s).setHeld 0 .posted

/-- Slot n is ACTIVE with a kind. -/
def active (n : Nat) (k : Kind) (s : State) : State := (words [(slotBase n, 3)] s).setHeld n (.active k)

/-- An input whose change settles at this sample, to the level it does not have. -/
def settling (i : Input) (level : Bool) (s : State) : State :=
  s.setEng { s.eng with inputs := s.eng.inputs.set (inputIndex i) ⟨level, 5⟩ }

/-- The drive in a state. -/
def driving (d : DriveState) (s : State) : State := s.setDrv { s.drv with state := d, energised := isSpinning d }

/-- The sequencer in a state. -/
def inSeq (q : SeqState) (s : State) : State := s.setSeq { s.seq with state := q }

/-- The seating detector holds an axle SEATED. -/
def seatedLane (s : State) : State := s.setSeat { s.seat with seated := true }

/-- A one-axle plan that passes R127, in the plan record of lane memory: identifier X, start window 30000 ms, close window 1000
ms, open window 5000 ms, hold 2000 ms, three violations, a hydraulic axle with weighing and a service run. -/
def planWords : List (Nat × Nat) :=
  [(0x600, 0x58), (0x618, 1), (0x61E, 30000), (0x620, 1000), (0x622, 5000), (0x624, 2000), (0x626, 3), (0x628, 5)]

/-- The axle table opened for that plan. -/
def planTable : AxleTable := openedTable (readPlan (words planWords base).mem) LimitsRow.zero 0

/-- A plan runs in slot 0, its one axle under the cursor. -/
def planned (q : SeqState) : State := inSeq q (active 0 .runPlan (base.setTab planTable))

/-- The brake run unit with the plan's windows. -/
def armed : RunUnit := { RunUnit.cleared with
  phase := .armed, runs := ⟨false, true, false⟩, arm := ⟨30000, 1000, 5000, 2000, 3, false, none, 0, 0, 0⟩ }

/-- A plan whose axle is on turning rollers, the unit as given. -/
def running (q : SeqState) (r : RunUnit) : State :=
  ((seatedLane (planned q)).setDrv { base.drv with state := .run, energised := true, owner := some .sequencer }).setRun r

/-- An attempt with both peaks 1000 daN. -/
def attempt : Attempt :=
  ⟨1000, 1000, none, none, none, none, none, none, none, none, none, none, .release, .good, false, false, false, 0⟩

/-- A job in slot 0 for record 0. -/
def job (st : JobState) : Job := ⟨0, 0, .original, false, st, false, 0⟩

/-- An issued certificate of one axle in record 0. -/
def cert : CertRecord := { CertRecord.cleared .issued with number := 7, axleCount := 1 }

/-- The printer link with one job in a state, and record 0 issued. -/
def printingIn (l : LinkState) (j : Job) : State :=
  (active 0 .print (words [(0x1A40, 2)] (base.setComp { base.comp with records := base.comp.records.set 0 cert }))).setPrn
    { base.prn with jobs := [j], link := l }

/-! ## Commands that nothing outside the block can send -/

theorem test_wf_ignored_ident : Instr.wellFormed (.registerWriteIgnored 0x4000 7) = true := by decide
theorem test_wf_ignored_refuses_post : Instr.wellFormed (.registerWriteIgnored 0x4004 7) = false := by decide
theorem test_wf_counter_done_refuses_low_first : Instr.wellFormed (.counterWriteDone ⟨.kept, .done⟩ true) = false := by decide
theorem test_wf_counter_timeout_refuses_low_first : Instr.wellFormed (.counterWriteTimeout ⟨.corrupt, .done⟩) = false := by
  decide
theorem test_wf_counter_done_high_first : Instr.wellFormed (.counterWriteDone ⟨.done, .kept⟩ true) = true := by decide

/-! ## Words and registers: the table gives bits to no row (spec/opcode_table.json) -/

theorem test_no_word_spells_a_row (n w : Nat) : decodeTableWord n w = none := rfl
/-- LANECTL with mask 0xA5, OVERWRITE and the lane reset command (R195, R211). -/
theorem test_lanectl_spells_three : registerCommands 0x4002 0xA503
    = [.setJournalMode .overwrite, .setAttentionMask 0xA5, .laneReset] := by decide
theorem test_post_register : registerCommands 0x4004 0x8001 = [.post 0x8001] := by decide
theorem test_ident_write_is_ignored : registerCommands 0x4000 5 = [.registerWriteIgnored 0x4000 5] := by decide

/-! ## Worked examples of the manual -/

/-- The worked scaling of R2: TQ_L with zero 200 and gain 3277. -/
theorem test_scaling : scaledValue 0 ⟨200, 3277, true⟩ false 5000 = 3840
    ∧ scaledValue 0 ⟨200, 3277, true⟩ false (-1200) = 0 := by decide
/-- The example of R3: TQ_R reversed, and the same raw value with the side FORWARD. -/
theorem test_scaling_reversed : scaledValue 1 ⟨100, 3277, true⟩ true (-4000) = 3280
    ∧ scaledValue 1 ⟨100, 3277, true⟩ false (-4000) = 0 := by decide
/-- The example of R4. -/
theorem test_filter_mean : meanOf [3840, 3852, 3861, 3848] = 3850
    ∧ meanOf (pushSample [3840, 3852, 3861, 3848] 3870) = 3858 := by decide
/-- The examples of R8. -/
theorem test_slip : slipOf 120 95 = some 20 ∧ slipOf 120 0 = some 100 ∧ slipOf 18 0 = none ∧ slipOf 20 25 = some 0 := by
  decide
/-- The worked zero of section 1.7. -/
theorem test_zero_means : roundDiv 41530 200 = 208 ∧ roundDiv (-19870) 200 = -99 ∧ roundDiv 612300 200 = 3062
    ∧ clamp (-8192) 8191 (roundDiv (-1702600) 200) = -8192 := by decide
/-- The worked weighing of section 3.6. -/
theorem test_weight_means : roundDiv 1292930 200 = 6465 ∧ roundDiv 1224870 200 = 6124 := by decide
/-- The examples of R80. -/
theorem test_ramp_mark : rampMarkOf 0 (some 6100) = 1525 ∧ rampMarkOf 0 (some 350) = 100 ∧ rampMarkOf 0 none = 500
    ∧ rampMarkOf 700 (some 6100) = 700 := by decide
/-- The examples of R96. -/
theorem test_imbalance : imbalanceOf 980 760 = some 22 ∧ imbalanceOf 41 12 = none ∧ imbalanceOf 50 47 = some 6 := by decide
/-- The examples of R98 and R99. -/
theorem test_ovality : ovalityOf ⟨612, 540⟩ = some 12 ∧ ovalityOf ⟨400, 358⟩ = some 11 ∧ ovalityOf ⟨44, 20⟩ = none
    ∧ ovalityOf ⟨300, 300⟩ = some 0 ∧ axleOvalityOf (some 12) (some 6) = some 12 ∧ axleOvalityOf none (some 9) = some 9 := by
  decide
/-- The examples of R102, and a side locked by its own slip stop (section 5.8). -/
theorem test_projection : projectionOf true (some 4) false 40 650 false 2410 (some 585) = (some 2697, none)
    ∧ projectionOf true (some 4) false 40 650 false 3600 (some 700) = (some 3600, some .atReference)
    ∧ projectionOf true (some 4) false 40 650 false 1310 (some 130) = (none, some .lowPressure)
    ∧ projectionOf true (some 4) false 40 650 false 950 (some 141) = (some 5738, none)
    ∧ projectionOf true (some 4) false 40 1200 false 950 (some 140) = (some 9999, none)
    ∧ projectionOf true (some 4) false 40 650 true 1650 (some 300) = (some 1650, some .locked) := by decide
/-- The efficiencies of section 5.8, with its variations. -/
theorem test_efficiency : efficiencyOf (some 20021) (some 26000) = some 785 ∧ efficiencyOf (some 5480) (some 26000) = some 215
    ∧ efficiencyOf (some 17867) (some 26000) = some 701 ∧ efficiencyOf (some 20021) (some 14680) = some 1390
    ∧ efficiencyOf (some 20021) none = none := by decide
/-- The examples of R117. -/
theorem test_side_slip : sideSlipOf 12 60 800 = 60 ∧ sideSlipOf (-8) (-40) 800 = -40 ∧ sideSlipOf 3 4 800 = 1
    ∧ sideSlipOf 10 9 400 = -3 ∧ sideSlipOf (-200) 250 400 = 999 := by decide
/-- The bar of 2410 daN (section 8.2). -/
theorem test_bar : forceBar 2410 = 60 ∧ forceBar 4000 = 100 := by decide
/-- The check of the method of R172: the characters 1 to 9. -/
theorem test_crc16 : crc16 [0x31, 0x32, 0x33, 0x34, 0x35, 0x36, 0x37, 0x38, 0x39] = 0x29B1 := by decide +kernel
/-- R196, R211: a word is stored low byte first, and a zero byte is not listed. -/
theorem test_memory : Memory.writeWord [] 0x100 0x1200 = [(0x101, 0x12)]
    ∧ Memory.writeWord [(0x101, 0x12)] 0x100 0 = [] ∧ Memory.readWord [(0x101, 0x12)] 0x100 = 0x1200 := by decide

/-! ## One step of each command -/

/-- R196, R211: after power-on the header shows the printer link OFFLINE, the certificate counter is kept. -/
theorem test_powerOn : (after (exec (.powerOn ⟨.done, .done⟩) base)).mem = [(8, 4)]
    ∧ (after (exec (.powerOn ⟨.done, .done⟩) base)).nv.op = some (.loadWord 0) := by decide +kernel
/-- R178: a power-on that cuts a counter write after its high word leaves the old low word. -/
theorem test_powerOn_cuts_write :
    (after (exec (.powerOn ⟨.done, .kept⟩) (base.setNv { base.nv with op := some (.counterWrite 0x10000) }))).nv.store.counterHigh
      = .clean 1 := by decide +kernel
theorem test_setJournalMode : (after (exec (.setJournalMode .overwrite) base)).jr.mode = .overwrite := by decide +kernel
/-- R195: unmasking a bit that is already set asserts the line at once. -/
theorem test_setAttentionMask :
    (after (exec (.setAttentionMask 1) (base.setAtt ⟨0x81, 0, false⟩))).att = ⟨0x81, 1, true⟩ := by decide +kernel
/-- R210, R45: a POSTED slot is ended and the drive is in STOPPING. -/
theorem test_laneReset : (after (exec .laneReset (posted 4 [] base))).held 0 = .free
    ∧ (after (exec .laneReset (posted 4 [] base))).drv.stopReason = some .laneReset
    ∧ (after (exec .laneReset (posted 4 [] base))).drv.state = .stopping := by decide +kernel
/-- R197: a READY slot is POSTED, a FREE one makes an entry. -/
theorem test_post : (after (exec (.post 0x8001) (words [(0x5C0, 1)] base))).held 15 = .posted
    ∧ (after (exec (.post 0x8001) (words [(0x5C0, 1)] base))).jr.produced = 1 := by decide +kernel
/-- R201: a POSTED slot that is named completes ABORTED. -/
theorem test_abort : Memory.readWord (after (exec (.abort 1) (posted 3 [7, 0] base))).mem 0x208 = 7
    ∧ (after (exec (.abort 1) (posted 3 [7, 0] base))).time = 0 := by decide +kernel
/-- R203: an index within range, and one out of range. -/
theorem test_jack : (after (exec (.jack 5) (base.setJr { base.jr with put := 9, ack := 2 }))).jr.ack = 5
    ∧ (after (exec (.jack 10) (base.setJr { base.jr with put := 9, ack := 2 }))).jr.ack = 9 := by decide +kernel
theorem test_attnWrite : (after (exec (.attnWrite 0x01) (base.setAtt ⟨0x81, 0xFF, true⟩))).att = ⟨0x80, 0xFF, true⟩ := by
  decide +kernel
theorem test_registerWriteIgnored : (after (exec (.registerWriteIgnored 0x4000 9) base)).jr = base.jr := by decide +kernel
/-- R198: kind 0 is none of the nine. -/
theorem test_badKind : Memory.readWord (after (exec .badKind (posted 0 [] base))).mem 0x208 = 5 := by decide +kernel
/-- R13: the condition of OVER_RANGE is gone once the raw value is away from the limits. -/
theorem test_clearFaults :
    (after (exec .clearFaults (posted 1 [] (base.setEng { base.eng with faults := List.replicate 11 ⟨true, false, false⟩ })))
      ).faultsOf 3 = noFaults := by decide +kernel
/-- R58: two attempts become one, and the result area tells it. -/
theorem test_discardAttempt :
    let t := after (exec .discardAttempt (posted 2 [1] (base.setTab { planTable with
      records := planTable.records.set 0 { AxleRecord.cleared .done with attempts := [attempt, attempt], overflow := true } })))
    (t.record 0).attempts = [attempt] ∧ Memory.readWord t.mem 0x234 = 0x0101 := by decide +kernel
/-- R199: the old lane time is the result. -/
theorem test_setTime : (after (exec .setTime (posted 3 [7, 1] (base.setTime 0x20005)))).time = 0x10007
    ∧ Memory.readWords (after (exec .setTime (posted 3 [7, 1] (base.setTime 0x20005)))).mem 0x234 2 = [5, 2] := by decide +kernel
/-- R19: 100 kg on one side is VEHICLE_PRESENT. -/
theorem test_zero_refused : Memory.readWord (after (exec .zero (posted 4 [] (base.setEng { base.eng with
    chans := base.eng.chans.set 3 ⟨0, [100], 100⟩ })))).mem 0x208 = 2 := by decide +kernel
/-- R16: a gain of 0 is BAD_PARAM with detail 3. -/
theorem test_calibrate_gain : Memory.readWords (after (exec .calibrate (posted 5 [0, 0, 0] (base.setEng
    { base.eng with mode := .service })))).mem 0x208 2 = [4, 3] := by decide +kernel
/-- R127: a plan without a character in its identifier is BAD_PARAM with field 1, and the test plan passes. -/
theorem test_runPlan : Memory.readWords (after (exec .runPlan (posted 6 [] base))).mem 0x208 2 = [4, 1]
    ∧ (readPlan (words planWords base).mem).firstBad = none := by decide +kernel
/-- R34: in CONTRA the right side turns in REVERSE, and a slip limit of 0 stands for 30. -/
theorem test_driveTest : (after (exec .driveTest (posted 7 [1000, 1, 0] (seatedLane base)))).drv.dirR = .reverse
    ∧ (after (exec .driveTest (posted 7 [1000, 1, 0] (seatedLane base)))).drv.slipLimit = 30 := by decide +kernel
/-- R175: with the sequencer IDLE there is no plan to compose. -/
theorem test_compose_no_plan : Memory.readWord (after (exec .compose (posted 8 [0xFFFF] base))).mem 0x208 = 2 := by
  decide +kernel
/-- R175: after a plan the record of lowest index becomes COMPOSING. -/
theorem test_compose : ((after (exec .compose (posted 8 [0xFFFF] (inSeq .complete base)))).cert 0).state = .composing := by
  decide +kernel
/-- R182: an OFFLINE link leaves the job queued. -/
theorem test_print : (after (exec .print (posted 9 [0, 0] ((words [(0x1A40, 2)] base).setComp
    { base.comp with records := base.comp.records.set 0 cert })))).prn.jobs = [job .queued] := by decide +kernel
/-- R2, R10: a raw value at the converter limit sets OVER_RANGE of its channel. -/
theorem test_sample : let t := after (exec (.sample ⟨⟨0x7FFF, 5, 0, 0, 0, 0, 0, 0, 0⟩,
      ⟨false, false, false, false, false, false, false, false, false, false, false⟩, ⟨3, 0, 0, 0⟩⟩) base)
    t.faultsOf 0 = ⟨true, false, false⟩ ∧ t.filtered 0 = 4000 ∧ t.filtered 1 = 5 ∧ t.eng.pulses.spdL = 3 := by decide +kernel
/-- R38: ESTOP settling ACTIVE while the drive runs. -/
theorem test_settledChange : (after (exec (.settledChange .estop) (settling .estop false (driving .run base)))).drv.stopReason
    = some .estop := by decide +kernel
/-- R22: KEY settling to SERVICE. -/
theorem test_settledChange_key : (after (exec (.settledChange .key) (settling .key false base))).eng.mode = .service := by
  decide +kernel
theorem test_seated : (after (exec .seated (base.setSeat { base.seat with qualify := 101 }))).seat.seated = true
    ∧ (after (exec .seated (base.setSeat { base.seat with qualify := 100 }))).seat.seated = false := by decide +kernel
theorem test_exitWindowExpiry : (after (exec .exitWindowExpiry (base.setSeat { base.seat with exitWindow := some 600 }))
    ).seat.exitWindow = none := by decide +kernel
/-- R8 and R36: a slip of 20 % against a limit of 20 %. -/
theorem test_slipWindowEnd : (after (exec .slipWindowEnd ((driving .run base).setDrv { (driving .run base).drv with slipLimit := 20 }
    |>.setEng { base.eng with windowSamples := 10, pulses := ⟨120, 120, 95, 120⟩ }))).drv.overL = 1 := by decide +kernel
theorem test_noPulse : (after (exec (.noPulse .left) (base.setEng { base.eng with noPulseL := 2 }))).faultsOf 9
    = ⟨false, false, true⟩ := by decide +kernel
theorem test_spinupStall : (after (exec .spinupStall ((driving .spinup base).setDrv
    { (driving .spinup base).drv with spinupCount := 80 }))).drv.stopReason = some .stall := by decide +kernel
/-- R36: the reason names the sides whose count is 2. -/
theorem test_slipStop : (after (exec .slipStop ((driving .run base).setDrv { (driving .run base).drv with overL := 2, overR := 1 }))
    ).drv.stopReason = some .slipL := by decide +kernel
theorem test_lowSpeedStall : (after (exec .lowSpeedStall ((driving .run base).setDrv { (driving .run base).drv with lowR := 2 }))
    ).drv.stopReason = some .stall := by decide +kernel
/-- R39: an ESTOP seen during the stop ends in LOCKOUT. -/
theorem test_rollersAtRest : (after (exec .rollersAtRest ((driving .stopping base).setDrv
    { (driving .stopping base).drv with restCount := 2, estopSeen := true }))).drv.state = .lockout := by decide +kernel
theorem test_stopTimeout : (after (exec .stopTimeout ((driving .stopping base).setDrv
    { (driving .stopping base).drv with stopCount := 160 }))).drv.lockCause = some .driveFault := by decide +kernel
theorem test_driveTestTimer : (after (exec .driveTestTimerExpiry (((driving .run base).setDrv
    { (driving .run base).drv with owner := some .driveTest }).setDtest (some ⟨0, 1000, some 0, none⟩)))).drv.stopReason
    = some .commanded := by decide +kernel
/-- The worked zero of section 1.7. -/
theorem test_zeroCaptureEnd : (((after (exec .zeroCaptureEnd (active 0 .zero (base.setEng { base.eng with
    capture := some ⟨0, 200, [41530, -19870, 612300, 598410, -1702600]⟩ })))).eng.cals.map (·.zero))
    = [208, -99, 3062, 2992, 0, 0, 0, 0, -8192]) := by decide +kernel
/-- The worked weighing of section 3.6, its second window. -/
theorem test_weighWindowEnd : let t := after (exec .weighWindowEnd ((planned .weigh).setWeigh
      (some ⟨0, 600, true, ⟨1292930, 6471, 6458, false⟩, ⟨1224870, 6130, 6119, false⟩⟩)))
    (t.record 0).weightL = some 6465 ∧ (t.record 0).weightR = some 6124 := by decide +kernel

/-- R74: the first violation of three. -/
theorem test_startWindowExpiry : ((after (exec .startWindowExpiry ((running .serviceOnset { armed with phase := .serviceOnset }).setClk
    ⟨6000, 0⟩))).record 0).violations = 1 := by decide +kernel
theorem test_ovalitySettleEnd : (after (exec .ovalitySettleEnd ((running .ovality { armed with phase := .ovality, step := .settle }
    ).setClk ⟨100, 0⟩))).run.step = .hold := by decide +kernel
/-- R98: the first example. -/
theorem test_holdComplete : (after (exec .holdComplete ((running .ovality { armed with
    phase := .ovality, step := .hold, extL := some ⟨612, 540⟩, extR := some ⟨44, 20⟩ }).setClk ⟨400, 0⟩))).run.axleOvality
    = some 12 := by decide +kernel
theorem test_ovalityLimit : ((after (exec .ovalityLimit ((running .ovality { armed with phase := .ovality, step := .hold }
    ).setClk ⟨6000, 0⟩))).record 0).attempts.map (·.reason) = [.runLimit] := by decide +kernel
theorem test_openWindowExpiry : (after (exec .openWindowExpiry ((running .serviceRamp { armed with phase := .serviceRamp }
    ).setClk ⟨1000, 0⟩))).run.ramp = .weak := by decide +kernel
theorem test_serviceRelease : ((after (exec .serviceRelease (running .serviceRun { armed with
    phase := .serviceRun, releaseCount := 41, peakL := 1520 }))).record 0).attempts.map (·.peakL) = [1520] := by decide +kernel
/-- R84: a release at the same sample ends the run first. -/
theorem test_serviceRunLimit : (after (exec .serviceRunLimit ((running .serviceRun { armed with
    phase := .serviceRun, releaseCount := 41 }).setClk ⟨6000, 0⟩))).run.phase = .serviceRun := by decide +kernel
theorem test_parkWindowExpiry : (after (exec .parkWindowExpiry ((running .parkOnset { armed with phase := .parkOnset }
    ).setClk ⟨6000, 0⟩))).run.parkExpiries = 1 := by decide +kernel
theorem test_parkRelease : ((after (exec .parkRelease (running .parkRun { armed with
    phase := .parkRun, parkRelease := 41, parkPeakL := 1400, parkPeakR := 1360 }))).record 0).parking
    = some ⟨1400, 1360, .release, 0⟩ := by decide +kernel
theorem test_parkRunLimit : ((after (exec .parkRunLimit ((running .parkRun { armed with phase := .parkRun }
    ).setClk ⟨6000, 0⟩))).record 0).parking.map (·.reason) = some .runLimit := by decide +kernel
/-- R122: the 2000th sample after the reference. -/
theorem test_crossingTimeout : (after (exec .crossingTimeout (((planned .approach).setPlate ⟨.forwardOn, 5, true, 0, some 800⟩
    ).setClk ⟨2000, 0⟩))).plate.crossing = .idle := by decide +kernel
/-- R14: a single error is corrected. -/
theorem test_calReadDone : (after (exec (.calReadDone .single) ((base.setEng { base.eng with loadZero := some 5 }).setNv
    { base.nv with op := some (.loadWord 1) }))).eng.cals.head? = some ⟨5, 4096, true⟩ := by decide +kernel
theorem test_nvReadTimeout : (after (exec .nvReadTimeout ((base.setNv { base.nv with op := some (.loadWord 1) }).setClk ⟨0, 20⟩))
    ).eng.cals.head? = some ⟨0, 0, false⟩ := by decide +kernel
theorem test_calibrateWriteDone : (after (exec (.calibrateWriteDone ⟨.done, .done⟩ true) ((active 0 .calibrate (base.setEng
    { base.eng with calib := some ⟨0, 2, -5, 4000, false⟩ })).setNv { base.nv with op := some (.calWrite 2 0xFFFB 4000) }))
    ).eng.cals[2]? = some ⟨-5, 4000, true⟩ := by decide +kernel
theorem test_calibrateWriteTimeout : Memory.readWord (after (exec (.calibrateWriteTimeout ⟨.done, .kept⟩)
    (((active 0 .calibrate (base.setEng { base.eng with calib := some ⟨0, 2, -5, 4000, false⟩ })).setNv
      { base.nv with op := some (.calWrite 2 0xFFFB 4000) }).setClk ⟨0, 20⟩))).mem 0x208 = 6 := by decide +kernel
/-- R18: the waiting operation begins when the port is released. -/
theorem test_nvPortReleased : (after (exec (.nvPortReleased ⟨.done, .done⟩) (base.setNv
    { base.nv with op := some (.brokenCounter 1), waiting := some .counterRead }))).nv.op = some .counterRead := by decide +kernel
theorem test_nvReleaseTimeout : (after (exec (.nvReleaseTimeout ⟨.done, .done⟩) ((base.setNv
    { base.nv with op := some (.brokenCounter 1) }).setClk ⟨0, 20⟩))).nv.op = none := by decide +kernel
/-- R177: the read value plus 1 is written, with the high word first (R178). -/
theorem test_counterReadDone : (after (exec (.counterReadDone .clean .clean) ((active 0 .compose (base.setComp { base.comp with
    op := some ⟨0, 0, .reading, false, false⟩ })).setNv { base.nv with op := some .counterRead }))).nv.op
    = some (.counterWrite 1) := by decide +kernel
theorem test_counterReadTimeout : (after (exec .counterReadTimeout (((active 0 .compose (base.setComp { base.comp with
    op := some ⟨0, 0, .reading, false, false⟩ })).setNv { base.nv with op := some .counterRead }).setClk ⟨0, 20⟩))).comp.op
    = none := by decide +kernel
theorem test_counterWriteDone : let t := after (exec (.counterWriteDone ⟨.done, .done⟩ true) (words [(0x040, 0x101)] ((active 0
      .compose (base.setComp { base.comp with op := some ⟨0, 0, .writing 7, false, false⟩ })).setNv
        { base.nv with op := some (.counterWrite 7) })))
    t.comp.lastIssued = 7 ∧ t.tab.certified = true := by decide +kernel
theorem test_counterWriteTimeout : (after (exec (.counterWriteTimeout ⟨.done, .done⟩) (((active 0 .compose (base.setComp
      { base.comp with op := some ⟨0, 0, .writing 7, false, false⟩ })).setNv { base.nv with op := some (.counterWrite 7) }
      ).setClk ⟨0, 20⟩))).comp.lastIssued = 0 := by decide +kernel
/-- R159: IDLE in NORMAL mode shows message 19. -/
theorem test_displayRefresh : (after (exec .displayRefresh (base.setDisp { base.disp with refresh := some 0 }))).disp.sending.map
    (·.message) = some 19 := by decide +kernel
theorem test_displayFrameSent : (after (exec .displayFrameSent (base.setDisp
    { base.disp with sending := some ⟨19, [1]⟩, waiting := some ⟨16, [2]⟩ }))).disp.sending = some ⟨16, [2]⟩ := by decide +kernel
theorem test_repeatMarkLapse : (after (exec .repeatMarkLapse (base.setDisp { base.disp with repeatMark := some 0 }))
    ).disp.repeatMark = none := by decide +kernel
theorem test_printerFrameSent : (after (exec .printerFrameSent ((printingIn .sending (job .printing)).setPrn
    { (printingIn .sending (job .printing)).prn with wire := some (.line [1]) }))).prn.replyTimer = some 500 := by decide +kernel
/-- R187: READY takes the line. -/
theorem test_printerReply : (after (exec (.printerReply 0x10) (printingIn .waitReply (job .printing)))).prn.jobs.map (·.linesTaken)
    = [1] := by decide +kernel
/-- R187: a byte that is no reply code counts as CRC_BAD. -/
theorem test_printerReply_other : (after (exec (.printerReply 0x55) (printingIn .waitReply (job .printing)))).prn.crcResends = 1 := by
  decide +kernel
theorem test_printerReplyTimeout : (after (exec .printerReplyTimeout ((printingIn .waitReply (job .printing)).setPrn
    { (printingIn .waitReply (job .printing)).prn with replyTimer := some 0, noReplies := 2 }))).prn.link = .offline := by
  decide +kernel
theorem test_busyResend : (after (exec .busyResend ((printingIn .sending (job .printing)).setPrn
    { (printingIn .sending (job .printing)).prn with busyTimer := some 0 }))).prn.busyTimer = none := by decide +kernel
theorem test_pollTimerExpiry : (after (exec .pollTimerExpiry (base.setPrn { base.prn with pollTimer := some 0 }))).prn.pollTimer
    = some 2000 := by decide +kernel
theorem test_staleTimerExpiry : (after (exec .staleTimerExpiry ((words [(0x42, 3)] base).setJr
    { base.jr with put := 1, staleTimer := some 0 }))).jr.staleTimer = some 30 := by decide +kernel
/-- R208: a hold word that is not 0. -/
theorem test_gaugeUpdate : (after (exec .gaugeUpdate ((words [(0x44, 1)] base).setGauge ⟨20, 5, 0xFFFF⟩))).gauge = ⟨0, 5, 0⟩ := by
  decide +kernel
/-- R209: the passage to 0. -/
theorem test_laneTimeTick : (after (exec .laneTimeTick (base.setTime 0xFFFFFFFF))).time = 0
    ∧ (after (exec .laneTimeTick (base.setTime 0xFFFFFFFF))).att.bits = 0x80 := by decide +kernel
/-- The model's choice for an empty queue (assumption 2), and the front of the queue. -/
theorem test_step : step base = .next base
    ∧ step (base.setPending [.setAttentionMask 3, .laneReset]) = exec (.setAttentionMask 3) (base.setPending [.laneReset]) :=
  ⟨rfl, rfl⟩

/-! ## States that meet the hypotheses of the statements, clause by clause, at the ends of their ranges -/

/-- POST at both ends of the slots: slot 0 READY, slot 1 FREE, slot 2 POSTED, slot 15 ACTIVE. -/
def postState : State := active 15 .zero ((words [(0x200, 1), (0x280, 2)] base).setHeld 2 .posted)

theorem witness_StepTakesFrontCommand : (base.setPending [.jack 0]).pending = .jack 0 :: [] ∧ base.pending = [] := by decide
theorem witness_EveryCommandAnswersNext : (∀ cut, Instr.jack 0 ≠ .powerOn cut) ∧ Instr.jack 0 ≠ .laneReset := by simp
theorem witness_PowerOn_with_write : (base.setNv { base.nv with op := some (.counterWrite 1) }).nv.op = some (.counterWrite 1) := by
  decide
theorem witness_ProductionWritesOrDrops : Memory.wf base.mem
    ∧ 128 ≤ (base.setJr { base.jr with put := 128 }).jr.count ∧ (base.setJr { base.jr with put := 128 }).jr.mode = .blocking
    ∧ ¬ (128 ≤ base.jr.count ∧ base.jr.mode = .blocking)
    ∧ ¬ (128 ≤ (base.setJr { base.jr with put := 128, mode := .overwrite }).jr.count
      ∧ (base.setJr { base.jr with put := 128, mode := .overwrite }).jr.mode = .blocking)
    ∧ base.jr.count ≤ 128 ∧ base.jr.produced = base.jr.stored + base.jr.dropped := by decide +kernel
theorem witness_TimersOfTheRequestUnit : base.quiet = true ∧ Memory.wf base.mem
    ∧ (base.setJr { base.jr with staleTimer := some 0 }).expired (some 0) = true := by decide +kernel
theorem witness_GaugeUpdateWritesOrSkips : 20 ≤ (base.setGauge ⟨20, 0, 0⟩).gauge.samples ∧ Memory.wf base.mem
    ∧ Memory.readWord base.mem 0x44 = 0 ∧ Memory.readWord (words [(0x44, 1)] base).mem 0x44 ≠ 0 := by decide +kernel
theorem witness_PostActsOnEachNamedSlot : postState.slots.length = 16 ∧ Memory.wf postState.mem
    ∧ postState.held 0 = .free ∧ postState.slotState 0 = wordReady ∧ postState.held 1 = .free
    ∧ postState.slotState 1 ≠ wordReady ∧ postState.held 2 = .posted ∧ postState.held 15 = .active .zero
    ∧ (0x8007 : Word).getLsbD 15 = true ∧ (0x8007 : Word).getLsbD 3 = false := by decide +kernel
theorem witness_AbortCompletesPostedSlots : postState.slots.length = 16 ∧ Memory.wf postState.mem
    ∧ (∀ n, n < 16 → (0x0005 : Word).getLsbD n = true → postState.held n = .free ∨ postState.held n = .posted)
    ∧ (0x0005 : Word).getLsbD 2 = true ∧ postState.held 2 = .posted := by decide +kernel

/-- An ACTIVE ZERO with 199 samples taken. -/
def zeroState : State := active 0 .zero (base.setEng { base.eng with capture := some ⟨0, 199, [0, 0, 0, 0, 0]⟩ })
def calibrateState : State := active 0 .calibrate (base.setEng { base.eng with calib := some ⟨0, 8, 8191, 1, false⟩ })
def composeState (st : ComposeStage) : State :=
  active 0 .compose (base.setComp { base.comp with op := some ⟨0, 3, st, false, false⟩ })
def testState (d : DriveState) : State :=
  ((seatedLane (active 0 .driveTest (driving d base))).setDrv { (driving d base).drv with owner := some .driveTest }).setDtest
    (some ⟨0, 60000, some 0, none⟩)
def planStarts : State := planned .approach

theorem witness_AbortOfActiveRequests : namedSlots 1 = [0]
    ∧ (zeroState.slots.length = 16 ∧ Memory.wf zeroState.mem ∧ zeroState.held 0 = .active .zero
      ∧ zeroState.eng.capture.map (·.count) = some 199)
    ∧ (calibrateState.held 0 = .active .calibrate ∧ calibrateState.eng.calib.isSome = true)
    ∧ ((composeState .reading).held 0 = .active .compose ∧ (composeState .reading).comp.op.map (·.stage) = some .reading)
    ∧ ((composeState (.writing 1)).comp.op.map (·.stage) = some (.writing 1))
    ∧ ((printingIn .waitReply (job .printing)).held 0 = .active .print ∧ (job .printing).slot = 0
      ∧ (printingIn .waitReply (job .printing)).prn.link ≠ .pausedPaper)
    ∧ ((testState .run).held 0 = .active .driveTest ∧ (testState .run).drv.owner = some .driveTest
      ∧ isSpinning (testState .run).drv.state = true ∧ (testState .run).dtest.isSome = true)
    ∧ (planStarts.held 0 = .active .runPlan ∧ planStarts.activeSlot .runPlan = some 0 ∧ planStarts.seq.state = .approach
      ∧ planStarts.run.phase = .idle ∧ isSpinning planStarts.drv.state = false ∧ 0 < planStarts.tab.axleCount
      ∧ 0 < planStarts.tab.records.length ∧ (planStarts.record 0).status = .pending
      ∧ planStarts.tab.axleCount = 1 ∧ (planStarts.record 1).status = .empty) := by decide +kernel
theorem witness_TakingChecksOfTheRequestUnit :
    ((posted 3 [] base).slots.length = 16 ∧ (posted 3 [] base).lowestPosted = some 0 ∧ Memory.wf (posted 3 [] base).mem)
    ∧ ((words [(0x200, 1)] (posted 3 [] base)).slotKind 0 = codeOfKind .setTime
      ∧ (words [(0x200, 1)] (posted 3 [] base)).slotState 0 ≠ wordPosted)
    ∧ ((posted 0 [] base).slotKind 0 = 0 ∧ (posted 0 [] base).slotState 0 = wordPosted)
    ∧ (9 < (posted 10 [] base).slotKind 0)
    ∧ ((active 1 .zero (posted 4 [] base)).slotKind 0 = codeOfKind .zero
      ∧ (active 1 .zero (posted 4 [] base)).kindActive .zero = true) := by decide +kernel
theorem witness_SetTimeTakesLaneTime : Takes (posted 3 [7, 1] base) 0 3 ∧ (posted 3 [7, 1] base).slots.length = 16
    ∧ Memory.wf (posted 3 [7, 1] base).mem ∧ (base.setJr { base.jr with put := 1 }).jr.count ≠ 0 := by
  unfold Takes; decide +kernel
theorem witness_ClearFaults : Takes (posted 1 [] base) 0 1 ∧ (posted 1 [] base).eng.faults.length = 11
    ∧ (posted 1 [] base).drv.state ≠ .lockout
    ∧ (posted 1 [] (driving .lockout (base.setEng { base.eng with lastPd := some (1, 1) }))).drv.state = .lockout
    ∧ base.level .estop = false ∧ base.seq.state ≠ .spinup ∧ base.seq.state ≠ .spindown ∧ base.dtest = none
    ∧ base.eng.lastPd = none := by unfold Takes; decide +kernel

/-- A DISCARD_ATTEMPT of axle 1 on a table of one attempt. -/
def discardState (k : Nat) (t : AxleTable) : State := posted 2 [k] (base.setTab t)
def tableWith (l : List Attempt) (st : AxleStatus) (c : Bool) : AxleTable :=
  { planTable with certified := c, records := planTable.records.set 0 { AxleRecord.cleared st with attempts := l } }

theorem witness_DiscardRefusedOrTaken : Takes (discardState 0 planTable) 0 2
    ∧ ((discardState 0 planTable).param 0 0).toNat = 0 ∧ 8 < ((discardState 9 planTable).param 0 0).toNat
    ∧ (discardState 8 (tableWith [] .done true)).tab.certified = true
    ∧ (active 1 .compose (discardState 8 planTable)).kindActive .compose = true
    ∧ ((discardState 1 (tableWith [] .inTest false)).record 0).status = .inTest
    ∧ (driving .run (discardState 1 (tableWith [] .inTest false))).drv.state ≠ .off
    ∧ ((discardState 1 (tableWith [] .done false)).record 0).attempts = []
    ∧ ((discardState 1 (tableWith [attempt] .done false)).record 0).attempts.getLast? = some attempt
    ∧ 0 < (discardState 1 (tableWith [attempt] .done false)).tab.records.length := by unfold Takes; decide +kernel
theorem witness_ZeroRefusedOrTaken : Takes (posted 4 [] base) 0 4 ∧ (posted 4 [] base).slots.length = 16
    ∧ Memory.wf (posted 4 [] base).mem ∧ (posted 4 [] base).kindActive .zero = false
    ∧ (posted 4 [] base).eng.mode ≠ .failsafe ∧ (posted 4 [] base).drv.state = .off
    ∧ ¬ (100 ≤ (posted 4 [] base).filtered 2 ∨ 100 ≤ (posted 4 [] base).filtered 3)
    ∧ State.reset.eng.mode = .failsafe := by unfold Takes; decide +kernel

def serviceLane : State := base.setEng { base.eng with mode := .service }

theorem witness_CalibrateRefusedOrTaken : Takes (posted 5 [8, 8191, 1] serviceLane) 0 5
    ∧ (posted 5 [8, 8191, 1] serviceLane).kindActive .calibrate = false
    ∧ ((posted 5 [8, 0xE000, 1] serviceLane).param 0 1).toInt = -8192
    ∧ 8 < ((posted 5 [9, 0, 1] serviceLane).param 0 0).toNat ∧ ((posted 5 [8, 0, 0] serviceLane).param 0 2).toNat = 0 := by
  unfold Takes; decide +kernel
theorem witness_RunPlanRefusedInOrder : Takes (posted 6 [] base) 0 6 ∧ (posted 6 [] base).kindActive .runPlan = false
    ∧ (readPlan (posted 6 [] base).mem).firstBad = some 1
    ∧ Takes (posted 6 [] serviceLane) 0 6 ∧ (posted 6 [] serviceLane).eng.mode ≠ .normal := by unfold Takes; decide +kernel
theorem witness_RunPlanOpensTheTable : Takes (posted 6 [] (words planWords base)) 0 6
    ∧ (posted 6 [] (words planWords base)).slots.length = 16 ∧ Memory.wf (posted 6 [] (words planWords base)).mem
    ∧ (posted 6 [] (words planWords base)).kindActive .runPlan = false
    ∧ (posted 6 [] (words planWords base)).eng.mode = .normal
    ∧ (readPlan (posted 6 [] (words planWords base)).mem).firstBad = none
    ∧ isPlanState (posted 6 [] (words planWords base)).seq.state = false := by unfold Takes; decide +kernel
theorem witness_DriveTestRefusedInOrder : Takes (posted 7 [999, 0, 0] base) 0 7
    ∧ (posted 7 [999, 0, 0] base).kindActive .driveTest = false ∧ ((posted 7 [999, 0, 0] base).param 0 0).toNat = 999
    ∧ inRange 1000 60000 999 = false ∧ inRange 1000 60000 60000 = true ∧ base.seat.seated = false := by
  unfold Takes; decide +kernel
theorem witness_DriveTestStartsASpin : let s := posted 7 [60000, 1, 10] (seatedLane base)
    Takes s 0 7 ∧ s.slots.length = 16 ∧ Memory.wf s.mem ∧ s.kindActive .driveTest = false ∧ s.kindActive .runPlan = false
    ∧ s.kindActive .zero = false ∧ s.drv.state = .off ∧ s.eng.mode = .normal ∧ s.level .estop = false
    ∧ s.level .presence = false ∧ s.seat.seated = true ∧ (s.param 0 0).toNat = 60000 ∧ (s.param 0 1).toNat = 1
    ∧ (s.param 0 2).toNat = 10 := by unfold Takes; decide +kernel
theorem witness_ComposeRefusedOrTaken : let s := posted 8 [3] (inSeq .complete base)
    Takes s 0 8 ∧ s.slots.length = 16 ∧ s.comp.records.length = 4 ∧ Memory.wf s.mem ∧ s.kindActive .compose = false
    ∧ (∀ k, k < 4 → Memory.readWord s.mem (certBase k) = (s.cert k).stateWord) ∧ (s.param 0 0).toNat = 3
    ∧ (s.cert 3).state = .empty ∧ s.jobNames 3 = false ∧ s.tab.certified = false
    ∧ ((posted 8 [4] base).param 0 0).toNat = 4 ∧ (posted 8 [3] base).seq.state = .idle := by unfold Takes; decide +kernel
theorem witness_PrintRefusedOrQueued : let s := posted 9 [0, 1] (words [(0x1A40, 2)] (base.setComp
      { base.comp with records := base.comp.records.set 0 cert }))
    Takes s 0 9 ∧ s.slots.length = 16 ∧ Memory.wf s.mem
    ∧ (∀ k, k < 4 → Memory.readWord s.mem (certBase k) = (s.cert k).stateWord)
    ∧ (s.cert 0).state = .issued ∧ s.prn.link ≠ .ready
    ∧ (s.setPrn { s.prn with link := .ready }).prn.link = .ready ∧ s.prn.jobs = []
    ∧ ((posted 9 [4, 1] base).param 0 0).toNat = 4 ∧ ((posted 9 [3, 2] base).param 0 1).toNat = 2
    ∧ ((posted 9 [3, 1] base).cert 3).state = .empty := by unfold Takes; decide +kernel
theorem witness_LaneResetRestartsEveryBlock : (composeState .reading).slots.length = 16 ∧ Memory.wf (composeState .reading).mem
    ∧ (composeState .reading).held 0 ≠ .free ∧ (composeState .reading).comp.op.map (·.target) = some 3
    ∧ (composeState .reading).comp.records.length = 4 ∧ base.disp.sending = none
    ∧ (base.setDisp { base.disp with sending := some ⟨19, []⟩ }).disp.sending = some ⟨19, []⟩
    ∧ State.reset.nv.op = some (.loadWord 0) := by decide +kernel

theorem witness_SampleConvertsAndDebounces : base.quiet = true ∧ base.eng.started = true ∧ base.eng.loading = false
    ∧ base.eng.inputs.length = 11 ∧ base.eng.faults.length = 11 ∧ base.seat.seated = false := by decide +kernel
/-- Before the first sample, after a lane reset whose poll drew READY. -/
def afterEarlyReset : State := State.reset.setPrn { Printer.afterReset with link := .ready }
theorem witness_SampleBeforeTheLoadEnds : State.reset.quiet = true ∧ State.reset.eng.loading = true
    ∧ State.reset.eng.inputs.length = 11 ∧ State.reset.eng.started = false ∧ State.reset.prn.pollTimer = none
    ∧ State.reset.prn.link = .offline ∧ afterEarlyReset.prn.link ≠ .offline ∧ afterEarlyReset.quiet = true
    ∧ afterEarlyReset.eng.loading = true ∧ afterEarlyReset.eng.started = false ∧ State.reset.disp.sending = none ∧ State.reset.dtest = none
    ∧ (State.reset.setEng { State.reset.eng with started := true }).quiet = true := by decide +kernel
theorem witness_SettledChangeOfAnInput :
    ((settling .ok true base).settles .ok = true ∧ (settling .ok true base).eng.inputs.length = 11
      ∧ (settling .ok true base).level .ok = true)
    ∧ ((settling .plateIn false base).settles .plateIn = true ∧ (settling .plateIn false base).planRuns = false)
    ∧ ((settling .ok false base).settles .ok = true ∧ (settling .ok false base).level .ok = false
      ∧ Memory.wf (settling .ok false base).mem ∧ (settling .ok false base).seq.state = .idle) := by decide +kernel
theorem witness_EstopAndPresenceStopTheSpin : let e := settling .estop false (driving .run base)
    let p := settling .presence false (driving .run base)
    (e.eng.inputs.length = 11 ∧ e.settles .estop = true ∧ e.level .estop = false ∧ isSpinning e.drv.state = true)
    ∧ (p.settles .presence = true ∧ p.level .presence = false ∧ isSpinning p.drv.state = true)
    ∧ (driving .off e).drv.state = .off ∧ (driving .stopping e).drv.state = .stopping
    ∧ (driving .lockout e).drv.state = .lockout ∧ isSpinning (driving .off p).drv.state = false := by decide +kernel
theorem witness_KeySettlesDerivesTheMode : let k := settling .key false (driving .run base)
    k.eng.inputs.length = 11 ∧ Memory.wf k.mem ∧ k.settles .key = true ∧ k.eng.mode = .normal
    ∧ isSpinning k.drv.state = true ∧ isPlanState k.seq.state = false
    ∧ (settling .key true serviceLane).level .key = true ∧ serviceLane.eng.mode = .service := by decide +kernel

/-- The 101st qualifying sample of an axle. -/
def seating (w : Option Nat) (s : State) : State := s.setSeat { s.seat with qualify := 101, exitWindow := w }

theorem witness_SeatedReport : (seating none base).seat.seated = false ∧ 101 ≤ (seating none base).seat.qualify
    ∧ Memory.wf (seating none base).mem ∧ isPlanState (seating none base).seq.state = false
    ∧ (seating (some 599) base).seat.exitWindow ≠ none ∧ (seating none planStarts).seq.state = .approach
    ∧ (seating none planStarts).tab.cursor < (seating none planStarts).tab.records.length
    ∧ (seating none planStarts).seq.reviewMarks.getD 0 false = false
    ∧ ((seating none planStarts).planAxle 0).tests.getLsbD 0 = true := by decide +kernel
theorem witness_ExitWindowExpiry : let s := base.setSeat { base.seat with exitWindow := some 600 }
    s.seat.exitWindow = some 600 ∧ s.settlesOn .beamR = false ∧ s.settlesOn .beamF = false ∧ Memory.wf s.mem
    ∧ s.seq.state ≠ .exitWait ∧ (inSeq .exitWait s).seq.state = .exitWait := by decide +kernel
theorem witness_BeamsDecideExitsAndPasses : let s := base.setSeat { base.seat with exitWindow := some 0 }
    let a := base.setSeat { base.seat with active := true, record := .rearOpen true true }
    let f := settling .beamF false s
    let r := settling .beamR false s
    (f.eng.inputs.length = 11 ∧ f.seat.seated = false ∧ isPlanState f.seq.state = false ∧ Memory.wf f.mem
      ∧ f.seat.exitWindow = some 0 ∧ f.settlesOn .beamF = true ∧ f.settlesOn .beamR = false)
    ∧ (r.settlesOn .beamR = true ∧ r.settlesOn .beamF = false)
    ∧ ((settling .beamR false f).settlesOn .beamR = true ∧ (settling .beamR false f).settlesOn .beamF = true)
    ∧ ((settling .beamR false a).seat.exitWindow = none ∧ (settling .beamR false a).seat.active = true
      ∧ (settling .beamR false a).settlesOn .beamR = true)
    ∧ ((settling .beamF false a).settlesOn .beamF = true ∧ (settling .beamF false a).seat.record = .rearOpen true true
      ∧ (a.setSeat { a.seat with record := .frontOpen true }).seat.record = .frontOpen true) := by decide +kernel
theorem witness_SlipWindowEnd : let s := base.setEng { base.eng with windowSamples := 10, pulses := ⟨60, 60, 0, 0⟩ }
    10 ≤ s.eng.windowSamples ∧ s.eng.pulses = ⟨60, 60, 0, 0⟩ ∧ (driving .off s).drv.state = .off
    ∧ (driving .stopping s).drv.state = .stopping ∧ (driving .run s).drv.state = .run
    ∧ (driving .spinup s).drv.state = .spinup ∧ (testState .spinup).drv.owner = some .driveTest
    ∧ (testState .spinup).dtest.isSome = true := by decide +kernel
theorem witness_NoPulseSetsTheFlag : let s := base.setEng { base.eng with noPulseL := 2 }
    2 ≤ s.eng.noPulse .left ∧ s.eng.faults.length = 11 ∧ Memory.wf s.mem ∧ (s.faultsOf (pulseChannel .left)).noPulse = false
    ∧ ((s.setEng { s.eng with faults := List.replicate 11 ⟨false, false, true⟩ }).faultsOf 9).noPulse = true := by decide +kernel

/-- A turning drive with a count at its limit. -/
def spinupAt (n : Nat) : State := (driving .spinup base).setDrv { (driving .spinup base).drv with spinupCount := n, owner := some .sequencer }
def overAt (l r : Nat) : State := (driving .run base).setDrv { (driving .run base).drv with overL := l, overR := r }
def lowAt (l r : Nat) : State := (driving .run base).setDrv { (driving .run base).drv with lowL := l, lowR := r }

theorem witness_CountsAndTimersStopTheSpin :
    ((spinupAt 80).drv.state = .spinup ∧ 80 ≤ (spinupAt 80).drv.spinupCount ∧ (spinupAt 80).drv.owner = some .sequencer
      ∧ (inSeq .spinup ((spinupAt 80).setRun armed)).seq.state = .spinup
      ∧ (inSeq .spinup ((spinupAt 80).setRun armed)).run.phase = .armed)
    ∧ ((overAt 2 1).drv.state = .run ∧ 2 ≤ (overAt 2 1).drv.overL)
    ∧ ((lowAt 0 2).drv.state = .run ∧ (lowAt 0 2).drv.overL < 2 ∧ (lowAt 0 2).drv.overR < 2 ∧ 2 ≤ (lowAt 0 2).drv.lowR)
    ∧ ((testState .run).dtest = some ⟨0, 60000, some 0, none⟩ ∧ (testState .run).expired (some 0) = true
      ∧ isSpinning (testState .run).drv.state = true ∧ (testState .run).drv.owner = some .driveTest) := by decide +kernel

/-- A stop with its counts and reason. -/
def stopAt (rest stop : Nat) (r : StopReason) (d : Option DriveTest) : State :=
  ((driving .stopping base).setDrv
    { (driving .stopping base).drv with restCount := rest, stopCount := stop, stopReason := some r }).setDtest d

theorem witness_RestOrTimeoutEndsTheStop : let t : DriveTest := ⟨0, 1000, none, some (.ok, .none)⟩
    ((stopAt 2 160 .estop none).drv.state = .stopping ∧ 2 ≤ (stopAt 2 160 .estop none).drv.restCount
      ∧ (stopAt 2 160 .estop none).seq.state ≠ .spinup ∧ (stopAt 2 160 .estop none).seq.state ≠ .spindown
      ∧ Memory.wf (stopAt 2 160 .estop none).mem ∧ (stopAt 2 160 .estop none).drv.stopReason = some .estop)
    ∧ ((stopAt 2 0 .stall none).drv.stopReason ≠ some .estop ∧ (stopAt 2 0 .stall none).drv.estopSeen = false
      ∧ (stopAt 2 0 .stall none).dtest = none)
    ∧ ((stopAt 2 0 .commanded (some t)).dtest = some t ∧ t.decided = some (.ok, .none) ∧ t.slot < 16
      ∧ (stopAt 2 0 .commanded (some t)).slots.length = 16)
    ∧ ((stopAt 1 160 .stall none).drv.restCount < 2 ∧ 160 ≤ (stopAt 1 160 .stall none).drv.stopCount
      ∧ (stopAt 1 160 .stall (some t)).dtest = some t) := by decide +kernel
theorem witness_SpindownIsLeftAtOff : let s := inSeq .spindown (stopAt 2 0 .commanded none)
    let q := inSeq .spindown (seatedLane (stopAt 2 0 .commanded none))
    (s.drv.state = .stopping ∧ 2 ≤ s.drv.restCount ∧ s.drv.stopReason ≠ some .estop ∧ s.drv.estopSeen = false
      ∧ s.seq.state = .spindown ∧ s.seat.seated = false ∧ s.seq.heldExit = .none)
    ∧ (q.seat.seated = true ∧ q.seq.parkingOwed = false)
    ∧ ((q.setSeq { q.seq with parkingOwed := true }).seq.parkingOwed = true ∧ q.run.phase = .idle ∧ q.eng.mode = .normal
      ∧ q.level .estop = false ∧ q.level .presence = false) := by decide +kernel
theorem witness_ZeroCaptureEnd : let c : ZeroCapture := ⟨0, 200, [0, 0, 0, 0, 0]⟩
    let s := active 0 .zero (base.setEng { base.eng with capture := some c })
    s.eng.capture = some c ∧ 200 ≤ c.count ∧ c.sums = [0, 0, 0, 0, 0] ∧ c.slot < 16 ∧ s.slots.length = 16
    ∧ s.eng.cals.length = 9 ∧ s.eng.chans.length = 9 ∧ Memory.wf s.mem := by decide +kernel

/-- A weighing whose window ends, with a spread on the left side. -/
def weighAt (count : Nat) (spread : Int) : Weighing := ⟨0, count, true, ⟨0, spread, 0, false⟩, ⟨0, 20, 0, false⟩⟩
def weighState (w : Weighing) (q : SeqState) : State := seatedLane ((planned q).setWeigh (some w))

theorem witness_WeighWindowEnd : let s := weighState (weighAt 400 20) .weigh
    (s.weigh = some (weighAt 400 20) ∧ (weighAt 400 20).gathering = true ∧ (weighAt 400 20).count % 200 = 0
      ∧ (weighAt 400 20).axle < s.tab.records.length ∧ Memory.wf s.mem ∧ s.seq.state = .weigh ∧ s.seat.seated = true)
    ∧ ((weighState (weighAt 400 20) .exitWait).seq.state ≠ .weigh)
    ∧ ((s.planAxle s.tab.cursor).runs ≠ ⟨false, false, false⟩ ∧ s.run.phase = .idle
      ∧ (s.record 0).violations < s.tab.plan.maxViolations.toNat)
    ∧ ((s.setTab (AxleTable.emptied 0)).planAxle 0).runs = ⟨false, false, false⟩
    ∧ (¬ (weighAt 1200 21).left.greatest - (weighAt 1200 21).left.least ≤ 20 ∧ 1200 ≤ (weighAt 1200 21).count)
    ∧ (weighAt 1000 21).count < 1200 := by decide +kernel
theorem witness_WeighWindowEnd_violations (k : Nat) : ((weighState (weighAt 400 20) .weigh).record k).violations
    < (weighState (weighAt 400 20) .weigh).tab.plan.maxViolations.toNat := by
  have h : (weighState (weighAt 400 20) .weigh).tab.plan.maxViolations.toNat = 3 := by decide +kernel
  rw [h]
  match k with
  | 0 | 1 | 2 | 3 | 4 | 5 | 6 | 7 => exact of_decide_eq_true rfl
  | n + 8 => exact of_decide_eq_true rfl

/-- The unit in a phase, its windows begun at sample 0, seen at sample n. -/
def unitAt (q : SeqState) (r : RunUnit) (n : Nat) : State := (running q r).setClk ⟨n, 0⟩

theorem witness_AttemptPartEndsByTheUnit :
    let o := unitAt .ovality { armed with phase := .ovality, step := .releaseWait } 6000
    let e := unitAt .serviceRun { armed with phase := .serviceRun, releaseCount := 41 } 6000
    let p := unitAt .serviceRun { armed with phase := .serviceRun, releaseCount := 40, runs := ⟨false, true, true⟩ } 6000
    (o.drv.state = .run ∧ isRunState o.seq.state = true ∧ o.run.axle < o.tab.records.length ∧ o.run.step ≠ .onsetWait
      ∧ 30000 ≤ 5 * (o.clk.sampleNo - o.run.ovalityOnset) ∧ o.run.runs.parking = false)
    ∧ (e.run.phase = .serviceRun ∧ 41 ≤ e.run.releaseCount)
    ∧ (p.run.phase = .serviceRun ∧ p.run.releaseCount < 41 ∧ 30000 ≤ 5 * (p.clk.sampleNo - p.run.serviceOnset)
      ∧ p.run.runs.parking = true) := by decide +kernel
theorem witness_StartWindowExpiry :
    let s := unitAt .serviceOnset { armed with phase := .serviceOnset } 6000
    let m := unitAt .serviceOnset { armed with phase := .serviceOnset, arm := { armed.arm with maxViolations := 1 } } 6000
    let p := unitAt .ovality { armed with
      phase := .ovality, runs := ⟨true, false, true⟩, arm := { armed.arm with maxViolations := 1 } } 6000
    (s.run.phase = .serviceOnset ∧ s.run.arm.startWindow ≤ 5 * (s.clk.sampleNo - s.run.waitRef)
      ∧ s.run.axle < s.tab.records.length ∧ isRunState s.seq.state = true ∧ Memory.wf s.mem
      ∧ (s.record 0).violations + 1 < s.run.arm.maxViolations)
    ∧ ((m.record 0).violations + 1 = m.run.arm.maxViolations ∧ m.run.runs.parking = false ∧ m.drv.state = .run)
    ∧ ((p.record 0).violations + 1 = p.run.arm.maxViolations ∧ p.run.runs.parking = true ∧ p.run.step = .onsetWait) := by
  decide +kernel
theorem witness_OvalityHoldIsTimedAndJudged :
    let s := unitAt .ovality { armed with phase := .ovality, step := .settle } 100
    let h := unitAt .ovality { armed with phase := .ovality, step := .hold, extL := some ⟨50, 49⟩, extR := some ⟨49, 49⟩ } 400
    (s.run.phase = .ovality ∧ s.run.step = .settle ∧ 500 ≤ 5 * (s.clk.sampleNo - s.run.ovalityOnset))
    ∧ (h.run.phase = .ovality ∧ h.run.step = .hold ∧ h.run.arm.holdTime ≤ 5 * (h.clk.sampleNo - h.run.holdRef)
      ∧ h.run.extL.isSome = true ∧ h.run.extR.isSome = true) := by decide +kernel
theorem witness_RampIsJudged : let r (m : Int) : RunUnit := { armed with phase := .serviceRamp, rampMark := m }
    ((unitAt .serviceRamp (r 1) 0).run.phase = .serviceRamp
      ∧ (unitAt .serviceRamp (r 1) 0).run.axle < (unitAt .serviceRamp (r 1) 0).tab.records.length
      ∧ isRunState (unitAt .serviceRamp (r 1) 0).seq.state = true ∧ (unitAt .serviceRamp (r 1) 0).filtered 0 < 1)
    ∧ (5 * ((unitAt .serviceRamp (r 0) 199).clk.sampleNo - 0) < (r 0).arm.closeWindow
      ∧ ((unitAt .serviceRamp (r 0) 199).record 0).violations < (r 0).arm.maxViolations)
    ∧ ((r 0).arm.closeWindow ≤ 5 * ((unitAt .serviceRamp (r 0) 200).clk.sampleNo - 0))
    ∧ ((r 0).arm.openWindow ≤ 5 * ((unitAt .serviceRamp (r 0) 1000).clk.sampleNo - 0)) := by decide +kernel
theorem witness_ParkingRun :
    let o (n : Nat) := unitAt .parkOnset { armed with phase := .parkOnset, parkExpiries := n } 6000
    let r (n : Nat) := unitAt .parkRun { armed with phase := .parkRun, parkRelease := n, held := some attempt } 6000
    ((o 0).run.phase = .parkOnset ∧ (o 0).run.arm.startWindow ≤ 5 * ((o 0).clk.sampleNo - (o 0).run.waitRef)
      ∧ (o 0).run.axle < (o 0).tab.records.length ∧ (o 0).run.parkExpiries = 0)
    ∧ ((o 1).run.parkExpiries ≠ 0 ∧ (o 1).run.held = none ∧ (o 1).drv.state = .run ∧ isRunState (o 1).seq.state = true)
    ∧ ((r 41).run.phase = .parkRun ∧ 41 ≤ (r 41).run.parkRelease ∧ (r 41).drv.state = .run
      ∧ isRunState (r 41).seq.state = true ∧ (r 41).run.held = some attempt)
    ∧ ((r 40).run.parkRelease < 41 ∧ 30000 ≤ 5 * ((r 40).clk.sampleNo - (r 40).run.parkOnset)) := by decide +kernel
theorem witness_DriveStopEndsTheAttempt : let s := running .serviceRun { armed with phase := .serviceRun }
    inAttemptPart s.run.phase = true ∧ StopReason.slipL ≠ .laneReset ∧ s.run.axle < s.tab.records.length
    ∧ isRunState s.seq.state = true := by decide +kernel

/-- The plate under a running plan: crossing state, plate count, and the length of the plate. -/
def plateState (c : Crossing) (count : Nat) (l : Option Nat) : State :=
  (planned .approach).setTab { planTable with plateCount := count } |>.setPlate ⟨c, 31, true, 0, l⟩

theorem witness_PlateCrossings : let i := settling .plateIn false
    let o := settling .plateOut false
    let f := o (plateState .forwardOn 0 (some 400))
    let r := i (plateState .reverseOn 1 (some 1500))
    ((i (plateState .idle 0 none)).eng.inputs.length = 11 ∧ (i (plateState .idle 0 none)).planRuns = true
      ∧ Memory.wf (i (plateState .idle 0 none)).mem ∧ (i (plateState .idle 0 none)).settlesOn .plateIn = true
      ∧ (i (plateState .idle 0 none)).settlesOn .plateOut = false
      ∧ (i (plateState .idle 0 none)).plate.crossing = .idle)
    ∧ ((o (plateState .idle 0 none)).settlesOn .plateOut = true ∧ (o (plateState .idle 0 none)).settlesOn .plateIn = false)
    ∧ ((i (o (plateState .idle 0 none))).settlesOn .plateOut = true ∧ (i (o (plateState .idle 0 none))).settlesOn .plateIn = true)
    ∧ (f.settlesOn .plateOut = true ∧ f.plate.crossing = .forwardOn ∧ f.tab.plateCount < f.tab.axleCount
      ∧ f.plate.length = some 400)
    ∧ ((o (plateState .forwardOn 0 none)).plate.length = none ∧ (plateState .forwardOn 1 none).tab.axleCount ≤ 1)
    ∧ (r.settlesOn .plateIn = true ∧ r.plate.crossing = .reverseOn ∧ ¬ (r.seat.seated = true ∧ 1 = r.tab.cursor + 1)
      ∧ 1 ≤ r.tab.plateCount ∧ r.tab.plateCount ≤ r.tab.axleCount)
    ∧ ((seatedLane r).seat.seated = true ∧ (seatedLane r).tab.plateCount = (seatedLane r).tab.cursor + 1)
    ∧ (plateState .reverseOn 0 none).tab.plateCount = 0
    ∧ (plateState .reverseOn 2 none).tab.axleCount < (plateState .reverseOn 2 none).tab.plateCount := by decide +kernel
theorem witness_CrossingTimeout : let f := (plateState .forwardOn 0 none).setClk ⟨2000, 0⟩
    let r := (plateState .reverseOn 1 none).setClk ⟨2000, 0⟩
    (10000 ≤ 5 * (f.clk.sampleNo - f.plate.ref) ∧ Memory.wf f.mem ∧ f.plate.crossing = .forwardOn
      ∧ f.settlesOn .plateOut = false ∧ f.tab.plateCount < f.tab.axleCount)
    ∧ (r.plate.crossing = .reverseOn ∧ r.settlesOn .plateIn = false ∧ r.tab.plateCount ≤ r.tab.axleCount) := by decide +kernel

/-- The power-on load about to read word k, its zero word read. -/
def loadState (k : Nat) (z : Option Int) (ms : Nat) : State :=
  ((State.reset.setNv { State.reset.nv with op := some (.loadWord k) }).setEng
    { State.reset.eng with loadZero := z }).setClk ⟨0, ms⟩

theorem witness_LoadReadsTheStoredRecords :
    ((loadState 0 none 20).nv.op = some (.loadWord 0) ∧ Memory.wf (loadState 0 none 20).mem ∧ 0 < 18 ∧ 0 % 2 = 0
      ∧ (loadState 0 none 20).nv.started + 20 ≤ (loadState 0 none 20).clk.ms)
    ∧ readResult ((loadState 0 none 0).nv.store.loadWordAt 0) .clean = .good 0
    ∧ readResult ((loadState 0 none 0).nv.store.loadWordAt 0) .single = .corrected 0
    ∧ (readResult ((loadState 0 none 0).nv.store.loadWordAt 0) .double).word? = none
    ∧ ((loadState 17 (some 8191) 0).nv.op = some (.loadWord 17) ∧ 17 % 2 = 1
      ∧ (loadState 17 (some 8191) 0).eng.loadZero = some 8191
      ∧ (readResult ((loadState 17 (some 8191) 0).nv.store.loadWordAt 17) .clean).word? = some 0x1000)
    ∧ (loadState 17 (some 8192) 0).eng.loadZero = some 8192
    ∧ ((loadState 18 none 0).nv.op = some (.loadWord 18)
      ∧ (readResult ((loadState 18 none 0).nv.store.loadWordAt 18) .clean).word? = some 1000) := by decide +kernel

/-- A CALIBRATE write of the last channel in flight, or any other operation of the port, at its 20 ms limit. -/
def writeState (op : NvOp) (s : State) : State := (s.setNv { s.nv with op := some op }).setClk ⟨0, 20⟩

theorem witness_NvWritesEnd : let s := writeState (.calWrite 8 8191 1) calibrateState
    (s.nv.op = some (.calWrite 8 8191 1) ∧ s.eng.calib = some ⟨0, 8, 8191, 1, false⟩ ∧ s.slots.length = 16
      ∧ 8 < s.eng.cals.length ∧ 8 < s.eng.chans.length ∧ Memory.wf s.mem ∧ s.nv.started + 20 ≤ s.clk.ms)
    ∧ (NvCut.mk .done .kept).second ≠ .done
    ∧ (writeState (.brokenCal 8 0 1) base).nv.op = some (.brokenCal 8 0 1)
    ∧ (writeState (.brokenCounter 1) base).nv.op = some (.brokenCounter 1) := by decide +kernel
theorem witness_CounterReadEnds : let s := writeState .counterRead (composeState .reading)
    let full := s.setNv { s.nv with store := { s.nv.store with counterHigh := .clean 0xFFFF, counterLow := .clean 0xFFFF } }
    let word (st : State) := (readResult st.nv.store.counterHigh .clean).word?.bind
      (fun h => (readResult st.nv.store.counterLow .clean).word?.map (fun l => 65536 * h.toNat + l.toNat))
    (s.nv.op = some .counterRead ∧ s.comp.op = some ⟨0, 3, .reading, false, false⟩ ∧ 3 < s.comp.records.length
      ∧ s.slots.length = 16 ∧ Memory.wf s.mem ∧ s.nv.started + 20 ≤ s.clk.ms)
    ∧ word s = some 0 ∧ word full = some 4294967295
    ∧ (readResult s.nv.store.counterHigh .silent).word? = none
    ∧ (s.setComp { s.comp with op := some ⟨0, 3, .reading, true, false⟩ }).comp.op.map (·.aborted) = some true := by decide +kernel
theorem witness_CounterWriteEnds : let s := writeState (.counterWrite 4294967295) (composeState (.writing 4294967295))
    s.nv.op = some (.counterWrite 4294967295) ∧ s.comp.op = some ⟨0, 3, .writing 4294967295, false, false⟩
    ∧ 3 < s.comp.records.length ∧ s.slots.length = 16 ∧ Memory.wf s.mem ∧ (4294967295 : Nat) ≤ 4294967295
    ∧ (NvCut.mk .kept .kept).first ≠ .done ∧ s.nv.started + 20 ≤ s.clk.ms := by decide +kernel
theorem witness_DisplayLinkSendsFrames : let s := base.setDisp { base.disp with refresh := some 0, repeatMark := some 0 }
    let b := base.setDisp { base.disp with sending := some ⟨19, [1]⟩, waiting := some ⟨16, [2]⟩, refresh := some 0 }
    s.expired s.disp.refresh = true ∧ s.disp.sending = none ∧ s.expired s.disp.repeatMark = true
    ∧ b.disp.sending = some ⟨19, [1]⟩ ∧ b.disp.waiting = some ⟨16, [2]⟩ ∧ b.expired b.disp.refresh = true
    ∧ (b.setDisp { b.disp with waiting := none }).disp.waiting = none ∧ Memory.wf s.mem ∧ Memory.wf b.mem := by decide +kernel

/-- The printer link with a job, a frame on the line, its timers run out, and n replies missed. -/
def linkState (l : LinkState) (w : Option WireFrame) (n : Nat) (cancel : Bool) : State :=
  let s := printingIn l { job .printing with cancelMark := cancel }
  s.setPrn { s.prn with wire := w, replyTimer := some 0, pollTimer := some 0, busyTimer := some 0, noReplies := n }

theorem witness_PrinterFramesAndTimers : let s := linkState .waitReply none 1 false
    ((linkState .sending (some (.line [1])) 0 false).prn.wire = some (.line [1])
      ∧ (linkState .sending (some (.line [1])) 0 false).prn.link = .sending)
    ∧ (linkState .offline (some (.poll [1])) 0 false).prn.wire = some (.poll [1])
    ∧ (linkState .offline none 0 false).expired (some 0) = true
    ∧ (s.prn.link = .waitReply ∧ s.expired s.prn.replyTimer = true ∧ s.prn.jobs = [job .printing] ∧ s.prn.cancelLine = false
      ∧ s.slots.length = 16 ∧ Memory.wf s.mem ∧ s.prn.noReplies + 1 < 3)
    ∧ 3 ≤ (linkState .waitReply none 2 false).prn.noReplies + 1
    ∧ ((linkState .sending none 0 false).expired (linkState .sending none 0 false).prn.busyTimer = true
      ∧ (linkState .sending none 0 false).prn.jobs.map (·.cancelMark) = [false])
    ∧ (linkState .sending none 0 true).prn.jobs.map (·.cancelMark) = [true] := by decide +kernel

/-- The line before a job's last, and its last, of a certificate of one axle (12 lines, R184). -/
def lineState (taken : Nat) : State := printingIn .waitReply { job .printing with linesTaken := taken }

theorem witness_PrinterReplies : (base.prn.link ≠ .waitReply ∧ base.prn.pollWindow = false)
    ∧ ((lineState 10).prn.link = .waitReply ∧ (lineState 10).prn.cancelLine = false ∧ (lineState 10).slots.length = 16
      ∧ (lineState 10).comp.records.length = 4 ∧ Memory.wf (lineState 10).mem
      ∧ 10 + 1 < 10 + 2 * ((lineState 10).cert 0).axleCount)
    ∧ 10 + 2 * ((lineState 11).cert 0).axleCount ≤ 11 + 1
    ∧ ((lineState 0).prn.crcResends < 2 ∧ (job .printing).noRetry = false)
    ∧ 2 ≤ ((lineState 0).setPrn { (lineState 0).prn with crcResends := 2 }).prn.crcResends
    ∧ ((0x12 : Byte) ≠ 0x10 ∧ (0x12 : Byte) ≠ 0x11 ∧ (0x12 : Byte) ≠ 0x13 ∧ (0x12 : Byte) ≠ 0x14)
    ∧ (base.prn.link = .offline ∧ (base.setPrn { base.prn with pollWindow := true }).prn.pollWindow = true
      ∧ base.prn.jobs = [] ∧ Memory.wf base.mem) := by decide +kernel

/-! ### The invariants, and a step from a state in which they hold -/

theorem witness_JournalLawIsKept : JournalLaw State.reset.jr ∧ ∃ t, step State.reset = .next t :=
  ⟨by unfold JournalLaw; decide, ⟨_, rfl⟩⟩
theorem witness_DriveSafetyIsKept : DriveSafe (driving .run (seatedLane base))
    ∧ ∃ t, step ((driving .run (seatedLane base)).setPending [.slipStop]) = .next t :=
  ⟨by unfold DriveSafe; decide +kernel, ⟨_, rfl⟩⟩
theorem witness_CertificateNumbersOnlyRise :
    let s := writeState (.counterWrite 1) (composeState (.writing 1))
    (s.nv.op.bind NvOp.counterValue? = some 1 ∧ 1 ≤ counterMax ∧ s.nv.store.counter? = some 0
      ∧ s.nv.waiting.bind NvOp.counterValue? = none ∧ s.comp.lastIssued = 0)
    ∧ ∃ t, step (s.setPending [.counterWriteDone ⟨.done, .done⟩ true]) = .next t :=
  ⟨by decide +kernel, ⟨_, rfl⟩⟩
theorem witness_HeaderImageIsKept : HeaderLaw State.reset ∧ ∀ cut rest, State.reset.pending ≠ .powerOn cut :: rest :=
  ⟨by unfold HeaderLaw; decide +kernel, by intro cut rest h; cases h⟩
theorem witness_AttemptLawIsKept : AttemptLaw (tableWith [attempt, attempt, attempt] .done false) := by
  unfold AttemptLaw; decide +kernel
theorem witness_ShapeLaw : (composeState .reading).comp.op.map (·.target) = some 3 ∧ ShapeLaw (composeState .reading) := by
  unfold ShapeLaw
  decide +kernel


/-! ### The clauses that speak of a sample, of a key, of a late report, of a cancelled job -/

/-- All levels INACTIVE, no pulses, torques and loads as given. -/
def reading (tq ld : Word) : SampleInput :=
  ⟨⟨tq, 0, ld, ld, 0, 0, 0, 0, 0⟩, ⟨false, false, false, false, false, false, false, false, false, false, false⟩, ⟨0, 0, 0, 0⟩⟩

/-- One channel flag, its condition gone. -/
def oneFlag : State :=
  posted 1 [] (base.setEng { base.eng with faults := noFaults :: ⟨true, false, false⟩ :: List.replicate 9 noFaults })

theorem witness_ClearFaults_entries :
    let gone (i k : Nat) : Bool :=
      if k = 0 then (oneFlag.faultsOf i).overRange && !atLimit (oneFlag.eng.chans.getD i noChannel).raw
      else if k = 1 then (oneFlag.faultsOf i).openWire && decide (-1000 ≤ (oneFlag.eng.chans.getD i noChannel).raw)
      else (oneFlag.faultsOf i).noPulse && (oneFlag.drv.state != .run
        || oneFlag.eng.lastPd.any (fun pd => decide (0 < if i = 9 then pd.1 else pd.2)))
    Takes oneFlag 0 1 ∧ oneFlag.slots.length = 16 ∧ oneFlag.eng.faults.length = 11 ∧ Memory.wf oneFlag.mem
    ∧ oneFlag.drv.state ≠ .lockout ∧ oneFlag.jr.blocks = false
    ∧ (∀ j, j < 11 → ∀ m, m < 3 → (gone j m = true ↔ j = 1 ∧ m = 0)) := by unfold Takes; decide +kernel

/-- A plan record whose first field out of range is the one a word makes so. -/
def planWith (l : List (Nat × Nat)) : Plan := readPlan (words (planWords ++ l) base).mem

theorem witness_RunPlan_fields :
    ((planWith []).vehicle.takeWhile (fun b => b != 0) = [0x58] ∧ (planWith []).limitsRow = 0 ∧ (planWith []).axleCount = 1
      ∧ (planWith []).slipLimit = 0 ∧ (planWith []).startWindow = 30000 ∧ (planWith []).closeWindow = 1000
      ∧ (planWith []).openWindow = 5000 ∧ (planWith []).holdTime = 2000 ∧ (planWith []).maxViolations = 3
      ∧ ((planWith []).axles.take 1) = [⟨5, 0, 0, 0, 0, 0, 0⟩])
    ∧ ((planWith [(0x61C, 9)]).slipLimit = 9 ∧ (planWith [(0x61C, 9)]).firstBad = some 5)
    ∧ ((planWith [(0x622, 20000), (0x620, 5000)]).firstBad = none)
    ∧ ((planWith [(0x628, 32)]).axles.take 1 = [⟨32, 0, 0, 0, 0, 0, 0⟩] ∧ (planWith [(0x628, 32)]).firstBad = some 17)
    ∧ (planWith [(0x62A, 1), (0x62C, 4), (0x62E, 200), (0x630, 300), (0x634, 8000)]).firstBad = none
    ∧ (planWith [(0x62A, 1), (0x62C, 4), (0x62E, 200), (0x630, 299)]).firstBad = some 21 := by decide +kernel

/-- Record 0 ISSUED, its state word rewritten to ARCHIVED by the host. -/
def archivedByHost : State := words [(0x1A40, 3)] (base.setComp { base.comp with records := base.comp.records.set 0 cert })

theorem witness_ComposeRefusedOrTaken_state_read : let s := posted 8 [1] archivedByHost
    Takes s 0 8 ∧ s.slots.length = 16 ∧ s.comp.records.length = 4 ∧ Memory.wf s.mem ∧ s.kindActive .compose = false
    ∧ (s.cert 0).state = .issued ∧ Memory.readWord s.mem (certBase 0) = 3
    ∧ ((after (exec .compose s)).cert 0).state = .archived ∧ (after (exec .compose s)).held 0 ≠ .active .compose := by
  unfold Takes; decide +kernel
theorem witness_PrintRefusedOrQueued_state_read : let s := posted 9 [1, 0] archivedByHost
    Takes s 0 9 ∧ s.slots.length = 16 ∧ s.comp.records.length = 4 ∧ Memory.wf s.mem
    ∧ (s.cert 0).state = .issued ∧ Memory.readWord s.mem (certBase 0) = 3
    ∧ ((after (exec .print s)).cert 0).state = .archived := by unfold Takes; decide +kernel

/-- An axle on the rollers, the last beam seen, drive and sequencer as given. -/
def axleOn (b : Option Beam) (d : DriveState) (q : SeqState) : State :=
  let s := driving d (inSeq q base)
  (s.setDrv { s.drv with owner := some .sequencer }).setSeat
    { base.seat with seated := true, active := false, restart := .none, exitWindow := none, lastBeam := b }

theorem witness_SampleConvertsAndDebounces_unseated : let s := axleOn none .off .idle
    (s.quiet = true ∧ s.eng.started = true ∧ s.eng.loading = false ∧ s.eng.inputs.length = 11 ∧ s.eng.faults.length = 11
      ∧ s.seat.seated = true ∧ s.seat.active = false ∧ s.seat.restart = .none ∧ s.seat.exitWindow = none ∧ s.eng.capture = none
      ∧ s.run.phase = .idle ∧ Memory.wf s.mem
      ∧ (∀ i ∈ [Input.beamR, .beamF, .estop, .presence, .key],
        (levelList (reading 0 99).levels).getD (inputIndex i) false = s.level i))
    ∧ ((after (exec (.sample (reading 0 100)) s)).filtered 2 = 100 ∧ (after (exec (.sample (reading 0 100)) s)).filtered 3 = 100)
    ∧ ((after (exec (.sample (reading 0 99)) s)).filtered 2 = 99 ∧ isPlanState s.seq.state = false
      ∧ isSpinning s.drv.state = false ∧ s.jr.blocks = false
      ∧ (after (exec (.sample (reading 0 99)) s)).eng.faults = s.eng.faults)
    ∧ ((axleOn (some .front) .off .idle).seat.lastBeam = some .front ∧ (axleOn (some .rear) .off .idle).seat.lastBeam = some .rear
      ∧ (axleOn (some .rear) .off .idle).quiet = true) := by decide +kernel
theorem witness_SampleConvertsAndDebounces_spinning : let s := axleOn none .spinup .spinup
    let w := axleOn none .off .weigh
    (s.quiet = true ∧ isSpinning s.drv.state = true ∧ s.drv.owner = some .sequencer ∧ s.seq.state = .spinup)
    ∧ (w.quiet = true ∧ w.seq.state = .weigh ∧ w.seat.lastBeam = none ∧ w.seq.heldExit = .none) := by decide +kernel
theorem witness_SampleConvertsAndDebounces_tracker_starts :
    let s := base.setSeat { base.seat with seated := false, restart := .atSample }
    s.quiet = true ∧ s.eng.started = true ∧ s.eng.loading = false ∧ s.eng.inputs.length = 11 ∧ s.eng.faults.length = 11
    ∧ s.seat.seated = false ∧ s.seat.restart ≠ .none := by decide +kernel

/-- A key that settles PRESSED, one axle on the rollers under a plan. -/
def keyAt (i : Input) (q : SeqState) : State := settling i false (seatedLane (planned q))

theorem witness_SettledChangeOfAnInput_review : let s := keyAt .ok .review
    let r := keyAt .retry .review
    (s.eng.inputs.length = 11 ∧ s.settles .ok = true ∧ s.level .ok = false ∧ s.seq.state = .review ∧ s.seat.seated = true)
    ∧ (r.settles .retry = true ∧ r.level .retry = false ∧ r.seq.state = .review ∧ Memory.wf r.mem
      ∧ (r.planAxle r.tab.cursor).tests.getLsbD 2 = true
      ∧ (r.record r.tab.cursor).violations < r.tab.plan.maxViolations.toNat ∧ r.run.phase = .idle ∧ r.drv.state = .off
      ∧ r.eng.mode = .normal ∧ r.level .estop = false ∧ r.level .presence = false ∧ r.seat.seated = true)
    ∧ (driving .stopping r).drv.state = .stopping
    ∧ ((r.setTab (tableWith [] .done false)).planAxle 7).tests.getLsbD 1 = false := by decide +kernel
theorem witness_SettledChangeOfAnInput_pause_and_skip : let s := keyAt .skip .weigh
    let p := settling .pause false (running .parkRun { armed with phase := .parkRun })
    (s.eng.inputs.length = 11 ∧ s.settles .skip = true ∧ s.level .skip = false ∧ isWorkState s.seq.state = true
      ∧ s.seat.seated = true ∧ s.run.axle < s.tab.records.length ∧ s.tab.cursor < s.tab.records.length
      ∧ s.run.phase = .idle ∧ isSpinning s.drv.state = false)
    ∧ (p.settles .pause = true ∧ p.level .pause = false ∧ isWorkState p.seq.state = true ∧ p.seat.seated = true
      ∧ isSpinning p.drv.state = true ∧ p.run.phase = .parkRun)
    ∧ inAttemptPart (running .serviceRun { armed with phase := .serviceRun }).run.phase = true
    ∧ (running .parkOnset { armed with phase := .parkOnset }).run.phase = .parkOnset := by decide +kernel
theorem witness_SettledChangeOfAnInput_paused : let s := keyAt .pause .paused
    let u := settling .pause false (planned .paused)
    (s.eng.inputs.length = 11 ∧ s.settles .pause = true ∧ s.level .pause = false ∧ s.seq.state = .paused
      ∧ s.tab.cursor < s.tab.records.length ∧ s.slots.length = 16 ∧ Memory.wf s.mem ∧ s.seat.seated = true)
    ∧ (u.seat.seated = false ∧ u.seq.heldExit ≠ .forward
      ∧ (u.setSeq { u.seq with heldExit := .forward }).seq.heldExit = .forward) := by decide +kernel
theorem witness_SeatedReport_plate_missed : let s := seating none (planned .exitWait)
    s.seat.seated = false ∧ 101 ≤ s.seat.qualify ∧ s.seat.exitWindow = none ∧ Memory.wf s.mem ∧ s.planRuns = true
    ∧ s.tab.cursor < s.tab.axleCount ∧ s.tab.axleCount ≤ 8 ∧ s.tab.records.length = 8 ∧ s.tab.plateCount = 0
    ∧ s.seq.state = .exitWait ∧ s.jr.count + 2 + 0 ≤ 128
    ∧ (s.setJr { s.jr with put := 126 }).jr.count + 2 + 0 ≤ 128 := by decide +kernel
theorem witness_SeatedReport_plate_missed_elsewhere : let s (q : SeqState) := seating (some 599) (planned q)
    ((s .approach).planRuns = true ∧ (seating none (planned .paused)).planRuns = true ∧ (s .paused).planRuns = true)
    ∧ ((s .exitWait).planRuns = true ∧ (s .exitWait).seat.exitWindow ≠ none ∧ (s .exitWait).tab.records.length = 8
      ∧ ((s .exitWait).setJr { (s .exitWait).jr with put := 124 }).jr.count + 2 + 2 + 0 ≤ 128) := by decide +kernel
theorem witness_BeamsDecideExitsAndPasses_planned :
    let f (r : BeamRecord) := settling .beamF false ((planned .approach).setSeat
      { base.seat with seated := false, active := true, exitWindow := none, record := r })
    let x (i : Input) := settling i false ((planned .exitWait).setSeat { base.seat with seated := false, exitWindow := some 599 })
    ((f (.rearOpen true false)).eng.inputs.length = 11 ∧ (f (.rearOpen true false)).seat.seated = false
      ∧ Memory.wf (f (.rearOpen true false)).mem ∧ (f (.rearOpen true false)).slots.length = 16
      ∧ (f (.rearOpen true false)).tab.cursor < (f (.rearOpen true false)).tab.records.length
      ∧ (f (.rearOpen true false)).seq.state = .approach ∧ (f (.rearOpen true false)).settlesOn .beamF = true
      ∧ (f (.rearOpen true false)).settlesOn .beamR = false
      ∧ (f (.rearOpen true false)).tab.axleCount ≤ (f (.rearOpen true false)).tab.cursor + 1
      ∧ (f (.rearOpen true false)).activeSlot .runPlan = some 0)
    ∧ ((settling .beamR false ((planned .approach).setSeat
        { base.seat with active := true, record := .frontOpen true })).settlesOn .beamR = true)
    ∧ ((x .beamF).seq.state = .exitWait ∧ (x .beamF).seat.exitWindow = some 599 ∧ (x .beamF).settlesOn .beamF = true
      ∧ (x .beamF).settlesOn .beamR = false)
    ∧ ((x .beamR).settlesOn .beamR = true ∧ (x .beamR).settlesOn .beamF = false) := by decide +kernel
theorem witness_SlipWindowEnd_run_begins :
    let s := (driving .spinup (running .spinup armed)).setEng { base.eng with windowSamples := 10, pulses := ⟨60, 60, 0, 0⟩ };
    (10 ≤ s.eng.windowSamples) ∧ s.drv.state = .spinup ∧ 60 ≤ s.eng.pulses.spdL ∧ 60 ≤ s.eng.pulses.spdR
    ∧ s.drv.owner = some .sequencer ∧ s.seq.state = .spinup ∧ s.run.phase = .armed ∧ s.run.runs ≠ ⟨false, false, false⟩ := by
  decide +kernel
theorem witness_WeighWindowEnd_unstable : let s := weighState (weighAt 1200 21) .weigh
    let e := (weighState (weighAt 1200 21) .weigh).setTab (AxleTable.emptied 0)
    (s.weigh = some (weighAt 1200 21) ∧ (weighAt 1200 21).count % 200 = 0 ∧ Memory.wf s.mem ∧ s.seq.state = .weigh
      ∧ (s.planAxle s.tab.cursor).runs ≠ ⟨false, false, false⟩ ∧ s.run.phase = .idle ∧ s.jr.blocks = false)
    ∧ (e.seq.state = .weigh ∧ (e.planAxle e.tab.cursor).runs = ⟨false, false, false⟩ ∧ e.seat.seated = true
      ∧ (weighAt 1200 21).axle < e.tab.records.length)
    ∧ (weighState (weighAt 1200 21) .exitWait).seq.state ≠ .weigh := by decide +kernel

/-- A run in progress at sample n with both sides loaded, so that the axle stays seated, and a filtered force of f on the left. -/
def runAt (q : SeqState) (r : RunUnit) (n : Nat) : State := unitAt q { r with waitRef := n } n

/-- The sum of the filtered forces after a sample. -/
def force (s : State) (tq : Word) : Int := let t := after (exec (.sample (reading tq 500)) s); t.filtered 0 + t.filtered 1

theorem witness_OvalityHoldIsTimedAndJudged_samples :
    let o (st : OvalityStep) (mark : Bool) := runAt .ovality { armed with
      phase := .ovality, step := st, releaseMark := mark, runs := ⟨true, true, false⟩, ovalityOnset := 500, holdRef := 500 } 500
    let p := runAt .ovality { armed with
      phase := .ovality, step := .releaseWait, runs := ⟨true, false, false⟩, ovalityOnset := 500, holdRef := 500 } 500
    ((o .onsetWait true).quiet = true ∧ (o .onsetWait true).eng.started = true ∧ (o .onsetWait true).eng.loading = false
      ∧ (o .onsetWait true).eng.inputs.length = 11 ∧ (o .onsetWait true).eng.faults.length = 11
      ∧ isRunState (o .onsetWait true).seq.state = true ∧ (o .onsetWait true).run.phase = .ovality
      ∧ (o .onsetWait true).run.axle < (o .onsetWait true).tab.records.length
      ∧ 100 ≤ (after (exec (.sample (reading 30 500)) (o .onsetWait true))).filtered 2
      ∧ 100 ≤ (after (exec (.sample (reading 30 500)) (o .onsetWait true))).filtered 3
      ∧ force (o .onsetWait true) 30 = 30)
    ∧ ((o .onsetWait false).run.releaseMark = false ∧ force (o .onsetWait true) 29 = 29)
    ∧ ((o .hold false).quiet = true ∧ (o .hold false).run.step ≠ .onsetWait ∧ force (o .hold false) 30 = 30
      ∧ force (o .hold false) 29 = 29 ∧ (o .hold false).run.runs.service = true)
    ∧ (p.quiet = true ∧ p.run.runs.service = false ∧ p.run.runs.parking = false ∧ p.drv.state = .run ∧ force p 29 = 29) := by
  decide +kernel
theorem witness_OvalityHoldIsTimedAndJudged_parking :
    let p (st : OvalityStep) := runAt .ovality { armed with
      phase := .ovality, step := st, runs := ⟨true, false, true⟩, ovalityOnset := 500, holdRef := 500 } 500
    ((p .hold).quiet = true ∧ (p .hold).run.runs.service = false ∧ (p .hold).run.runs.parking = true ∧ force (p .hold) 29 = 29)
    ∧ ((p .releaseWait).quiet = true ∧ force (p .releaseWait) 29 = 29) := by decide +kernel
theorem witness_RampIsJudged_entry : let r : RunUnit := { armed with phase := .serviceRamp, rampMark := 30, serviceOnset := 500 }
    let s := runAt .serviceRamp r 500
    let f := unitAt .serviceRamp { r with rampMark := 0, serviceOnset := 1000 } 1000
    (s.quiet = true ∧ s.seq.state = .serviceRamp ∧ force s 30 = 30 ∧ 5 * (s.clk.sampleNo + 1 - s.run.serviceOnset) < s.run.arm.closeWindow
      ∧ (s.record s.run.axle).violations < s.run.arm.maxViolations ∧ Memory.wf s.mem ∧ s.jr.count + 0 < 128
      ∧ (after (exec (.sample (reading 30 500)) s)).eng.faults = s.eng.faults)
    ∧ (f.run.rampMark ≤ f.filtered 0 + f.filtered 1 ∧ 5 * (f.clk.sampleNo - f.run.serviceOnset) < f.run.arm.closeWindow
      ∧ (f.record f.run.axle).violations < f.run.arm.maxViolations ∧ Memory.wf f.mem ∧ f.jr.blocks = false) := by decide +kernel
theorem witness_RampIsJudged_boundaries : let r : RunUnit := { armed with phase := .serviceRamp, rampMark := 0 }
    ((unitAt .serviceRamp r 1000).run.rampMark ≤ (unitAt .serviceRamp r 1000).filtered 0 + (unitAt .serviceRamp r 1000).filtered 1
      ∧ r.arm.closeWindow ≤ 5 * ((unitAt .serviceRamp r 1000).clk.sampleNo - r.serviceOnset)
      ∧ 5 * ((unitAt .serviceRamp r 1000).clk.sampleNo - r.serviceOnset) ≤ r.arm.openWindow)
    ∧ (let w := unitAt .serviceRamp { r with rampMark := 1 } 1000
      w.filtered 0 + w.filtered 1 < w.run.rampMark ∧ w.run.arm.openWindow ≤ 5 * (w.clk.sampleNo - w.run.serviceOnset)
        ∧ w.run.axle < w.tab.records.length ∧ isRunState w.seq.state = true) := by decide +kernel
theorem witness_RampIsJudged_samples :
    let w (mark : Bool) := runAt .serviceOnset { armed with phase := .serviceOnset, releaseMark := mark } 500
    let r (n : Nat) := runAt .serviceRamp { armed with phase := .serviceRamp, rampMark := 200 } n
    let e := runAt .serviceRun { armed with phase := .serviceRun, releaseCount := 39, serviceOnset := 500 } 500
    ((w true).quiet = true ∧ (w true).eng.inputs.length = 11 ∧ (w true).eng.faults.length = 11
      ∧ isRunState (w true).seq.state = true ∧ (w true).run.axle < (w true).tab.records.length
      ∧ (w true).run.releaseMark = true ∧ force (w true) 30 = 30 ∧ force (w true) 500 = 500)
    ∧ ((w false).run.releaseMark = false ∧ (w false).quiet = true ∧ force (w true) 29 = 29)
    ∧ ((r 198).quiet = true ∧ (r 198).seq.state = .serviceRamp ∧ force (r 198) 199 = 199 ∧ force (r 198) 200 = 200
      ∧ 5 * ((r 198).clk.sampleNo + 1 - (r 198).run.serviceOnset) < (r 198).run.arm.closeWindow
      ∧ (r 198).run.arm.closeWindow ≤ 5 * ((r 199).clk.sampleNo + 1 - (r 199).run.serviceOnset)
      ∧ 5 * ((r 999).clk.sampleNo + 1 - (r 999).run.serviceOnset) ≤ (r 999).run.arm.openWindow ∧ (r 999).quiet = true)
    ∧ (e.quiet = true ∧ e.run.phase = .serviceRun ∧ force e 29 = 29) := by decide +kernel
theorem witness_ParkingRun_held_attempt :
    let s := unitAt .parkOnset { armed with phase := .parkOnset, parkExpiries := 1, held := some attempt } 6000
    s.run.arm.startWindow ≤ 5 * (s.clk.sampleNo - s.run.waitRef) ∧ s.run.parkExpiries ≠ 0 ∧ s.run.held = some attempt
    ∧ s.drv.state = .run ∧ isRunState s.seq.state = true := by decide +kernel
theorem witness_ParkingRun_samples :
    let o (mark : Bool) := runAt .parkOnset { armed with phase := .parkOnset, releaseMark := mark } 500
    let p := runAt .parkRun { armed with phase := .parkRun, parkOnset := 500, parkRelease := 39 } 500
    ((o true).quiet = true ∧ (o true).run.phase = .parkOnset ∧ isRunState (o true).seq.state = true ∧ force (o true) 30 = 30
      ∧ 100 ≤ (after (exec (.sample (reading 30 500)) (o true))).filtered 2)
    ∧ ((o false).quiet = true ∧ (o false).run.releaseMark = false ∧ force (o true) 29 = 29)
    ∧ (p.quiet = true ∧ p.run.phase = .parkRun ∧ force p 29 = 29) := by decide +kernel
theorem witness_PlateCrossings_followers : let f := settling .plateIn false (plateState .forwardOn 0 (some 400))
    let r := settling .plateOut false (plateState .reverseOn 1 (some 400))
    let b := settling .plateIn false (settling .plateOut false (plateState .forwardOn 0 (some 400)))
    (f.settlesOn .plateIn = true ∧ f.settlesOn .plateOut = false ∧ f.plate.crossing = .forwardOn)
    ∧ (r.settlesOn .plateOut = true ∧ r.settlesOn .plateIn = false ∧ r.plate.crossing = .reverseOn)
    ∧ (b.settlesOn .plateIn = true ∧ b.settlesOn .plateOut = true ∧ b.plate.crossing = .forwardOn) := by decide +kernel

/-- The clock of the NV port at its 20 ms limit and one millisecond past it. -/
theorem witness_nv_reports_in_time_and_late : let s := writeState (.calWrite 8 8191 1) calibrateState
    (s.clk.ms ≤ s.nv.started + 20 ∧ s.nv.started + 20 < (s.setClk ⟨0, 21⟩).clk.ms)
    ∧ ((loadState 0 none 20).clk.ms ≤ (loadState 0 none 20).nv.started + 20
      ∧ (loadState 0 none 21).nv.started + 20 < (loadState 0 none 21).clk.ms)
    ∧ ((writeState .counterRead (composeState .reading)).clk.ms ≤ (writeState .counterRead (composeState .reading)).nv.started + 20
      ∧ (writeState (.counterWrite 7) (composeState (.writing 7))).clk.ms
        ≤ (writeState (.counterWrite 7) (composeState (.writing 7))).nv.started + 20) := by decide +kernel
/-- R17: a report 21 ms after the start leaves the working record as it was and fails the request. -/
theorem test_calibrate_report_late : let s := (writeState (.calWrite 8 8191 1) calibrateState).setClk ⟨0, 21⟩
    let t := after (exec (.calibrateWriteDone ⟨.done, .done⟩ true) s)
    t.eng.cals = s.eng.cals ∧ Memory.readWord t.mem 0x208 = 6 := by decide +kernel
/-- R18: the millisecond that would pass the 20 ms limit of a broken-off write finds the port released. -/
theorem test_broken_write_releases_the_port : let s := writeState (.brokenCounter 1) serviceLane
    (after (exec .laneTimeTick s)).nv.op = none
    ∧ (after (exec .laneTimeTick (s.setClk ⟨0, 19⟩))).nv.op = some (.brokenCounter 1) := by decide +kernel
/-- R209: a SET_TIME to the value lane time has rewrites both its words in the header, over what the host wrote there. -/
theorem test_setTime_rewrites_the_header : Memory.readWords (after (exec .setTime
    (posted 3 [0, 0] (words [(0x00A, 7), (0x00C, 9)] base)))).mem 0x00A 2 = [0, 0] := by decide +kernel
/-- R122, R117: without a plate length the timeout of a forward crossing names axle 0. -/
theorem test_crossingTimeout_without_length :
    Memory.readWord (after (exec .crossingTimeout ((plateState .forwardOn 0 none).setClk ⟨2000, 0⟩))).mem 0x1244 = 0 := by
  decide +kernel
/-- R15, R22: KEY settling to LOCKED with the nine records VALID derives NORMAL, while the identity is still read as well; R149: a
RUN_PLAN is refused there (assumption 40). -/
theorem test_mode_while_loading : let s := base.setEng { base.eng with mode := .failsafe, loading := true }
    (after (exec (.settledChange .key) (settling .key true s))).eng.mode = .normal := by decide +kernel
theorem test_runPlan_while_loading : let s := base.setEng { base.eng with loading := true }
    (after (exec .runPlan (posted 6 [] (words planWords s)))).seq.state = .idle := by decide +kernel
/-- R191, R192: an ABORT of a QUEUED job leaves the reply timer of the PRINTING job as it is. -/
theorem test_abort_of_queued_job : let s := printingIn .waitReply (job .printing)
    let q := active 1 .print (s.setPrn { s.prn with
      jobs := [job .printing, { job .queued with slot := 1 }], replyTimer := some 500 })
    (after (exec (.abort 2) q)).prn.replyTimer = some 500 ∧ (after (exec (.abort 2) q)).prn.jobs = [job .printing] := by
  decide +kernel

theorem witness_PrinterFramesAndTimers_polls : let o := linkState .offline none 0 false
    let p (n : Nat) := linkState .pausedPaper none n false
    let openWindow (s : State) := s.setPrn { s.prn with pollWindow := true }
    ((openWindow o).prn.link = .offline ∧ (openWindow o).prn.pollWindow = true ∧ (openWindow o).expired (some 0) = true)
    ∧ ((openWindow (p 1)).prn.link = .pausedPaper ∧ (openWindow (p 1)).expired (openWindow (p 1)).prn.replyTimer = true
      ∧ (p 1).slots.length = 16 ∧ Memory.wf (p 1).mem ∧ (p 1).prn.noReplies + 1 < 3)
    ∧ (3 ≤ (p 2).prn.noReplies + 1 ∧ (p 2).prn.jobs = [job .printing] ∧ (job .printing).slot < 16)
    ∧ ((p 2).setPrn { (p 2).prn with jobs := [] }).prn.jobs = [] := by decide +kernel
/-- The link waits for the reply of a cancelled job's line, or of the CANCELLED line. -/
def cancelledState (taken : Nat) (sent : Bool) : State :=
  let s := printingIn .waitReply { job .printing with cancelMark := true, linesTaken := taken }
  s.setPrn { s.prn with cancelLine := sent }

theorem witness_PrinterReplies_cancelled :
    ((cancelledState 11 false).prn.link = .waitReply ∧ (cancelledState 11 false).prn.jobs.map (·.cancelMark) = [true]
      ∧ (cancelledState 11 false).slots.length = 16 ∧ (cancelledState 11 false).comp.records.length = 4
      ∧ Memory.wf (cancelledState 11 false).mem ∧ (cancelledState 11 false).prn.cancelLine = false
      ∧ 10 + 2 * ((cancelledState 11 false).cert 0).axleCount ≤ 11 + 1)
    ∧ 10 + 1 < 10 + 2 * ((cancelledState 10 false).cert 0).axleCount
    ∧ ((cancelledState 0 true).prn.cancelLine = true ∧ (cancelledState 0 true).prn.crcResends < 2) := by decide +kernel
theorem witness_PrinterReplies_paused : let s := printingIn .pausedPaper (job .printing)
    let p := s.setPrn { s.prn with pollWindow := true }
    p.prn.link = .pausedPaper ∧ p.prn.pollWindow = true ∧ p.slots.length = 16 ∧ Memory.wf p.mem ∧ p.prn.jobs = [job .printing]
    ∧ (p.setPrn { p.prn with jobs := [] }).prn.jobs = []
    ∧ cert.mass = none ∧ (5 + 2 * cert.axleCount : Nat) = 7 := by decide +kernel
/-! ### Clauses about repeated starts, stops of a parking run, the rest of a sample, and frames -/

/-- SPINUP after a refused start, an axle SEATED, the drive in OFF. -/
def refusedStart (r : StartRefusal) : State :=
  let s := seatedLane (planned .spinup)
  s.setSeq { s.seq with refusal := some r }

theorem witness_RunPlan_while_loading : let s := posted 6 [] (base.setEng { base.eng with loading := true })
    Takes s 0 6 ∧ s.slots.length = 16 ∧ Memory.wf s.mem ∧ s.kindActive .runPlan = false ∧ s.eng.mode = .normal
    ∧ s.eng.loading = true := by unfold Takes; decide +kernel
theorem witness_RunPlanOpensTheTable_load_ended : (posted 6 [] (words planWords base)).eng.loading = false := by decide +kernel
theorem witness_repeated_start_at_inputs : let p := settling .presence true (refusedStart .presence)
    let e := settling .estop true (refusedStart .estop)
    let a := settling .estop false (refusedStart .mode)
    (p.eng.inputs.length = 11 ∧ p.settles .presence = true ∧ isSpinning p.drv.state = false ∧ p.seq.state = .spinup
      ∧ p.seq.refusal ≠ none ∧ p.drv.state = .off ∧ p.eng.mode = .normal ∧ p.level .estop = false ∧ p.seat.seated = true)
    ∧ (e.settles .estop = true ∧ e.level .estop = true)
    ∧ (a.settles .estop = true ∧ a.level .estop = false ∧ a.drv.state = .off ∧ a.seq.state = .spinup ∧ a.seq.refusal ≠ none)
    ∧ (driving .lockout p).drv.state = .lockout ∧ (settling .presence false p).level .presence = false := by decide +kernel
theorem witness_KeySettles_repeated_start : let s := refusedStart .mode
    let k := settling .key true (s.setEng { s.eng with mode := .service })
    k.eng.mode ≠ .normal ∧ k.level .key = true ∧ k.eng.cals.any (fun c => c.valid == false) = false ∧ k.seq.state = .spinup
    ∧ k.seq.refusal ≠ none ∧ k.drv.state = .off ∧ k.level .estop = false ∧ k.level .presence = false ∧ k.seat.seated = true
    ∧ k.settles .key = true := by decide +kernel
theorem witness_SeatedReport_repeated_start : let s := seating none (refusedStart .notSeated)
    let u := s.setSeat { s.seat with seated := false }
    u.seat.seated = false ∧ 101 ≤ u.seat.qualify ∧ u.seat.exitWindow = none ∧ u.seq.state = .spinup ∧ u.seq.refusal ≠ none
    ∧ u.drv.state = .off ∧ u.eng.mode = .normal ∧ u.level .estop = false ∧ u.level .presence = false := by decide +kernel
theorem witness_SpindownIsLeftAtOff_repeated_start :
    let s (rest stop : Nat) (r : StopReason) := (refusedStart .notOff).setDrv (stopAt rest stop r none).drv
    ((s 2 0 .commanded).drv.state = .stopping ∧ (s 2 0 .commanded).seq.state = .spinup ∧ (s 2 0 .commanded).seq.refusal ≠ none
      ∧ (s 2 0 .commanded).dtest = none ∧ 2 ≤ (s 2 0 .commanded).drv.restCount
      ∧ (s 2 0 .commanded).drv.stopReason ≠ some .estop ∧ (s 2 0 .commanded).drv.estopSeen = false
      ∧ (s 2 0 .commanded).eng.mode = .normal ∧ (s 2 0 .commanded).seat.seated = true)
    ∧ (2 ≤ (s 2 0 .estop).drv.restCount ∧ (s 2 0 .estop).drv.stopReason = some .estop)
    ∧ ((s 1 160 .commanded).drv.restCount < 2 ∧ 160 ≤ (s 1 160 .commanded).drv.stopCount) := by decide +kernel
theorem witness_DriveStop_in_the_parking_run :
    let s (n : Nat) := unitAt .parkOnset { armed with phase := .parkOnset, held := some attempt, waitBegan := 7 } n
    let p := unitAt .parkRun { armed with phase := .parkRun } 9
    ((s 7).run.phase = .parkOnset ∧ StopReason.unseat ≠ .laneReset ∧ (s 7).run.axle < (s 7).tab.records.length
      ∧ isRunState (s 7).seq.state = true ∧ Memory.wf (s 7).mem ∧ (s 7).run.held ≠ none
      ∧ (s 7).run.waitBegan = (s 7).clk.sampleNo)
    ∧ (s 8).run.waitBegan ≠ (s 8).clk.sampleNo
    ∧ (p.run.phase = .parkRun ∧ p.run.held = none ∧ isRunState p.seq.state = true ∧ p.jr.blocks = false) := by decide +kernel
theorem witness_whole_words : (runAt .parkRun { armed with phase := .parkRun } 0).run.axle < 8 ∧ (weighAt 1200 0).axle < 8
    ∧ (plateState .forwardOn 0 (some 400)).tab.records.length = 8 ∧ (plateState .reverseOn 1 (some 400)).tab.plateCount - 1 < 8
    ∧ (composeState (.writing 7)).comp.op.any (fun c => decide (c.target < 4)) = true := by decide +kernel

/-- A capture with some samples in it. -/
def captureAt (n : Nat) : State := active 0 .zero (base.setEng { base.eng with capture := some ⟨0, n, [1, 2, 3, 4, 5]⟩ })

theorem witness_SampleConvertsAndDebounces_blocks :
    (base.slots.length = 16 ∧ Memory.wf base.mem ∧ base.seat.seated = false ∧ base.eng.capture = none ∧ base.run.phase = .idle
      ∧ base.jr.blocks = false)
    ∧ ((after (exec (.sample (reading 0 150)) base)).filtered 2 = 150 ∧ (after (exec (.sample (reading 0 149)) base)).filtered 3 = 149
      ∧ (after (exec (.sample (reading 0 150)) base)).levelNow .beamR = false)
    ∧ (∀ k, k < 9 → ((rawList (reading 32767 0).raws).getD k 0 = 32767 ↔ k = 0)) ∧ (base.faultsOf 0).overRange = false
    ∧ (∀ k, k < 9 → -1000 ≤ (rawList (reading 32767 0).raws).getD k 0)
    ∧ ((captureAt 198).quiet = true ∧ (captureAt 198).eng.capture = some ⟨0, 198, [1, 2, 3, 4, 5]⟩
      ∧ (captureAt 198).slots.length = 16 ∧ (captureAt 198).eng.started = true ∧ (captureAt 198).eng.loading = false)
    ∧ ((weighState (weighAt 199 0) .weigh).quiet = true ∧ (weighState (weighAt 199 0) .weigh).weigh = some (weighAt 199 0)
      ∧ (weighAt 200 0).count = 200) := by decide +kernel

/-- REVIEW of an axle with an attempt whose imbalance is above its limit. -/
def offerState (offer : RetestOffer) : State :=
  let s := discardState 1 (tableWith [attempt, { attempt with imbalance := some 1 }] .done false)
  s.setSeq { s.seq with state := .review, offer := offer }

theorem witness_DisplayLinkSendsFrames_events : let k := keyAt .ok .review
    let p := settling .presence true (refusedStart .presence)
    let d := offerState .offerRetest
    (k.eng.inputs.length = 11 ∧ k.settles .ok = true ∧ k.level .ok = false ∧ k.seq.state = .review ∧ k.seat.seated = true)
    ∧ (p.settles .presence = true ∧ p.seq.refusal = some .presence ∧ isSpinning p.drv.state = false)
    ∧ (Takes d 0 2 ∧ (d.param 0 0).toNat = d.tab.cursor + 1 ∧ d.tab.cursor < 8 ∧ d.tab.cursor < d.tab.records.length
      ∧ d.tab.certified = false ∧ d.kindActive .compose = false ∧ ((d.record 0).status = .inTest → d.drv.state = .off)
      ∧ ((d.record 0).attempts.getLast?).map (·.imbalance) = some (some 1) ∧ d.seq.state = .review
      ∧ d.slots.length = 16 ∧ Memory.wf d.mem) := by unfold Takes; decide +kernel
theorem witness_HeaderImageIsKept_images : let s := State.reset.setPending [.jack 0]
    (TableLaw s ∧ CertLaw s) ∧ ∃ t, step s = .next t :=
  ⟨by unfold TableLaw CertLaw; decide +kernel, ⟨_, rfl⟩⟩

/-! ### Words written whole, and what a frame shows -/

/-- R151, R163: a frame that waited behind one of the same message writes the header's word as it begins, over what the host wrote. -/
theorem test_frame_begins_writes_the_header : let d : Display := { base.disp with
      sending := some ⟨19, [1]⟩, waiting := some ⟨19, [2]⟩, lastMessage := 19 }
    Memory.readWord (after (exec .displayFrameSent (words [(0x006, 0x5555)] (base.setDisp d)))).mem 0x006 = 0x1301 := by decide +kernel
/-- R47, R92: a parking result is written whole, its words that stay 0 included. -/
theorem test_parking_written_whole : let s := unitAt .parkRun { armed with phase := .parkRun, parkRelease := 41 } 9
    Memory.readWords (after (exec .parkRelease (words [(0x0A14, 0x1234), (0x0A16, 0x4321)] s))).mem 0x0A14 2 = [0, 0] := by
  decide +kernel
/-- R47, R51: a second result equal to the first writes its two words. -/
theorem test_sideSlip_written_whole : let s := settling .plateOut false (plateState .forwardOn 0 (some 400))
    let r := s.setTab { s.tab with records := s.tab.records.set 0 { s.record 0 with sideSlip := ⟨some (-78), true, false, false⟩ } }
    Memory.readWords (after (exec (.settledChange .plateOut) (words [(0x0A0A, 9), (0x0A0C, 9)] r))).mem 0x0A0A 2
      = [signedWord (-78), 1] := by decide +kernel
/-- R47, R50: a change of status writes the skip reason's word as well. -/
theorem test_status_written_whole : Memory.readWords (after (exec .seated (words [(0x0A04, 5)] (seating none planStarts)))).mem
    0x0A00 3 = [2, 0, 0] := by decide +kernel
/-- R171, R178: what the issue writes of the certificate number are both its halves. -/
theorem test_number_written_whole : let s := base.setComp { base.comp with records := base.comp.records.set 3 { cert with number := 0x10007 } }
    Memory.readWords ((words [(0x2642, 3), (0x2644, 3)] s).rewriteNumber 3).mem 0x2642 2 = [7, 1] := by decide +kernel
/-- R154, R159, R160: the worked example of R154 in a service ramp: bars 60 and 57, forces 2410 and 2296 daN, no pressure channel. -/
theorem test_frame_shows_the_forces : let s := running .serviceRamp { armed with phase := .serviceRamp }
    let f := frameShown (s.setEng { s.eng with chans := (s.eng.chans.set 0 ⟨0, [], 2410⟩).set 1 ⟨0, [], 2296⟩ })
    f.message = 5 ∧ f.bytes.take 17
      = [0xA5, 15, 5, 1, 60, 57, 0, 3, 0x6A, 0x09, 1, 0xF8, 0x08, 1, 0, 0, 0] := by decide +kernel
/-- R159: PRESENCE in a run gives 17, a SPINUP refused NOT_OFF 2, and the order of the tests puts FAILSAFE before IDLE. -/
theorem test_messages : messageShown (settling .presence true (running .serviceRun armed)) = 17
    ∧ messageShown (refusedStart .notOff) = 2 ∧ messageShown (base.setEng { base.eng with mode := .failsafe }) = 16
    ∧ messageShown (offerState .offerRetest) = 11 := by decide +kernel
/-- R184: the certificate number has ten places on line 1 and on its own line, and a side-slip limit its sign. -/
theorem test_printed_widths : leastWidths .headingLine = [2, 10, 4] ∧ leastWidths .numberLine = [10]
    ∧ (leastWidths .limitsLine).drop 4 = [6, 6] ∧ (∀ k ∈ [LineKind.axleFirst, .axleSecond], (leastWidths k).sum ≤ 48) := by decide
/-- R47, R147: an abort writes the record that is IN_TEST or PENDING, and the host's words in the DONE record before it stay. -/
theorem test_abort_keeps_host_words : let s := planStarts.setTab { planTable with
      axleCount := 2, cursor := 1
      records := (planTable.records.set 0 (AxleRecord.cleared .done)).set 1 (AxleRecord.cleared .pending) }
    let t := after (exec (.abort 1) (words [(0x0A00, 9), (0x0A02, 9), (0x0A04, 9), (0x0B00, 9), (0x0B04, 9), (0x0B06, 9)] s))
    Memory.readWords t.mem 0x0A00 3 = [9, 9, 9] ∧ Memory.readWords t.mem 0x0B00 4 = [4, 1, 2, 9] := by decide +kernel
/-- R189, R193: a first sample that finds the link READY, after an early lane reset, sends no poll and runs no poll timer. -/
theorem test_first_sample_in_ready : (after (exec (.sample ⟨⟨0, 0, 0, 0, 0, 0, 0, 0, 0⟩,
    ⟨false, false, false, false, false, false, false, false, false, false, false⟩, ⟨0, 0, 0, 0⟩⟩) afterEarlyReset)).prn
      = afterEarlyReset.prn := by decide +kernel

/-! ### The words a fill writes, and the header's word behind an open exit window -/

/-- Record 3 is COMPOSING and clear, and the host has written over its state word, number, lane time, check word and print count. -/
def hostInRecord (op : NvOp) (st : ComposeStage) : State :=
  let s := writeState op (composeState st)
  words [(0x2640, 4), (0x2642, 5), (0x2644, 6), (0x2646, 9), (0x2880, 7), (0x2882, 8)]
    (s.setComp { s.comp with records := s.comp.records.set 3 (CertRecord.cleared .composing) })

/-- R171, R177: the fill writes the lane time and leaves the state word, the number, the check word and the print count. -/
theorem test_fill_keeps_host_words : let t := after (exec (.counterReadDone .clean .clean) (hostInRecord .counterRead .reading))
    Memory.readWords t.mem 0x2640 5 = [4, 5, 6, 0, 0] ∧ Memory.readWords t.mem 0x2880 2 = [7, 8] := by decide +kernel
/-- R178: a failed write clears what the fill wrote, and the state word reads EMPTY. -/
theorem test_failed_write_clears_the_fill :
    let t := after (exec (.counterWriteDone ⟨.kept, .kept⟩ true) (hostInRecord (.counterWrite 1) (.writing 1)))
    Memory.readWords t.mem 0x2640 5 = [0, 5, 6, 0, 0] ∧ Memory.readWords t.mem 0x2880 2 = [7, 8] := by decide +kernel
/-- R176: an unreadable counter makes the record EMPTY and writes no other word of it. -/
theorem test_failed_read_keeps_host_words :
    let t := after (exec (.counterReadDone .silent .clean) (hostInRecord .counterRead .reading))
    Memory.readWords t.mem 0x2640 4 = [0, 5, 6, 9] ∧ Memory.readWords t.mem 0x2880 2 = [7, 8] := by decide +kernel
theorem witness_CounterReadEnds_words : let s := hostInRecord .counterRead .reading
    let w := hostInRecord (.counterWrite 1) (.writing 1)
    (s.nv.op = some .counterRead ∧ s.comp.op = some ⟨0, 3, .reading, false, false⟩ ∧ 3 < s.comp.records.length
      ∧ s.slots.length = 16 ∧ Memory.wf s.mem ∧ s.cert 3 = CertRecord.cleared .composing ∧ s.clk.ms ≤ s.nv.started + 20)
    ∧ (w.nv.op = some (.counterWrite 1) ∧ w.comp.op = some ⟨0, 3, .writing 1, false, false⟩ ∧ Memory.wf w.mem
      ∧ (w.cert 3).state = .composing ∧ (w.cert 3).number = 0 ∧ (w.cert 3).checkWord = 0 ∧ (w.cert 3).printCount = 0) := by
  decide +kernel

/-- An axle of a plan that asks for no test is back on the rollers while its exit window is open; the host has written over the
sequencer state in the header. -/
def backOnRollers : State :=
  let s := seating (some 10) (planned .exitWait)
  words [(0x0002, 0x7777)] (s.setTab { s.tab with
    plan := { s.tab.plan with axles := s.tab.plan.axles.map (fun a => { a with tests := 0 }) } })

/-- R29, R131, R140, R196: EXIT_UNCLEAR takes EXIT_WAIT to APPROACH and SEATED takes it back; the header's word (EXIT_WAIT, 12) is written. -/
theorem test_header_word_of_an_unclear_exit : let t := after (exec .seated backOnRollers)
    t.seq.state = .exitWait ∧ Memory.readWord t.mem 0x0002 = 12 := by decide +kernel
theorem witness_SeatedReport_open_window : let s := backOnRollers
    s.seat.seated = false ∧ 101 ≤ s.seat.qualify ∧ Memory.wf s.mem ∧ s.seq.state = .exitWait ∧ s.seat.exitWindow ≠ none
    ∧ s.seq.reviewMarks.getD s.tab.cursor false = false ∧ (∀ k, k < 4 → (s.planAxle s.tab.cursor).tests.getLsbD k = false) := by
  decide +kernel

/-! ### Aborts of a plan, jobs that wait, watch marks, the refresh timer, and a DRIVE_TEST that the drive stops -/

/-- A plan in slot 0, its run in a phase with an attempt of the spin held, at sample n; the sequencer's spin turns. -/
def spinOfPlan (q : SeqState) (p : Phase) (n : Nat) : State :=
  unitAt q { armed with phase := p, held := some attempt, waitBegan := 7 } n

theorem witness_AbortOfActiveRequests_plan : let s := spinOfPlan .parkOnset .parkOnset 7
    let p := planned .paused
    (namedSlots 1 = [0] ∧ s.held 0 = .active .runPlan ∧ s.activeSlot .runPlan = some 0 ∧ isPlanState s.seq.state = true
      ∧ s.run.axle < s.tab.records.length ∧ s.slots.length = 16 ∧ Memory.wf s.mem ∧ isSpinning s.drv.state = true
      ∧ s.run.phase = .parkOnset ∧ s.run.waitBegan = s.clk.sampleNo)
    ∧ (p.held 0 = .active .runPlan ∧ p.activeSlot .runPlan = some 0 ∧ isPlanState p.seq.state = true ∧ p.run.phase = .idle
      ∧ p.run.axle < p.tab.records.length ∧ isSpinning p.drv.state = false)
    ∧ inAttemptPart (spinOfPlan .serviceRun .serviceRun 7).run.phase = true
    ∧ (spinOfPlan .parkRun .parkRun 7).run.phase = .parkRun := by decide +kernel
/-- Jobs of slots 1 and 2 wait behind the PRINTING job of slot 0: a COPY, and an ORIGINAL that was made after it. -/
def waitingJobs : List Job :=
  [{ job .printing with linesTaken := 11 }, { job .queued with slot := 1, cls := .copy }, { job .queued with slot := 2, record := 2 }]

theorem witness_AbortOfActiveRequests_print : let s := printingIn .pausedPaper (job .printing)
    let w := s.setPrn { s.prn with jobs := waitingJobs, link := .waitReply }
    let q := active 1 .print w
    (s.held 0 = .active .print ∧ s.prn.jobs.find? (fun x => x.slot == 0) = some (job .printing) ∧ s.prn.link = .pausedPaper
      ∧ s.slots.length = 16 ∧ Memory.wf s.mem)
    ∧ (namedSlots 2 = [1] ∧ q.held 1 = .active .print
      ∧ (q.prn.jobs.find? (fun x => x.slot == 1)).map (·.state) = some .queued ∧ q.prn.link ≠ .pausedPaper) := by decide +kernel
theorem witness_ClearFaults_history : let s := posted 1 [] (base.setEng { base.eng with
      chans := base.eng.chans.set 4 ⟨-1000, [9], 5⟩, faults := base.eng.faults.set 4 ⟨false, true, false⟩ })
    Takes s 0 1 ∧ s.eng.faults.length = 11 ∧ (s.faultsOf 4).openWire = true
    ∧ ((after (exec .clearFaults s)).faultsOf 4).openWire = false ∧ (s.eng.chans.getD 4 noChannel).history ≠ []
    ∧ (s.faultsOf 7).openWire = false := by unfold Takes; decide +kernel
theorem witness_PrintRefusedOrQueued_ready : let s := posted 9 [0, 0] (printingIn .ready (job .queued))
    let r := s.setPrn { s.prn with jobs := [] }
    Takes r 0 9 ∧ (r.cert 0).state = .issued ∧ r.prn.link = .ready ∧ r.prn.jobs = [] ∧ r.slots.length = 16 ∧ Memory.wf r.mem
    ∧ (∀ k, k < 4 → Memory.readWord r.mem (certBase k) = (r.cert k).stateWord) := by unfold Takes; decide +kernel
theorem witness_SettledChangeOfAnInput_partner : let b := settling .beamF false (settling .beamR false base)
    let p := settling .plateOut false (settling .plateIn false base)
    (b.eng.inputs.length = 11 ∧ b.settles .beamR = true ∧ b.settlesOn .beamR = true ∧ b.settlesOn .beamF = true
      ∧ b.seat.seated = false ∧ (seatedLane b).seat.seated = true)
    ∧ (p.settles .plateOut = true ∧ p.settlesOn .plateIn = true ∧ p.settlesOn .plateOut = true) := by decide +kernel
theorem witness_SettledChangeOfAnInput_ignored : let p := keyAt .skip .paused
    let w := keyAt .ok .weigh
    let d := keyAt .retry .spindown
    (p.settles .skip = true ∧ p.level .skip = false ∧ p.seq.state = .paused ∧ p.eng.inputs.length = 11 ∧ Memory.wf p.mem)
    ∧ (w.settles .ok = true ∧ w.level .ok = false ∧ isWorkState w.seq.state = true ∧ w.seq.state ≠ .review)
    ∧ (d.settles .retry = true ∧ d.level .retry = false ∧ isWorkState d.seq.state = true ∧ d.seq.state ≠ .review) := by
  decide +kernel
theorem witness_drive_test_is_stopped : let e := settling .estop false (testState .run)
    let p := settling .presence false (testState .spinup)
    let k := settling .key false (testState .run)
    let c := (testState .spinup).setDrv { (testState .spinup).drv with spinupCount := 80 }
    let o := (testState .run).setDrv { (testState .run).drv with overR := 2 }
    let l := (testState .run).setDrv { (testState .run).drv with lowL := 2 }
    (e.settles .estop = true ∧ e.level .estop = false ∧ isSpinning e.drv.state = true ∧ e.drv.owner = some .driveTest
      ∧ e.dtest = some ⟨0, 60000, some 0, none⟩ ∧ e.eng.inputs.length = 11)
    ∧ (p.settles .presence = true ∧ p.level .presence = false ∧ isSpinning p.drv.state = true ∧ p.drv.owner = some .driveTest
      ∧ (settling .estop false p).settlesOn .estop = true)
    ∧ (k.settles .key = true ∧ k.eng.mode = .normal ∧ k.drv.owner = some .driveTest ∧ k.settlesOn .estop = false
      ∧ k.settlesOn .presence = false ∧ isPlanState k.seq.state = false ∧ k.level .key = false)
    ∧ (c.drv.state = .spinup ∧ 80 ≤ c.drv.spinupCount ∧ c.drv.owner = some .driveTest)
    ∧ (o.drv.state = .run ∧ 2 ≤ o.drv.overR ∧ o.drv.owner = some .driveTest)
    ∧ (l.drv.state = .run ∧ l.drv.overL < 2 ∧ l.drv.overR < 2 ∧ 2 ≤ l.drv.lowL ∧ l.drv.owner = some .driveTest) := by
  decide +kernel
theorem witness_KeySettles_abort : let s := settling .key false (spinOfPlan .parkOnset .parkOnset 8)
    let f := (planned .weigh).setEng { (planned .weigh).eng with cals := base.eng.cals.set 8 ⟨0, 0, false⟩ }
    let u := settling .key true f
    (s.settles .key = true ∧ s.level .key = false ∧ isPlanState s.seq.state = true ∧ s.run.axle < s.tab.records.length
      ∧ s.slots.length = 16 ∧ s.eng.mode = .normal ∧ isSpinning s.drv.state = true ∧ s.run.waitBegan ≠ s.clk.sampleNo
      ∧ s.eng.inputs.length = 11 ∧ Memory.wf s.mem)
    ∧ (u.settles .key = true ∧ u.level .key = true ∧ u.eng.mode = .normal
      ∧ u.eng.cals.any (fun c => c.valid == false) = true ∧ isPlanState u.seq.state = true) := by decide +kernel
theorem witness_watch_marks : let s (m : Bool) := runAt .serviceOnset { armed with phase := .serviceOnset, releaseMark := m } 500
    let o := runAt .ovality { armed with phase := .ovality, runs := ⟨true, true, false⟩ } 500
    let loaded (t : State) : Bool := decide (100 ≤ t.filtered 2 ∧ 100 ≤ t.filtered 3)
    let t := after (exec (.sample (reading 32767 500)) (s true))
    let u := after (exec (.sample (reading 30 500)) o)
    ((s true).quiet = true ∧ loaded t = true ∧ (s true).run.phase = .serviceOnset)
    ∧ (o.quiet = true ∧ loaded u = true ∧ inAttemptPart u.run.phase = true) := by decide +kernel
theorem witness_DisplayLinkSendsFrames_repeat_mark : let p := settling .pause false (running .serviceOnset { armed with phase := .serviceOnset })
    let e := settling .estop false (running .parkRun { armed with phase := .parkRun })
    let t := (testState .run).setDisp { base.disp with refresh := some 0, period := 200 }
    (p.eng.inputs.length = 11 ∧ isRunState p.seq.state = true ∧ p.settles .pause = true ∧ p.level .pause = false)
    ∧ (isRunState e.seq.state = true ∧ e.settles .estop = true ∧ e.level .estop = false ∧ isSpinning e.drv.state = true
      ∧ e.drv.owner = some .sequencer)
    ∧ (t.dtest = some ⟨0, 60000, some 0, none⟩ ∧ t.expired (some 0) = true ∧ isSpinning t.drv.state = true
      ∧ t.drv.owner = some .driveTest ∧ t.run.phase = .idle ∧ t.disp.refresh ≠ none ∧ t.disp.period ≠ 1000) := by decide +kernel
theorem witness_PrinterFramesAndTimers_cancelled : let s (n : Nat) := linkState .waitReply none n true
    let c := (s 1).setPrn { (s 1).prn with cancelLine := true }
    ((s 1).prn.link = .waitReply ∧ (s 1).expired (s 1).prn.replyTimer = true ∧ (s 1).prn.jobs.map (·.cancelMark) = [true]
      ∧ (s 1).prn.jobs.map (·.slot) = [0] ∧ (s 1).slots.length = 16 ∧ Memory.wf (s 1).mem ∧ (s 1).prn.noReplies + 1 < 3
      ∧ (s 1).prn.cancelLine = false)
    ∧ c.prn.cancelLine = true ∧ 3 ≤ (s 2).prn.noReplies + 1 := by decide +kernel
theorem witness_PrinterReplies_selection : let s := printingIn .waitReply (job .printing)
    let w := s.setPrn { s.prn with jobs := waitingJobs }
    let o := s.setPrn { s.prn with jobs := waitingJobs.drop 1, link := .offline, pollWindow := true }
    (o.prn.link = .offline ∧ o.prn.pollWindow = true ∧ Memory.wf o.mem ∧ (jobSelected o.prn.jobs).map (·.slot) = some 2)
    ∧ (w.prn.link = .waitReply ∧ w.printing = some { job .printing with linesTaken := 11 } ∧ w.prn.cancelLine = false
      ∧ w.slots.length = 16 ∧ Memory.wf w.mem ∧ 10 + 2 * (w.cert 0).axleCount ≤ 11 + 1
      ∧ (jobSelected (w.prn.jobs.filter (fun y => y.slot != 0))).map (·.slot) = some 2) := by decide +kernel

/-- R183: an ORIGINAL that was made after a COPY is selected before it, and two COPIES go by age. -/
theorem test_selection_order : (jobSelected waitingJobs).map (·.slot) = some 2
    ∧ (jobSelected (waitingJobs.map (fun j => { j with cls := .copy }))).map (·.slot) = some 1 := by decide
/-- R11: CLEAR_FAULTS clears an OPEN whose condition is gone, and the mean of the history shows at once. -/
theorem test_open_released : (after (exec .clearFaults (posted 1 [] (base.setEng { base.eng with
    chans := base.eng.chans.set 4 ⟨-1000, [500, 502], 410⟩, faults := base.eng.faults.set 4 ⟨false, true, false⟩ })))).filtered 4
      = 501 := by decide +kernel
/-- R43: a test whose spin PRESENCE stops is decided FAILED / PRESENCE, and its timer is cancelled. -/
theorem test_drive_test_stopped_by_presence :
    (after (exec (.settledChange .presence) (settling .presence false (testState .run)))).dtest
      = some ⟨0, 60000, none, some (.failed, .presence)⟩ := by decide +kernel
/-- R156, R161: the repeat at a start window expiry makes a frame due whose blink flag is set: message 7, RELEASE, in byte 2. -/
theorem test_repeat_blinks : ((after (exec .startWindowExpiry (unitAt .serviceOnset { armed with phase := .serviceOnset } 6000))).disp.sending.map
    (fun f => [f.bytes.getD 2 0, f.bytes.getD 6 0])) = some [7, 1] := by decide +kernel
/-- R146, R147: KEY to SERVICE in a service run: the attempt ends ABORT, the slot FAILED / MODE, the plan ABORTED. -/
theorem test_key_aborts_the_plan :
    let t := after (exec (.settledChange .key) (settling .key false (running .serviceRun { armed with phase := .serviceRun })))
    (t.seq.state, (t.record 0).top.map (·.reason), t.drv.stopReason, Memory.readWords t.mem 0x208 2)
      = (.aborted, some .abort, some .mode, [6, 11]) := by decide +kernel

/-- R75, R81, R206: a FAST ramp costs a violation, whose RAMP_VIOLATION entry holds cause 1 and the count 1, for axle 1. -/
theorem test_fast_makes_its_entry :
    let s := runAt .serviceRamp { armed with phase := .serviceRamp, rampMark := 30, serviceOnset := 500 } 500
    let t := after (exec (.sample (reading 30 500)) s)
    ((Memory.readWords t.mem (entryBase s.jr.put.toNat) 8).drop 2).take 1 = [1]
      ∧ (Memory.readWords t.mem (entryBase s.jr.put.toNat) 8).drop 6 = [1, 1] := by decide +kernel
/-- R123: an axle that the plate missed is marked MISSED at its SEATED report in APPROACH, its entry second in the ring, with the new
count. -/
theorem test_plate_missed_in_approach : let s := seating none (planned .approach)
    let t := after (exec .seated s)
    (t.record 0).sideSlip = ⟨none, false, true, false⟩
      ∧ Memory.readWords t.mem (entryBase (s.jr.put + 1).toNat + 12) 1 = [1] := by decide +kernel
/-- R20, R1: a ZERO that is ACTIVE before the load has ended counts no sample (assumption 72). -/
theorem test_zero_waits_for_the_load : let s := State.reset.setEng { State.reset.eng with capture := some ⟨0, 0, [0, 0, 0, 0, 0]⟩ }
    (after (exec (.sample (reading 0 0)) s)).eng.capture = some ⟨0, 0, [0, 0, 0, 0, 0]⟩ := by decide +kernel

end Sys2Proof.Tests
end

/-! PROOFS. The taking of a ZERO: its checks in order and the capture that begins (R19). -/

namespace Sys2Proof.Machine

/-- While no request of its kind is ACTIVE, a long kind does its work (R198). -/
theorem onlyOne_of_not_active (k : Kind) (work : State → Nat → State) (s : State) (n : Nat)
    (h : s.kindActive k = false) : onlyOne k work s n = work s n := by
  simp [onlyOne, h]

/-- A side load at or above a limit is one of the filtered values of the two load channels (R19, section 1.1). -/
theorem State.loadFrom_iff (s : State) (limit : Int) :
    s.loadFrom limit = true ↔ limit ≤ s.filtered 2 ∨ limit ≤ s.filtered 3 := by
  simp only [State.loadFrom, Bool.or_eq_true, decide_eq_true_eq]
  rfl

/-- The first check of R19 that fails, with its outcome and detail; none when a ZERO passes them all. -/
def State.zeroRefusal (s : State) : Option (ReqOutcome × Detail) :=
  if s.eng.mode = .failsafe then some (.refusedMode, .none)
  else if s.drv.state ≠ .off then some (.refusedState, .driveNotOff)
  else if s.kindActive .runPlan then some (.refusedState, .planActive)
  else if s.kindActive .driveTest then some (.refusedState, .testActive)
  else if s.kindActive .calibrate then some (.refusedState, .calibrateActive)
  else if 100 ≤ s.filtered 2 ∨ 100 ≤ s.filtered 3 then some (.refusedState, .vehiclePresent)
  else none

/-- The state with a capture for slot n that has counted no sample yet (R20). -/
def State.beginCapture (s : State) (n : Nat) : State :=
  s.setEng { s.eng with capture := some ⟨n, 0, [0, 0, 0, 0, 0]⟩ }

/-- A ZERO in slot n is completed at once with an outcome and a detail, and no result (R19). -/
def State.refuseZero (s : State) (n : Nat) (r : ReqOutcome × Detail) : State := s.completeKind n .zero r.1 r.2 []

/-- A ZERO that fails a check completes its slot with the outcome of the first one that fails (R19). -/
theorem State.takeZero_refused (s : State) (n : Nat) (r : ReqOutcome × Detail) (h : s.zeroRefusal = some r) :
    s.takeZero n = s.refuseZero n r := by
  unfold State.zeroRefusal at h
  unfold State.takeZero
  simp only [State.loadFrom_iff]
  refine refused_step (s.refuseZero n) (by rfl) h fun fromDrive => ?_
  refine refused_step (s.refuseZero n) (by rfl) fromDrive fun fromPlan => ?_
  refine refused_step (s.refuseZero n) (by rfl) fromPlan fun fromTest => ?_
  refine refused_step (s.refuseZero n) (by rfl) fromTest fun fromCalibrate => ?_
  refine refused_step (s.refuseZero n) (by rfl) fromCalibrate fun fromLoad => ?_
  exact refused_step (s.refuseZero n) (by rfl) fromLoad nofun

/-- A ZERO that passes every check begins its capture and becomes ACTIVE (R19). -/
theorem State.takeZero_passed (s : State) (n : Nat) (h : s.zeroRefusal = none) :
    s.takeZero n = (s.beginCapture n).activate n .zero := by
  simp only [State.zeroRefusal, ite_eq_right_iff, reduceCtorEq, imp_false, ite_eq_iff, and_false, false_or] at h
  obtain ⟨hmode, hdrive, hplan, htest, hcal, hload⟩ := h
  simp only [State.takeZero, State.loadFrom_iff, if_neg hmode, if_neg hdrive, if_neg hplan, if_neg htest, if_neg hcal,
    if_neg hload, State.beginCapture]

/-- What the command ZERO means (R19). -/
theorem exec_zero (s : State) : exec .zero s = execZero s := rfl

/-- The command ZERO takes the slot of a ZERO while none is ACTIVE (R198). -/
theorem exec_zero_takes (s : State) (n : Nat) (h : Takes s n 4) (hk : s.kindActive .zero = false) :
    exec .zero s = .next (publish s (s.takeZero n)) := by
  rw [exec_zero, execZero, State.taking_takes s n 4 _ _ h rfl, onlyOne_of_not_active _ _ _ _ hk, answer]

/-- Neither the capture record nor a slot stands behind an image, so a ZERO that is taken rewrites none (R196). -/
theorem publish_zero_taken (s : State) (n : Nat) :
    publish s ((s.beginCapture n).activate n .zero) = (s.beginCapture n).activate n .zero :=
  publish_same _ _ rfl rfl rfl rfl rfl

/-- The capture and the ACTIVE slot leave every part but these and lane memory as they are (R19). -/
theorem zeroTaken_keepsAllBut (s : State) (n : Nat) :
    KeepsAllBut [.mem, .slots, .eng] s ((s.beginCapture n).activate n .zero) := by
  intro p hp
  cases p <;> simp_all [Part.same, State.beginCapture, State.activate, State.setHeld]

/-- Settles O16: the taking is evaluated to `takeZero`, whose chain of checks refuses or begins the capture. -/
theorem zeroRefusedOrTaken : Obligations.ZeroRefusedOrTaken := by
  unfold Obligations.ZeroRefusedOrTaken
  intro s n _ hw ht hk
  refine ⟨_, exec_zero_takes s n ht hk, fun o d hr => ?refused, fun hr => ?taken⟩
  case refused =>
    rw [State.takeZero_refused s n (o, d) hr]
    exact completedAlone s n 4 o d [] hw
  case taken =>
    have hn : n < s.slots.length := State.lowestPosted_lt s n ht.1
    rw [State.takeZero_passed s n hr, publish_zero_taken]
    exact ⟨rfl, State.activate_active s (s.beginCapture n) n .zero rfl hn hw, zeroTaken_keepsAllBut s n,
      fun a ha => State.activate_readByte (s.beginCapture n) n .zero a ha⟩

end Sys2Proof.Machine

/-! PROOFS. The taking of a DISCARD_ATTEMPT: its checks in order (R57) and the removal of the top attempt (R58). -/

namespace Sys2Proof.Machine

/-! ### Completions that end an event (R200) -/

/-- A slot completed as the last act of an event still shows DONE after publication (R200). -/
theorem slotDone_publish_complete (old s : State) (n k : Nat) (o : ReqOutcome) (d : Detail) (r : List Word)
    (hw : Memory.wf s.mem) : SlotDone (publish old (s.complete n k o d r)) n o d r :=
  (State.complete_done s n k o d r hw).congr (by simp) fun a ha => publish_readByte _ _ a (slotByte_not_image n a ha)

/-- The completion that ends an event makes the event's only entry when nothing before it has touched the journal (R200, R206). -/
theorem entryMade_publish_complete (s s' : State) (n k : Nat) (o : ReqOutcome) (d : Detail) (r : List Word)
    (hj : s'.jr = s.jr) (ht : s'.time = s.time) (hw : Memory.wf s'.mem) :
    EntryMade s (publish s (s'.complete n k o d r)) evRequestDone 0 (bytePair n k)
      (bytePair (codeOfDetail d) (codeOfOutcome o)) :=
  entryMade_complete s s' _ n k o d r hj ht hw (by simp) fun a ha =>
    publish_readByte _ _ a (ringByte_not_image a (nextEntryByte_ring _ _ ha))

/-- Every completion raises the produced total by 1 (R200, R202). -/
theorem State.complete_produced (s : State) (n k : Nat) (o : ReqOutcome) (d : Detail) (r : List Word) :
    (s.complete n k o d r).jr.produced = s.jr.produced + 1 := by
  simp [State.complete_jr, State.produce_produced]

theorem publish_complete_tab (old s : State) (n k : Nat) (o : ReqOutcome) (d : Detail) (r : List Word) :
    (publish old (s.complete n k o d r)).tab = s.tab := by simp

theorem publish_complete_record (old s : State) (n k : Nat) (o : ReqOutcome) (d : Detail) (r : List Word) (j : Nat) :
    (publish old (s.complete n k o d r)).record j = s.record j := by
  rw [State.record, publish_complete_tab, State.record]

/-- What is left alone outside some parts is left alone outside more. -/
theorem KeepsAllBut.mono {l l' : List Part} {s t : State} (h : KeepsAllBut l s t) (hl : l ⊆ l') : KeepsAllBut l' s t :=
  fun p hp => h p fun hm => hp (hl hm)

/-- A completion that ends an event changes lane memory, the journal, ATTN and the slots besides what the event has
changed (R200). -/
theorem KeepsAllBut.publish_complete {l : List Part} {s s' : State} (h : KeepsAllBut l s s')
    (hl : [.mem, .jr, .att, .slots] ⊆ l) (old : State) (n k : Nat) (o : ReqOutcome) (d : Detail) (r : List Word) :
    KeepsAllBut l s (publish old (s'.complete n k o d r)) := by
  intro p hp
  have hs := h p hp
  have hout : p ∉ [.mem, .jr, .att, .slots] := fun hm => hp (hl hm)
  cases p <;> simp_all [Part.same]

/-- A production changes lane memory, the journal and ATTN alone (R202). -/
theorem State.produce_keepsAllBut (s : State) (code axle : Nat) (p1 p2 : Word) :
    KeepsAllBut [.mem, .jr, .att] s (s.produce code axle p1 p2) := by
  intro p hp
  cases p <;> simp_all [Part.same]

/-! ### The checks (R57) -/

/-- The first check of R57 before the one on the list that fails, with its outcome and detail; none when the request passes them. -/
def State.discardRefusal (s : State) (n : Nat) : Option (ReqOutcome × Detail) :=
  if (s.param n 0).toNat = 0 ∨ 8 < (s.param n 0).toNat then some (.badParam, .param 1)
  else if s.tab.certified then some (.refusedState, .certified)
  else if s.kindActive .compose then some (.refusedState, .composeActive)
  else if (s.record ((s.param n 0).toNat - 1)).status = .inTest ∧ s.drv.state ≠ .off then some (.refusedState, .inTest)
  else none

/-- A DISCARD_ATTEMPT in slot n is completed with an outcome and a detail, and no result (R57). -/
def State.refuseDiscard (s : State) (n : Nat) (r : ReqOutcome × Detail) : State :=
  s.completeKind n .discardAttempt r.1 r.2 []

/-- A DISCARD_ATTEMPT that fails a check completes its slot with the outcome of the first one that fails (R57). -/
theorem State.takeDiscard_refused (s : State) (n : Nat) (r : ReqOutcome × Detail) (h : s.discardRefusal n = some r) :
    s.takeDiscard n = s.refuseDiscard n r := by
  unfold State.discardRefusal at h
  unfold State.takeDiscard
  refine refused_step (s.refuseDiscard n) (by rfl) h fun fromCertified => ?_
  refine refused_step (s.refuseDiscard n) (by rfl) fromCertified fun fromCompose => ?_
  refine refused_step (s.refuseDiscard n) (by rfl) fromCompose fun fromInTest => ?_
  exact refused_step (s.refuseDiscard n) (by rfl) fromInTest nofun

/-- A request that passes the checks before it is decided by the top attempt of the record it names (R57). -/
theorem State.takeDiscard_passed (s : State) (n : Nat) (h : s.discardRefusal n = none) :
    s.takeDiscard n = (s.record ((s.param n 0).toNat - 1)).top.elim
      ((s.produce evDiscardEmpty (s.param n 0).toNat (word n) 0).complete n 2 .refusedState .listEmpty [])
      (s.discardTop n ((s.param n 0).toNat - 1)) := by
  simp only [State.discardRefusal, reduceCtorEq, ite_eq_iff, and_false, and_true, false_or] at h
  obtain ⟨haxle, hcertified, hcompose, hinTest⟩ := h
  simp only [State.takeDiscard, if_neg haxle, if_neg hcertified, if_neg hcompose, if_neg hinTest]
  cases (s.record ((s.param n 0).toNat - 1)).top <;> rfl

/-- An axle number of 1 to 8 leaves the refusal to the checks on the state (R57). -/
theorem State.discardRefusal_of_axle (s : State) (n : Nat) (h1 : 1 ≤ (s.param n 0).toNat) (h8 : (s.param n 0).toNat ≤ 8) :
    s.discardRefusal n =
      if s.tab.certified then some (.refusedState, .certified)
      else if s.kindActive .compose then some (.refusedState, .composeActive)
      else if (s.record ((s.param n 0).toNat - 1)).status = .inTest ∧ s.drv.state ≠ .off then some (.refusedState, .inTest)
      else none :=
  if_neg (by omega)

/-- A request that names an axle passes while the table is uncertified, no COMPOSE is ACTIVE and the axle is not in a spin (R57). -/
theorem State.discardRefusal_none (s : State) (n : Nat) (h1 : 1 ≤ (s.param n 0).toNat) (h8 : (s.param n 0).toNat ≤ 8)
    (hc : s.tab.certified = false) (hm : s.kindActive .compose = false)
    (hi : ¬ ((s.record ((s.param n 0).toNat - 1)).status = .inTest ∧ s.drv.state ≠ .off)) :
    s.discardRefusal n = none := by
  rw [State.discardRefusal_of_axle s n h1 h8, if_neg (by simp [hc]), if_neg (by simp [hm]), if_neg hi]

/-! ### The removal (R58) -/

theorem State.rewriteFields_wf (s : State) (k i n : Nat) (h : Memory.wf s.mem) : Memory.wf (s.rewriteFields k i n).mem := by
  unfold State.rewriteFields
  split
  · exact Memory.wf_writeWords _ _ h _
  · exact h

theorem State.rewriteAttempt_wf (s : State) (k j i : Nat) (h : Memory.wf s.mem) : Memory.wf (s.rewriteAttempt k j i).mem :=
  State.rewriteFields_wf _ _ _ _ (State.rewriteFields_wf _ _ _ _ h)

/-- The state with the top attempt of axle record k removed, its image written and the retest offer evaluated, before the slot
completes (R58). -/
def State.popAttempt (s : State) (k : Nat) : State :=
  let left := (s.record k).attempts.dropLast
  ((s.setRecord k { s.record k with attempts := left }).rewriteAttempt k left.length 8).offerAgain k

/-- The result area of a removal: what is left, what was removed (R58). -/
def discardResult (r : AxleRecord) (a : Attempt) : List Word :=
  [bytePair (r.attempts.length - 1) r.overflow.toNat, bytePair (codeOfEnd a.reason) (codeOfRamp a.ramp), lowWord a.time,
   highWord a.time]

/-- A removal is that of the attempt, and then the completion of the slot (R58). -/
theorem State.discardTop_eq (s : State) (n k : Nat) (a : Attempt) :
    s.discardTop n k a = (s.popAttempt k).complete n 2 .ok .none (discardResult (s.record k) a) := by
  simp [State.discardTop, State.popAttempt, State.completeKind, codeOfKind, discardResult]

theorem State.popAttempt_tab (s : State) (k : Nat) :
    (s.popAttempt k).tab =
      { s.tab with records := s.tab.records.set k { s.record k with attempts := (s.record k).attempts.dropLast } } := by
  simp [State.popAttempt, State.setRecord]

/-- The removal leaves every part but lane memory, the table, the retest offer and the display as it is (R58). -/
theorem State.popAttempt_keepsAllBut (s : State) (k : Nat) : KeepsAllBut [.mem, .tab, .seq, .disp] s (s.popAttempt k) := by
  intro p hp
  cases p <;> simp_all [Part.same, State.popAttempt]

theorem State.popAttempt_wf (s : State) (k : Nat) (h : Memory.wf s.mem) : Memory.wf (s.popAttempt k).mem := by
  have offer (t : State) : (t.offerAgain k).mem = t.mem := by simp
  rw [State.popAttempt, offer]
  exact State.rewriteAttempt_wf _ _ _ _ h

/-- The attempt beneath the top becomes the top attempt of the record (R58). -/
theorem State.popAttempt_top (s : State) (k : Nat) (hk : k < s.tab.records.length) :
    ((s.popAttempt k).record k).top = if 2 ≤ (s.record k).attempts.length
      then (s.record k).attempts[(s.record k).attempts.length - 2]? else none := by
  have hr : (s.popAttempt k).record k = { s.record k with attempts := (s.record k).attempts.dropLast } := by
    simp [State.record, State.popAttempt_tab, hk]
  rw [hr, AxleRecord.top, List.getLast?_dropLast]
  by_cases h : 2 ≤ (s.record k).attempts.length
  · rw [if_pos h, if_neg (by omega)]
  · rw [if_neg h, if_pos (by omega)]

/-! ### The taking -/

/-- What the command DISCARD_ATTEMPT means (R57). -/
theorem exec_discardAttempt (s : State) : exec .discardAttempt s = execDiscardAttempt s := rfl

/-- The command DISCARD_ATTEMPT takes the slot of a DISCARD_ATTEMPT (R198). -/
theorem exec_discardAttempt_takes (s : State) (n : Nat) (h : Takes s n 2) :
    exec .discardAttempt s = .next (publish s (s.takeDiscard n)) := by
  rw [exec_discardAttempt, execDiscardAttempt, State.taking_takes s n 2 _ _ h rfl, answer]

/-- A check that fails completes the slot and does nothing else (R57). -/
theorem discard_refused {s : State} {n : Nat} {o : ReqOutcome} {d : Detail} (hw : Memory.wf s.mem) (ht : Takes s n 2)
    (hr : s.discardRefusal n = some (o, d)) :
    ∃ t, exec .discardAttempt s = .next t ∧ CompletedAlone s t n 2 o d [] := by
  refine ⟨_, exec_discardAttempt_takes s n ht, ?_⟩
  rw [State.takeDiscard_refused s n (o, d) hr]
  exact completedAlone s n 2 o d [] hw

/-- An empty list refuses the request, with a DISCARD_EMPTY entry before its REQUEST_DONE (R57). -/
theorem discard_listEmpty {s : State} {n : Nat} (hw : Memory.wf s.mem) (ht : Takes s n 2) (hp : s.discardRefusal n = none)
    (he : (s.record ((s.param n 0).toNat - 1)).attempts = []) :
    ∃ t, exec .discardAttempt s = .next t ∧ SlotDone t n .refusedState .listEmpty [] ∧
      t.jr.produced = s.jr.produced + 2 ∧ KeepsAllBut [.mem, .jr, .att, .slots] s t := by
  have htop : (s.record ((s.param n 0).toNat - 1)).top = none := by rw [AxleRecord.top, he]; rfl
  refine ⟨_, exec_discardAttempt_takes s n ht, ?_⟩
  rw [State.takeDiscard_passed s n hp, htop, Option.elim_none]
  refine ⟨slotDone_publish_complete _ _ _ _ _ _ _ (State.produce_wf _ _ _ _ _ hw), ?entries, ?kept⟩
  case entries => simp [State.complete_produced, State.produce_produced, BitVec.add_assoc]
  case kept =>
    exact ((State.produce_keepsAllBut s _ _ _ _).mono (by simp)).publish_complete (by simp) _ _ _ _ _ _

/-- A request that passes removes the top attempt and tells of it in its result area (R58). -/
theorem exec_discardAttempt_taken {s : State} {n : Nat} {a : Attempt} (ht : Takes s n 2) (hp : s.discardRefusal n = none)
    (ha : (s.record ((s.param n 0).toNat - 1)).top = some a) :
    exec .discardAttempt s = .next (publish s ((s.popAttempt ((s.param n 0).toNat - 1)).complete n 2 .ok .none
      (discardResult (s.record ((s.param n 0).toNat - 1)) a))) := by
  rw [exec_discardAttempt_takes s n ht, State.takeDiscard_passed s n hp, ha, Option.elim_some, State.discardTop_eq]

/-- Settles O15: each failing check names its refusal, and a request that passes them is decided by the list it names. -/
theorem discardRefusedOrTaken : Obligations.DiscardRefusedOrTaken := by
  unfold Obligations.DiscardRefusedOrTaken
  intro s n _ hw ht k r
  refine ⟨fun hk => ?param, fun h1 h8 hc => ?certified, fun h1 h8 hc hm => ?compose, fun h1 h8 hc hm hi hd => ?inTest,
    fun h1 h8 hc hm hi he => ?empty, fun a h1 h8 hc hm hi ha hk => ?taken⟩
  case param => exact discard_refused hw ht (if_pos hk)
  case certified => exact discard_refused hw ht (by rw [State.discardRefusal_of_axle s n h1 h8, if_pos hc])
  case compose => exact discard_refused hw ht (by simp [State.discardRefusal_of_axle s n h1 h8, hc, hm])
  case inTest =>
    exact discard_refused hw ht (by
      rw [State.discardRefusal_of_axle s n h1 h8, if_neg (by simp [hc]), if_neg (by simp [hm]), if_pos ⟨hi, hd⟩])
  case empty =>
    exact discard_listEmpty hw ht (State.discardRefusal_none s n h1 h8 hc hm hi) he
  case taken =>
    have kept := State.popAttempt_keepsAllBut s (k - 1)
    have wf := State.popAttempt_wf s (k - 1) hw
    refine ⟨_, exec_discardAttempt_taken ht (State.discardRefusal_none s n h1 h8 hc hm hi) ha, ?table, ?top, ?slot,
      ?entry, ?kept⟩
    case table => exact (publish_complete_tab _ _ _ _ _ _ _).trans (State.popAttempt_tab s (k - 1))
    case top =>
      exact (congrArg AxleRecord.top (publish_complete_record _ _ _ _ _ _ _ _)).trans (State.popAttempt_top s (k - 1) hk)
    case slot => exact slotDone_publish_complete _ _ _ _ _ _ _ wf
    case entry => exact entryMade_publish_complete s _ n 2 .ok .none _ (kept .jr (by simp)) (kept .time (by simp)) wf
    case kept => exact (kept.mono (by simp)).publish_complete (by simp) _ _ _ _ _ _

end Sys2Proof.Machine

/-! PROOFS. The write to JACK: the ack index by its range (R203) and the stale timer (R205). -/

namespace Sys2Proof.Machine

/-- How far an index of the ring lies ahead of ack, modulo 256 (R202). -/
theorem Journal.distance_toNat (i ack : BitVec 8) : (i - ack).toNat = (i.toNat + 256 - ack.toNat) % 256 := by
  rw [BitVec.toNat_sub]
  omega

/-- The ring is empty exactly where ack has reached put (R202). -/
theorem Journal.count_eq_zero_iff (j : Journal) : j.count = 0 ↔ j.ack = j.put := by
  unfold Journal.count
  bv_omega

/-- The range test of R203 in numbers: a value within range is the new ack, any other acknowledges every entry. -/
theorem Journal.ackAfter_eq (j : Journal) (v : Word) :
    j.ackAfter v = if v.toNat ≤ 255 ∧
        (v.toNat + 256 - j.ack.toNat) % 256 ≤ (j.put.toNat + 256 - j.ack.toNat) % 256
      then BitVec.ofNat 8 v.toNat else j.put := by
  have hrange : (v.toNat ≤ 255 ∧ (BitVec.ofNat 8 v.toNat - j.ack).toNat ≤ (j.put - j.ack).toNat) ↔
      (v.toNat ≤ 255 ∧ (v.toNat + 256 - j.ack.toNat) % 256 ≤ (j.put.toNat + 256 - j.ack.toNat) % 256) :=
    and_congr_right fun hv => by
      rw [Journal.distance_toNat, Journal.distance_toNat, BitVec.toNat_ofNat,
        Nat.mod_eq_of_lt (a := v.toNat) (by omega)]
  simp only [Journal.ackAfter, hrange]

/-- A load of the stale timer: it is stopped by a stale time of 0, and otherwise runs for that many times 10 ms (R205). -/
theorem State.staleLoad_eq (s : State) :
    s.staleLoad = if (Memory.readWord s.mem 0x042).toNat = 0 then none
      else some (s.clk.ms + 10 * (Memory.readWord s.mem 0x042).toNat) := rfl

/-- The journal after a JACK: a new ack index and a stale timer that is stopped on the empty ring and loaded otherwise (R203, R205). -/
theorem State.acknowledge_jr (s : State) (v : Word) :
    (s.acknowledge v).jr = { s.jr with
      ack := s.jr.ackAfter v
      staleTimer := if s.jr.ackAfter v = s.jr.put then none else s.staleLoad } := by
  simp [State.acknowledge, Journal.count_eq_zero_iff]

/-- What the command JACK means (R203). -/
theorem exec_jack (v : Word) (s : State) : exec (.jack v) s = .next (publish s (s.acknowledge v)) := rfl

/-- Settles O5: the new state is the acknowledged one with its header published, and R203's range test is one on numbers. -/
theorem jackAcknowledges : Obligations.JackAcknowledges := by
  unfold Obligations.JackAcknowledges
  intro v s
  have hjr : (publish s (s.acknowledge v)).jr = _ := State.acknowledge_jr s v
  refine ⟨_, exec_jack v s, ?ack, ?timer, ?indices, ?kept, ?memory⟩
  case ack => rw [hjr, Journal.ackAfter_eq]
  case timer =>
    rw [hjr, State.staleLoad_eq]
    by_cases hempty : s.jr.ackAfter v = s.jr.put <;> simp [hempty]
  case indices => rw [hjr]
  case kept =>
    intro p hp
    cases p <;> simp_all [Part.same]
  case memory => exact fun a ha => publish_readByte_header s (s.acknowledge v) rfl rfl a ha

end Sys2Proof.Machine

/-! PROOFS. The production of a journal entry: dropped or written, the ATTN bits, and the journal's law (R202, R204, R205). -/

namespace Sys2Proof.Machine

/-- A production is dropped from the full ring of BLOCKING mode (R202). -/
theorem Journal.blocks_iff (j : Journal) : j.blocks = true ↔ 128 ≤ j.count ∧ j.mode = .blocking := by
  simp [Journal.blocks]

/-- A dropped entry counts as produced and dropped, and leaves the ring alone (R202). -/
theorem JournalLaw.droppedEntry {j : Journal} (h : JournalLaw j) : JournalLaw j.droppedEntry := by
  obtain ⟨hcount, htotals⟩ := h
  refine ⟨hcount, ?_⟩
  simp only [Journal.droppedEntry, htotals, BitVec.add_assoc]

/-- An entry written over a full ring leaves the count as it was, since ack moves on with put (R202). -/
theorem Journal.count_written_full (j : Journal) : (j.written true).count = j.count := by
  simp only [Journal.written, Journal.count, if_true]
  bv_omega

/-- An entry written where there is room for it raises the count by 1 (R202). -/
theorem Journal.count_written_room (j : Journal) (h : j.count < 128) : (j.written false).count = j.count + 1 := by
  simp only [Journal.written, Journal.count, Bool.false_eq_true, if_false] at h ⊢
  bv_omega

/-- A written entry counts as produced and stored, and never takes the count above 128 (R202). The stale timer does not matter. -/
theorem JournalLaw.written {j : Journal} (h : JournalLaw j) (timer : Option Nat) :
    JournalLaw { j.written (decide (128 ≤ j.count)) with staleTimer := timer } := by
  obtain ⟨hcount, htotals⟩ := h
  refine ⟨?count, ?totals⟩
  case count =>
    change (j.written _).count ≤ 128
    by_cases hfull : 128 ≤ j.count
    · rw [decide_eq_true hfull, Journal.count_written_full]
      exact hcount
    · rw [decide_eq_false hfull, Journal.count_written_room j (by omega)]
      omega
  case totals =>
    simp only [Journal.written, htotals]
    ac_rfl

/-- Every production keeps the law of the journal (R202). -/
theorem State.produce_journalLaw (s : State) (code axle : Nat) (p1 p2 : Word) (h : JournalLaw s.jr) :
    JournalLaw (s.produce code axle p1 p2).jr := by
  rw [State.produce_jr]
  split
  · exact h.droppedEntry
  · exact h.written _

/-- A dropped entry leaves lane memory as it is (R202). -/
theorem State.produce_mem_of_blocks (s : State) (code axle : Nat) (p1 p2 : Word) (hb : s.jr.blocks = true) :
    (s.produce code axle p1 p2).mem = s.mem := by
  simp [State.produce, hb]

/-- Settles O6: the journal, the attention register and lane memory after a production, in the two cases of the full ring of BLOCKING
mode and of every other. -/
theorem productionWritesOrDrops : Obligations.ProductionWritesOrDrops := by
  unfold Obligations.ProductionWritesOrDrops
  intro s code axle p1 p2 hw t
  have hjr : t.jr = _ := State.produce_jr s code axle p1 p2
  have hbits : t.att.bits = _ := State.produce_attBits s code axle p1 p2
  refine ⟨fun hfull => ?dropped, fun hroom => ?written, State.produce_attMask .., State.produce_attLine s code axle p1 p2,
    State.produce_journalLaw s code axle p1 p2, State.produce_keepsAllBut s code axle p1 p2, State.produce_readByte s code axle p1 p2⟩
  case dropped =>
    have hb := (Journal.blocks_iff s.jr).2 hfull
    rw [if_pos hb] at hjr hbits
    exact ⟨hjr, State.produce_mem_of_blocks s code axle p1 p2 hb, hbits⟩
  case written =>
    have hb := mt (Journal.blocks_iff s.jr).1 hroom
    rw [if_neg hb] at hjr hbits
    refine ⟨entryMade_produce s s t code axle p1 p2 rfl rfl hw rfl (fun _ _ => rfl), ?_, ?_, ?_, ?_, ?_, hbits⟩ <;>
      simp [hjr, Journal.written]

end Sys2Proof.Machine

/-! PROOFS. The taking of a SET_TIME: lane time, its words in the header, and the completion that follows (R199). -/

namespace Sys2Proof.Machine

/-- What the command SET_TIME means (R199). -/
theorem exec_setTime (s : State) : exec .setTime s = execSetTime s := rfl

/-- The command SET_TIME takes the slot of a SET_TIME (R198). -/
theorem exec_setTime_takes (s : State) (n : Nat) (h : Takes s n 3) :
    exec .setTime s = .next (publish s ((s.putTime (s.paramD n)).complete n 3 .ok .none [lowWord s.time, highWord s.time])) := by
  rw [exec_setTime, execSetTime, State.taking_takes s n 3 _ _ h rfl, answer]
  rfl

/-- A byte of lane time's words is one of the header. -/
theorem timeByte_header (a : Nat) (h : timeByte a) : headerByte a := .inl (by unfold timeByte at h; omega)

theorem State.putTime_wf (s : State) (v : DWord) (h : Memory.wf s.mem) : Memory.wf (s.putTime v).mem :=
  Memory.wf_writeWords _ _ h _

/-- A value that lane time takes shows in the header at once (R196, R209). -/
theorem State.putTime_shown (s : State) (v : DWord) (h : Memory.wf s.mem) : TimeShown (s.putTime v) :=
  Memory.readWords_writeWords [lowWord v, highWord v] s.mem h 0x000A

/-- Lane time's words are the only bytes that its change writes (R196). -/
theorem State.putTime_readByte (s : State) (v : DWord) (a : Nat) (h : ¬ timeByte a) :
    Memory.readByte (s.putTime v).mem a = Memory.readByte s.mem a := by
  unfold timeByte at h
  exact Memory.readByte_writeWords _ _ _ _ (by simp only [List.length_cons, List.length_nil]; omega)

/-- A header that shows lane time goes on showing it under a completion, which writes slot and ring alone (R200). -/
theorem TimeShown.complete {s : State} (h : TimeShown s) (n k : Nat) (o : ReqOutcome) (d : Detail) (r : List Word) :
    TimeShown (s.complete n k o d r) := by
  unfold TimeShown at h ⊢
  rw [show (s.complete n k o d r).time = s.time by simp, ← h]
  refine Memory.readWords_congr _ _ _ _ fun a h1 h2 => ?_
  have ha : headerByte a := timeByte_header a ⟨h1, h2⟩
  exact State.complete_readByte s n k o d r a (fun hs => slotByte_not_image n a hs (.inl ha))
    (fun hr => ringByte_not_image a (nextEntryByte_ring _ _ hr) (.inl ha))

/-- A header that shows lane time goes on showing it after publication (R196). -/
theorem TimeShown.publish {s : State} (h : TimeShown s) (old : State) (hw : Memory.wf s.mem) : TimeShown (publish old s) := by
  unfold TimeShown at h ⊢
  simp only [Memory.readWords, List.cons.injEq, and_true] at h ⊢
  obtain ⟨hlow, hhigh⟩ := h
  exact ⟨publish_headerWord_shown old s hw 5 (by decide) (.inr hlow), publish_headerWord_shown old s hw 6 (by decide) (.inr hhigh)⟩

/-- A production raises no bit of ATTN but JOURNAL and LOST (R202, R204). -/
theorem State.produce_timeWrap (s : State) (code axle : Nat) (p1 p2 : Word) :
    (s.produce code axle p1 p2).att.bits.getLsbD 7 = s.att.bits.getLsbD 7 := by
  rw [State.produce_attBits]
  split
  · simp [attnLost]
  · split <;> split <;> simp [attnLost, attnJournal]

/-- The completion of a slot does not touch ATTN.TIME_WRAP (R200, R207). -/
theorem State.complete_timeWrap (s : State) (n k : Nat) (o : ReqOutcome) (d : Detail) (r : List Word) :
    (s.complete n k o d r).att.bits.getLsbD 7 = s.att.bits.getLsbD 7 := by
  have hraise : (s.complete n k o d r).att.bits.getLsbD 7 = ((s.finishSlot n o d r).produce evRequestDone 0 (bytePair n k)
      (bytePair (codeOfDetail d) (codeOfOutcome o))).att.bits.getLsbD 7 := by
    simp [State.complete, State.raiseAttn, State.setAttn, attnReqDone]
  rw [hraise, State.produce_timeWrap]
  simp

/-- An entry into a ring that is not empty leaves the stale timer running as it was (R205). -/
theorem State.produce_staleTimer (s : State) (code axle : Nat) (p1 p2 : Word) (h : s.jr.count ≠ 0) :
    (s.produce code axle p1 p2).jr.staleTimer = s.jr.staleTimer := by
  rw [State.produce_jr, if_neg h]
  split <;> rfl

/-- The completion of a slot leaves the stale timer of a ring that is not empty as it was (R200, R205). -/
theorem State.complete_staleTimer (s : State) (n k : Nat) (o : ReqOutcome) (d : Detail) (r : List Word) (h : s.jr.count ≠ 0) :
    (s.complete n k o d r).jr.staleTimer = s.jr.staleTimer := by
  rw [State.complete_jr, State.produce_staleTimer _ _ _ _ _ (by simpa using h)]
  simp

/-- A change of lane time leaves every part but lane memory and lane time as it is (R209). -/
theorem State.putTime_keepsAllBut (s : State) (v : DWord) : KeepsAllBut [.mem, .time] s (s.putTime v) := by
  intro p hp
  cases p <;> simp_all [Part.same]

/-- Settles O13: lane time is put first, and the completion and the publication after it keep what the header shows of it. -/
theorem setTimeTakesLaneTime : Obligations.SetTimeTakesLaneTime := by
  unfold Obligations.SetTimeTakesLaneTime
  intro s n _ hw ht
  have hput := State.putTime_wf s (s.paramD n) hw
  have hdone := State.complete_wf _ n 3 .ok .none [lowWord s.time, highWord s.time] hput
  refine ⟨_, exec_setTime_takes s n ht, ?time, ?slot, ?entry, ?reqDone, ?timeWrap, ?header, fun hcount => ?timer, ?kept, ?memory⟩
  case time => simp
  case slot => exact slotDone_publish_complete _ _ _ _ _ _ _ hput
  case entry =>
    exact entryMade_complete (s.setTime (s.paramD n)) _ _ n 3 .ok .none _ (by simp) (by simp) hput (by simp)
      fun a ha => publish_readByte _ _ a (ringByte_not_image a (nextEntryByte_ring _ _ ha))
  case reqDone => exact State.complete_attn ..
  case timeWrap => exact State.complete_timeWrap ..
  case header => exact ((State.putTime_shown s _ hw).complete _ _ _ _ _).publish s hdone
  case timer => exact State.complete_staleTimer _ _ _ _ _ _ hcount
  case kept => exact ((State.putTime_keepsAllBut s _).mono (by simp)).publish_complete (by simp) _ _ _ _ _ _
  case memory =>
    intro a ha
    simp only [takingByte, not_or] at ha
    obtain ⟨hheader, hslot, hentry⟩ := ha
    rw [publish_readByte_header _ _ (by simp) (by simp) a hheader,
      State.complete_readByte (s.putTime (s.paramD n)) n 3 _ _ _ a hslot hentry,
      State.putTime_readByte _ _ _ fun h => hheader (timeByte_header a h)]

end Sys2Proof.Machine

/-! PROOFS. The acts behind the commands: what every command but the two resets does before its images are published, so that an invariant
is proved once for the acts and holds of every step. -/

namespace Sys2Proof.Machine

/-- The report of a read of the power-on load (R15). -/
def State.loadReport (s : State) (reply : NvReply) : State :=
  match s.nv.op with
  | some (.loadWord k) => s.loadStep k (if s.nvOver then .noAnswer else readResult (s.nv.store.loadWordAt k) reply)
  | _ => s

/-- The report of a CALIBRATE write (R17). -/
def State.calWriteReport (s : State) (cut : NvCut) (answered : Bool) : State :=
  match s.nv.op with
  | some (.calWrite ch z g) =>
    (s.storeWrite (.calWrite ch z g) cut).calWriteEnds ch (answered && cutComplete cut && !s.nvOver)
  | _ => s

/-- The report of a counter read (R176). -/
def State.counterReadReport (s : State) (high low : NvReply) : State :=
  match s.nv.op, s.comp.op with
  | some .counterRead, some c =>
    if s.nvOver then s.counterReadExpires
    else
      ((s.correctedEntry counterMarker 0 (readResult s.nv.store.counterHigh high)).correctedEntry counterMarker 1
        (readResult s.nv.store.counterLow low)).counterReadEnds c
          (counterValue (readResult s.nv.store.counterHigh high) (readResult s.nv.store.counterLow low))
          (failedWord (readResult s.nv.store.counterHigh high))
  | _, _ => s

/-- The report of a counter write (R178). -/
def State.counterWriteReport (s : State) (cut : NvCut) (answered : Bool) : State :=
  match s.nv.op, s.comp.op with
  | some (.counterWrite v), some c =>
    (s.storeWrite (.counterWrite v) cut).counterWriteEnds c v (answered && cutComplete cut && !s.nvOver)
  | _, _ => s

/-- A byte from the printer (R186). -/
def State.printerByte (s : State) (byte : Byte) : State :=
  if s.prn.link = .waitReply then s.replyTaken.lineReply (replyOf byte)
  else if s.prn.pollWindow then s.replyTaken.pollReply (replyOf byte)
  else s

/-- An act of the part leads from one state to another: a step that falls due, an act of the host, the report of a device, or a sample
or a millisecond. -/
inductive Act (s : State) : State → Prop where
  | idle : Act s s
  | due (e : DueStep) (h : e ∈ dueSteps) (hd : e.due s = true) : Act s (e.act s)
  | journalMode (mode : JournalMode) : Act s (s.setJr { s.jr with mode := mode })
  | mask (mask : Byte) : Act s (s.setMask mask)
  | post (mask : Word) : Act s ((namedSlots mask).foldl State.postSlot s)
  | abort (mask : Word) : Act s ((namedSlots mask).foldl State.abortSlot s)
  | jack (value : Word) : Act s (s.acknowledge value)
  | attnWrite (value : Word) : Act s (s.clearAttn (lowByte value))
  | loadReport (reply : NvReply) : Act s (s.loadReport reply)
  | calWriteReport (cut : NvCut) (answered : Bool) : Act s (s.calWriteReport cut answered)
  | calWriteLimit (cut : NvCut) : Act s (s.calWriteExpires cut)
  | broken (cut : NvCut) : Act s (s.brokenEnds cut)
  | counterReadReport (high low : NvReply) : Act s (s.counterReadReport high low)
  | counterWriteReport (cut : NvCut) (answered : Bool) : Act s (s.counterWriteReport cut answered)
  | counterWriteLimit (cut : NvCut) : Act s (s.counterWriteExpires cut)
  | frameSent : Act s s.frameSent
  | frameLeft : Act s s.frameLeft
  | printerByte (byte : Byte) : Act s (s.printerByte byte)
  | sample (i : SampleInput) : Act s (s.takeSample i)
  | tick : Act s s.tick

/-- A command's outcome is that of an act, published over the state it began in. -/
def ActsFrom (i : Instr) (s s₀ : State) : Prop := ∃ t, Act s₀ t ∧ exec i s = .next (publish s₀ t)

/-- A command that makes an act where a condition holds, and otherwise none. -/
theorem actsFrom_ite {i : Instr} {s t : State} {c : Bool} (ht : c = true → Act s t)
    (h : exec i s = answer s (if c then t else s)) : ActsFrom i s s := by
  cases c with
  | true => exact ⟨t, ht rfl, h⟩
  | false => exact ⟨s, .idle, h⟩

/-- The step at a place of the list of those that fall due is an act where it is due. -/
theorem Act.dueAt {s : State} (k : Nat) {e : DueStep} (h : dueSteps[k]? = some e) (hd : e.due s = true) : Act s (e.act s) :=
  .due e (List.mem_of_getElem? h) hd

/-- The settled change of an input is an act. -/
theorem Act.settled {s : State} (i : Input) (hd : s.settles i = true) : Act s (s.inputSettles i) := by
  have hk : dueSteps[inputIndex i]? = some (settleStep i) := by cases i <;> rfl
  exact Act.dueAt _ hk hd

/-- A taking that finds no slot of its kind does nothing (R198). -/
theorem State.taking_of_not_due (s : State) (takes : Nat → Bool) (work : State → Nat → State)
    (h : s.takingDue takes = false) : s.taking takes work = s := by
  unfold State.takingDue at h
  unfold State.taking
  split
  case h_1 n hn => rw [if_neg]; simpa [hn] using h
  case h_2 => rfl

/-- A taking is an act. -/
theorem Act.taken {s : State} {takes : Nat → Bool} {work : State → Nat → State} (k : Nat)
    (h : dueSteps[k]? = some (takeStep takes work)) : Act s (s.taking takes work) := by
  cases hd : s.takingDue takes with
  | true => exact Act.dueAt k h hd
  | false =>
    rw [State.taking_of_not_due s takes work hd]
    exact .idle

/-- Every command but the two resets makes an act, a sample and a millisecond after what is due has been taken. -/
theorem exec_acts (i : Instr) (s : State) (hp : ∀ cut, i ≠ .powerOn cut) (hr : i ≠ .laneReset) :
    ActsFrom i s s ∨ ActsFrom i s s.caughtUp := by
  cases i with
  | powerOn cut => exact absurd rfl (hp cut)
  | sample i => exact .inr ⟨_, .sample i, rfl⟩
  | laneTimeTick => exact .inr ⟨_, .tick, rfl⟩
  | setJournalMode mode => exact .inl ⟨_, .journalMode mode, rfl⟩
  | setAttentionMask mask => exact .inl ⟨_, .mask mask, rfl⟩
  | laneReset => exact absurd rfl hr
  | post mask => exact .inl ⟨_, .post mask, rfl⟩
  | abort mask => exact .inl ⟨_, .abort mask, rfl⟩
  | jack value => exact .inl ⟨_, .jack value, rfl⟩
  | attnWrite value => exact .inl ⟨_, .attnWrite value, rfl⟩
  | registerWriteIgnored addr value => exact .inl ⟨_, .idle, rfl⟩
  | settledChange i => exact .inl (actsFrom_ite (fun h => .settled i h) rfl)
  | seated => exact .inl (actsFrom_ite (fun h => .dueAt 11 rfl h) rfl)
  | exitWindowExpiry => exact .inl (actsFrom_ite (fun h => .dueAt 12 rfl h) rfl)
  | startWindowExpiry => exact .inl (actsFrom_ite (fun h => .dueAt 13 rfl h) rfl)
  | ovalitySettleEnd => exact .inl (actsFrom_ite (fun h => .dueAt 14 rfl h) rfl)
  | holdComplete => exact .inl (actsFrom_ite (fun h => .dueAt 15 rfl h) rfl)
  | ovalityLimit => exact .inl (actsFrom_ite (fun h => .dueAt 16 rfl h) rfl)
  | openWindowExpiry => exact .inl (actsFrom_ite (fun h => .dueAt 17 rfl h) rfl)
  | serviceRelease => exact .inl (actsFrom_ite (fun h => .dueAt 18 rfl h) rfl)
  | serviceRunLimit => exact .inl (actsFrom_ite (fun h => .dueAt 19 rfl h) rfl)
  | parkWindowExpiry => exact .inl (actsFrom_ite (fun h => .dueAt 20 rfl h) rfl)
  | parkRelease => exact .inl (actsFrom_ite (fun h => .dueAt 21 rfl h) rfl)
  | parkRunLimit => exact .inl (actsFrom_ite (fun h => .dueAt 22 rfl h) rfl)
  | weighWindowEnd => exact .inl (actsFrom_ite (fun h => .dueAt 23 rfl h) rfl)
  | zeroCaptureEnd => exact .inl (actsFrom_ite (fun h => .dueAt 24 rfl h) rfl)
  | slipWindowEnd => exact .inl (actsFrom_ite (fun h => .dueAt 25 rfl h) rfl)
  | noPulse side => cases side with
    | left => exact .inl (actsFrom_ite (fun h => .dueAt 26 rfl h) rfl)
    | right => exact .inl (actsFrom_ite (fun h => .dueAt 27 rfl h) rfl)
  | slipStop => exact .inl (actsFrom_ite (fun h => .dueAt 28 rfl h) rfl)
  | lowSpeedStall => exact .inl (actsFrom_ite (fun h => .dueAt 29 rfl h) rfl)
  | spinupStall => exact .inl (actsFrom_ite (fun h => .dueAt 30 rfl h) rfl)
  | rollersAtRest => exact .inl (actsFrom_ite (fun h => .dueAt 31 rfl h) rfl)
  | stopTimeout => exact .inl (actsFrom_ite (fun h => .dueAt 32 rfl h) rfl)
  | crossingTimeout => exact .inl (actsFrom_ite (fun h => .dueAt 33 rfl h) rfl)
  | gaugeUpdate => exact .inl (actsFrom_ite (fun h => .dueAt 34 rfl h) rfl)
  | nvReadTimeout => exact .inl (actsFrom_ite (fun h => .dueAt 35 rfl h) rfl)
  | counterReadTimeout => exact .inl (actsFrom_ite (fun h => .dueAt 36 rfl h) rfl)
  | calibrateWriteTimeout cut => exact .inl (actsFrom_ite (fun _ => .calWriteLimit cut) rfl)
  | counterWriteTimeout cut => exact .inl (actsFrom_ite (fun _ => .counterWriteLimit cut) rfl)
  | nvReleaseTimeout cut => exact .inl (actsFrom_ite (fun _ => .broken cut) rfl)
  | driveTestTimerExpiry => exact .inl (actsFrom_ite (fun h => .dueAt 40 rfl h) rfl)
  | repeatMarkLapse => exact .inl (actsFrom_ite (fun h => .dueAt 41 rfl h) rfl)
  | displayRefresh => exact .inl (actsFrom_ite (fun h => .dueAt 42 rfl h) rfl)
  | staleTimerExpiry => exact .inl (actsFrom_ite (fun h => .dueAt 43 rfl h) rfl)
  | printerReplyTimeout => exact .inl (actsFrom_ite (fun h => .dueAt 44 rfl h) rfl)
  | busyResend => exact .inl (actsFrom_ite (fun h => .dueAt 45 rfl h) rfl)
  | pollTimerExpiry => exact .inl (actsFrom_ite (fun h => .dueAt 46 rfl h) rfl)
  | badKind => exact .inl ⟨_, .taken 47 rfl, rfl⟩
  | clearFaults => exact .inl ⟨_, .taken 48 rfl, rfl⟩
  | discardAttempt => exact .inl ⟨_, .taken 49 rfl, rfl⟩
  | setTime => exact .inl ⟨_, .taken 50 rfl, rfl⟩
  | zero => exact .inl ⟨_, .taken 51 rfl, rfl⟩
  | calibrate => exact .inl ⟨_, .taken 52 rfl, rfl⟩
  | runPlan => exact .inl ⟨_, .taken 53 rfl, rfl⟩
  | driveTest => exact .inl ⟨_, .taken 54 rfl, rfl⟩
  | compose => exact .inl ⟨_, .taken 55 rfl, rfl⟩
  | print => exact .inl ⟨_, .taken 56 rfl, rfl⟩
  | calReadDone reply => exact .inl ⟨_, .loadReport reply, rfl⟩
  | calibrateWriteDone cut answered => exact .inl ⟨_, .calWriteReport cut answered, rfl⟩
  | nvPortReleased cut => exact .inl ⟨_, .broken cut, rfl⟩
  | counterReadDone high low => exact .inl ⟨_, .counterReadReport high low, rfl⟩
  | counterWriteDone cut answered => exact .inl ⟨_, .counterWriteReport cut answered, rfl⟩
  | displayFrameSent => exact .inl (actsFrom_ite (fun _ => .frameSent) rfl)
  | printerFrameSent => exact .inl ⟨_, .frameLeft, rfl⟩
  | printerReply byte => exact .inl ⟨_, .printerByte byte, rfl⟩

/-- A relation that every published act and the lane reset satisfy, reflexive and transitive. -/
structure ActRel (R : State → State → Prop) : Prop where
  refl : ∀ s, R s s
  trans : ∀ {s t u}, R s t → R t u → R s u
  act : ∀ {s t}, Act s t → R s (publish s t)
  reset : ∀ s, R s (publish s s.laneReset)

/-- Catching up relates its state to the one it leads to. -/
theorem ActRel.catchUp {R : State → State → Prop} (h : ActRel R) (n : Nat) (s : State) : R s (s.catchUp n) := by
  induction n generalizing s with
  | zero => exact h.refl s
  | succ n ih =>
    unfold State.catchUp
    split
    case h_1 e he => exact h.trans (h.act (.due e (List.mem_of_find?_eq_some he) (List.find?_some (p := fun e : DueStep => e.due s) he))) (ih _)
    case h_2 => exact h.refl s

/-- Every command but POWER_ON relates its state to the next one. -/
theorem ActRel.exec {R : State → State → Prop} (h : ActRel R) {i : Instr} (hp : ∀ cut, i ≠ .powerOn cut) {s t : State}
    (ht : exec i s = .next t) : R s t := by
  by_cases hr : i = .laneReset
  · subst hr
    exact Host.Outcome.next.inj ht ▸ h.reset s
  rcases exec_acts i s hp hr with ⟨_, ha, he⟩ | ⟨_, ha, he⟩ <;>
    rw [he, Host.Outcome.next.injEq] at ht <;> subst ht
  · exact h.act ha
  · exact h.trans (h.catchUp _ s) (h.act ha)

/-- A step leaves an idle part as it is, powers the part on, or relates the state with the queue's rest to the next. -/
theorem ActRel.step {R : State → State → Prop} (h : ActRel R) {s t : State} (ht : step s = .next t) :
    t = s ∨ (∃ cut rest, s.pending = .powerOn cut :: rest ∧ t = State.powered (s.nv.storeAfterPowerLoss cut) rest) ∨
      (∀ cut rest, s.pending ≠ .powerOn cut :: rest) ∧ ∃ rest, R (s.setPending rest) t := by
  unfold Machine.step at ht
  split at ht
  case h_1 _ => exact .inl (Host.Outcome.next.inj ht).symm
  case h_2 c rest hq =>
    by_cases hc : ∃ cut, c = .powerOn cut
    · obtain ⟨cut, rfl⟩ := hc
      exact .inr (.inl ⟨cut, rest, hq, (Host.Outcome.next.inj ht).symm⟩)
    · refine .inr (.inr ⟨fun cut r hr => hc ⟨cut, ?_⟩, rest, h.exec (fun cut hp => hc ⟨cut, hp⟩) ht⟩)
      exact (List.cons.inj (hq.symm.trans hr)).1

/-- An invariant that every act and both resets keep, whatever waits in the queue, is kept by every step. -/
theorem invariant_step {P : State → Prop} (hact : ∀ {s t}, Act s t → P s → P (publish s t))
    (hreset : ∀ s, P s → P (publish s s.laneReset))
    (hqueue : ∀ s rest, P s → P (s.setPending rest))
    (hpower : ∀ s cut rest, P s → P (State.powered (s.nv.storeAfterPowerLoss cut) rest)) {s t : State} (hs : P s)
    (ht : step s = .next t) : P t := by
  have hrel : ActRel fun s t => P s → P t := ⟨fun _ h => h, fun h h' x => h' (h x), fun ha => hact ha,
    fun s => hreset s⟩
  rcases hrel.step ht with rfl | ⟨cut, rest, -, rfl⟩ | ⟨-, rest, h⟩
  · exact hs
  · exact hpower s cut rest hs
  · exact h (hqueue s rest hs)

end Sys2Proof.Machine

/-! PROOFS. The journal law (R202): what the acts do to the journal beyond productions, and that each keeps the law. -/

namespace Sys2Proof.Machine

/-- What an act can do to the journal and to the low bytes of lane memory that is not a record of productions. -/
inductive BesidesRecord (s : State) : State → Prop where
  | journalMode (mode : JournalMode) : BesidesRecord s (s.setJr { s.jr with mode := mode })
  | jack (value : Word) : BesidesRecord s (s.acknowledge value)
  | stale : BesidesRecord s ((s.setJr { s.jr with staleTimer := s.staleLoad }).raiseAttn attnStale)
  | frameSent : BesidesRecord s s.frameSent

/-- A taking makes a record of productions where its work does (R198). -/
theorem State.taking_recorded (takes : Nat → Bool) (work : State → Nat → State)
    (hw : ∀ {σ s : State} (n : Nat), Recorded σ s → Recorded σ (work s n)) (s : State) : Recorded s (s.taking takes work) :=
  State.taking_rec takes work (fun _ n h => hw n h) (.refl s)

/-- The same for a kind of which one request is ACTIVE at most (R198). -/
theorem State.taking_onlyOne_recorded (k : Kind) (work : State → Nat → State)
    (hw : ∀ {σ s : State} (n : Nat), Recorded σ s → Recorded σ (work s n)) (s : State) :
    Recorded s (s.taking (isKind k) (onlyOne k work)) :=
  State.taking_rec _ _ (fun s n h => onlyOne_rec k work (fun _ n h => hw n h) s n h) (.refl s)

/-- A step that falls due makes productions, but for the expiry of the stale timer (R205). -/
theorem dueSteps_recorded : ∀ e ∈ dueSteps, ∀ s, Recorded s (e.act s) ∨ BesidesRecord s (e.act s) := by
  simp only [dueSteps, List.forall_mem_append, settleSteps, List.forall_mem_map]
  refine ⟨⟨⟨⟨fun i _ s => .inl (State.inputSettles_rec i (.refl s)), ?sample⟩, ?window⟩, ?timer⟩, ?take⟩
  case sample =>
    simp only [sampleSteps, List.forall_mem_cons, List.not_mem_nil, false_imp_iff, implies_true, and_true]
    refine ⟨?_, ?_, ?_, ?_, ?_, ?_, ?_, ?_, ?_, ?_, ?_, ?_, ?_, ?_⟩ <;> intro s <;> left <;> simp [Recorded.refl]
  case window =>
    simp only [windowSteps, List.forall_mem_cons, List.not_mem_nil, false_imp_iff, implies_true, and_true]
    refine ⟨?_, ?_, ?_, ?_, ?_, ?_, ?_, ?_, ?_, ?_⟩ <;> intro s <;> left <;> simp [Recorded.refl]
  case timer =>
    simp only [timerSteps, List.forall_mem_cons, List.not_mem_nil, false_imp_iff, implies_true, and_true]
    refine ⟨?_, ?_, ?_, ?_, ?_, ?_, ?_, ?_, fun s => .inr .stale, fun s => .inl ?reply, ?_, ?_⟩
    case reply => split <;> simp [Recorded.refl]
    all_goals intro s; left; simp [Recorded.refl]
  case take =>
    simp only [takeSteps, takeStep, List.forall_mem_cons, List.not_mem_nil, false_imp_iff, implies_true, and_true]
    exact ⟨fun s => .inl (State.taking_recorded _ _ (fun n h => by simp [h]) s),
      fun s => .inl (State.taking_recorded _ _ (fun n h => State.takeClearFaults_rec n h) s),
      fun s => .inl (State.taking_recorded _ _ (fun n h => State.takeDiscard_rec n h) s),
      fun s => .inl (State.taking_recorded _ _ (fun n h => State.takeSetTime_rec n h) s),
      fun s => .inl (State.taking_onlyOne_recorded _ _ (fun n h => State.takeZero_rec n h) s),
      fun s => .inl (State.taking_onlyOne_recorded _ _ (fun n h => State.takeCalibrate_rec n h) s),
      fun s => .inl (State.taking_onlyOne_recorded _ _ (fun n h => State.takeRunPlan_rec n h) s),
      fun s => .inl (State.taking_onlyOne_recorded _ _ (fun n h => State.takeDriveTest_rec n h) s),
      fun s => .inl (State.taking_onlyOne_recorded _ _ (fun n h => State.takeCompose_rec n h) s),
      fun s => .inl (State.taking_recorded _ _ (fun n h => State.takePrint_rec n h) s)⟩

/-- The reports of the devices make productions alone. -/
theorem State.loadReport_recorded (s : State) (reply : NvReply) : Recorded s (s.loadReport reply) := by
  unfold State.loadReport
  split <;> simp [Recorded.refl]

theorem State.calWriteReport_recorded (s : State) (cut : NvCut) (answered : Bool) :
    Recorded s (s.calWriteReport cut answered) := by
  unfold State.calWriteReport
  split <;> simp [Recorded.refl]

theorem State.counterReadReport_recorded (s : State) (high low : NvReply) : Recorded s (s.counterReadReport high low) := by
  unfold State.counterReadReport
  split
  case h_1 c _ _ =>
    split
    · exact State.counterReadExpires_rec (.refl s)
    · exact State.counterReadEnds_rec _ _ _ (State.correctedEntry_rec _ _ _ (State.correctedEntry_rec _ _ _ (.refl s)))
  case h_2 => exact .refl s

theorem State.counterWriteReport_recorded (s : State) (cut : NvCut) (answered : Bool) :
    Recorded s (s.counterWriteReport cut answered) := by
  unfold State.counterWriteReport
  split <;> simp [Recorded.refl]

theorem State.printerByte_recorded (s : State) (byte : Byte) : Recorded s (s.printerByte byte) := by
  unfold State.printerByte
  repeat' split
  all_goals simp [Recorded.refl]

/-- Every act makes productions alone, or is one of the few that do something else to the journal or to the low bytes. -/
theorem Act.recorded {s t : State} (ha : Act s t) : Recorded s t ∨ BesidesRecord s t := by
  cases ha with
  | idle => exact .inl (.refl s)
  | due e h _ => exact dueSteps_recorded e h s
  | journalMode mode => exact .inr (.journalMode mode)
  | mask mask => exact .inl (by simp [Recorded.refl])
  | post mask => exact .inl (foldl_rec _ (fun _ n h => State.postSlot_rec n h) _ _ (.refl s))
  | abort mask => exact .inl (foldl_rec _ (fun _ n h => State.abortSlot_rec n h) _ _ (.refl s))
  | jack value => exact .inr (.jack value)
  | attnWrite value => exact .inl (by simp [Recorded.refl])
  | loadReport reply => exact .inl (s.loadReport_recorded reply)
  | calWriteReport cut answered => exact .inl (s.calWriteReport_recorded cut answered)
  | calWriteLimit cut => exact .inl (by simp [Recorded.refl])
  | broken cut => exact .inl (by simp [Recorded.refl])
  | counterReadReport high low => exact .inl (s.counterReadReport_recorded high low)
  | counterWriteReport cut answered => exact .inl (s.counterWriteReport_recorded cut answered)
  | counterWriteLimit cut => exact .inl (by simp [Recorded.refl])
  | frameSent => exact .inr .frameSent
  | frameLeft => exact .inl (by simp [Recorded.refl])
  | printerByte byte => exact .inl (s.printerByte_recorded byte)
  | sample i => exact .inl (State.takeSample_rec i (.refl s))
  | tick => exact .inl (State.tick_rec (.refl s))

/-- The ack index after a JACK leaves no more entries unacknowledged than before (R203). -/
theorem Journal.distance_ackAfter (j : Journal) (value : Word) : (j.put - j.ackAfter value).toNat ≤ (j.put - j.ack).toNat := by
  unfold Journal.ackAfter
  dsimp only
  split
  case isTrue h =>
    obtain ⟨-, h⟩ := h
    generalize BitVec.ofNat 8 value.toNat = i at h
    bv_omega
  case isFalse => simp

/-- A lane reset leaves an empty journal with the mode kept (R210). -/
theorem State.laneReset_jr (s : State) : s.laneReset.jr = s.jr.afterReset := by
  simp [State.laneReset]

/-- The law reads the indices and the totals alone (R202). -/
theorem JournalLaw.congr {j k : Journal} (h : JournalLaw j) (hput : k.put = j.put) (hack : k.ack = j.ack)
    (hproduced : k.produced = j.produced) (hstored : k.stored = j.stored) (hdropped : k.dropped = j.dropped) : JournalLaw k := by
  unfold JournalLaw Journal.count at h ⊢
  rwa [hput, hack, hproduced, hstored, hdropped]

/-- The empty journal satisfies the law (R202). -/
theorem journalLaw_reset : JournalLaw State.reset.jr := ⟨by decide, by decide⟩

/-- Productions keep the law (R202). -/
theorem JrSteps.keeps {j k : Journal} (hjk : JrSteps j k) (h : JournalLaw j) : JournalLaw k := by
  induction hjk with
  | refl => exact h
  | dropped _ _ ih => exact ih.droppedEntry
  | written _ _ timer ih => exact ih.written timer

/-- What is no record of productions keeps the law as well (R203, R205, R210). -/
theorem BesidesRecord.journalLaw {s t : State} (hst : BesidesRecord s t) (h : JournalLaw s.jr) : JournalLaw t.jr := by
  cases hst with
  | journalMode mode => exact h.congr rfl rfl rfl rfl rfl
  | jack value =>
    obtain ⟨hcount, htotals⟩ := h
    exact ⟨(s.jr.distance_ackAfter value).trans hcount, htotals⟩
  | stale => exact h.congr (by simp) (by simp) (by simp) (by simp) (by simp)
  | frameSent => exact h.congr (by simp) (by simp) (by simp) (by simp) (by simp)

/-- Publication does not touch the journal (R196). -/
theorem publish_jr (old new : State) : (publish old new).jr = new.jr := by simp

/-- Settles O56: every act makes productions, which keep the law one by one, or one of a few other changes that keep it. -/
theorem journalLawIsKept : Obligations.JournalLawIsKept := by
  unfold Obligations.JournalLawIsKept
  intro s t hs ht
  refine invariant_step (P := fun s => JournalLaw s.jr) (fun ha h => ?act) (fun s _ => ?reset) (fun _ _ h => h) (fun s cut rest _ => ?power) hs ht
  case act =>
    rw [publish_jr]
    exact ha.recorded.elim (fun hr => hr.jr.keeps h) fun hb => hb.journalLaw h
  case reset =>
    rw [publish_jr, State.laneReset_jr]
    exact journalLaw_reset.congr rfl rfl rfl rfl rfl
  case power => exact journalLaw_reset.congr rfl rfl rfl rfl rfl

end Sys2Proof.Machine

/-! PROOFS. The queue and the start cause, the two resets, and the register writes of the host. -/

namespace Sys2Proof.Machine

/-- A step takes the command at the front of the queue. -/
theorem step_cons (c : Instr) (rest : List Instr) (s : State) (h : s.pending = c :: rest) :
    step s = exec c (s.setPending rest) := by
  rw [step, h]

/-- A step on an empty queue leaves the part as it is. -/
theorem step_nil (s : State) (h : s.pending = []) : step s = .next s := by
  rw [step, h]

/-- Settles O1: the two arms of `step`. -/
theorem stepTakesFrontCommand : Obligations.StepTakesFrontCommand := ⟨step_cons, step_nil⟩

/-- Two states agree on the queue and the start cause. -/
def SameQueue (s t : State) : Prop := t.pending = s.pending ∧ t.cause = s.cause

theorem SameQueue.fold {α : Type} (f : State → α → State) (hf : ∀ s x, SameQueue s (f s x)) (l : List α) (s : State) :
    SameQueue s (l.foldl f s) :=
  ⟨foldl_keeps f (·.pending) (fun s x => (hf s x).1) l s, foldl_keeps f (·.cause) (fun s x => (hf s x).2) l s⟩

/-- Every act keeps the queue and the start cause. -/
theorem Act.sameQueue {s t : State} (ha : Act s t) : SameQueue s t := by
  cases ha with
  | due e h _ => exact dueSteps_keep e h s
  | post mask => exact SameQueue.fold _ (fun s n => by simp [SameQueue]) _ s
  | abort mask => exact SameQueue.fold _ (fun s n => by simp [SameQueue]) _ s
  | loadReport reply => unfold State.loadReport; split <;> simp [SameQueue]
  | calWriteReport cut answered => unfold State.calWriteReport; split <;> simp [SameQueue]
  | counterReadReport high low => unfold State.counterReadReport; repeat' split
                                  all_goals simp [SameQueue]
  | counterWriteReport cut answered => unfold State.counterWriteReport; split <;> simp [SameQueue]
  | printerByte byte => unfold State.printerByte; repeat' split
                        all_goals simp [SameQueue]
  | _ => simp [SameQueue]

/-- Settles O2: every command but the two resets is an act, which keeps queue and cause; the resets keep the queue. -/
theorem everyCommandAnswersNext : Obligations.EveryCommandAnswersNext := by
  unfold Obligations.EveryCommandAnswersNext
  intro c s
  by_cases hp : ∃ cut, c = .powerOn cut
  · obtain ⟨cut, rfl⟩ := hp
    exact ⟨_, rfl, rfl, fun h => absurd rfl (h cut)⟩
  by_cases hr : c = .laneReset
  · subst hr
    exact ⟨_, rfl, by simp, fun _ h => absurd rfl h⟩
  rcases exec_acts c s (fun cut h => hp ⟨cut, h⟩) hr with ⟨t, ha, he⟩ | ⟨t, ha, he⟩ <;>
    obtain ⟨hpending, hcause⟩ := ha.sameQueue
  · exact ⟨_, he, by simp [hpending], fun _ _ => by simp [hcause]⟩
  · exact ⟨_, he, by simp [hpending], fun _ _ => by simp [hcause]⟩

/-- A list of one value reads that value everywhere, where the value is also read outside it. -/
theorem getD_replicate_self {α : Type} (n i : Nat) (a : α) : (List.replicate n a).getD i a = a := by
  rw [List.getD_eq_getElem?_getD, List.getElem?_replicate]
  split <;> rfl

/-- Settles O3: the power-on state is given block by block. -/
theorem powerOnStartsEveryBlock : Obligations.PowerOnStartsEveryBlock := by
  unfold Obligations.PowerOnStartsEveryBlock
  intro cut s
  refine ⟨_, rfl, fun a => ?memory, ?store, rfl, rfl, rfl, rfl, fun n => getD_replicate_self 16 n _, rfl, rfl, rfl, rfl,
    fun i => getD_replicate_self 9 i _, fun i => getD_replicate_self 11 i _, rfl, rfl, rfl, rfl,
    fun i => getD_replicate_self 9 i _, fun i => ?count, ?rest⟩
  case memory => simp only [State.powered, Memory.readByte, eq_comm]
  case store => rfl
  case count => exact congrArg DiscreteInput.count (getD_replicate_self 11 (inputIndex i) ⟨false, 0⟩)
  case rest =>
    simp only [State.powered, Engine.atPowerOn, Drive.atPowerOn, RunUnit.cleared, RunUnit.prompt, Sequencer.cleared, State.cert,
      getD_replicate_self, implies_true, and_self]

/-- A test of a number's bit is that of the word's bit. -/
theorem testBit_toNat (v : Word) (k : Nat) : v.toNat.testBit k = v.getLsbD k := rfl

/-- A write to LANECTL spells its fields in order (R194, R195). -/
theorem registerCommands_lanectl (v : Word) : registerCommands 0x4002 v =
    [.setJournalMode (journalModeField v), .setAttentionMask (attentionMaskField v)]
      ++ if v.getLsbD 0 then [.laneReset] else [] := by
  rfl

/-- The journal mode and the attention mask stand behind no image (R196). -/
theorem exec_setJournalMode (m : JournalMode) (s : State) :
    exec (.setJournalMode m) s = .next (s.setJr { s.jr with mode := m }) :=
  congrArg _ (publish_same _ _ rfl rfl rfl rfl rfl)

theorem exec_setAttentionMask (k : Byte) (s : State) : exec (.setAttentionMask k) s = .next (s.setMask k) :=
  congrArg _ (publish_same _ _ rfl rfl rfl rfl rfl)

theorem exec_attnWrite (v : Word) (s : State) : exec (.attnWrite v) s = .next (s.clearAttn (lowByte v)) :=
  congrArg _ (publish_same _ _ rfl rfl rfl rfl rfl)

/-- Settles O4: none of these writes changes what stands behind an image. -/
theorem registerWritesOfTheHost : Obligations.RegisterWritesOfTheHost := by
  unfold Obligations.RegisterWritesOfTheHost
  refine ⟨registerCommands_lanectl, exec_setJournalMode, exec_setAttentionMask,
    fun v s => ⟨_, exec_attnWrite v s, fun k hk => ?bits⟩, fun addr v s => congrArg _ (publish_self s)⟩
  case bits => simp [lowByte, hk]

end Sys2Proof.Machine

/-! PROOFS. The laws at power-on, and the lengths of the lists of the state at every step. -/

namespace Sys2Proof.Machine

/-! ### Power-on: the laws do not depend on the NV store, but for the counter's, nor on the queue -/

theorem driveSafe_powered (store : NvStore) (q : List Instr) : DriveSafe (State.powered store q) := by
  simp [DriveSafe, State.powered, Drive.atPowerOn, isSpinning, Engine.atPowerOn]

theorem headerLaw_powered (store : NvStore) (q : List Instr) : HeaderLaw (State.powered store q) :=
  have h : HeaderLaw State.reset := by unfold HeaderLaw; decide +kernel
  h

theorem tableLaw_powered (store : NvStore) (q : List Instr) : TableLaw (State.powered store q) :=
  have h : TableLaw State.reset := by unfold TableLaw; decide +kernel
  h

theorem certLaw_powered (store : NvStore) (q : List Instr) : CertLaw (State.powered store q) :=
  have h : CertLaw State.reset := by unfold CertLaw; decide +kernel
  h

theorem attemptLaw_emptied (runId : Nat) : AttemptLaw (AxleTable.emptied runId) := by
  intro r hr
  rw [List.eq_of_mem_replicate hr]
  decide

theorem shapeLaw_powered (store : NvStore) (q : List Instr) : ShapeLaw (State.powered store q) :=
  ⟨rfl, rfl, rfl, rfl, rfl, nofun⟩

/-- Nothing is issued at power-on, and only the read of the load is under way (R176). -/
theorem counterLaw_powered (store : NvStore) (q : List Instr) : CounterLaw (State.powered store q) :=
  ⟨nofun, rfl, fun w _ => Nat.zero_le w⟩

/-- Settles O55: reset is a power-on with the store as delivered. -/
theorem lawsHoldAtReset : Obligations.LawsHoldAtReset :=
  ⟨journalLaw_reset, driveSafe_powered _ _, counterLaw_powered _ _, headerLaw_powered _ _, tableLaw_powered _ _,
    certLaw_powered _ _, attemptLaw_emptied 0, shapeLaw_powered _ _⟩

/-! ### The lengths of the lists -/

/-- Every act keeps the lengths of the lists of the state, and the target of a COMPOSE. -/
theorem Act.shape {s t : State} (ha : Act s t) (h : ShapeLaw s) : ShapeLaw t := by
  cases ha with
  | idle => exact h
  | due e he _ => exact dueSteps_shape e he s h
  | post mask => exact foldl_shape _ (fun s n h => State.postSlot_shape n h) _ s h
  | abort mask => exact foldl_shape _ (fun s n h => State.abortSlot_shape n h) _ s h
  | loadReport reply => unfold State.loadReport; split <;> simp [h]
  | calWriteReport cut answered => unfold State.calWriteReport; split <;> simp [h]
  | counterReadReport high low =>
    unfold State.counterReadReport
    split
    case h_1 c _ hc =>
      split
      · exact State.counterReadExpires_shape h
      · exact State.counterReadEnds_shape c _ _ (h.2.2.2.2.2 c hc) (by simp [h])
    case h_2 => exact h
  | counterWriteReport cut answered => unfold State.counterWriteReport; split <;> simp [h]
  | printerByte byte =>
    unfold State.printerByte
    repeat' split
    · exact State.lineReply_shape _ (by simp [h])
    · exact State.pollReply_shape _ (by simp [h])
    · exact h
  | jack value => exact (ShapeLaw.congr (by simp) (by simp) (by simp) (by simp) (by simp)).2 h
  | frameSent => exact (ShapeLaw.congr (by simp) (by simp) (by simp) (by simp) (by simp)).2 h
  | _ => simp [h]

/-- Every step keeps the lengths of the lists of the state. -/
theorem step_shape {s t : State} (hs : ShapeLaw s) (ht : step s = .next t) : ShapeLaw t :=
  invariant_step (fun ha h => (publish_shape _ _).2 (ha.shape h)) (fun _ h => (publish_shape _ _).2 (State.laneReset_shape h))
    (fun _ _ h => h) (fun _ _ _ _ => shapeLaw_powered _ _) hs ht

end Sys2Proof.Machine

/-! PROOFS. Closed predicates: what holds of a state and outlives the few ways in which the operations change lane memory under the
images, the axle table and the drive, outlives every operation. Each law is then shown closed, once. -/

namespace Sys2Proof.Machine

set_option Elab.async false

/-! ### The ways in which an operation changes the state -/

/-- A byte of the axle table area or of a certificate record. -/
def shownByte (a : Nat) : Prop := tableByte a ∨ ∃ k, k < 4 ∧ certByte k a

/-- What the safety rule of the drive reads is the same in both states (R32). -/
structure SameSafety (s t : State) : Prop where
  drive : t.drv.state = s.drv.state
  energised : t.drv.energised = s.drv.energised
  mode : t.eng.mode = s.eng.mode
  presence : t.level .presence = s.level .presence
  estop : t.level .estop = s.level .estop
  inputs : t.eng.inputs.length = s.eng.inputs.length
  started : t.eng.started = s.eng.started
  seated : t.seat.seated = s.seat.seated
  qualify : t.seat.qualify = s.seat.qualify

/-- The axle table and its bytes are the same in both states, and lane memory keeps its canonical form. -/
structure SameTable (s t : State) : Prop where
  tab : t.tab = s.tab
  wf : Memory.wf s.mem → Memory.wf t.mem
  bytes : ∀ a, tableByte a → Memory.readByte t.mem a = Memory.readByte s.mem a

/-- The certificate records and their bytes are the same in both states. -/
structure SameCerts (s t : State) : Prop where
  records : t.comp.records = s.comp.records
  bytes : ∀ k, k < 4 → ∀ a, certByte k a → Memory.readByte t.mem a = Memory.readByte s.mem a

/-- A predicate that outlives a change beside the table, the certificates and what the safety rule reads. -/
structure FreeClosed (R : State → Prop) : Prop where
  keeps : ∀ {s t}, SameTable s t → SameCerts s t → SameSafety s t → R s → R t

/-- A predicate that outlives a change of the certificates as well. -/
structure CertClosed (R : State → Prop) : Prop where
  keeps : ∀ {s t}, SameTable s t → SameSafety s t → R s → R t

/-- A predicate that outlives the changes of the axle table, each with the words that it writes whole (R47), and those of the drive. -/
structure EditClosed (R : State → Prop) : Prop where
  free : FreeClosed R
  header : ∀ {s : State} (t : AxleTable), t.records = s.tab.records → R s → R (s.setTab t)
  violations : ∀ {s : State} (k v : Nat), R s → R (s.setRecord k { s.record k with violations := v })
  status : ∀ {s : State} (k : Nat) (st : AxleStatus) (skip : Option SkipReason), R s → R (s.setStatus k st skip)
  sideSlip : ∀ {s : State} (k : Nat) (x : SideSlip), R s → R (s.setSideSlip k x)
  weights : ∀ {s : State} (k : Nat) (l r : Option Int), R s →
    R ((s.setRecord k { s.record k with weightL := l, weightR := r }).rewriteOptional k 3 2)
  parking : ∀ {s : State} (k : Nat) (p : Parking), R s →
    R ((s.setRecord k { s.record k with parking := some p }).rewriteOptional k 10 5)
  push : ∀ {s : State} (k : Nat) (a : Attempt), R s →
    R ((s.setRecord k { s.record k with
        attempts := pushOnto (s.record k).attempts a
        overflow := (s.record k).overflow || decide (3 ≤ (s.record k).attempts.length) }).rewriteAttempt k
          ((pushOnto (s.record k).attempts a).length - 1) (if (s.record k).attempts.length < 3 then 8 else 9))
  start : ∀ {s : State} (d : Drive), s.startRefusal = none → d.state = .spinup → d.energised = true → R s → R (s.setDrv d)
  run : ∀ {s : State} (d : Drive), s.drv.state = .spinup → d.state = .run → d.energised = s.drv.energised → R s → R (s.setDrv d)
  stop : ∀ {s : State} (d : Drive), d.state = .stopping → d.energised = false → R s → R (s.setDrv d)
  rest : ∀ {s : State} (d : Drive), isSpinning s.drv.state = false → isSpinning d.state = false →
    d.energised = s.drv.energised → R s → R (s.setDrv d)

/-- A predicate that does not read what the safety rule reads. -/
structure LooseClosed (R : State → Prop) : Prop where
  edit : EditClosed R
  loose : ∀ {s t}, SameTable s t → SameCerts s t → R s → R t

/-- A predicate that outlives a derivation of the lane mode as well (R22). -/
structure ModeClosed (R : State → Prop) : Prop where
  edit : EditClosed R
  mode : ∀ {s}, R s → R s.deriveMode

/-- A predicate that outlives every change of what the safety rule reads (R5, R22, R25, R26). -/
structure SensorClosed (R : State → Prop) : Prop where
  mode : ModeClosed R
  presence : ∀ {s}, R s → R (s.settleLevel .presence).presenceSettles
  estop : ∀ {s}, R s → R (s.settleLevel .estop).estopSettles
  seat : ∀ {s}, s.seatDue = true → R s → R s.seatNow
  sample : ∀ {s} (i : SampleInput), R s → R (s.takeSample i)

/-- A predicate of the state, named so that the lemmas on the operations can be found by their operation. -/
def Holds (R : State → Prop) (s : State) : Prop := R s

theorem EditClosed.freeClosed {R : State → Prop} (hR : EditClosed R) : FreeClosed R := hR.free
theorem LooseClosed.editClosed {R : State → Prop} (hR : LooseClosed R) : EditClosed R := hR.edit
theorem LooseClosed.freeClosed {R : State → Prop} (hR : LooseClosed R) : FreeClosed R := hR.edit.free
theorem ModeClosed.freeClosed {R : State → Prop} (hR : ModeClosed R) : FreeClosed R := hR.edit.free
theorem CertClosed.freeClosed {R : State → Prop} (hR : CertClosed R) : FreeClosed R := ⟨fun h _ => hR.keeps h⟩

theorem SameTable.of_eq {s t : State} (hm : t.mem = s.mem) (ht : t.tab = s.tab) : SameTable s t :=
  ⟨ht, fun h => hm ▸ h, fun _ _ => by rw [hm]⟩

theorem SameCerts.of_eq {s t : State} (hm : t.mem = s.mem) (hc : t.comp.records = s.comp.records) : SameCerts s t :=
  ⟨hc, fun _ _ _ _ => by rw [hm]⟩

theorem SameSafety.of_eq {s t : State} (hd : t.drv.state = s.drv.state) (hn : t.drv.energised = s.drv.energised)
    (hm : t.eng.mode = s.eng.mode) (hi : t.eng.inputs = s.eng.inputs) (hs : t.eng.started = s.eng.started)
    (hw : t.seat.seated = s.seat.seated) (hq : t.seat.qualify = s.seat.qualify) : SameSafety s t :=
  ⟨hd, hn, hm, level_of_inputs hi _, level_of_inputs hi _, by rw [hi], hs, hw, hq⟩

variable {R : State → Prop} {s : State}

/-- A change that leaves lane memory, the table, the certificates and what the safety rule reads as they are. -/
theorem FreeClosed.same {t : State} (hR : FreeClosed R) (h : Holds R s) (hm : t.mem = s.mem := by simp) (ht : t.tab = s.tab := by simp)
    (hc : t.comp.records = s.comp.records := by simp) (hd : t.drv.state = s.drv.state := by simp)
    (hn : t.drv.energised = s.drv.energised := by simp) (hmode : t.eng.mode = s.eng.mode := by simp)
    (hi : t.eng.inputs = s.eng.inputs := by simp) (hs : t.eng.started = s.eng.started := by simp)
    (hw : t.seat.seated = s.seat.seated := by simp) (hq : t.seat.qualify = s.seat.qualify := by simp) : Holds R t :=
  hR.keeps (.of_eq hm ht) (.of_eq hm hc) (.of_eq hd hn hmode hi hs hw hq) h

/-- A change of lane memory alone, outside the axle table and the certificate records. -/
theorem FreeClosed.memory {t : State} (hR : FreeClosed R) (h : Holds R s) (hwf : Memory.wf s.mem → Memory.wf t.mem)
    (hb : ∀ a, shownByte a → Memory.readByte t.mem a = Memory.readByte s.mem a) (ht : t.tab = s.tab := by simp)
    (hc : t.comp.records = s.comp.records := by simp) (hd : t.drv = s.drv := by simp) (he : t.eng = s.eng := by simp)
    (hw : t.seat = s.seat := by simp) : Holds R t :=
  hR.keeps ⟨ht, hwf, fun a ha => hb a (.inl ha)⟩ ⟨hc, fun k hk a ha => hb a (.inr ⟨k, hk, ha⟩)⟩
    (.of_eq (by rw [hd]) (by rw [hd]) (by rw [he]) (by rw [he]) (by rw [he]) (by rw [hw]) (by rw [hw])) h

/-! ### The updates of one part of the state -/

@[simp] theorem State.setPending_holds (x : List Instr) (hR : FreeClosed R) (h : Holds R s) : Holds R (s.setPending x) :=
  hR.keeps (s := s) (.of_eq rfl rfl) (.of_eq rfl rfl) (.of_eq rfl rfl rfl rfl rfl rfl rfl) h
@[simp] theorem State.setClk_holds (x : Clock) (hR : FreeClosed R) (h : Holds R s) : Holds R (s.setClk x) :=
  hR.keeps (s := s) (.of_eq rfl rfl) (.of_eq rfl rfl) (.of_eq rfl rfl rfl rfl rfl rfl rfl) h
@[simp] theorem State.setSlots_holds (x : List Held) (hR : FreeClosed R) (h : Holds R s) : Holds R (s.setSlots x) :=
  hR.keeps (s := s) (.of_eq rfl rfl) (.of_eq rfl rfl) (.of_eq rfl rfl rfl rfl rfl rfl rfl) h
@[simp] theorem State.setJr_holds (x : Journal) (hR : FreeClosed R) (h : Holds R s) : Holds R (s.setJr x) :=
  hR.keeps (s := s) (.of_eq rfl rfl) (.of_eq rfl rfl) (.of_eq rfl rfl rfl rfl rfl rfl rfl) h
@[simp] theorem State.setAtt_holds (x : Attention) (hR : FreeClosed R) (h : Holds R s) : Holds R (s.setAtt x) :=
  hR.keeps (s := s) (.of_eq rfl rfl) (.of_eq rfl rfl) (.of_eq rfl rfl rfl rfl rfl rfl rfl) h
@[simp] theorem State.setGauge_holds (x : Gauge) (hR : FreeClosed R) (h : Holds R s) : Holds R (s.setGauge x) :=
  hR.keeps (s := s) (.of_eq rfl rfl) (.of_eq rfl rfl) (.of_eq rfl rfl rfl rfl rfl rfl rfl) h
@[simp] theorem State.setNv_holds (x : Nv) (hR : FreeClosed R) (h : Holds R s) : Holds R (s.setNv x) :=
  hR.keeps (s := s) (.of_eq rfl rfl) (.of_eq rfl rfl) (.of_eq rfl rfl rfl rfl rfl rfl rfl) h
@[simp] theorem State.setDtest_holds (x : Option DriveTest) (hR : FreeClosed R) (h : Holds R s) : Holds R (s.setDtest x) :=
  hR.keeps (s := s) (.of_eq rfl rfl) (.of_eq rfl rfl) (.of_eq rfl rfl rfl rfl rfl rfl rfl) h
@[simp] theorem State.setWeigh_holds (x : Option Weighing) (hR : FreeClosed R) (h : Holds R s) : Holds R (s.setWeigh x) :=
  hR.keeps (s := s) (.of_eq rfl rfl) (.of_eq rfl rfl) (.of_eq rfl rfl rfl rfl rfl rfl rfl) h
@[simp] theorem State.setRun_holds (x : RunUnit) (hR : FreeClosed R) (h : Holds R s) : Holds R (s.setRun x) :=
  hR.keeps (s := s) (.of_eq rfl rfl) (.of_eq rfl rfl) (.of_eq rfl rfl rfl rfl rfl rfl rfl) h
@[simp] theorem State.setPlate_holds (x : Plate) (hR : FreeClosed R) (h : Holds R s) : Holds R (s.setPlate x) :=
  hR.keeps (s := s) (.of_eq rfl rfl) (.of_eq rfl rfl) (.of_eq rfl rfl rfl rfl rfl rfl rfl) h
@[simp] theorem State.setSeq_holds (x : Sequencer) (hR : FreeClosed R) (h : Holds R s) : Holds R (s.setSeq x) :=
  hR.keeps (s := s) (.of_eq rfl rfl) (.of_eq rfl rfl) (.of_eq rfl rfl rfl rfl rfl rfl rfl) h
@[simp] theorem State.setDisp_holds (x : Display) (hR : FreeClosed R) (h : Holds R s) : Holds R (s.setDisp x) :=
  hR.keeps (s := s) (.of_eq rfl rfl) (.of_eq rfl rfl) (.of_eq rfl rfl rfl rfl rfl rfl rfl) h
@[simp] theorem State.setPrn_holds (x : Printer) (hR : FreeClosed R) (h : Holds R s) : Holds R (s.setPrn x) :=
  hR.keeps (s := s) (.of_eq rfl rfl) (.of_eq rfl rfl) (.of_eq rfl rfl rfl rfl rfl rfl rfl) h
@[simp] theorem State.setComp_holds (x : Composer) (hx : x.records = s.comp.records) (hR : FreeClosed R) (h : Holds R s) :
    Holds R (s.setComp x) :=
  hR.keeps (s := s) (.of_eq rfl rfl) (.of_eq rfl hx) (.of_eq rfl rfl rfl rfl rfl rfl rfl) h
@[simp] theorem State.setEng_holds (x : Engine) (hm : x.mode = s.eng.mode) (hi : x.inputs = s.eng.inputs)
    (hs : x.started = s.eng.started) (hR : FreeClosed R) (h : Holds R s) : Holds R (s.setEng x) :=
  hR.keeps (s := s) (.of_eq rfl rfl) (.of_eq rfl rfl) (.of_eq rfl rfl hm hi hs rfl rfl) h
@[simp] theorem State.setSeat_holds (x : Seating) (hw : x.seated = s.seat.seated) (hq : x.qualify = s.seat.qualify)
    (hR : FreeClosed R) (h : Holds R s) : Holds R (s.setSeat x) := hR.keeps (s := s) (.of_eq rfl rfl) (.of_eq rfl rfl) (.of_eq rfl rfl rfl rfl rfl hw hq) h
@[simp] theorem State.setDrv_holds (x : Drive) (hd : x.state = s.drv.state) (hn : x.energised = s.drv.energised)
    (hR : FreeClosed R) (h : Holds R s) : Holds R (s.setDrv x) := hR.keeps (s := s) (.of_eq rfl rfl) (.of_eq rfl rfl) (.of_eq hd hn rfl rfl rfl rfl rfl) h
@[simp] theorem State.setTab_holds (x : AxleTable) (hx : x.records = s.tab.records) (hR : EditClosed R) (h : Holds R s) :
    Holds R (s.setTab x) := hR.header x hx h

/-! ### Writes to lane memory -/

theorem shownByte_not_ring {a : Nat} (h : shownByte a) : ¬ ringByte a := by
  rcases h with h | ⟨k, -, h⟩
  · unfold tableByte at h; unfold ringByte; omega
  · unfold certByte certBase at h; unfold ringByte; omega

theorem shownByte_not_slot {a : Nat} (n : Nat) (h : shownByte a) : ¬ slotByte n a := by
  rcases h with h | ⟨k, -, h⟩
  · unfold tableByte at h; unfold slotByte slotBase; omega
  · unfold certByte certBase at h; unfold slotByte slotBase; omega

theorem shownByte_ge {a : Nat} (h : shownByte a) : 0x0900 ≤ a := by
  rcases h with h | ⟨k, -, h⟩
  · exact h.1
  · unfold certByte certBase at h; omega

@[simp] theorem State.produce_holds (code axle : Nat) (p1 p2 : Word) (hR : FreeClosed R) (h : Holds R s) :
    Holds R (s.produce code axle p1 p2) :=
  hR.memory h (State.produce_wf s code axle p1 p2) fun a ha =>
    State.produce_readByte s code axle p1 p2 a fun hn => shownByte_not_ring ha (nextEntryByte_ring _ _ hn)

@[simp] theorem State.finishSlot_holds (n : Nat) (o : ReqOutcome) (d : Detail) (r : List Word) (hR : FreeClosed R)
    (h : Holds R s) : Holds R (s.finishSlot n o d r) :=
  hR.memory h (State.finishSlot_wf s n o d r) fun a ha => State.finishSlot_readByte s n o d r a (shownByte_not_slot n ha)

@[simp] theorem State.activate_holds (n : Nat) (k : Kind) (hR : FreeClosed R) (h : Holds R s) : Holds R (s.activate n k) :=
  hR.memory h (State.activate_wf s n k) fun a ha => State.activate_readByte s n k a (shownByte_not_slot n ha)

@[simp] theorem State.putTime_holds (v : DWord) (hR : FreeClosed R) (h : Holds R s) : Holds R (s.putTime v) :=
  hR.memory h (State.putTime_wf s v) fun a ha => State.putTime_readByte s v a (by
    have := shownByte_ge ha
    unfold timeByte
    omega)

@[simp] theorem State.putSeq_holds (x : Sequencer) (hR : FreeClosed R) (h : Holds R s) : Holds R (s.putSeq x) :=
  hR.memory h (fun hw => Memory.wf_writeWord _ hw _ _) fun a ha => State.putSeq_readByte s x a (by
    have := shownByte_ge ha
    omega)

@[simp] theorem State.raiseAttn_holds (b : Byte) (hR : FreeClosed R) (h : Holds R s) : Holds R (s.raiseAttn b) := hR.same h

@[simp] theorem State.complete_holds (n k : Nat) (o : ReqOutcome) (d : Detail) (r : List Word) (hR : FreeClosed R)
    (h : Holds R s) : Holds R (s.complete n k o d r) := by
  simp (maxDischargeDepth := 40) [State.complete, hR, h]

@[simp] theorem frameAfter_holds (old : State) (hR : FreeClosed R) (h : Holds R s) : Holds R (frameAfter old s) := hR.same h

/-- A fold of operations that keep a predicate keeps it. -/
theorem foldl_holds {α : Type} (f : State → α → State) (hf : ∀ s x, Holds R s → Holds R (f s x)) (l : List α)
    (s : State) (h : Holds R s) : Holds R (l.foldl f s) := by
  induction l generalizing s with
  | nil => exact h
  | cons x l ih => exact ih _ (hf _ _ h)

end Sys2Proof.Machine

/-! PROOFS. Every operation keeps a closed predicate. -/

namespace Sys2Proof.Machine

set_option Elab.async false

section
variable {R : State → Prop} {s : State}

theorem ite_holds {c : Prop} [Decidable c] {t u : State} (ht : Holds R t) (hu : Holds R u) : Holds R (if c then t else u) := by
  split
  · exact ht
  · exact hu

/-! ### The operations that a law names -/

@[simp] theorem State.setHeld_holds (n : Nat) (k : Held) (hR : FreeClosed R) (h : Holds R s) : Holds R (s.setHeld n k) := hR.same h

@[simp] theorem State.setStatus_holds (k : Nat) (st : AxleStatus) (skip : Option SkipReason) (hR : EditClosed R) (h : Holds R s) :
    Holds R (s.setStatus k st skip) := hR.status k st skip h

@[simp] theorem State.setSideSlip_holds (k : Nat) (x : SideSlip) (hR : EditClosed R) (h : Holds R s) :
    Holds R (s.setSideSlip k x) := hR.sideSlip k x h

@[simp] theorem State.raiseViolation_holds (hR : EditClosed R) (h : Holds R s) : Holds R s.raiseViolation := by
  unfold State.raiseViolation
  dsimp only
  split
  · exact h
  · exact hR.violations _ _ h

@[simp] theorem State.lowerViolation_holds (hR : EditClosed R) (h : Holds R s) : Holds R s.lowerViolation :=
  hR.violations _ _ h

@[simp] theorem State.pushAttempt_holds (axle : Nat) (a : Attempt) (hR : EditClosed R) (h : Holds R s) :
    Holds R (s.pushAttempt axle a) :=
  State.produce_holds _ _ _ _ hR.freeClosed (hR.push axle _ h)

@[simp] theorem State.writeParking_holds (reason : EndReason) (hR : EditClosed R) (h : Holds R s) :
    Holds R (s.writeParking reason) :=
  State.produce_holds _ _ _ _ hR.freeClosed (hR.parking _ _ h)

@[simp] theorem State.driveEntry_holds (p2 : Word) (hR : FreeClosed R) (h : Holds R s) : Holds R (s.driveEntry p2) :=
  State.produce_holds _ _ _ _ hR h

@[simp] theorem State.reloadRefresh_holds (hR : FreeClosed R) (h : Holds R s) : Holds R s.reloadRefresh := hR.same h

/-- A start that the checks allow (R33, R34). -/
theorem State.startDrive_holds (owner : Owner) (mode : DirMode) (limit : Nat) (hs : s.startRefusal = none) (hR : EditClosed R)
    (h : Holds R s) : Holds R (s.startDrive owner mode limit) :=
  State.driveEntry_holds _ hR.free (State.reloadRefresh_holds hR.free (hR.start _ hs rfl rfl h))

@[simp] theorem State.enterStopping_holds (r : StopReason) (hR : EditClosed R) (h : Holds R s) : Holds R (s.enterStopping r) :=
  State.driveEntry_holds _ hR.free (State.reloadRefresh_holds hR.free (hR.stop _ rfl rfl h))

@[simp] theorem State.issueStart_holds (hR : EditClosed R) (h : Holds R s) : Holds R s.issueStart := by
  unfold State.issueStart
  split
  case h_1 r _ => exact State.setSeq_holds _ hR.free h
  case h_2 hs => exact State.startDrive_holds _ _ _ hs hR (State.setSeq_holds _ hR.free h)

@[simp] theorem State.setAttn_holds (bits : Byte) (hR : FreeClosed R) (h : Holds R s) : Holds R (s.setAttn bits) := hR.same h

@[simp] theorem State.clearAttn_holds (bits : Byte) (hR : FreeClosed R) (h : Holds R s) : Holds R (s.clearAttn bits) :=
  hR.same h

@[simp] theorem State.setMask_holds (mask : Byte) (hR : FreeClosed R) (h : Holds R s) : Holds R (s.setMask mask) := hR.same h

@[simp] theorem State.produceHere_holds (code : Nat) (p1 p2 : Word) (hR : FreeClosed R) (h : Holds R s) :
    Holds R (s.produceHere code p1 p2) := by
  simp (maxDischargeDepth := 40) [State.produceHere, h, hR]

@[simp] theorem State.completeKind_holds (n : Nat) (k : Kind) (o : ReqOutcome) (d : Detail) (result : List Word) (hR : FreeClosed R) (h : Holds R s) :
    Holds R (s.completeKind n k o d result) := by
  simp (maxDischargeDepth := 40) [State.completeKind, h, hR]

@[simp] theorem State.loadRefresh_holds (hR : FreeClosed R) (h : Holds R s) : Holds R s.loadRefresh := hR.same h

@[simp] theorem State.frameDue_holds (hR : FreeClosed R) (h : Holds R s) : Holds R s.frameDue := hR.same h

@[simp] theorem State.promptRepeat_holds (hR : FreeClosed R) (h : Holds R s) : Holds R s.promptRepeat := hR.same h

@[simp] theorem State.lapseRepeat_holds (hR : FreeClosed R) (h : Holds R s) : Holds R s.lapseRepeat := hR.same h

@[simp] theorem State.discardCrossing_holds (hR : FreeClosed R) (h : Holds R s) : Holds R s.discardCrossing := hR.same h

@[simp] theorem State.enterSeq_holds (n : SeqState) (hR : FreeClosed R) (h : Holds R s) : Holds R (s.enterSeq n) := by
  unfold State.enterSeq
  dsimp only
  repeat' split
  all_goals simp (maxDischargeDepth := 40) [h, hR]

@[simp] theorem State.handPhase_holds (hR : FreeClosed R) (h : Holds R s) : Holds R s.handPhase := by
  unfold State.handPhase
  repeat' split
  all_goals simp (maxDischargeDepth := 40) [h, hR]

@[simp] theorem State.takeEndOfSpin_holds (owed : Bool) (hR : FreeClosed R) (h : Holds R s) : Holds R (s.takeEndOfSpin owed) := by
  unfold State.takeEndOfSpin
  repeat' split
  all_goals simp (maxDischargeDepth := 40) [h, hR]

@[simp] theorem State.takeDriveStop_holds (hR : FreeClosed R) (h : Holds R s) : Holds R s.takeDriveStop := by
  unfold State.takeDriveStop
  repeat' split
  all_goals simp (maxDischargeDepth := 40) [h, hR]

@[simp] theorem State.armUnit_holds (axle : Nat) (r : Runs) (hR : FreeClosed R) (h : Holds R s) : Holds R (s.armUnit axle r) :=
  hR.same h

@[simp] theorem State.idleUnit_holds (hR : FreeClosed R) (h : Holds R s) : Holds R s.idleUnit := hR.same h

@[simp] theorem State.markNow_holds (hR : FreeClosed R) (h : Holds R s) : Holds R s.markNow := hR.same h

@[simp] theorem State.trackPeaks_holds (hR : FreeClosed R) (h : Holds R s) : Holds R s.trackPeaks := hR.same h

@[simp] theorem State.trackParking_holds (hR : FreeClosed R) (h : Holds R s) : Holds R s.trackParking := hR.same h

@[simp] theorem State.trackExtremes_holds (hR : FreeClosed R) (h : Holds R s) : Holds R s.trackExtremes := hR.same h

@[simp] theorem State.trackImbalance_holds (hR : FreeClosed R) (h : Holds R s) : Holds R s.trackImbalance := hR.same h

@[simp] theorem State.watch_holds (hR : FreeClosed R) (h : Holds R s) : Holds R s.watch := hR.same h

@[simp] theorem State.violation_holds (cause : Nat) (hR : EditClosed R) (h : Holds R s) : Holds R (s.violation cause) := by
  simp (maxDischargeDepth := 40) [State.violation, h, hR, hR.freeClosed]

@[simp] theorem State.pushHeld_holds (hR : EditClosed R) (h : Holds R s) : Holds R s.pushHeld := by
  unfold State.pushHeld
  repeat' split
  all_goals simp (maxDischargeDepth := 40) [h, hR]

@[simp] theorem State.disturb_holds (hR : FreeClosed R) (h : Holds R s) : Holds R s.disturb := hR.same h

@[simp] theorem State.endAttempt_holds (reason : EndReason) (hR : EditClosed R) (h : Holds R s) :
    Holds R (s.endAttempt reason) := by
  simp (maxDischargeDepth := 40) [State.endAttempt, h, hR, hR.freeClosed]

@[simp] theorem State.endParking_holds (reason : EndReason) (hR : EditClosed R) (h : Holds R s) :
    Holds R (s.endParking reason) := by
  simp (maxDischargeDepth := 40) [State.endParking, h, hR, hR.freeClosed]

@[simp] theorem State.runStop_holds (r : StopReason) (hR : EditClosed R) (h : Holds R s) : Holds R (s.runStop r) := by
  unfold State.runStop
  dsimp only
  repeat' split
  all_goals simp (maxDischargeDepth := 40) [h, hR, hR.freeClosed]

@[simp] theorem State.runEnd_holds (reason : EndReason) (hR : EditClosed R) (h : Holds R s) : Holds R (s.runEnd reason) := by
  unfold State.runEnd
  repeat' split
  all_goals simp (maxDischargeDepth := 40) [h, hR, hR.freeClosed]

@[simp] theorem State.testStop_holds (r : StopReason) (hR : FreeClosed R) (h : Holds R s) : Holds R (s.testStop r) := hR.same h

@[simp] theorem State.ownerStop_holds (r : StopReason) (hR : FreeClosed R) (h : Holds R s) : Holds R (s.ownerStop r) := by
  unfold State.ownerStop
  repeat' split
  all_goals simp (maxDischargeDepth := 40) [h, hR]

@[simp] theorem State.haltDrive_holds (hR : EditClosed R) (h : Holds R s) : Holds R s.haltDrive := by
  unfold State.haltDrive
  repeat' split
  all_goals simp (maxDischargeDepth := 40) [h, hR]

@[simp] theorem State.stopDrive_holds (r : StopReason) (hR : EditClosed R) (h : Holds R s) : Holds R (s.stopDrive r) := by
  unfold State.stopDrive
  dsimp only
  repeat' split
  all_goals simp (maxDischargeDepth := 40) [h, hR, hR.freeClosed]

@[simp] theorem State.stopEvent_holds (r : StopReason) (hR : EditClosed R) (h : Holds R s) : Holds R (s.stopEvent r) := by
  simp (maxDischargeDepth := 40) [State.stopEvent, h, hR, hR.freeClosed]

@[simp] theorem State.handEndOfSpin_holds (owed : Bool) (hR : EditClosed R) (h : Holds R s) : Holds R (s.handEndOfSpin owed) := by
  unfold State.handEndOfSpin
  dsimp only
  repeat' split
  all_goals simp (maxDischargeDepth := 40) [h, hR, hR.freeClosed]

@[simp] theorem State.ownEnd_holds (reason : EndReason) (noOnset : Bool) (hR : EditClosed R) (h : Holds R s) :
    Holds R (s.ownEnd reason noOnset) := by
  unfold State.ownEnd
  dsimp only
  repeat' split
  all_goals simp (maxDischargeDepth := 40) [h, hR, hR.freeClosed]

@[simp] theorem State.ownParkEnd_holds (reason : EndReason) (hR : EditClosed R) (h : Holds R s) :
    Holds R (s.ownParkEnd reason) := by
  simp (maxDischargeDepth := 40) [State.ownParkEnd, h, hR]

@[simp] theorem State.parkNoOnset_holds (hR : EditClosed R) (h : Holds R s) : Holds R s.parkNoOnset := by
  simp (maxDischargeDepth := 40) [State.parkNoOnset, h, hR]

@[simp] theorem State.finishTest_holds (driveFault : Bool) (hR : FreeClosed R) (h : Holds R s) :
    Holds R (s.finishTest driveFault) := by
  unfold State.finishTest
  dsimp only
  repeat' split
  all_goals simp (maxDischargeDepth := 40) [h, hR]

@[simp] theorem State.setCursor_holds (n : Nat) (hR : EditClosed R) (h : Holds R s) : Holds R (s.setCursor n) := by
  simp (maxDischargeDepth := 40) [State.setCursor, h, hR, hR.freeClosed]

@[simp] theorem State.completePlan_holds (o : ReqOutcome) (d : Detail) (hR : FreeClosed R) (h : Holds R s) :
    Holds R (s.completePlan o d) := by
  unfold State.completePlan
  repeat' split
  all_goals simp (maxDischargeDepth := 40) [h, hR]

@[simp] theorem State.repeatStart_holds (hR : EditClosed R) (h : Holds R s) : Holds R s.repeatStart := by
  unfold State.repeatStart
  repeat' split
  all_goals simp (maxDischargeDepth := 40) [h, hR]

@[simp] theorem State.setReviewMark_holds (hR : FreeClosed R) (h : Holds R s) : Holds R s.setReviewMark := hR.same h

@[simp] theorem State.evaluateOffer_holds (hR : FreeClosed R) (h : Holds R s) : Holds R s.evaluateOffer := hR.same h

@[simp] theorem State.enterReview_holds (hR : FreeClosed R) (h : Holds R s) : Holds R s.enterReview := by
  simp (maxDischargeDepth := 40) [State.enterReview, h, hR]

@[simp] theorem State.enterSpinup_holds (runs : Runs) (hR : EditClosed R) (h : Holds R s) : Holds R (s.enterSpinup runs) := by
  unfold State.enterSpinup
  dsimp only
  repeat' split
  all_goals simp (maxDischargeDepth := 40) [h, hR, hR.freeClosed]

@[simp] theorem State.enterComplete_holds (hR : FreeClosed R) (h : Holds R s) : Holds R s.enterComplete := by
  simp (maxDischargeDepth := 40) [State.enterComplete, h, hR]

@[simp] theorem State.advanceCursor_holds (next : SeqState) (hR : EditClosed R) (h : Holds R s) :
    Holds R (s.advanceCursor next) := by
  unfold State.advanceCursor
  dsimp only
  repeat' split
  all_goals simp (maxDischargeDepth := 40) [h, hR, hR.freeClosed]

@[simp] theorem State.exitForward_holds (hR : EditClosed R) (h : Holds R s) : Holds R s.exitForward := by
  unfold State.exitForward
  dsimp only
  repeat' split
  all_goals simp (maxDischargeDepth := 40) [h, hR]

@[simp] theorem State.exitBackward_holds (hR : FreeClosed R) (h : Holds R s) : Holds R s.exitBackward := by
  simp (maxDischargeDepth := 40) [State.exitBackward, h, hR]

@[simp] theorem State.enterExitWait_holds (hR : EditClosed R) (h : Holds R s) : Holds R s.enterExitWait := by
  unfold State.enterExitWait
  dsimp only
  repeat' split
  all_goals simp (maxDischargeDepth := 40) [h, hR, hR.freeClosed]

@[simp] theorem State.leaveSpindown_holds (hR : EditClosed R) (h : Holds R s) : Holds R s.leaveSpindown := by
  unfold State.leaveSpindown
  dsimp only
  repeat' split
  all_goals simp (maxDischargeDepth := 40) [h, hR, hR.freeClosed]

@[simp] theorem State.startWeighing_holds (hR : FreeClosed R) (h : Holds R s) : Holds R s.startWeighing := hR.same h

@[simp] theorem State.axleCourse_holds (hR : EditClosed R) (h : Holds R s) : Holds R s.axleCourse := by
  unfold State.axleCourse
  dsimp only
  repeat' split
  all_goals simp (maxDischargeDepth := 40) [h, hR, hR.freeClosed]

@[simp] theorem State.seqSeated_holds (hR : EditClosed R) (h : Holds R s) : Holds R s.seqSeated := by
  unfold State.seqSeated
  dsimp only
  repeat' split
  all_goals simp (maxDischargeDepth := 40) [h, hR, hR.freeClosed]

@[simp] theorem State.seqUnseated_holds (hR : EditClosed R) (h : Holds R s) : Holds R s.seqUnseated := by
  unfold State.seqUnseated
  repeat' split
  all_goals simp (maxDischargeDepth := 40) [h, hR, hR.freeClosed]

@[simp] theorem State.seqPass_holds (forward : Bool) (hR : EditClosed R) (h : Holds R s) : Holds R (s.seqPass forward) := by
  unfold State.seqPass
  dsimp only
  repeat' split
  all_goals simp (maxDischargeDepth := 40) [h, hR]

@[simp] theorem State.seqExit_holds (forward : Bool) (hR : EditClosed R) (h : Holds R s) : Holds R (s.seqExit forward) := by
  unfold State.seqExit
  repeat' split
  all_goals simp (maxDischargeDepth := 40) [h, hR, hR.freeClosed]

@[simp] theorem State.seqWeighed_holds (hR : EditClosed R) (h : Holds R s) : Holds R s.seqWeighed := by
  unfold State.seqWeighed
  dsimp only
  repeat' split
  all_goals simp (maxDischargeDepth := 40) [h, hR]

@[simp] theorem State.giveUpWork_holds (reason : EndReason) (hR : EditClosed R) (h : Holds R s) :
    Holds R (s.giveUpWork reason) := by
  simp (maxDischargeDepth := 40) [State.giveUpWork, h, hR, hR.freeClosed]

@[simp] theorem State.pauseWork_holds (hR : EditClosed R) (h : Holds R s) : Holds R s.pauseWork := by
  simp (maxDischargeDepth := 40) [State.pauseWork, h, hR, hR.freeClosed]

@[simp] theorem State.skipAxle_holds (hR : EditClosed R) (h : Holds R s) : Holds R s.skipAxle := by
  simp (maxDischargeDepth := 40) [State.skipAxle, h, hR, hR.freeClosed]

@[simp] theorem State.resume_holds (hR : EditClosed R) (h : Holds R s) : Holds R s.resume := by
  unfold State.resume
  repeat' split
  all_goals simp (maxDischargeDepth := 40) [h, hR, hR.freeClosed]

@[simp] theorem State.seqKey_holds (k : Input) (hR : EditClosed R) (h : Holds R s) : Holds R (s.seqKey k) := by
  unfold State.seqKey
  repeat' split
  all_goals simp (maxDischargeDepth := 40) [h, hR]

@[simp] theorem State.abortRecord_holds (k : Nat) (hR : EditClosed R) (h : Holds R s) : Holds R (s.abortRecord k) := by
  unfold State.abortRecord
  split <;> simp [h, hR]

@[simp] theorem State.abortRecords_holds (hR : EditClosed R) (h : Holds R s) : Holds R s.abortRecords :=
  foldl_holds _ (fun _ k h => State.abortRecord_holds k hR h) _ _ h

@[simp] theorem State.abortPlan_holds (o : ReqOutcome) (d : Detail) (hR : EditClosed R) (h : Holds R s) :
    Holds R (s.abortPlan o d) := by
  unfold State.abortPlan
  repeat' split
  all_goals simp (maxDischargeDepth := 40) [h, hR, hR.freeClosed]

@[simp] theorem State.beginRuns_holds (hR : FreeClosed R) (h : Holds R s) : Holds R s.beginRuns := hR.same h

@[simp] theorem State.spinReachesRun_holds (hR : FreeClosed R) (h : Holds R s) : Holds R s.spinReachesRun := by
  unfold State.spinReachesRun
  dsimp only
  repeat' split
  all_goals simp (maxDischargeDepth := 40) [h, hR]

@[simp] theorem State.seqDriveEnds_holds (hR : EditClosed R) (h : Holds R s) : Holds R s.seqDriveEnds := by
  unfold State.seqDriveEnds
  repeat' split
  all_goals simp (maxDischargeDepth := 40) [h, hR]

/-- The drive turns from SPINUP to RUN (R35). -/
theorem State.driveRun_holds (hs : s.drv.state = .spinup) (hR : EditClosed R) (h : Holds R s) : Holds R s.driveRun :=
  State.spinReachesRun_holds hR.free
    (State.driveEntry_holds _ hR.free (State.reloadRefresh_holds hR.free (hR.run _ hs rfl rfl h)))

/-- A drive that does not turn the rollers enters OFF (R39, R40). -/
theorem State.driveOff_holds (p2 : Word) (hs : isSpinning s.drv.state = false) (hR : EditClosed R) (h : Holds R s) :
    Holds R (s.driveOff p2) :=
  frameAfter_holds _ hR.free (State.seqDriveEnds_holds hR (State.finishTest_holds _ hR.free
    (State.driveEntry_holds _ hR.free (State.reloadRefresh_holds hR.free (hR.rest _ hs rfl rfl h)))))

/-- A drive that does not turn the rollers enters LOCKOUT (R38, R39, R45). -/
theorem State.driveLockout_holds (cause : LockCause) (hs : isSpinning s.drv.state = false) (hR : EditClosed R) (h : Holds R s) :
    Holds R (s.driveLockout cause) :=
  frameAfter_holds _ hR.free (State.seqDriveEnds_holds hR (State.finishTest_holds _ hR.free
    (State.driveEntry_holds _ hR.free (State.reloadRefresh_holds hR.free (hR.rest _ hs rfl rfl h)))))

/-- The same whatever the drive does, for a predicate that does not read it. -/
theorem State.driveLockout_loose (cause : LockCause) (hR : LooseClosed R) (h : Holds R s) : Holds R (s.driveLockout cause) :=
  have hd : Holds R (s.setDrv { s.drv with state := .lockout, lockCause := some cause }) :=
    hR.loose (s := s) (.of_eq rfl rfl) (.of_eq rfl rfl) h
  frameAfter_holds _ hR.freeClosed (State.seqDriveEnds_holds hR.edit (State.finishTest_holds _ hR.freeClosed
    (State.driveEntry_holds _ hR.freeClosed (State.reloadRefresh_holds hR.freeClosed hd))))

@[simp] theorem State.weighSample_holds (hR : FreeClosed R) (h : Holds R s) : Holds R s.weighSample := hR.same h

@[simp] theorem State.weighHandsOver_holds (hR : EditClosed R) (h : Holds R s) : Holds R s.weighHandsOver := by
  simp (maxDischargeDepth := 40) [State.weighHandsOver, h, hR, hR.freeClosed]

@[simp] theorem State.weighUnstable_holds (w : Weighing) (hR : EditClosed R) (h : Holds R s) : Holds R (s.weighUnstable w) := by
  simp (maxDischargeDepth := 40) [State.weighUnstable, h, hR, hR.freeClosed]

@[simp] theorem State.weighAccepted_holds (w : Weighing) (hR : EditClosed R) (h : Holds R s) : Holds R (s.weighAccepted w) :=
  State.weighHandsOver_holds hR (State.produce_holds _ _ _ _ hR.free (hR.weights _ _ _ h))

@[simp] theorem State.weighWindow_holds (hR : EditClosed R) (h : Holds R s) : Holds R s.weighWindow := by
  unfold State.weighWindow
  repeat' split
  all_goals simp (maxDischargeDepth := 40) [h, hR, hR.freeClosed]

@[simp] theorem State.setPlateCount_holds (n : Nat) (hR : EditClosed R) (h : Holds R s) : Holds R (s.setPlateCount n) := by
  simp (maxDischargeDepth := 40) [State.setPlateCount, h, hR]

@[simp] theorem State.plateExtra_holds (forward : Bool) (hR : FreeClosed R) (h : Holds R s) : Holds R (s.plateExtra forward) := by
  simp (maxDischargeDepth := 40) [State.plateExtra, h, hR]

@[simp] theorem State.openCrossing_holds (c : Crossing) (hR : FreeClosed R) (h : Holds R s) : Holds R (s.openCrossing c) :=
  hR.same h

@[simp] theorem State.afterCrossing_holds (c : Crossing) (hR : FreeClosed R) (h : Holds R s) : Holds R (s.afterCrossing c) :=
  hR.same h

@[simp] theorem State.endForward_holds (hR : EditClosed R) (h : Holds R s) : Holds R s.endForward := by
  unfold State.endForward
  dsimp only
  repeat' split
  all_goals simp (maxDischargeDepth := 40) [h, hR, hR.freeClosed]

@[simp] theorem State.endReverse_holds (hR : EditClosed R) (h : Holds R s) : Holds R s.endReverse := by
  unfold State.endReverse
  dsimp only
  repeat' split
  all_goals simp (maxDischargeDepth := 40) [h, hR, hR.freeClosed]

@[simp] theorem State.noteFollower_holds (more : Bool) (hR : FreeClosed R) (h : Holds R s) : Holds R (s.noteFollower more) :=
  hR.same h

@[simp] theorem State.plateChange_holds (inOn outOn : Bool) (hR : EditClosed R) (h : Holds R s) :
    Holds R (s.plateChange inOn outOn) := by
  unfold State.plateChange
  repeat' split
  all_goals simp (maxDischargeDepth := 40) [h, hR, hR.freeClosed]

@[simp] theorem State.markMissed_holds (n i k : Nat) (hR : EditClosed R) (h : Holds R s) : Holds R (State.markMissed s n i k) := by
  induction k generalizing s i with
  | zero => simpa [State.markMissed] using h
  | succ k ih => exact ih _ (State.produce_holds _ _ _ _ hR.free (State.setSideSlip_holds _ _ hR h))

@[simp] theorem State.reconcile_holds (hR : EditClosed R) (h : Holds R s) : Holds R s.reconcile := by
  unfold State.reconcile
  dsimp only
  repeat' split
  all_goals simp (maxDischargeDepth := 40) [h, hR]

@[simp] theorem State.crossingExpires_holds (hR : FreeClosed R) (h : Holds R s) : Holds R s.crossingExpires := by
  simp (maxDischargeDepth := 40) [State.crossingExpires, h, hR]

@[simp] theorem State.loadEntry_holds (code : Nat) (hR : FreeClosed R) (h : Holds R s) : Holds R (s.loadEntry code) := by
  simp (maxDischargeDepth := 40) [State.loadEntry, h, hR]

@[simp] theorem State.startTracker_holds (a b : Bool) (hR : FreeClosed R) (h : Holds R s) : Holds R (s.startTracker a b) :=
  State.setSeat_holds _ rfl rfl hR h

@[simp] theorem State.reportPass_holds (forward : Bool) (hR : EditClosed R) (h : Holds R s) : Holds R (s.reportPass forward) := by
  unfold State.reportPass
  dsimp only
  repeat' split
  all_goals simp (maxDischargeDepth := 40) [h, hR, hR.freeClosed]

@[simp] theorem State.trackBeams_holds (rear front : Bool) (hR : EditClosed R) (h : Holds R s) :
    Holds R (s.trackBeams rear front) := by
  unfold State.trackBeams
  dsimp only
  repeat' split
  all_goals simp (maxDischargeDepth := 40) [h, hR, hR.freeClosed]

@[simp] theorem State.trackLoad_holds (hR : FreeClosed R) (h : Holds R s) : Holds R s.trackLoad := by
  unfold State.trackLoad
  repeat' split
  all_goals simp (maxDischargeDepth := 40) [h, hR]

@[simp] theorem State.reportExit_holds (e : ExitReport) (rearDecided frontDecided : Bool) (hR : EditClosed R) (h : Holds R s) :
    Holds R (s.reportExit e rearDecided frontDecided) := by
  simp (maxDischargeDepth := 40) [State.reportExit, h, hR, hR.freeClosed]

@[simp] theorem State.windowBeams_holds (rear front : Bool) (hR : EditClosed R) (h : Holds R s) :
    Holds R (s.windowBeams rear front) := by
  unfold State.windowBeams
  repeat' split
  all_goals simp (maxDischargeDepth := 40) [h, hR]

/-- Another input than those settling at this sample reads as before. -/
theorem State.settleLevel_level (i j : Input) (hij : i ≠ j) : (s.settleLevel i).level j = s.level j := by
  have hne : inputIndex i ≠ inputIndex j := by cases i <;> cases j <;> first | exact absurd rfl hij | decide
  simp [State.settleLevel, State.level, State.input, List.getD_eq_getElem?_getD, List.getElem?_set_ne hne]

/-- The level of an input that neither PRESENCE nor ESTOP reads settles. -/
@[simp] theorem State.settleLevel_holds (i : Input) (hp : i ≠ .presence) (he : i ≠ .estop) (hR : FreeClosed R) (h : Holds R s) :
    Holds R (s.settleLevel i) :=
  hR.keeps (s := s) (.of_eq rfl rfl) (.of_eq rfl rfl)
    ⟨rfl, rfl, rfl, State.settleLevel_level i _ hp, State.settleLevel_level i _ he, by simp [State.settleLevel], rfl, rfl, rfl⟩ h

@[simp] theorem State.seatedBeam_holds (i : Input) (hR : FreeClosed R) (h : Holds R s) : Holds R (s.seatedBeam i) := by
  unfold State.seatedBeam
  split
  all_goals simp [h, hR]

@[simp] theorem State.freeBeam_holds (rear front : Bool) (hR : EditClosed R) (h : Holds R s) :
    Holds R (s.freeBeam rear front) := by
  unfold State.freeBeam
  repeat' split
  all_goals simp (maxDischargeDepth := 40) [h, hR]

@[simp] theorem State.beamSettles_holds (i : Input) (hp : i ≠ .presence) (he : i ≠ .estop) (hR : EditClosed R) (h : Holds R s) :
    Holds R (s.beamSettles i) := by
  unfold State.beamSettles
  repeat' split
  all_goals simp (maxDischargeDepth := 40) [h, hR, hR.freeClosed, hp, he]

@[simp] theorem State.lastBeamChanges_holds (hR : EditClosed R) (h : Holds R s) : Holds R s.lastBeamChanges := by
  unfold State.lastBeamChanges
  dsimp only
  repeat' split
  all_goals simp (maxDischargeDepth := 40) [h, hR]

@[simp] theorem State.decideExit_holds (last : Option Beam) (hR : EditClosed R) (h : Holds R s) : Holds R (s.decideExit last) := by
  unfold State.decideExit
  repeat' split
  all_goals simp (maxDischargeDepth := 40) [h, hR, hR.freeClosed]

/-- An axle that leaves its seat, with a spin that stops (R26). -/
theorem LooseClosed.unseat (hR : LooseClosed R) (h : Holds R s) : Holds R s.unseat := by
  have hf := hR.freeClosed
  have hseat (t : State) (ht : Holds R t) (x : Seating) : Holds R (t.setSeat x) := hR.loose (s := t) (.of_eq rfl rfl) (.of_eq rfl rfl) ht
  unfold State.unseat
  simp (maxDischargeDepth := 40) [h, hR.edit, hf, hseat]

theorem LooseClosed.seatNow (hR : LooseClosed R) (h : Holds R s) : Holds R s.seatNow := by
  have hf := hR.freeClosed
  have hseat (t : State) (ht : Holds R t) (x : Seating) : Holds R (t.setSeat x) := hR.loose (s := t) (.of_eq rfl rfl) (.of_eq rfl rfl) ht
  unfold State.seatNow
  dsimp only
  split
  all_goals simp (maxDischargeDepth := 40) [h, hR.edit, hf, hseat]

/-- The detector's work at a sample, the unseating and the qualifying count by their own lemmas (R25, R26). -/
theorem State.detectorSample_holds (hR : FreeClosed R) (hunseat : ∀ t, Holds R t → Holds R t.unseat)
    (hqualify : ∀ t n, Holds R t → Holds R (t.setSeat { t.seat with qualify := n })) (h : Holds R s) :
    Holds R s.detectorSample := by
  unfold State.detectorSample
  dsimp only
  split
  · exact ite_holds (hunseat _ (by simp [h, hR])) (by simp [h, hR])
  · exact hqualify _ _ (by simp [h, hR])

@[simp] theorem State.settleBeams_holds (hR : FreeClosed R) (h : Holds R s) : Holds R s.settleBeams := by
  unfold State.settleBeams
  dsimp only
  repeat' split
  all_goals simp (maxDischargeDepth := 40) [h, hR]

@[simp] theorem State.beginTracker_holds (hR : FreeClosed R) (h : Holds R s) : Holds R s.beginTracker :=
  State.startTracker_holds _ _ hR (State.settleBeams_holds hR h)

@[simp] theorem State.trackerSample_holds (analog : Bool) (hR : FreeClosed R) (h : Holds R s) : Holds R (s.trackerSample analog) := by
  unfold State.trackerSample
  repeat' split
  all_goals simp [h, hR]

@[simp] theorem State.engineWindow_holds (hR : FreeClosed R) (h : Holds R s) : Holds R s.engineWindow :=
  State.setEng_holds _ rfl rfl rfl hR h

@[simp] theorem State.driveWindow_holds (pdL pdR : Nat) (hR : EditClosed R) (h : Holds R s) :
    Holds R (s.driveWindow pdL pdR) := by
  have hcount (d : Drive) (hd : d.state = s.drv.state) (hn : d.energised = s.drv.energised) : Holds R (s.setDrv d) :=
    State.setDrv_holds d hd hn hR.free h
  unfold State.driveWindow
  split
  case h_1 => exact h
  case h_2 => exact h
  case h_3 hs =>
    dsimp only
    split
    · exact State.driveRun_holds hs hR (hcount _ rfl rfl)
    · exact hcount _ rfl rfl
  case h_4 => exact hcount _ rfl rfl
  case h_5 => exact hcount _ rfl rfl

@[simp] theorem State.windowEnds_holds (hR : EditClosed R) (h : Holds R s) : Holds R s.windowEnds := by
  simp (maxDischargeDepth := 40) [State.windowEnds, h, hR, hR.freeClosed]

@[simp] theorem State.setFaultsOf_holds (i : Nat) (f : FaultFlags) (hR : FreeClosed R) (h : Holds R s) : Holds R (s.setFaultsOf i f) :=
  State.setEng_holds _ rfl rfl rfl hR h

@[simp] theorem State.faultEntry_holds (i : Nat) (flag : Word) (hR : FreeClosed R) (h : Holds R s) :
    Holds R (s.faultEntry i flag) := by
  simp (maxDischargeDepth := 40) [State.faultEntry, h, hR]

@[simp] theorem State.noPulseMet_holds (side : Side) (hR : FreeClosed R) (h : Holds R s) : Holds R (s.noPulseMet side) := by
  unfold State.noPulseMet
  dsimp only
  repeat' split
  all_goals simp (maxDischargeDepth := 40) [h, hR]

/-- A stop that has come to rest ends (R39). -/
theorem State.rest_holds (hs : isSpinning s.drv.state = false) (hR : EditClosed R) (h : Holds R s) : Holds R s.rest := by
  unfold State.rest
  split
  · exact State.driveLockout_holds _ hs hR h
  · exact State.driveOff_holds _ hs hR h

@[simp] theorem State.decideTest_holds (o : ReqOutcome) (d : Detail) (hR : FreeClosed R) (h : Holds R s) :
    Holds R (s.decideTest o d) :=
  hR.same h

@[simp] theorem State.modeTaken_holds (old : LaneMode) (hR : EditClosed R) (h : Holds R s) : Holds R (s.modeTaken old) := by
  unfold State.modeTaken
  dsimp only
  repeat' split
  all_goals simp (maxDischargeDepth := 40) [h, hR, hR.freeClosed]

theorem LooseClosed.deriveMode (hR : LooseClosed R) (h : Holds R s) : Holds R s.deriveMode := by
  have hmode : Holds R (s.setEng { s.eng with mode := s.derivedMode }) := hR.loose (s := s) (.of_eq rfl rfl) (.of_eq rfl rfl) h
  unfold State.deriveMode
  dsimp only
  split
  · exact h
  · exact State.modeTaken_holds _ hR.edit (State.produce_holds _ _ _ _ hR.freeClosed hmode)

theorem LooseClosed.modeClosed (hR : LooseClosed R) : ModeClosed R := ⟨hR.edit, fun h => hR.deriveMode h⟩

@[simp] theorem State.deriveMode_holds (hR : ModeClosed R) (h : Holds R s) : Holds R s.deriveMode := hR.mode h

@[simp] theorem State.keyEntry_holds (i : Input) (hR : FreeClosed R) (h : Holds R s) : Holds R (s.keyEntry i) := by
  simp (maxDischargeDepth := 40) [State.keyEntry, h, hR]

@[simp] theorem State.keySettles_holds (hR : ModeClosed R) (h : Holds R s) : Holds R s.keySettles := by
  unfold State.keySettles
  dsimp only
  split
  all_goals simp (maxDischargeDepth := 40) [h, hR, hR.edit, hR.freeClosed]

@[simp] theorem State.presenceSettles_holds (hR : EditClosed R) (h : Holds R s) : Holds R s.presenceSettles := by
  unfold State.presenceSettles
  dsimp only
  repeat' split
  all_goals simp (maxDischargeDepth := 40) [h, hR, hR.freeClosed]

@[simp] theorem State.estopActive_holds (hR : EditClosed R) (h : Holds R s) : Holds R s.estopActive := by
  unfold State.estopActive
  split
  case h_3 hs => exact State.driveLockout_holds _ (by rw [hs]; rfl) hR h
  all_goals simp (maxDischargeDepth := 40) [h, hR, hR.freeClosed]

@[simp] theorem State.estopSettles_holds (hR : EditClosed R) (h : Holds R s) : Holds R s.estopSettles := by
  unfold State.estopSettles
  dsimp only
  repeat' split
  all_goals simp (maxDischargeDepth := 40) [h, hR, hR.freeClosed]

@[simp] theorem State.mechanicKey_holds (i : Input) (hR : EditClosed R) (h : Holds R s) : Holds R (s.mechanicKey i) := by
  unfold State.mechanicKey
  dsimp only
  repeat' split
  all_goals simp (maxDischargeDepth := 40) [h, hR, hR.freeClosed]

@[simp] theorem State.plateSettles_holds (i : Input) (hp : i ≠ .presence) (he : i ≠ .estop) (hR : EditClosed R) (h : Holds R s) :
    Holds R (s.plateSettles i) := by
  unfold State.plateSettles
  split
  all_goals simp (maxDischargeDepth := 40) [h, hR, hR.freeClosed, hp, he]

theorem LooseClosed.settleLevel (i : Input) (hR : LooseClosed R) (h : Holds R s) : Holds R (s.settleLevel i) :=
  hR.loose (s := s) (.of_eq rfl rfl) (.of_eq rfl rfl) h

/-- The settling of an input, PRESENCE and ESTOP by their own lemmas. -/
theorem State.inputSettles_holds (i : Input) (hR : ModeClosed R) (hp : Holds R (s.settleLevel .presence).presenceSettles)
    (he : Holds R (s.settleLevel .estop).estopSettles) (h : Holds R s) : Holds R (s.inputSettles i) := by
  cases i with
  | presence => exact hp
  | estop => exact he
  | _ => simp (maxDischargeDepth := 40) [State.inputSettles, h, hR, hR.edit, hR.freeClosed]

@[simp] theorem State.convert_holds (raws : List Int) (hR : FreeClosed R) (h : Holds R s) : Holds R (s.convert raws) :=
  State.setEng_holds _ rfl rfl rfl hR h

@[simp] theorem State.faultTest_holds (i : Nat) (raw : Int) (hR : FreeClosed R) (h : Holds R s) : Holds R (s.faultTest i raw) := by
  unfold State.faultTest
  dsimp only
  repeat' split
  all_goals simp (maxDischargeDepth := 40) [h, hR]

@[simp] theorem State.faultTests_holds (raws : List Int) (hR : FreeClosed R) (h : Holds R s) : Holds R (s.faultTests raws) := by
  unfold State.faultTests
  exact foldl_holds _ (fun s x h => by simp (maxDischargeDepth := 40) [h, hR]) _ _ h

@[simp] theorem State.rePrime_holds (which : Nat → Bool) (hR : FreeClosed R) (h : Holds R s) : Holds R (s.rePrime which) :=
  State.setEng_holds _ rfl rfl rfl hR h

@[simp] theorem State.captureSample_holds (raws : List Int) (hR : FreeClosed R) (h : Holds R s) :
    Holds R (s.captureSample raws) := by
  unfold State.captureSample
  dsimp only
  repeat' split
  all_goals simp (maxDischargeDepth := 40) [h, hR]

@[simp] theorem State.captureEnds_holds (hR : FreeClosed R) (h : Holds R s) : Holds R s.captureEnds := by
  unfold State.captureEnds
  dsimp only
  repeat' split
  all_goals simp (maxDischargeDepth := 40) [h, hR]

@[simp] theorem State.clearedEntry_holds (i : Nat) (flag : Word) (hR : FreeClosed R) (h : Holds R s) :
    Holds R (s.clearedEntry i flag) := by
  simp (maxDischargeDepth := 40) [State.clearedEntry, h, hR]

@[simp] theorem State.releaseHold_holds (i : Nat) (hR : FreeClosed R) (h : Holds R s) : Holds R (s.releaseHold i) :=
  State.setEng_holds _ rfl rfl rfl hR h

@[simp] theorem State.clearChannel_holds (i : Nat) (hR : FreeClosed R) (h : Holds R s) : Holds R (s.clearChannel i) := by
  unfold State.clearChannel
  dsimp only
  repeat' split
  all_goals simp (maxDischargeDepth := 40) [h, hR]

@[simp] theorem State.clearAll_holds (hR : FreeClosed R) (h : Holds R s) : Holds R s.clearAll := by
  unfold State.clearAll
  exact foldl_holds _ (fun s x h => by simp (maxDischargeDepth := 40) [h, hR]) _ _ h

@[simp] theorem State.releaseLockout_holds (hR : EditClosed R) (h : Holds R s) : Holds R s.releaseLockout := by
  unfold State.releaseLockout
  split
  case isTrue hl =>
    simp only [Bool.and_eq_true, decide_eq_true_eq] at hl
    exact State.driveOff_holds _ (by rw [hl.1.1]; rfl) hR h
  case isFalse => exact h

@[simp] theorem State.takeClearFaults_holds (n : Nat) (hR : EditClosed R) (h : Holds R s) : Holds R (s.takeClearFaults n) := by
  simp (maxDischargeDepth := 40) [State.takeClearFaults, h, hR, hR.freeClosed]

/-- The records change in the composer alone (R173). -/
theorem State.setCert_cert (k : Nat) (c : CertRecord) (hR : CertClosed R) (h : Holds R s) : Holds R (s.setCert k c) :=
  hR.keeps (s := s) (.of_eq rfl rfl) (.of_eq rfl rfl rfl rfl rfl rfl rfl) h

theorem certByte_not_table {k a : Nat} (h : tableByte a) : a < certBase k := by
  unfold tableByte at h
  unfold certBase
  omega

/-- Words of a certificate record written to lane memory. -/
theorem CertClosed.writeWords (k i : Nat) (ws : List Word) (hR : CertClosed R) (h : Holds R s) :
    Holds R (s.setMem (Memory.writeWords s.mem (certBase k + i) ws)) :=
  hR.keeps (s := s) ⟨rfl, fun hw => Memory.wf_writeWords ws s.mem hw _, fun a ha =>
    Memory.readByte_writeWords ws s.mem _ a (.inl (by have := certByte_not_table (k := k) ha; omega))⟩
    (.of_eq rfl rfl rfl rfl rfl rfl rfl) h

theorem CertClosed.writeWord (k i : Nat) (w : Word) (hR : CertClosed R) (h : Holds R s) :
    Holds R (s.setMem (Memory.writeWord s.mem (certBase k + i) w)) :=
  hR.writeWords k i [w] h

@[simp] theorem State.readRecord_holds (k : Nat) (hR : CertClosed R) (h : Holds R s) : Holds R (s.readRecord k) := by
  unfold State.readRecord
  dsimp only
  repeat' split
  · exact State.setCert_cert k _ hR h
  · exact h
  · exact hR.writeWord k 0 _ h

@[simp] theorem State.stateRead_holds (hR : CertClosed R) (h : Holds R s) : Holds R s.stateRead :=
  foldl_holds _ (fun _ k h => State.readRecord_holds k hR h) _ _ h

@[simp] theorem State.clearCert_holds (k : Nat) (st : RecordState) (hR : CertClosed R) (h : Holds R s) :
    Holds R (s.clearCert k st) :=
  hR.writeWords k 0 _ (State.setCert_cert k _ hR h)

@[simp] theorem State.clearFill_holds (k : Nat) (hR : CertClosed R) (h : Holds R s) : Holds R (s.clearFill k) :=
  hR.writeWords k _ _ (State.setCert_cert k _ hR h)

@[simp] theorem State.endCompose_holds (c : ComposeOp) (o : ReqOutcome) (d : Detail) (hR : CertClosed R) (h : Holds R s) :
    Holds R (s.endCompose c o d) :=
  State.completeKind_holds _ _ _ _ _ hR.freeClosed (State.setComp_holds _ rfl hR.freeClosed (State.setCert_cert _ _ hR h))

@[simp] theorem State.fill_holds (c : ComposeOp) (value : Nat) (hR : CertClosed R) (h : Holds R s) : Holds R (s.fill c value) :=
  State.setComp_holds _ rfl hR.freeClosed (hR.writeWords _ _ _ (State.setCert_cert _ _ hR h))

/-- The issue also certifies the axle table (R178). -/
theorem State.issueCert_holds (c : ComposeOp) (n : Nat) (hE : EditClosed R) (hR : CertClosed R) (h : Holds R s) :
    Holds R (s.issueCert c n) := by
  have hnumber (t : State) (k : Nat) (ht : Holds R t) : Holds R (t.rewriteNumber k) :=
    hR.writeWord k 0x240 (t.cert k).checkWord (hR.writeWords k 2 (dwords (t.cert k).number) ht)
  exact State.completeKind_holds _ _ _ _ _ hE.free (State.produce_holds _ _ _ _ hE.free (State.setComp_holds _ rfl hE.free
    (hE.header _ rfl (hnumber _ _ (State.setCert_cert _ _ hR h)))))

@[simp] theorem State.storeWrite_holds (op : NvOp) (cut : NvCut) (hR : FreeClosed R) (h : Holds R s) :
    Holds R (s.storeWrite op cut) := hR.same h

@[simp] theorem State.startNv_holds (op : NvOp) (hR : FreeClosed R) (h : Holds R s) : Holds R (s.startNv op) := hR.same h

@[simp] theorem State.releasePort_holds (hR : FreeClosed R) (h : Holds R s) : Holds R s.releasePort := hR.same h

@[simp] theorem State.nextNv_holds (op : NvOp) (hR : FreeClosed R) (h : Holds R s) : Holds R (s.nextNv op) := hR.same h

@[simp] theorem State.correctedEntry_holds (marker word : Nat) (r : ReadResult) (hR : FreeClosed R) (h : Holds R s) :
    Holds R (s.correctedEntry marker word r) := by
  unfold State.correctedEntry
  repeat' split
  all_goals simp (maxDischargeDepth := 40) [h, hR]

@[simp] theorem State.nvErrorEntry_holds (marker word : Nat) (hR : FreeClosed R) (h : Holds R s) :
    Holds R (s.nvErrorEntry marker word) := by
  simp (maxDischargeDepth := 40) [State.nvErrorEntry, h, hR]

@[simp] theorem State.readEntries_holds (marker word : Nat) (r : ReadResult) (hR : FreeClosed R) (h : Holds R s) :
    Holds R (s.readEntries marker word r) := by
  unfold State.readEntries
  repeat' split
  all_goals simp (maxDischargeDepth := 40) [h, hR]

@[simp] theorem State.loadZeroWord_holds (ch : Nat) (r : ReadResult) (hR : FreeClosed R) (h : Holds R s) :
    Holds R (s.loadZeroWord ch r) := by
  simp (maxDischargeDepth := 40) [State.loadZeroWord, h, hR]

@[simp] theorem State.loadGainWord_holds (ch : Nat) (r : ReadResult) (hR : FreeClosed R) (h : Holds R s) :
    Holds R (s.loadGainWord ch r) := by
  unfold State.loadGainWord
  dsimp only
  repeat' split
  all_goals simp (maxDischargeDepth := 40) [h, hR]

@[simp] theorem State.loadIdentity_holds (r : ReadResult) (hR : FreeClosed R) (h : Holds R s) : Holds R (s.loadIdentity r) := by
  unfold State.loadIdentity
  dsimp only
  repeat' split
  all_goals simp (maxDischargeDepth := 40) [h, hR]

@[simp] theorem State.endLoad_holds (hR : ModeClosed R) (h : Holds R s) : Holds R s.endLoad := by
  simp (maxDischargeDepth := 40) [State.endLoad, h, hR, hR.freeClosed]

@[simp] theorem State.loadStep_holds (k : Nat) (r : ReadResult) (hR : ModeClosed R) (h : Holds R s) :
    Holds R (s.loadStep k r) := by
  unfold State.loadStep
  dsimp only
  repeat' split
  all_goals simp (maxDischargeDepth := 40) [h, hR, hR.freeClosed]

@[simp] theorem State.loadExpires_holds (hR : ModeClosed R) (h : Holds R s) : Holds R s.loadExpires := by
  unfold State.loadExpires
  repeat' split
  all_goals simp (maxDischargeDepth := 40) [h, hR]

@[simp] theorem State.calWriteEnds_holds (ch : Nat) (success : Bool) (hR : ModeClosed R) (h : Holds R s) :
    Holds R (s.calWriteEnds ch success) := by
  unfold State.calWriteEnds
  dsimp only
  repeat' split
  all_goals simp (maxDischargeDepth := 40) [h, hR, hR.freeClosed]

@[simp] theorem State.counterReadEnds_holds (c : ComposeOp) (value : Option Nat) (failed : Nat) (hR : CertClosed R)
    (h : Holds R s) : Holds R (s.counterReadEnds c value failed) := by
  unfold State.counterReadEnds
  split
  · simp (maxDischargeDepth := 40) [h, hR, hR.freeClosed]
  split
  · simp (maxDischargeDepth := 40) [h, hR, hR.freeClosed]
  · split <;> simp (maxDischargeDepth := 40) [h, hR, hR.freeClosed]

@[simp] theorem State.counterReadExpires_holds (hR : CertClosed R) (h : Holds R s) : Holds R s.counterReadExpires := by
  unfold State.counterReadExpires
  repeat' split
  all_goals simp (maxDischargeDepth := 40) [h, hR]

theorem State.counterWriteEnds_holds (c : ComposeOp) (value : Nat) (success : Bool) (hE : EditClosed R) (hR : CertClosed R)
    (h : Holds R s) : Holds R (s.counterWriteEnds c value success) := by
  unfold State.counterWriteEnds
  dsimp only
  split
  · exact State.issueCert_holds _ _ hE hR (State.releasePort_holds hE.free h)
  · simp (maxDischargeDepth := 40) [h, hR, hR.freeClosed]

@[simp] theorem State.calWriteExpires_holds (cut : NvCut) (hR : ModeClosed R) (h : Holds R s) :
    Holds R (s.calWriteExpires cut) := by
  unfold State.calWriteExpires
  repeat' split
  all_goals simp (maxDischargeDepth := 40) [h, hR, hR.freeClosed]

theorem State.counterWriteExpires_holds (cut : NvCut) (hE : EditClosed R) (hR : CertClosed R) (h : Holds R s) :
    Holds R (s.counterWriteExpires cut) := by
  unfold State.counterWriteExpires
  split
  · exact State.counterWriteEnds_holds _ _ _ hE hR (State.storeWrite_holds _ _ hE.free h)
  · exact h

@[simp] theorem State.brokenEnds_holds (cut : NvCut) (hR : FreeClosed R) (h : Holds R s) : Holds R (s.brokenEnds cut) :=
  hR.same h

@[simp] theorem State.sendWire_holds (w : WireFrame) (hR : FreeClosed R) (h : Holds R s) : Holds R (s.sendWire w) := hR.same h

@[simp] theorem State.sendLine_holds (hR : FreeClosed R) (h : Holds R s) : Holds R s.sendLine := hR.same h

@[simp] theorem State.sendNewLine_holds (text : List Byte) (cancel : Bool) (hR : FreeClosed R) (h : Holds R s) :
    Holds R (s.sendNewLine text cancel) := hR.same h

@[simp] theorem State.sendPoll_holds (hR : FreeClosed R) (h : Holds R s) : Holds R s.sendPoll := hR.same h

@[simp] theorem State.setLink_holds (new : LinkState) (hR : FreeClosed R) (h : Holds R s) : Holds R (s.setLink new) := by
  unfold State.setLink
  dsimp only
  repeat' split
  all_goals simp (maxDischargeDepth := 40) [h, hR]

@[simp] theorem State.updateJob_holds (slot : Nat) (f : Job → Job) (hR : FreeClosed R) (h : Holds R s) :
    Holds R (s.updateJob slot f) := hR.same h

@[simp] theorem State.printEntry_holds (j : Job) (st : JobState) (hR : FreeClosed R) (h : Holds R s) :
    Holds R (s.printEntry j st) := by
  simp (maxDischargeDepth := 40) [State.printEntry, h, hR]

@[simp] theorem State.selectJob_holds (hR : FreeClosed R) (h : Holds R s) : Holds R s.selectJob := by
  unfold State.selectJob
  dsimp only
  repeat' split
  all_goals simp (maxDischargeDepth := 40) [h, hR]

@[simp] theorem State.enterReady_holds (hR : FreeClosed R) (h : Holds R s) : Holds R s.enterReady := by
  simp (maxDischargeDepth := 40) [State.enterReady, h, hR]

/-- A job that ends without its last line raises no print count (R191). -/
@[simp] theorem State.endJob_holds (j : Job) (st : JobState) (o : ReqOutcome) (d : Detail) (hst : st ≠ .done) (hR : FreeClosed R)
    (h : Holds R s) : Holds R (s.endJob j st o d) := by
  simp (maxDischargeDepth := 40) [State.endJob, hst, h, hR]

/-- The end of a job may raise the print count of its record (R191). -/
theorem State.endJob_cert (j : Job) (st : JobState) (o : ReqOutcome) (d : Detail) (hR : CertClosed R) (h : Holds R s) :
    Holds R (s.endJob j st o d) := by
  have hcount (k : Nat) : Holds R (s.countPrint k) := State.setCert_cert k _ hR h
  unfold State.endJob
  dsimp only
  split
  all_goals simp (maxDischargeDepth := 40) [h, hR.freeClosed, hcount]

@[simp] theorem State.failJob_holds (d : Detail) (hR : FreeClosed R) (h : Holds R s) : Holds R (s.failJob d) := by
  unfold State.failJob
  repeat' split
  all_goals simp (maxDischargeDepth := 40) [h, hR]

@[simp] theorem State.resendLine_holds (hR : FreeClosed R) (h : Holds R s) : Holds R s.resendLine := by
  simp (maxDischargeDepth := 40) [State.resendLine, h, hR]

@[simp] theorem State.sendCancelled_holds (hR : FreeClosed R) (h : Holds R s) : Holds R s.sendCancelled := by
  simp (maxDischargeDepth := 40) [State.sendCancelled, h, hR]

@[simp] theorem State.afterExchange_holds (cancelMark : Bool) (hR : FreeClosed R) (h : Holds R s) :
    Holds R (s.afterExchange cancelMark) := by
  unfold State.afterExchange
  repeat' split
  all_goals simp (maxDischargeDepth := 40) [h, hR]

@[simp] theorem State.lineReady_holds (j : Job) (hR : CertClosed R) (h : Holds R s) : Holds R (s.lineReady j) := by
  unfold State.lineReady
  split
  · simp (maxDischargeDepth := 40) [h, hR.freeClosed]
  dsimp only
  split
  · exact State.enterReady_holds hR.freeClosed (State.endJob_cert _ _ _ _ hR (by simp [h, hR.freeClosed]))
  · split <;> simp (maxDischargeDepth := 40) [h, hR.freeClosed]

@[simp] theorem State.lineBusy_holds (hR : FreeClosed R) (h : Holds R s) : Holds R s.lineBusy := by
  simp (maxDischargeDepth := 40) [State.lineBusy, h, hR]

@[simp] theorem State.lineBad_holds (j : Job) (hR : FreeClosed R) (h : Holds R s) : Holds R (s.lineBad j) := by
  unfold State.lineBad
  repeat' split
  all_goals simp (maxDischargeDepth := 40) [h, hR]

@[simp] theorem State.linePaper_holds (j : Job) (hR : FreeClosed R) (h : Holds R s) : Holds R (s.linePaper j) := by
  unfold State.linePaper
  repeat' split
  all_goals simp (maxDischargeDepth := 40) [h, hR]

@[simp] theorem State.lineReply_holds (r : Reply) (hR : CertClosed R) (h : Holds R s) : Holds R (s.lineReply r) := by
  unfold State.lineReply
  repeat' split
  all_goals simp (maxDischargeDepth := 40) [h, hR, hR.freeClosed]

@[simp] theorem State.pausedReady_holds (hR : FreeClosed R) (h : Holds R s) : Holds R s.pausedReady := by
  unfold State.pausedReady
  repeat' split
  all_goals simp (maxDischargeDepth := 40) [h, hR]

@[simp] theorem State.pollReply_holds (r : Reply) (hR : FreeClosed R) (h : Holds R s) : Holds R (s.pollReply r) := by
  unfold State.pollReply
  repeat' split
  all_goals simp (maxDischargeDepth := 40) [h, hR]

@[simp] theorem State.frameLeft_holds (hR : FreeClosed R) (h : Holds R s) : Holds R s.frameLeft := by
  unfold State.frameLeft
  dsimp only
  repeat' split
  all_goals simp (maxDischargeDepth := 40) [h, hR]

@[simp] theorem State.replyTaken_holds (hR : FreeClosed R) (h : Holds R s) : Holds R s.replyTaken := hR.same h

@[simp] theorem State.lineSilent_holds (hR : FreeClosed R) (h : Holds R s) : Holds R s.lineSilent := by
  unfold State.lineSilent
  dsimp only
  repeat' split
  all_goals simp (maxDischargeDepth := 40) [h, hR]

@[simp] theorem State.pollSilent_holds (hR : FreeClosed R) (h : Holds R s) : Holds R s.pollSilent := by
  unfold State.pollSilent
  dsimp only
  repeat' split
  all_goals simp (maxDischargeDepth := 40) [h, hR]

@[simp] theorem State.createJob_holds (n k : Nat) (noRetry : Bool) (hR : FreeClosed R) (h : Holds R s) :
    Holds R (s.createJob n k noRetry) := by
  unfold State.createJob
  dsimp only
  repeat' split
  all_goals simp (maxDischargeDepth := 40) [h, hR]

@[simp] theorem State.takePrint_holds (n : Nat) (hR : CertClosed R) (h : Holds R s) : Holds R (s.takePrint n) := by
  unfold State.takePrint
  dsimp only
  repeat' split
  all_goals simp (maxDischargeDepth := 40) [h, hR, hR.freeClosed]

@[simp] theorem State.cancelPrint_holds (n : Nat) (hR : FreeClosed R) (h : Holds R s) : Holds R (s.cancelPrint n) := by
  unfold State.cancelPrint
  repeat' split
  all_goals simp (maxDischargeDepth := 40) [h, hR]

@[simp] theorem State.beginServiceWait_holds (hR : FreeClosed R) (h : Holds R s) : Holds R s.beginServiceWait := by
  simp (maxDischargeDepth := 40) [State.beginServiceWait, h, hR]

@[simp] theorem State.endHold_holds (hR : EditClosed R) (h : Holds R s) : Holds R s.endHold := by
  unfold State.endHold
  repeat' split
  all_goals simp (maxDischargeDepth := 40) [h, hR, hR.freeClosed]

@[simp] theorem State.judgeRamp_holds (o : RampOutcome) (hR : EditClosed R) (h : Holds R s) : Holds R (s.judgeRamp o) := by
  unfold State.judgeRamp
  dsimp only
  repeat' split
  all_goals simp (maxDischargeDepth := 40) [h, hR, hR.freeClosed]

@[simp] theorem State.rampTest_holds (hR : EditClosed R) (h : Holds R s) : Holds R s.rampTest := by
  unfold State.rampTest
  repeat' split
  all_goals simp (maxDischargeDepth := 40) [h, hR]

@[simp] theorem State.serviceOnsetNow_holds (hR : EditClosed R) (h : Holds R s) : Holds R s.serviceOnsetNow := by
  simp (maxDischargeDepth := 40) [State.serviceOnsetNow, h, hR, hR.freeClosed]

@[simp] theorem State.ovalityOnsetNow_holds (hR : FreeClosed R) (h : Holds R s) : Holds R s.ovalityOnsetNow := hR.same h

@[simp] theorem State.parkOnsetNow_holds (hR : FreeClosed R) (h : Holds R s) : Holds R s.parkOnsetNow := by
  simp (maxDischargeDepth := 40) [State.parkOnsetNow, h, hR]

@[simp] theorem State.ovalitySample_holds (hR : EditClosed R) (h : Holds R s) : Holds R s.ovalitySample := by
  unfold State.ovalitySample
  dsimp only
  repeat' split
  all_goals simp (maxDischargeDepth := 40) [h, hR, hR.freeClosed]

@[simp] theorem State.phaseSample_holds (hR : EditClosed R) (h : Holds R s) : Holds R s.phaseSample := by
  unfold State.phaseSample
  dsimp only
  repeat' split
  all_goals simp (maxDischargeDepth := 40) [h, hR, hR.freeClosed]

@[simp] theorem State.runSample_holds (hR : EditClosed R) (h : Holds R s) : Holds R s.runSample := by
  simp (maxDischargeDepth := 40) [State.runSample, h, hR, hR.freeClosed]

@[simp] theorem State.startWindowExpires_holds (hR : EditClosed R) (h : Holds R s) : Holds R s.startWindowExpires := by
  unfold State.startWindowExpires
  dsimp only
  repeat' split
  all_goals simp (maxDischargeDepth := 40) [h, hR, hR.freeClosed]

@[simp] theorem State.settleEnds_holds (hR : FreeClosed R) (h : Holds R s) : Holds R s.settleEnds := hR.same h

@[simp] theorem State.holdCompletes_holds (hR : FreeClosed R) (h : Holds R s) : Holds R s.holdCompletes := hR.same h

@[simp] theorem State.parkWindowExpires_holds (hR : EditClosed R) (h : Holds R s) : Holds R s.parkWindowExpires := by
  unfold State.parkWindowExpires
  repeat' split
  all_goals simp (maxDischargeDepth := 40) [h, hR, hR.freeClosed]

@[simp] theorem State.postIgnored_holds (n : Nat) (found : Word) (hR : FreeClosed R) (h : Holds R s) :
    Holds R (s.postIgnored n found) := State.produce_holds _ _ _ _ hR h

theorem slotBase_not_shown {a : Nat} (n : Nat) (h : shownByte a) : slotBase n + 2 ≤ a := by
  have := shownByte_ge h
  unfold slotBase
  omega

/-- The state word of a slot is written. -/
theorem FreeClosed.slotWord (n : Nat) (w : Word) (hR : FreeClosed R) (h : Holds R s) :
    Holds R (s.setMem (Memory.writeWord s.mem (slotBase n) w)) :=
  hR.memory h (fun hw => Memory.wf_writeWord _ hw _ _) fun _ ha =>
    Memory.readByte_writeWord _ _ _ _ (.inr (slotBase_not_shown n ha))

@[simp] theorem State.postSlot_holds (n : Nat) (hR : FreeClosed R) (h : Holds R s) : Holds R (s.postSlot n) := by
  unfold State.postSlot
  dsimp only
  split
  · exact State.postIgnored_holds _ _ hR (hR.slotWord _ _ h)
  · split
    · exact State.setHeld_holds _ _ hR (hR.slotWord _ _ h)
    · exact State.postIgnored_holds _ _ hR h

@[simp] theorem State.abortZero_holds (n : Nat) (hR : FreeClosed R) (h : Holds R s) : Holds R (s.abortZero n) := by
  unfold State.abortZero
  repeat' split
  all_goals simp (maxDischargeDepth := 40) [h, hR]

@[simp] theorem State.abortCalibrate_holds (hR : FreeClosed R) (h : Holds R s) : Holds R s.abortCalibrate :=
  State.setEng_holds _ rfl rfl rfl hR h

@[simp] theorem State.abortTest_holds (hR : EditClosed R) (h : Holds R s) : Holds R s.abortTest := by
  unfold State.abortTest
  repeat' split
  all_goals simp (maxDischargeDepth := 40) [h, hR, hR.freeClosed]

@[simp] theorem State.abortCompose_holds (hR : FreeClosed R) (h : Holds R s) : Holds R s.abortCompose :=
  State.setComp_holds _ rfl hR h

@[simp] theorem State.abortActive_holds (n : Nat) (k : Kind) (hR : EditClosed R) (h : Holds R s) :
    Holds R (s.abortActive n k) := by
  unfold State.abortActive
  repeat' split
  all_goals simp (maxDischargeDepth := 40) [h, hR, hR.freeClosed]

@[simp] theorem State.abortSlot_holds (n : Nat) (hR : EditClosed R) (h : Holds R s) : Holds R (s.abortSlot n) := by
  unfold State.abortSlot
  repeat' split
  all_goals simp (maxDischargeDepth := 40) [h, hR, hR.freeClosed]

@[simp] theorem State.withdraw_holds (n : Nat) (hR : FreeClosed R) (h : Holds R s) : Holds R (s.withdraw n) := by
  simp (maxDischargeDepth := 40) [State.withdraw, h, hR]

@[simp] theorem State.offerAgain_holds (k : Nat) (hR : FreeClosed R) (h : Holds R s) : Holds R (s.offerAgain k) := hR.same h

/-- The removal of a top attempt, for a predicate that outlives the removal itself (R58). -/
theorem State.discardTop_holds (n k : Nat) (a : Attempt) (hR : FreeClosed R) (h : Holds R (s.popAttempt k)) :
    Holds R (s.discardTop n k a) := by
  rw [State.discardTop_eq]
  exact State.complete_holds _ _ _ _ _ hR h

theorem State.takeDiscard_holds (n : Nat) (hR : FreeClosed R) (h : Holds R s) (hpop : ∀ k, Holds R (s.popAttempt k)) :
    Holds R (s.takeDiscard n) := by
  unfold State.takeDiscard
  dsimp only
  repeat' split
  case h_2 => exact State.discardTop_holds _ _ _ hR (hpop _)
  all_goals simp (maxDischargeDepth := 40) [h, hR]

@[simp] theorem State.takeSetTime_holds (n : Nat) (hR : FreeClosed R) (h : Holds R s) : Holds R (s.takeSetTime n) := by
  simp (maxDischargeDepth := 40) [State.takeSetTime, h, hR]

@[simp] theorem State.takeZero_holds (n : Nat) (hR : FreeClosed R) (h : Holds R s) : Holds R (s.takeZero n) := by
  unfold State.takeZero
  dsimp only
  repeat' split
  all_goals simp (maxDischargeDepth := 40) [h, hR]

@[simp] theorem State.takeCalibrate_holds (n : Nat) (hR : FreeClosed R) (h : Holds R s) : Holds R (s.takeCalibrate n) := by
  unfold State.takeCalibrate
  dsimp only
  repeat' split
  all_goals simp (maxDischargeDepth := 40) [h, hR]

/-- The table that a RUN_PLAN opens, written whole (R64). -/
def State.openTable (s : State) (p : Plan) : State :=
  (s.setTab (openedTable p (readLimits s.mem p.limitsRow.toNat) s.tab.runId)).rewriteTable

theorem State.openPlan_holds (n : Nat) (p : Plan) (hR : FreeClosed R) (h : Holds R (s.openTable p)) : Holds R (s.openPlan n p) := by
  change Holds R (frameAfter _ (State.enterSeq (State.activate (State.setSeq (s.openTable p) _) n .runPlan) .approach))
  simp (maxDischargeDepth := 40) [h, hR]

theorem State.takeRunPlan_holds (n : Nat) (hR : FreeClosed R) (h : Holds R s) (hopen : ∀ p, Holds R (s.openTable p)) :
    Holds R (s.takeRunPlan n) := by
  unfold State.takeRunPlan
  dsimp only
  repeat' split
  case h_2 => exact State.openPlan_holds _ _ hR (hopen _)
  all_goals simp (maxDischargeDepth := 40) [h, hR]

@[simp] theorem State.takeDriveTest_holds (n : Nat) (hR : EditClosed R) (h : Holds R s) : Holds R (s.takeDriveTest n) := by
  have hrefuse (o : ReqOutcome) (d : Detail) : Holds R (s.completeKind n .driveTest o d []) :=
    State.completeKind_holds _ _ _ _ _ hR.free h
  have hstart (t : DriveTest) (mode : DirMode) (limit : Nat) (hs : s.startRefusal = none) :
      Holds R (((s.setDtest (some t)).activate n .driveTest).startDrive .driveTest mode limit) :=
    State.startDrive_holds _ _ _ hs hR (State.activate_holds _ _ hR.free (State.setDtest_holds _ hR.free h))
  unfold State.takeDriveTest
  dsimp only
  refine ite_holds (hrefuse _ _) (ite_holds (hrefuse _ _) (ite_holds (hrefuse _ _) (ite_holds (hrefuse _ _) (ite_holds (hrefuse _ _) ?_))))
  split
  · exact hrefuse _ _
  · exact hrefuse _ _
  · exact hstart _ _ _ ‹_›

@[simp] theorem State.startCompose_holds (n k : Nat) (hR : CertClosed R) (h : Holds R s) : Holds R (s.startCompose n k) := by
  simp (maxDischargeDepth := 40) [State.startCompose, h, hR, hR.freeClosed]

@[simp] theorem State.takeCompose_holds (n : Nat) (hR : CertClosed R) (h : Holds R s) : Holds R (s.takeCompose n) := by
  unfold State.takeCompose
  dsimp only
  repeat' split
  all_goals simp (maxDischargeDepth := 40) [h, hR, hR.freeClosed]

theorem LooseClosed.firstSample (l : Levels) (hR : LooseClosed R) (h : Holds R s) : Holds R (s.firstSample l) := by
  have heng (x : Engine) : Holds R (s.setEng x) := hR.loose (s := s) (.of_eq rfl rfl) (.of_eq rfl rfl) h
  unfold State.firstSample
  dsimp only
  repeat' split
  all_goals simp (maxDischargeDepth := 40) [heng, hR, hR.freeClosed, State.driveLockout_loose]

theorem LooseClosed.discreteSample (l : Levels) (hR : LooseClosed R) (h : Holds R s) : Holds R (s.discreteSample l) := by
  unfold State.discreteSample
  split
  · exact hR.loose (s := s) (.of_eq rfl rfl) (.of_eq rfl rfl) h
  · exact hR.firstSample l h

@[simp] theorem State.countSample_holds (p : Pulses) (hR : FreeClosed R) (h : Holds R s) : Holds R (s.countSample p) :=
  State.setGauge_holds _ hR (State.setEng_holds _ rfl rfl rfl hR h)

/-- An analog sample, the detector's work by its own lemma. -/
theorem State.analogSample_holds (i : SampleInput) (hR : EditClosed R) (hd : ∀ t, Holds R t → Holds R t.detectorSample)
    (h : Holds R s) : Holds R (s.analogSample i) := by
  simp (maxDischargeDepth := 40) [State.analogSample, h, hd, hR, hR.freeClosed]

/-- A sample, its inputs and the detector's work by their own lemmas. -/
theorem State.takeSample_holds {Q : State → Prop} (i : SampleInput) (hR : FreeClosed R) (hQ : EditClosed Q)
    (hi : ∀ t, Holds R t → Holds Q (t.discreteSample i.levels)) (hd : ∀ t, Holds Q t → Holds Q t.detectorSample) (h : Holds R s) :
    Holds Q (s.takeSample i) := by
  have h := hi _ (State.setClk_holds { s.clk with sampleNo := s.clk.sampleNo + 1 } hR h)
  unfold State.takeSample
  dsimp only
  split
  · exact State.trackerSample_holds _ hQ.free h
  · exact State.trackerSample_holds _ hQ.free (State.analogSample_holds i hQ hd h)

theorem LooseClosed.takeSample (i : SampleInput) (hR : LooseClosed R) (h : Holds R s) : Holds R (s.takeSample i) :=
  State.takeSample_holds i hR.freeClosed hR.edit (fun _ h => hR.discreteSample _ h)
    (fun _ h => State.detectorSample_holds hR.freeClosed (fun _ h => hR.unseat h)
      (fun t _ h => hR.loose (s := t) (.of_eq rfl rfl) (.of_eq rfl rfl) h) h) h

/-- What does not read the inputs, the mode and the seat outlives their changes. -/
theorem LooseClosed.sensorClosed (hR : LooseClosed R) : SensorClosed R where
  mode := hR.modeClosed
  presence h := State.presenceSettles_holds hR.edit (hR.settleLevel _ h)
  estop h := State.estopSettles_holds hR.edit (hR.settleLevel _ h)
  seat _ h := hR.seatNow h
  sample i h := hR.takeSample i h

@[simp] theorem State.tick_holds (hR : FreeClosed R) (h : Holds R s) : Holds R s.tick := by
  have hclk : Holds R ((s.setClk { s.clk with ms := s.clk.ms + 1 }).putTime (s.time + 1)) :=
    State.putTime_holds _ hR (State.setClk_holds _ hR h)
  unfold State.tick
  exact ite_holds (State.raiseAttn_holds _ hR hclk) hclk

end

end Sys2Proof.Machine

/-! PROOFS. Which acts a closed predicate outlives, and which few need more of it. -/

namespace Sys2Proof.Machine

set_option Elab.async false

/-! ### The acts that change more than the axle table and the drive -/

/-- The acts that change what the safety rule of the drive reads, beside the drive itself (R32). -/
inductive LooseAct (s : State) : State → Prop where
  | settled (i : Input) : LooseAct s (s.inputSettles i)
  | seated (hd : s.seatDue = true) : LooseAct s s.seatNow
  | loadExpires : LooseAct s s.loadExpires
  | loadReport (reply : NvReply) : LooseAct s (s.loadReport reply)
  | calWriteReport (cut : NvCut) (answered : Bool) : LooseAct s (s.calWriteReport cut answered)
  | calWriteExpires (cut : NvCut) : LooseAct s (s.calWriteExpires cut)
  | sample (i : SampleInput) : LooseAct s (s.takeSample i)

/-- The acts that change certificate records (R170). -/
inductive CertAct (s : State) : State → Prop where
  | compose : CertAct s (s.taking (isKind .compose) (onlyOne .compose State.takeCompose))
  | print : CertAct s (s.taking (isKind .print) State.takePrint)
  | readReport (high low : NvReply) : CertAct s (s.counterReadReport high low)
  | readExpires : CertAct s s.counterReadExpires
  | writeReport (cut : NvCut) (answered : Bool) : CertAct s (s.counterWriteReport cut answered)
  | writeExpires (cut : NvCut) : CertAct s (s.counterWriteExpires cut)
  | printerByte (byte : Byte) : CertAct s (s.printerByte byte)

/-- The acts that take an attempt off, or open a new table (R58, R64). -/
inductive TableAct (s : State) : State → Prop where
  | discard : TableAct s (s.taking (isKind .discardAttempt) State.takeDiscard)
  | runPlan : TableAct s (s.taking (isKind .runPlan) (onlyOne .runPlan State.takeRunPlan))

section
variable {R : State → Prop} {s t : State}

/-- A taking withdraws its slot or does its work (R198). -/
theorem State.taking_holds (takes : Nat → Bool) (work : State → Nat → State) (hw : ∀ n, Holds R (work s n)) (hR : FreeClosed R)
    (h : Holds R s) : Holds R (s.taking takes work) := by
  unfold State.taking
  split
  case h_1 n _ => exact ite_holds (ite_holds (hw n) (State.withdraw_holds n hR h)) h
  case h_2 => exact h

theorem onlyOne_holds (k : Kind) (work : State → Nat → State) (n : Nat) (hw : Holds R (work s n)) (hR : FreeClosed R)
    (h : Holds R s) : Holds R (onlyOne k work s n) :=
  ite_holds (State.completeKind_holds _ _ _ _ _ hR h) hw

/-- A drive that counts the windows of a stop does not turn the rollers (R39). -/
theorem State.not_spinning_of_restDue (h : s.restDue = true) : isSpinning s.drv.state = false := by
  simp only [State.restDue, Bool.and_eq_true, beq_iff_eq] at h
  simp [h, isSpinning]

theorem State.not_spinning_of_stopTimeoutDue (h : s.stopTimeoutDue = true) : isSpinning s.drv.state = false := by
  simp only [State.stopTimeoutDue, Bool.and_eq_true, beq_iff_eq] at h
  simp [h, isSpinning]

/-- Words written outside the axle table and the certificate records. -/
theorem FreeClosed.writeWords (a : Nat) (ws : List Word) (hR : FreeClosed R)
    (hout : ∀ b, shownByte b → b < a ∨ a + 2 * ws.length ≤ b) (h : Holds R s) :
    Holds R (s.setMem (Memory.writeWords s.mem a ws)) :=
  hR.memory h (fun hw => Memory.wf_writeWords ws s.mem hw a) fun b hb => Memory.readByte_writeWords ws s.mem a b (hout b hb)

theorem shownByte_not_gauge {b : Nat} (h : shownByte b) : b < 0x1200 ∨ 0x1200 + 64 ≤ b := by
  rcases h with h | ⟨k, -, h⟩
  · unfold tableByte at h; exact .inl h.2
  · unfold certByte certBase at h; omega

@[simp] theorem State.updateGauge_holds (hR : FreeClosed R) (h : Holds R s) : Holds R s.updateGauge := by
  unfold State.updateGauge
  refine ite_holds ?_ (State.setGauge_holds _ hR h)
  have hg : Holds R (s.setGauge { s.gauge with samples := 0, sequence := s.gauge.sequence + 1 }) := State.setGauge_holds _ hR h
  exact hR.writeWords 0x1200 (s.gaugeWords (s.gauge.sequence + 1))
    (fun b hb => by rw [gaugeWords_length]; exact shownByte_not_gauge hb) hg

@[simp] theorem State.frameSent_holds (hR : FreeClosed R) (h : Holds R s) : Holds R s.frameSent := by
  unfold State.frameSent
  split
  · refine hR.memory (State.setDisp_holds _ hR h) (fun hw => Memory.wf_writeWord _ hw _ _) fun a ha => ?_
    exact Memory.readByte_writeWord _ _ _ _ (.inr (by have := shownByte_ge ha; omega))
  · exact State.setDisp_holds _ hR h

/-- Every step that falls due keeps a closed predicate, or is one of the special acts. -/
theorem dueSteps_holds (hR : EditClosed R) : ∀ e ∈ dueSteps, ∀ s, e.due s = true → Holds R s →
    Holds R (e.act s) ∨ LooseAct s (e.act s) ∨ CertAct s (e.act s) ∨ TableAct s (e.act s) := by
  have hF := hR.freeClosed
  simp only [dueSteps, List.forall_mem_append, settleSteps, List.forall_mem_map]
  refine ⟨⟨⟨⟨fun i _ s _ h => .inr (.inl (.settled i)), ?_⟩, ?_⟩, ?_⟩, ?_⟩
  · simp only [sampleSteps, List.forall_mem_cons, List.not_mem_nil, false_imp_iff, implies_true, and_true]
    refine ⟨fun s hd _ => .inr (.inl (.seated hd)), ?_, ?_, ?_, ?_, ?_, ?_, ?_, ?_, ?_, ?_, ?_, ?_, ?_⟩ <;>
      exact fun s _ h => .inl (by simp [h, hR, hF])
  · simp only [windowSteps, List.forall_mem_cons, List.not_mem_nil, false_imp_iff, implies_true, and_true]
    refine ⟨?_, ?_, ?_, ?_, ?_, ?_, fun s hd h => .inl (State.rest_holds (State.not_spinning_of_restDue hd) hR h),
      fun s hd h => .inl (State.driveLockout_holds _ (State.not_spinning_of_stopTimeoutDue hd) hR h), ?_, ?_⟩ <;>
      exact fun s _ h => .inl (by simp [h, hR, hF])
  · simp only [timerSteps, List.forall_mem_cons, List.not_mem_nil, false_imp_iff, implies_true, and_true]
    refine ⟨fun s _ _ => .inr (.inl .loadExpires), fun s _ _ => .inr (.inr (.inl .readExpires)),
      fun s _ _ => .inr (.inl (.calWriteExpires _)), fun s _ _ => .inr (.inr (.inl (.writeExpires _))), ?_, ?_, ?_, ?_, ?_,
      fun s _ h => .inl (ite_holds (State.lineSilent_holds hF h) (State.pollSilent_holds hF h)), ?_, ?_⟩ <;>
      exact fun s _ h => .inl (by simp [h, hR, hF])
  · simp only [takeSteps, takeStep, List.forall_mem_cons, List.not_mem_nil, false_imp_iff, implies_true, and_true]
    have one : ∀ (k : Kind) (work : State → Nat → State), (∀ s n, Holds R s → Holds R (work s n)) → ∀ s, Holds R s →
        Holds R (s.taking (isKind k) (onlyOne k work)) := fun k work hw s h =>
      State.taking_holds _ _ (fun n => onlyOne_holds k work n (hw s n h) hF h) hF h
    exact ⟨fun s _ h => .inl (State.taking_holds _ _ (fun n => State.complete_holds _ _ _ _ _ hF h) hF h),
      fun s _ h => .inl (State.taking_holds _ _ (fun n => State.takeClearFaults_holds n hR h) hF h),
      fun s _ _ => .inr (.inr (.inr .discard)),
      fun s _ h => .inl (State.taking_holds _ _ (fun n => State.takeSetTime_holds n hF h) hF h),
      fun s _ h => .inl (one _ _ (fun s n h => State.takeZero_holds n hF h) s h),
      fun s _ h => .inl (one _ _ (fun s n h => State.takeCalibrate_holds n hF h) s h),
      fun s _ _ => .inr (.inr (.inr .runPlan)),
      fun s _ h => .inl (one _ _ (fun s n h => State.takeDriveTest_holds n hR h) s h),
      fun s _ _ => .inr (.inr (.inl .compose)), fun s _ _ => .inr (.inr (.inl .print))⟩

/-- Every act keeps a closed predicate, or is one of the special acts. -/
theorem Act.holds_or_special (ha : Act s t) (hR : EditClosed R) (h : Holds R s) :
    Holds R t ∨ LooseAct s t ∨ CertAct s t ∨ TableAct s t := by
  have hF := hR.freeClosed
  cases ha with
  | idle => exact .inl h
  | due e he hd => exact dueSteps_holds hR e he s hd h
  | post mask => exact .inl (foldl_holds _ (fun s n h => State.postSlot_holds n hF h) _ s h)
  | abort mask => exact .inl (foldl_holds _ (fun s n h => State.abortSlot_holds n hR h) _ s h)
  | jack value => exact .inl (hF.same h)
  | loadReport reply => exact .inr (.inl (.loadReport reply))
  | calWriteReport cut answered => exact .inr (.inl (.calWriteReport cut answered))
  | calWriteLimit cut => exact .inr (.inl (.calWriteExpires cut))
  | counterReadReport high low => exact .inr (.inr (.inl (.readReport high low)))
  | counterWriteReport cut answered => exact .inr (.inr (.inl (.writeReport cut answered)))
  | counterWriteLimit cut => exact .inr (.inr (.inl (.writeExpires cut)))
  | printerByte byte => exact .inr (.inr (.inl (.printerByte byte)))
  | sample i => exact .inr (.inl (.sample i))
  | _ => exact .inl (by simp [h, hF])

theorem LooseAct.holds (ha : LooseAct s t) (hR : SensorClosed R) (h : Holds R s) : Holds R t := by
  have hF := hR.mode.freeClosed
  cases ha with
  | settled i => exact State.inputSettles_holds i hR.mode (hR.presence h) (hR.estop h) h
  | seated hd => exact hR.seat hd h
  | sample i => exact hR.sample i h
  | loadExpires => exact State.loadExpires_holds hR.mode h
  | loadReport reply => unfold State.loadReport; split <;> simp [h, hR.mode]
  | calWriteReport cut answered => unfold State.calWriteReport; split <;> simp [h, hR.mode, hF]
  | calWriteExpires cut => exact State.calWriteExpires_holds cut hR.mode h

theorem CertAct.holds (ha : CertAct s t) (hE : EditClosed R) (hR : CertClosed R) (h : Holds R s) : Holds R t := by
  have hF := hE.freeClosed
  cases ha with
  | compose => exact State.taking_holds _ _ (fun n => onlyOne_holds _ _ n (State.takeCompose_holds n hR h) hF h) hF h
  | print => exact State.taking_holds _ _ (fun n => State.takePrint_holds n hR h) hF h
  | readReport high low =>
    unfold State.counterReadReport
    split
    · exact ite_holds (State.counterReadExpires_holds hR h) (State.counterReadEnds_holds _ _ _ hR
        (State.correctedEntry_holds _ _ _ hF (State.correctedEntry_holds _ _ _ hF h)))
    · exact h
  | readExpires => exact State.counterReadExpires_holds hR h
  | writeReport cut answered =>
    unfold State.counterWriteReport
    split
    · exact State.counterWriteEnds_holds _ _ _ hE hR (State.storeWrite_holds _ _ hF h)
    · exact h
  | writeExpires cut => exact State.counterWriteExpires_holds _ hE hR h
  | printerByte byte =>
    unfold State.printerByte
    repeat' split
    all_goals simp [h, hR, hF]

/-- What the removal of an attempt and a new table need of a predicate (R58, R64); Q is what is left of R. -/
theorem TableAct.holds {Q : State → Prop} (ha : TableAct s t) (hQ : FreeClosed Q) (hRQ : ∀ s, R s → Q s)
    (hpop : ∀ s k, R s → Q (s.popAttempt k)) (hopen : ∀ s p, R s → Q (s.openTable p)) (h : Holds R s) : Holds Q t := by
  cases ha with
  | discard =>
    exact State.taking_holds _ _ (fun n => State.takeDiscard_holds n hQ (hRQ _ h) fun k => hpop _ k h) hQ (hRQ _ h)
  | runPlan =>
    exact State.taking_holds _ _ (fun n => onlyOne_holds _ _ n
      (State.takeRunPlan_holds n hQ (hRQ _ h) fun p => hopen _ p h) hQ (hRQ _ h)) hQ (hRQ _ h)

end

end Sys2Proof.Machine

/-! PROOFS. At most three attempts per axle (R55). -/

namespace Sys2Proof.Machine

set_option Elab.async false

/-- An axle record that keeps its attempts, or takes a list of at most three, keeps the law (R55). -/
theorem attemptLaw_set {t : AxleTable} {k : Nat} {r : AxleRecord} (hr : r.attempts.length ≤ 3) (h : AttemptLaw t) :
    AttemptLaw { t with records := t.records.set k r } := by
  intro x hx
  rcases List.mem_or_eq_of_mem_set hx with hx | rfl
  · exact h x hx
  · exact hr

/-- The attempts of a record named by any index are at most three (R55). -/
theorem AttemptLaw.record {s : State} (h : AttemptLaw s.tab) (k : Nat) : (s.record k).attempts.length ≤ 3 := by
  unfold State.record
  rw [List.getD_eq_getElem?_getD]
  cases hk : s.tab.records[k]? with
  | none => simp [AxleRecord.cleared]
  | some r => exact h r (List.mem_of_getElem? hk)

theorem pushOnto_length_le (l : List Attempt) (a : Attempt) : (pushOnto l a).length ≤ 3 := by
  unfold pushOnto
  split
  · simp; omega
  · simp

/-- Only the records matter. -/
theorem AttemptLaw.congr {t u : AxleTable} (hu : u.records = t.records) (h : AttemptLaw t) : AttemptLaw u := by
  unfold AttemptLaw
  rwa [hu]

/-- An axle record changes without a change of its attempts. -/
theorem AttemptLaw.setRecord {s : State} {k : Nat} {r : AxleRecord} (hr : r.attempts = (s.record k).attempts)
    (h : AttemptLaw s.tab) : AttemptLaw (s.setRecord k r).tab :=
  attemptLaw_set (hr ▸ h.record k) h

theorem State.rewriteFields_tab (s : State) (k i n : Nat) : (s.rewriteFields k i n).tab = s.tab := by simp
theorem State.rewriteOptional_tab (s : State) (k i n : Nat) : (s.rewriteOptional k i n).tab = s.tab := by simp
theorem State.rewriteAttempt_tab (s : State) (k j i : Nat) : (s.rewriteAttempt k j i).tab = s.tab := by simp

theorem attemptLaw_free : FreeClosed fun s => AttemptLaw s.tab := ⟨fun ht _ _ h => ht.tab ▸ h⟩

theorem attemptLaw_edit : EditClosed fun s => AttemptLaw s.tab where
  free := attemptLaw_free
  header _ hx h := h.congr hx
  violations _ _ h := AttemptLaw.setRecord rfl h
  status _ _ _ h := by
    rw [State.setStatus, State.rewriteFields_tab]
    exact AttemptLaw.setRecord rfl h
  sideSlip _ _ h := by
    rw [State.setSideSlip, State.rewriteOptional_tab]
    exact AttemptLaw.setRecord rfl h
  weights _ _ _ h := by
    rw [State.rewriteOptional_tab]
    exact AttemptLaw.setRecord rfl h
  parking _ _ h := by
    rw [State.rewriteOptional_tab]
    exact AttemptLaw.setRecord rfl h
  push k a h := by
    rw [State.rewriteAttempt_tab]
    exact attemptLaw_set (pushOnto_length_le _ _) h
  start _ _ _ _ h := h
  run _ _ _ _ h := h
  stop _ _ _ h := h
  rest _ _ _ _ h := h

theorem attemptLaw_loose : LooseClosed fun s => AttemptLaw s.tab := ⟨attemptLaw_edit, fun ht _ h => ht.tab ▸ h⟩

theorem attemptLaw_cert : CertClosed fun s => AttemptLaw s.tab := ⟨fun ht _ h => ht.tab ▸ h⟩

/-- The removal of an attempt leaves no more than there were (R58). -/
theorem attemptLaw_pop (s : State) (k : Nat) (h : AttemptLaw s.tab) : AttemptLaw (s.popAttempt k).tab := by
  rw [State.popAttempt_tab]
  refine attemptLaw_set ?_ h
  have := h.record k
  simp only [List.length_dropLast]
  omega

/-- A new table holds no attempts (R64). -/
theorem attemptLaw_open (s : State) (p : Plan) : AttemptLaw (s.openTable p).tab := by
  intro r hr
  simp only [State.openTable, State.rewriteTable, State.setMem_tab, State.setTab_tab, openedTable, List.mem_map] at hr
  obtain ⟨k, -, rfl⟩ := hr
  simp [AxleRecord.cleared]

theorem Act.attemptLaw {s t : State} (ha : Act s t) (h : AttemptLaw s.tab) : AttemptLaw t.tab := by
  rcases ha.holds_or_special attemptLaw_edit h with h' | ha | ha | ha
  · exact h'
  · exact ha.holds attemptLaw_loose.sensorClosed h
  · exact ha.holds attemptLaw_edit attemptLaw_cert h
  · exact ha.holds attemptLaw_free (fun _ => id) attemptLaw_pop (fun s p _ => attemptLaw_open s p) h

/-- A lane reset empties the table (R67). -/
theorem State.laneReset_tab (s : State) : s.laneReset.tab = AxleTable.emptied s.tab.runId := by
  simp [State.laneReset]

theorem publish_tab (old new : State) : (publish old new).tab = new.tab := by simp

/-- Settles O60: every act keeps the attempts, and the lengths of the lists. -/
theorem attemptLawIsKept : Obligations.AttemptLawIsKept := by
  unfold Obligations.AttemptLawIsKept
  refine ⟨fun s t hs ht => ?_, fun s t => step_shape⟩
  refine invariant_step (P := fun s => AttemptLaw s.tab) (fun ha h => ?act) (fun s _ => ?reset) (fun _ _ h => h)
    (fun _ _ _ _ => attemptLaw_emptied _) hs ht
  case act =>
    rw [publish_tab]
    exact ha.attemptLaw h
  case reset =>
    rw [publish_tab, State.laneReset_tab]
    exact attemptLaw_emptied _

end Sys2Proof.Machine

/-! PROOFS. The safety rule of the drive (R32): the motors turn only while all that the start checks ask for still holds. -/

namespace Sys2Proof.Machine

set_option Elab.async false

/-! ### The rule with one demand left out -/

/-- What the safety rule asks of a drive that turns the rollers (R32). -/
inductive Demand where
  | mode | presence | estop | seat

/-- The state meets a demand of the safety rule (R32). -/
def State.meets (s : State) : Demand → Prop
  | .mode => s.eng.mode = .normal
  | .presence => s.level .presence = false
  | .estop => s.level .estop = false
  | .seat => s.seat.seated = true

/-- The safety rule without one of its demands: what holds between the moment at which the demand lapses and the stop of the spin. -/
def SafeBut (x : Option Demand) (s : State) : Prop :=
  s.drv.energised = isSpinning s.drv.state ∧
  (isSpinning s.drv.state = true → ∀ d, some d ≠ x → s.meets d) ∧
  s.eng.inputs.length = 11 ∧
  (s.eng.started = false → s.seat.seated = false ∧ s.seat.qualify = 0)

theorem driveSafe_iff (s : State) : DriveSafe s ↔ SafeBut none s := by
  unfold DriveSafe SafeBut
  refine and_congr_right' (and_congr_left' (imp_congr_right fun _ => ⟨?_, fun h => ?_⟩))
  · rintro ⟨hm, hp, he, hs⟩ d -
    cases d <;> assumption
  · exact ⟨h .mode nofun, h .presence nofun, h .estop nofun, h .seat nofun⟩

/-- A drive that does not turn the rollers asks for nothing. -/
theorem SafeBut.of_not_spinning {x y : Option Demand} {s : State} (h : SafeBut x s) (hs : isSpinning s.drv.state = false) :
    SafeBut y s :=
  ⟨h.1, fun hs' => by simp [hs] at hs', h.2.2⟩

/-- A demand that is met may be asked for. -/
theorem SafeBut.of_meets {d : Demand} {s : State} (h : SafeBut (some d) s) (hd : s.meets d) : SafeBut none s := by
  obtain ⟨he, hs, hrest⟩ := h
  refine ⟨he, fun hsp e _ => ?_, hrest⟩
  by_cases hed : e = d
  · exact hed ▸ hd
  · exact hs hsp e fun h => hed (Option.some.inj h)

theorem SafeBut.drop {s : State} (x : Option Demand) (h : SafeBut none s) : SafeBut x s :=
  ⟨h.1, fun hs d _ => h.2.1 hs d nofun, h.2.2⟩

/-- A start that the checks allow finds every demand met (R33). -/
theorem State.meets_of_startRefusal {s : State} (h : s.startRefusal = none) (d : Demand) : s.meets d := by
  unfold State.startRefusal at h
  split_ifs at h with hl ho hm he hp hw
  cases d
  · exact not_not.mp hm
  · exact Bool.eq_false_iff.mpr hp
  · exact Bool.eq_false_iff.mpr he
  · exact (by simpa using hw : s.seat.seated = true)

theorem SameSafety.meets {s t : State} (h : SameSafety s t) (d : Demand) : t.meets d ↔ s.meets d := by
  cases d
  · exact iff_of_eq (congrArg (· = LaneMode.normal) h.mode)
  · exact iff_of_eq (congrArg (· = false) h.presence)
  · exact iff_of_eq (congrArg (· = false) h.estop)
  · exact iff_of_eq (congrArg (· = true) h.seated)

theorem SameSafety.safeBut {s t : State} (x : Option Demand) (h : SameSafety s t) (hs : SafeBut x s) : SafeBut x t := by
  unfold SafeBut
  rw [h.drive, h.energised, h.inputs, h.started, h.seated, h.qualify]
  exact ⟨hs.1, fun hsp d hd => (h.meets d).2 (hs.2.1 hsp d hd), hs.2.2⟩

/-- A change of the axle table and its bytes changes nothing the rule reads. -/
theorem SafeBut.congr {s t : State} {x : Option Demand} (hs : SafeBut x s) (hd : t.drv = s.drv := by simp)
    (he : t.eng = s.eng := by simp) (hw : t.seat = s.seat := by simp) : SafeBut x t :=
  SameSafety.safeBut x (.of_eq (by rw [hd]) (by rw [hd]) (by rw [he]) (by rw [he]) (by rw [he]) (by rw [hw]) (by rw [hw])) hs

/-- A change of the drive alone: what it asks for was asked for before, or is met. -/
theorem SafeBut.setDrv {s : State} {x : Option Demand} (d : Drive) (he : d.energised = isSpinning d.state)
    (hd : isSpinning d.state = true → isSpinning s.drv.state = true ∨ ∀ e, s.meets e) (h : SafeBut x s) :
    SafeBut x (s.setDrv d) :=
  ⟨he, fun hsp e hx => (hd hsp).elim (fun h' => h.2.1 h' e hx) fun h' => h' e, h.2.2⟩

theorem safeBut_free (x : Option Demand) : FreeClosed (SafeBut x) := ⟨fun _ _ h hs => h.safeBut x hs⟩

theorem safeBut_edit (x : Option Demand) : EditClosed (SafeBut x) where
  free := safeBut_free x
  header _ _ h := h.congr
  violations _ _ h := h.congr
  status _ _ _ h := h.congr
  sideSlip _ _ h := h.congr
  weights _ _ _ h := h.congr
  parking _ _ h := h.congr
  push _ _ h := h.congr
  start d hr hd he h := h.setDrv d (by rw [he, hd]; rfl) fun _ => .inr (State.meets_of_startRefusal hr)
  run d hs hd he h := h.setDrv d (by rw [he, h.1, hs, hd]; rfl) fun _ => .inl (by rw [hs]; rfl)
  stop d hd he h := h.setDrv d (by rw [he, hd]; rfl) (by rw [hd]; nofun)
  rest d hs hd he h := h.setDrv d (by rw [he, h.1, hs, hd]) (by rw [hd]; nofun)

theorem safeBut_cert (x : Option Demand) : CertClosed (SafeBut x) := ⟨fun _ h hs => h.safeBut x hs⟩

/-- A predicate that holds only after the first sample is closed with the rule. -/
def SafeStarted (x : Option Demand) (s : State) : Prop := SafeBut x s ∧ s.eng.started = true

theorem safeStarted_edit (x : Option Demand) : EditClosed (SafeStarted x) where
  free := ⟨fun ht hc h hs => ⟨(safeBut_free x).keeps ht hc h hs.1, h.started.trans hs.2⟩⟩
  header t ht h := ⟨(safeBut_edit x).header t ht h.1, h.2⟩
  violations k v h := ⟨(safeBut_edit x).violations k v h.1, h.2⟩
  status k st skip h := ⟨(safeBut_edit x).status k st skip h.1, by simpa using h.2⟩
  sideSlip k y h := ⟨(safeBut_edit x).sideSlip k y h.1, by simpa using h.2⟩
  weights k l r h := ⟨(safeBut_edit x).weights k l r h.1, by simpa using h.2⟩
  parking k p h := ⟨(safeBut_edit x).parking k p h.1, by simpa using h.2⟩
  push k a h := ⟨(safeBut_edit x).push k a h.1, by simpa using h.2⟩
  start d hr hd he h := ⟨(safeBut_edit x).start d hr hd he h.1, h.2⟩
  run d hs hd he h := ⟨(safeBut_edit x).run d hs hd he h.1, h.2⟩
  stop d hd he h := ⟨(safeBut_edit x).stop d hd he h.1, h.2⟩
  rest d hs hd he h := ⟨(safeBut_edit x).rest d hs hd he h.1, h.2⟩

/-! ### A demand lapses, and the spin is stopped -/

/-- After a stop the drive does not turn the rollers (R38). -/
theorem State.stopEvent_not_spinning (s : State) (r : StopReason) : isSpinning (s.stopEvent r).drv.state = false := by
  cases hs : isSpinning s.drv.state with
  | true =>
    have h := stopEvent_stopped s r hs
    unfold Stopped at h
    simp [h, isSpinning]
  | false => rw [stopEvent_at_rest s r hs, hs]

/-- A stop makes up for any demand that has lapsed (R38). -/
theorem SafeBut.stopEvent {s : State} {x : Option Demand} (r : StopReason) (h : SafeBut x s) : SafeBut none (s.stopEvent r) :=
  SafeBut.of_not_spinning (State.stopEvent_holds r (safeBut_edit x) h) (s.stopEvent_not_spinning r)

/-- The level of one input settles. -/
theorem SafeBut.settleLevel {s : State} {d : Demand} (i : Input)
    (hi : ∀ e, e ≠ d → ((s.settleLevel i).meets e ↔ s.meets e)) (h : SafeBut none s) : SafeBut (some d) (s.settleLevel i) := by
  obtain ⟨he, hs, hl, hw⟩ := h
  refine ⟨he, fun hsp e hne => (hi e fun h => hne (congrArg some h)).2 (hs hsp e nofun), ?_, hw⟩
  simpa [State.settleLevel] using hl

theorem SafeBut.settlePresence {s : State} (h : SafeBut none s) : SafeBut (some .presence) (s.settleLevel .presence) := by
  refine h.settleLevel _ fun e he => ?_
  cases e with
  | presence => exact absurd rfl he
  | estop => exact iff_of_eq (congrArg (· = false) (State.settleLevel_level _ _ (by decide)))
  | mode => exact Iff.rfl
  | seat => exact Iff.rfl

theorem SafeBut.settleEstop {s : State} (h : SafeBut none s) : SafeBut (some .estop) (s.settleLevel .estop) := by
  refine h.settleLevel _ fun e he => ?_
  cases e with
  | estop => exact absurd rfl he
  | presence => exact iff_of_eq (congrArg (· = false) (State.settleLevel_level _ _ (by decide)))
  | mode => exact Iff.rfl
  | seat => exact Iff.rfl

/-- PRESENCE settles (R38). -/
theorem SafeBut.presenceSettles {s : State} (h : SafeBut (some .presence) s) : SafeBut none s.presenceSettles := by
  have hs : Holds (SafeBut none) (if s.level .presence then s.stopEvent .presence else s) := by
    split
    · exact h.stopEvent _
    · exact h.of_meets (Bool.eq_false_iff.mpr ‹_›)
  exact frameAfter_holds _ (safeBut_free none) (State.repeatStart_holds (safeBut_edit none) hs)

/-- ESTOP settles ACTIVE: the spin is stopped, or the drive does not turn the rollers (R38, R39). -/
theorem SafeBut.estopActive {s : State} (h : SafeBut (some .estop) s) : SafeBut none s.estopActive := by
  cases hs : isSpinning s.drv.state with
  | true =>
    have hstop : s.estopActive = s.stopEvent .estop := by
      unfold State.estopActive
      revert hs
      cases s.drv.state <;> simp [isSpinning]
    rw [hstop]
    exact h.stopEvent _
  | false => exact State.estopActive_holds (safeBut_edit none) (h.of_not_spinning hs)

theorem SafeBut.estopSettles {s : State} (h : SafeBut (some .estop) s) : SafeBut none s.estopSettles := by
  have hs : Holds (SafeBut none) (if s.level .estop then s.estopActive else s) := by
    split
    · exact h.estopActive
    · exact h.of_meets (Bool.eq_false_iff.mpr ‹_›)
  exact frameAfter_holds _ (safeBut_free none) (State.repeatStart_holds (safeBut_edit none) hs)

/-- The lane mode changes: away from NORMAL the spin is stopped, into NORMAL none was turning (R22, R38). -/
theorem SafeBut.deriveMode {s : State} (h : SafeBut none s) : SafeBut none s.deriveMode := by
  have hE := safeBut_edit none
  unfold State.deriveMode
  dsimp only
  split
  · exact h
  have hmode : SafeBut (some .mode) ((s.setEng { s.eng with mode := s.derivedMode }).produce evModeChanged 0
      (word (codeOfMode s.eng.mode)) (word (codeOfMode s.derivedMode))) := by
    refine State.produce_holds _ _ _ _ (safeBut_free _) ⟨h.1, fun hs d hd => ?_, h.2.2⟩
    cases d with
    | mode => exact absurd rfl hd
    | presence => exact h.2.1 hs .presence nofun
    | estop => exact h.2.1 hs .estop nofun
    | seat => exact h.2.1 hs .seat nofun
  unfold State.modeTaken
  split
  · exact frameAfter_holds _ hE.free (State.abortPlan_holds _ _ hE (hmode.stopEvent _))
  · rename_i hold
    have hrest : isSpinning s.drv.state = false := Bool.eq_false_iff.mpr fun hs => hold (h.2.1 hs .mode nofun)
    exact frameAfter_holds _ hE.free (State.repeatStart_holds hE (hmode.of_not_spinning (by simpa using hrest)))

/-- The axle leaves its seat, and the spin is stopped (R26, R38). -/
theorem SafeStarted.unseat {s : State} (h : SafeStarted none s) : SafeStarted none s.unseat := by
  have hE := safeStarted_edit none
  have hseat (t : State) (ht : SafeStarted none t) : SafeStarted (some .seat)
      (t.setSeat { t.seat with seated := false, lastBeam := none, qualify := 0 }) := by
    obtain ⟨⟨he, hs, hl, -⟩, hstart⟩ := ht
    refine ⟨⟨he, fun hsp d hd => ?_, hl, fun _ => ⟨rfl, rfl⟩⟩, hstart⟩
    cases d with
    | seat => exact absurd rfl hd
    | mode => exact hs hsp .mode nofun
    | presence => exact hs hsp .presence nofun
    | estop => exact hs hsp .estop nofun
  have hstop (t : State) (ht : SafeStarted (some .seat) t) : SafeStarted none (t.stopEvent .unseat) :=
    ⟨ht.1.stopEvent _, (State.stopEvent_holds .unseat (safeStarted_edit _) ht).2⟩
  have hF := (safeStarted_edit (some .seat)).free
  exact State.decideExit_holds _ hE (frameAfter_holds _ hE.free (State.seqUnseated_holds hE (hstop _
    (State.setWeigh_holds _ hF (State.loadEntry_holds _ hF (hseat _ (State.lastBeamChanges_holds hE h)))))))

/-- The seated report comes after the first sample, and meets the demand of the seat (R25). -/
theorem SafeBut.seatNow {s : State} (hd : s.seatDue = true) (h : SafeBut none s) : SafeBut none s.seatNow := by
  have hE := safeBut_edit none
  have hstart : s.eng.started = true := by
    by_contra hs
    have hq := (h.2.2.2 (by simpa using hs)).2
    simp [State.seatDue, hq, qualifySamples] at hd
  have hseat (t : State) (ht : SafeStarted none t) : SafeBut none (t.setSeat { t.seat with
      seated := true, qualify := 0, lastBeam := none, record := .empty, active := false, exitWindow := none }) := by
    obtain ⟨⟨he, hs, hl, -⟩, hstart⟩ := ht
    refine ⟨he, fun hsp d hd => ?_, hl, fun h => by simp [hstart] at h⟩
    cases d with
    | seat => rfl
    | mode => exact hs hsp .mode nofun
    | presence => exact hs hsp .presence nofun
    | estop => exact hs hsp .estop nofun
  have hexit : Holds (SafeStarted none) (if s.seat.exitWindow.isSome then s.reportExit .unclear false false else s) :=
    ite_holds (State.reportExit_holds _ _ _ (safeStarted_edit none) ⟨h, hstart⟩) ⟨h, hstart⟩
  exact frameAfter_holds _ hE.free (State.seqSeated_holds hE (State.reconcile_holds hE (State.loadEntry_holds _ hE.free
    (hseat _ hexit))))

/-- A sample leaves the debounced levels as they are (R5). -/
theorem level_after {s : State} {i : Input} (hi : inputIndex i < s.eng.inputs.length) (l : Levels) :
    (s.setEng { s.eng with inputs := (s.eng.inputs.zip (levelList l)).map fun x => x.1.after x.2 }).level i = s.level i := by
  have hl : inputIndex i < (levelList l).length := by
    have : (levelList l).length = 11 := rfl
    rw [this]
    cases i <;> decide
  simp [State.level, State.input, List.getD_eq_getElem?_getD, hi, hl, DiscreteInput.after]

/-- The first sample, with a drive that does not turn the rollers (R5, R45). -/
theorem SafeBut.firstSample {s : State} (l : Levels) (h : SafeBut none s) (hs : isSpinning s.drv.state = false) :
    SafeStarted none (s.firstSample l) := by
  have hE := safeStarted_edit none
  have hinputs : SafeStarted none (s.setEng { s.eng with started := true, inputs := (levelList l).map fun b => ⟨b, 0⟩ }) :=
    ⟨⟨h.1, fun hsp => by simp [hs] at hsp, by simp [levelList], nofun⟩, rfl⟩
  unfold State.firstSample
  dsimp only
  refine State.frameDue_holds hE.free (ite_holds (State.sendPoll_holds hE.free ?_) ?_) <;>
    exact ite_holds (State.driveLockout_holds _ hs hE hinputs) hinputs

/-- The inputs at a sample: the levels stay, and before the first sample no axle is seated (R5). -/
theorem SafeBut.discreteSample {s : State} (l : Levels) (h : SafeBut none s) : SafeStarted none (s.discreteSample l) := by
  unfold State.discreteSample
  split
  · rename_i hstart
    have hlevel (i : Input) : (s.setEng { s.eng with
        inputs := (s.eng.inputs.zip (levelList l)).map fun x => x.1.after x.2 }).level i = s.level i :=
      level_after (by rw [h.2.2.1]; cases i <;> decide) l
    refine ⟨⟨h.1, fun hs d hd => ?_, by simp [h.2.2.1, levelList], h.2.2.2⟩, hstart⟩
    have hm := h.2.1 hs d hd
    cases d with
    | presence => exact (hlevel _).trans hm
    | estop => exact (hlevel _).trans hm
    | mode => exact hm
    | seat => exact hm
  · rename_i hstart
    have hrest : isSpinning s.drv.state = false := by
      have hseat := (h.2.2.2 (Bool.eq_false_iff.mpr hstart)).1
      exact Bool.eq_false_iff.mpr fun hs => Bool.false_ne_true (hseat.symm.trans (h.2.1 hs .seat nofun))
    exact SafeBut.firstSample l h hrest

theorem SafeStarted.detectorSample {s : State} (h : SafeStarted none s) : SafeStarted none s.detectorSample :=
  State.detectorSample_holds (safeStarted_edit none).free (fun _ h => SafeStarted.unseat h)
    (fun _ _ h => ⟨⟨h.1.1, fun hs d hd => by
      have := h.1.2.1 hs d hd
      cases d <;> exact this, h.1.2.2.1, fun hn => by
        have := h.2
        simp [this] at hn⟩, h.2⟩) h

theorem safeBut_sensor : SensorClosed (SafeBut none) where
  mode := ⟨safeBut_edit none, fun h => h.deriveMode⟩
  presence h := h.settlePresence.presenceSettles
  estop h := h.settleEstop.estopSettles
  seat hd h := h.seatNow hd
  sample i h := (State.takeSample_holds i (safeBut_free none) (safeStarted_edit none) (fun _ h => SafeBut.discreteSample _ h)
    (fun _ h => SafeStarted.detectorSample h) h : SafeStarted none _).1

theorem Act.safe {s t : State} (ha : Act s t) (h : SafeBut none s) : SafeBut none t := by
  rcases ha.holds_or_special (safeBut_edit none) h with h' | ha | ha | ha
  · exact h'
  · exact ha.holds safeBut_sensor h
  · exact ha.holds (safeBut_edit none) (safeBut_cert none) h
  · exact ha.holds (safeBut_free none) (fun _ => id) (fun s k h => h.congr (by simp [State.popAttempt]) (by simp [State.popAttempt]) (by simp [State.popAttempt]))
      (fun s p h => h.congr rfl rfl rfl) h

/-- A lane reset stops the drive (R45). -/
theorem SafeBut.laneReset {s : State} (h : SafeBut none s) : SafeBut none s.laneReset := by
  have hdrv : isSpinning s.laneReset.drv.state = false := by simp [State.laneReset, Drive.afterReset, isSpinning]
  refine ⟨?_, fun hs => by simp [hdrv] at hs, ?_, fun _ => ?_⟩
  · rw [hdrv]
    simp [State.laneReset, Drive.afterReset]
  · simpa [State.laneReset, Engine.afterReset] using h.2.2.1
  · simp [State.laneReset, Seating.afterReset]

/-- Settles O57: every act keeps the safety rule, a lapse of a demand being followed by the stop of the spin in the same act. -/
theorem driveSafetyIsKept : Obligations.DriveSafetyIsKept := by
  unfold Obligations.DriveSafetyIsKept
  intro s t hs ht
  refine invariant_step (P := DriveSafe) (fun ha h => ?act) (fun s h => ?reset) (fun _ _ h => h)
    (fun _ _ _ _ => driveSafe_powered _ _) hs ht
  case act => exact (driveSafe_iff _).2 ((ha.safe ((driveSafe_iff _).1 h)).congr)
  case reset => exact (driveSafe_iff _).2 (((driveSafe_iff _).1 h).laneReset.congr)

end Sys2Proof.Machine

/-! PROOFS. The law of the certificate counter (R178): the stored counter never falls while it can be read, and the numbers issued rise. -/

namespace Sys2Proof.Machine

set_option Elab.async false

/-! ### What leaves the number last issued as it is -/

section
variable (s : State)

@[simp] theorem State.setCert_lastIssued (k : Nat) (c : CertRecord) : (s.setCert k c).comp.lastIssued = s.comp.lastIssued := rfl

@[simp] theorem State.readRecord_lastIssued (k : Nat) : (s.readRecord k).comp.lastIssued = s.comp.lastIssued := by
  unfold State.readRecord
  dsimp only
  repeat' split
  all_goals rfl

theorem foldl_lastIssued {α : Type} (f : State → α → State) (hf : ∀ s x, (f s x).comp.lastIssued = s.comp.lastIssued)
    (l : List α) (s : State) : (l.foldl f s).comp.lastIssued = s.comp.lastIssued := by
  induction l generalizing s with
  | nil => rfl
  | cons x l ih => exact (ih _).trans (hf s x)

@[simp] theorem State.stateRead_lastIssued : s.stateRead.comp.lastIssued = s.comp.lastIssued :=
  foldl_lastIssued _ (fun s k => s.readRecord_lastIssued k) _ s

@[simp] theorem State.clearCert_lastIssued (k : Nat) (st : RecordState) :
    (s.clearCert k st).comp.lastIssued = s.comp.lastIssued := rfl

@[simp] theorem State.clearFill_lastIssued (k : Nat) : (s.clearFill k).comp.lastIssued = s.comp.lastIssued := rfl

@[simp] theorem State.endCompose_lastIssued (c : ComposeOp) (o : ReqOutcome) (d : Detail) :
    (s.endCompose c o d).comp.lastIssued = s.comp.lastIssued := by simp [State.endCompose]

@[simp] theorem State.fill_lastIssued (c : ComposeOp) (v : Nat) : (s.fill c v).comp.lastIssued = s.comp.lastIssued := rfl

@[simp] theorem State.countPrint_lastIssued (k : Nat) : (s.countPrint k).comp.lastIssued = s.comp.lastIssued := rfl

@[simp] theorem State.endJob_lastIssued (j : Job) (st : JobState) (o : ReqOutcome) (d : Detail) :
    (s.endJob j st o d).comp.lastIssued = s.comp.lastIssued := by
  unfold State.endJob
  dsimp only
  split <;> simp

@[simp] theorem State.failJob_lastIssued (d : Detail) : (s.failJob d).comp.lastIssued = s.comp.lastIssued := by
  unfold State.failJob
  repeat' split
  all_goals simp

@[simp] theorem State.lineReady_lastIssued (j : Job) : (s.lineReady j).comp.lastIssued = s.comp.lastIssued := by
  unfold State.lineReady
  dsimp only
  repeat' split
  all_goals simp

@[simp] theorem State.lineBad_lastIssued (j : Job) : (s.lineBad j).comp.lastIssued = s.comp.lastIssued := by
  unfold State.lineBad
  repeat' split
  all_goals simp

@[simp] theorem State.linePaper_lastIssued (j : Job) : (s.linePaper j).comp.lastIssued = s.comp.lastIssued := by
  unfold State.linePaper
  split <;> simp

@[simp] theorem State.lineReply_lastIssued (r : Reply) : (s.lineReply r).comp.lastIssued = s.comp.lastIssued := by
  unfold State.lineReply
  repeat' split
  all_goals simp

@[simp] theorem State.pollReply_lastIssued (r : Reply) : (s.pollReply r).comp.lastIssued = s.comp.lastIssued := by
  unfold State.pollReply
  split <;> simp

@[simp] theorem State.lineSilent_lastIssued : s.lineSilent.comp.lastIssued = s.comp.lastIssued := by
  unfold State.lineSilent
  dsimp only
  split <;> simp

@[simp] theorem State.pollSilent_lastIssued : s.pollSilent.comp.lastIssued = s.comp.lastIssued := by
  unfold State.pollSilent
  dsimp only
  repeat' split
  all_goals simp

@[simp] theorem State.cancelPrint_lastIssued (n : Nat) : (s.cancelPrint n).comp.lastIssued = s.comp.lastIssued := by
  unfold State.cancelPrint
  repeat' split
  all_goals simp

@[simp] theorem State.takePrint_lastIssued (n : Nat) : (s.takePrint n).comp.lastIssued = s.comp.lastIssued := by
  unfold State.takePrint
  dsimp only
  repeat' split
  all_goals simp

@[simp] theorem State.abortActive_lastIssued (n : Nat) (k : Kind) : (s.abortActive n k).comp.lastIssued = s.comp.lastIssued := by
  unfold State.abortActive
  split
  case h_5 => rfl
  all_goals simp

@[simp] theorem State.abortSlot_lastIssued (n : Nat) : (s.abortSlot n).comp.lastIssued = s.comp.lastIssued := by
  unfold State.abortSlot
  split <;> simp

@[simp] theorem State.startCompose_lastIssued (n k : Nat) : (s.startCompose n k).comp.lastIssued = s.comp.lastIssued := by
  simp [State.startCompose]

@[simp] theorem State.takeCompose_lastIssued (n : Nat) : (s.takeCompose n).comp.lastIssued = s.comp.lastIssued := by
  unfold State.takeCompose
  dsimp only
  repeat' split
  all_goals simp

end

/-! ### The relation of two states between which the law is kept -/

/-- The law is kept; a counter that can be read could be read before and is not less; the number last issued is not less. -/
structure CounterRises (s t : State) : Prop where
  law : CounterLaw t
  counter : ∀ w, t.nv.store.counter? = some w → ∃ v, s.nv.store.counter? = some v ∧ v ≤ w
  issued : t.comp.lastIssued = s.comp.lastIssued ∨ s.comp.lastIssued < t.comp.lastIssued

theorem CounterRises.refl {s : State} (h : CounterLaw s) : CounterRises s s := ⟨h, fun w hw => ⟨w, hw, le_rfl⟩, .inl rfl⟩

theorem CounterRises.trans {s t u : State} (h : CounterRises s t) (h' : CounterRises t u) : CounterRises s u := by
  refine ⟨h'.law, fun w hw => ?_, ?_⟩
  · obtain ⟨v, hv, hvw⟩ := h'.counter w hw
    obtain ⟨x, hx, hxv⟩ := h.counter v hv
    exact ⟨x, hx, hxv.trans hvw⟩
  · have := h.issued
    have := h'.issued
    omega

/-- The port goes on without a new counter write: the operation in flight or the waiting one stays, moves up or is none that writes the
counter, and the stored counter stays. -/
structure PortQuiet (n n' : Nv) : Prop where
  store : n'.store.counter? = n.store.counter?
  op : n'.op = n.op ∨ n'.op = n.waiting ∨ n'.op.bind NvOp.counterValue? = none
  waiting : n'.waiting = n.waiting ∨ n'.waiting.bind NvOp.counterValue? = none

theorem PortQuiet.refl (n : Nv) : PortQuiet n n := ⟨rfl, .inl rfl, .inl rfl⟩

theorem PortQuiet.rises {s t : State} (hn : PortQuiet s.nv t.nv) (hl : t.comp.lastIssued = s.comp.lastIssued) (h : CounterLaw s) :
    CounterRises s t := by
  obtain ⟨hop, hwait, hissued⟩ := h
  refine ⟨⟨fun v hv => ?_, ?_, fun w hw => ?_⟩, fun w hw => ⟨w, hn.store ▸ hw, le_rfl⟩, .inl hl⟩
  · rw [hn.store]
    rcases hn.op with h | h | h
    · exact hop v (h ▸ hv)
    · rw [h, hwait] at hv; cases hv
    · rw [h] at hv; cases hv
  · exact hn.waiting.elim (fun h => h ▸ hwait) id
  · rw [hl]
    exact hissued w (hn.store ▸ hw)

/-- The operation that starts is none that writes the counter. -/
theorem State.startNv_quiet (s : State) {op : NvOp} (h : op.counterValue? = none) : PortQuiet s.nv (s.startNv op).nv := by
  unfold State.startNv
  split
  · exact ⟨rfl, .inr (.inr h), .inl rfl⟩
  · exact ⟨rfl, .inl rfl, .inr h⟩

theorem State.nextNv_quiet (s : State) {op : NvOp} (h : op.counterValue? = none) : PortQuiet s.nv (s.nextNv op).nv :=
  ⟨rfl, .inr (.inr h), .inl rfl⟩

theorem State.releasePort_quiet (s : State) : PortQuiet s.nv s.releasePort.nv := ⟨rfl, .inr (.inl rfl), .inr rfl⟩

/-! ### The stored counter -/

theorem highWord_ofNat {v : Nat} (hv : v ≤ counterMax) : (highWord (BitVec.ofNat 32 v)).toNat = v / 65536 := by
  unfold counterMax at hv
  simp only [highWord, BitVec.extractLsb'_toNat, BitVec.toNat_ofNat, Nat.shiftRight_eq_div_pow]
  omega

theorem lowWord_ofNat (v : Nat) : (lowWord (BitVec.ofNat 32 v)).toNat = v % 65536 := by
  simp only [lowWord, BitVec.extractLsb'_toNat, BitVec.toNat_ofNat, Nat.shiftRight_zero]
  omega

/-- The counter can be read exactly where both its words can (R176). -/
theorem NvStore.counter?_eq_some {st : NvStore} {w : Nat} :
    st.counter? = some w ↔ ∃ h l, st.counterHigh.value? = some h ∧ st.counterLow.value? = some l ∧ w = 65536 * h.toNat + l.toNat := by
  unfold NvStore.counter?
  constructor
  · intro h
    split at h
    case h_1 a b ha hb => exact ⟨a, b, ha, hb, (Option.some.inj h).symm⟩
    case h_2 => cases h
  · rintro ⟨h, l, hh, hl, rfl⟩
    rw [hh, hl]

theorem NvStore.counter?_le {st : NvStore} {w : Nat} (hw : st.counter? = some w) : w ≤ counterMax := by
  obtain ⟨h, l, -, -, rfl⟩ := NvStore.counter?_eq_some.1 hw
  have := h.isLt
  have := l.isLt
  unfold counterMax
  omega

/-- A word that was given a new one reads as the new one, as before, or not at all (R178). -/
theorem writtenWord_value {old : NvWord} {new x : Word} {c : WordWrite} (h : (writtenWord old new c).value? = some x) :
    c = .done ∧ x = new ∨ c = .kept ∧ old.value? = some x := by
  cases c with
  | done => exact .inl ⟨rfl, (Option.some.inj h).symm⟩
  | kept => exact .inr ⟨rfl, h⟩
  | corrupt => cases h

/-- The low word is written only after the high one (R178). -/
theorem cutInOrder_second {cut : NvCut} (h : (cutInOrder cut).first = .kept) : (cutInOrder cut).second = .kept := by
  unfold cutInOrder at h ⊢
  split at h
  case isTrue hf => rw [hf] at h; cases h
  case isFalse hf => rw [if_neg hf]

/-- What a write of the successor leaves can be read only where the counter could be read before, and is not less (R178). -/
theorem NvStore.writeCounter_rises {st : NvStore} {w : Nat} (hw : st.counter? = some w) (hmax : w + 1 ≤ counterMax)
    (cut : NvCut) (x : Nat) (hx : (st.writeCounter (w + 1) cut).counter? = some x) : w ≤ x := by
  obtain ⟨h, l, hh, hl, rfl⟩ := NvStore.counter?_eq_some.1 hw
  obtain ⟨h', l', hh', hl', rfl⟩ := NvStore.counter?_eq_some.1 hx
  have := h.isLt
  have := l.isLt
  have hhigh := highWord_ofNat hmax
  have hlow := lowWord_ofNat (65536 * h.toNat + l.toNat + 1)
  rcases writtenWord_value hh' with ⟨-, rfl⟩ | ⟨hk, hold⟩ <;> rcases writtenWord_value hl' with ⟨hd, rfl⟩ | ⟨-, hold'⟩
  · omega
  · obtain rfl := Option.some.inj (hl.symm.trans hold')
    omega
  · rw [cutInOrder_second hk] at hd
    cases hd
  · obtain rfl := Option.some.inj (hl.symm.trans hold')
    obtain rfl := Option.some.inj (hh.symm.trans hold)
    omega

/-- A write that completes both words leaves its number (R178). -/
theorem NvStore.writeCounter_complete (st : NvStore) {v : Nat} (hmax : v ≤ counterMax) {cut : NvCut} (hc : cutComplete cut = true) :
    (st.writeCounter v cut).counter? = some v := by
  simp only [cutComplete, Bool.and_eq_true, beq_iff_eq] at hc
  refine NvStore.counter?_eq_some.2 ⟨highWord (BitVec.ofNat 32 v), lowWord (BitVec.ofNat 32 v), ?_, ?_, ?_⟩
  · simp [NvStore.writeCounter, cutInOrder, hc.1, writtenWord, NvWord.value?]
  · simp [NvStore.writeCounter, cutInOrder, hc.1, hc.2, writtenWord, NvWord.value?]
  · rw [highWord_ofNat hmax, lowWord_ofNat]
    omega

/-- What the device makes of the operation in flight leaves no counter that could not be read before, and none that is less (R178). -/
theorem CounterLaw.afterOp {s : State} (h : CounterLaw s) {op : NvOp} (hop : s.nv.op = some op) (cut : NvCut) (x : Nat)
    (hx : (s.nv.store.afterOp op cut).counter? = some x) : ∃ w, s.nv.store.counter? = some w ∧ w ≤ x := by
  have hwrite (v : Nat) (hv : op.counterValue? = some v) (hx : (s.nv.store.writeCounter v cut).counter? = some x) :
      ∃ w, s.nv.store.counter? = some w ∧ w ≤ x := by
    obtain ⟨hmax, w, hw, rfl⟩ := h.1 v (by rw [hop]; exact hv)
    exact ⟨w, hw, NvStore.writeCounter_rises hw hmax cut x hx⟩
  cases op with
  | counterWrite v => exact hwrite v rfl hx
  | brokenCounter v => exact hwrite v rfl hx
  | loadWord k => exact ⟨x, hx, le_rfl⟩
  | counterRead => exact ⟨x, hx, le_rfl⟩
  | calWrite ch z g => exact ⟨x, hx, le_rfl⟩
  | brokenCal ch z g => exact ⟨x, hx, le_rfl⟩

/-- The device has dealt with the operation in flight, and the port is released (R18, R178). -/
theorem CounterLaw.released {s t : State} (h : CounterLaw s) {op : NvOp} (hop : s.nv.op = some op) {cut : NvCut}
    (hstore : t.nv.store.counter? = (s.nv.store.afterOp op cut).counter?) (ht : t.nv.op = s.nv.waiting) (hw : t.nv.waiting = none)
    (hl : t.comp.lastIssued = s.comp.lastIssued) : CounterRises s t := by
  refine ⟨⟨fun v hv => ?_, by rw [hw]; rfl, fun x hx => ?_⟩, fun x hx => h.afterOp hop cut x (hstore ▸ hx), .inl hl⟩
  · rw [ht, h.2.1] at hv
    cases hv
  · obtain ⟨w, hw, hwx⟩ := h.afterOp hop cut x (hstore ▸ hx)
    exact hl ▸ (h.2.2 w hw).trans hwx

end Sys2Proof.Machine

/-! PROOFS. Every act keeps the law of the certificate counter (R178). -/

namespace Sys2Proof.Machine

set_option Elab.async false

variable {s : State}

/-- A state with the same port and the same number last issued. -/
theorem CounterRises.same {t : State} (h : CounterLaw s) (hn : t.nv = s.nv := by simp)
    (hl : t.comp.lastIssued = s.comp.lastIssued := by simp) : CounterRises s t :=
  PortQuiet.rises (hn ▸ .refl _) hl h

/-! ### The power-on load, and a CALIBRATE write -/

theorem State.endLoad_nv (s : State) : s.endLoad.nv = s.releasePort.nv := by simp [State.endLoad, State.releasePort]

theorem State.loadStep_rises (k : Nat) (r : ReadResult) (h : CounterLaw s) : CounterRises s (s.loadStep k r) := by
  refine PortQuiet.rises ?_ (by simp) h
  unfold State.loadStep
  dsimp only
  split
  · have hn : (if k % 2 = 0 then s.loadZeroWord (k / 2) r else s.loadGainWord (k / 2) r).nv = s.nv := by split <;> simp
    exact hn ▸ State.nextNv_quiet _ rfl
  · rw [State.endLoad_nv]
    have hn : (s.loadIdentity r).nv = s.nv := by simp
    exact hn ▸ State.releasePort_quiet _

theorem State.loadExpires_rises (h : CounterLaw s) : CounterRises s s.loadExpires := by
  unfold State.loadExpires
  split
  · exact State.loadStep_rises _ _ h
  · exact .refl h

/-- The end of a CALIBRATE write releases the port. -/
theorem State.calWriteEnds_nv (s : State) (ch : Nat) (success : Bool) : (s.calWriteEnds ch success).nv = s.releasePort.nv := by
  unfold State.calWriteEnds
  dsimp only
  repeat' split
  all_goals simp [State.releasePort]

/-- A CALIBRATE write that the device has dealt with ends. -/
theorem State.calWrite_rises {ch : Nat} {z g : Word} (cut : NvCut) (success : Bool)
    (hop : s.nv.op = some (.calWrite ch z g)) (h : CounterLaw s) :
    CounterRises s ((s.storeWrite (.calWrite ch z g) cut).calWriteEnds ch success) := by
  have hnv := State.calWriteEnds_nv (s.storeWrite (.calWrite ch z g) cut) ch success
  exact h.released hop (by rw [hnv]; rfl) (by rw [hnv]; rfl) (by rw [hnv]; rfl) (by simp)

theorem State.calWriteExpires_rises (cut : NvCut) (h : CounterLaw s) : CounterRises s (s.calWriteExpires cut) := by
  unfold State.calWriteExpires
  split
  case h_1 hop => exact State.calWrite_rises cut false hop h
  case h_2 => exact .refl h

/-- The release of a broken-off write (R18). -/
theorem State.brokenEnds_rises (cut : NvCut) (h : CounterLaw s) : CounterRises s (s.brokenEnds cut) := by
  unfold State.brokenEnds
  split
  case h_1 op hop =>
    split
    · exact h.released (cut := cut) hop rfl rfl rfl rfl
    · exact .refl h
  case h_2 => exact .refl h

/-! ### The counter read -/

/-- A value read is the one stored (R14, R176). -/
theorem counterValue_stored {st : NvStore} {high low : NvReply} {v : Nat}
    (h : counterValue (readResult st.counterHigh high) (readResult st.counterLow low) = some v) : st.counter? = some v := by
  have hword (w : NvWord) (r : NvReply) (x : Word) (hx : (readResult w r).word? = some x) : w.value? = some x := by
    cases w <;> cases r <;> first | exact hx | exact nomatch hx
  unfold counterValue at h
  split at h
  case h_1 a b ha hb =>
    exact NvStore.counter?_eq_some.2 ⟨a, b, hword _ _ _ ha, hword _ _ _ hb, (Option.some.inj h).symm⟩
  case h_2 => cases h

/-- The end of a counter read releases the port, or starts the write of the successor of the value (R176, R178). -/
theorem State.counterReadEnds_rises (c : ComposeOp) (value : Option Nat) (failed : Nat)
    (hv : ∀ v, value = some v → s.nv.store.counter? = some v) (h : CounterLaw s) :
    CounterRises s (s.counterReadEnds c value failed) := by
  unfold State.counterReadEnds
  split
  · exact PortQuiet.rises (by simpa using s.releasePort_quiet) (by simp) h
  split
  · exact PortQuiet.rises (by simpa [State.releasePort] using s.releasePort_quiet) (by simp) h
  case h_2 v =>
    have hstored := hv v rfl
    split
    · exact PortQuiet.rises (by simpa using s.releasePort_quiet) (by simp) h
    case isFalse hmax =>
      have hle := NvStore.counter?_le hstored
      refine ⟨⟨fun x hx => ?_, h.2.1, h.2.2⟩, fun w hw => ⟨w, hw, le_rfl⟩, .inl rfl⟩
      obtain rfl : v + 1 = x := Option.some.inj hx
      exact ⟨by omega, v, hstored, rfl⟩

theorem State.counterReadExpires_rises (h : CounterLaw s) : CounterRises s s.counterReadExpires := by
  unfold State.counterReadExpires
  split
  · exact State.counterReadEnds_rises _ _ _ nofun h
  · exact .refl h

theorem State.counterReadReport_rises (high low : NvReply) (h : CounterLaw s) : CounterRises s (s.counterReadReport high low) := by
  unfold State.counterReadReport
  split
  case h_1 c _ _ =>
    split
    · exact State.counterReadExpires_rises h
    · have hsame : CounterRises s ((s.correctedEntry counterMarker 0 (readResult s.nv.store.counterHigh high)).correctedEntry
          counterMarker 1 (readResult s.nv.store.counterLow low)) := .same h
      refine hsame.trans (State.counterReadEnds_rises c _ _ (fun v hv => ?_) hsame.law)
      simpa using counterValue_stored hv
  case h_2 => exact .refl h

/-! ### The counter write -/

/-- The end of a counter write: a number is issued only when the device has stored it (R178). -/
theorem State.counterWrite_rises {v : Nat} (c : ComposeOp) (cut : NvCut) (success : Bool)
    (hop : s.nv.op = some (.counterWrite v)) (hs : success = true → cutComplete cut = true) (h : CounterLaw s) :
    CounterRises s ((s.storeWrite (.counterWrite v) cut).counterWriteEnds c v success) := by
  have hreleased : CounterRises s (s.storeWrite (.counterWrite v) cut).releasePort := h.released (cut := cut) hop rfl rfl rfl rfl
  unfold State.counterWriteEnds
  dsimp only
  split
  case isFalse => exact hreleased.trans (.same hreleased.law)
  case isTrue hsuccess =>
    obtain ⟨hmax, w, hw, rfl⟩ := h.1 v (by rw [hop]; rfl)
    have hstore : (s.nv.store.writeCounter (w + 1) cut).counter? = some (w + 1) :=
      NvStore.writeCounter_complete _ hmax (hs hsuccess)
    obtain ⟨⟨hlawop, hlawwait, -⟩, hcounter, -⟩ := hreleased
    have hnv : ((s.storeWrite (.counterWrite (w + 1)) cut).releasePort.issueCert c (w + 1)).nv =
        (s.storeWrite (.counterWrite (w + 1)) cut).releasePort.nv := by simp
    have hlast : ((s.storeWrite (.counterWrite (w + 1)) cut).releasePort.issueCert c (w + 1)).comp.lastIssued = w + 1 := by
      simp [State.issueCert]
    refine ⟨⟨hnv ▸ hlawop, hnv ▸ hlawwait, fun x hx => ?_⟩, fun x hx => hcounter x (hnv ▸ hx), .inr ?_⟩
    · rw [hnv] at hx
      rw [hlast]
      exact (Option.some.inj (hstore.symm.trans hx)).le
    · rw [hlast]
      exact Nat.lt_succ_of_le (h.2.2 w hw)

theorem State.counterWriteExpires_rises (cut : NvCut) (h : CounterLaw s) : CounterRises s (s.counterWriteExpires cut) := by
  unfold State.counterWriteExpires
  split
  case h_1 hop _ => exact State.counterWrite_rises _ cut false hop nofun h
  case h_2 => exact .refl h

theorem State.counterWriteReport_rises (cut : NvCut) (answered : Bool) (h : CounterLaw s) :
    CounterRises s (s.counterWriteReport cut answered) := by
  unfold State.counterWriteReport
  split
  case h_1 hop _ =>
    exact State.counterWrite_rises _ cut _ hop (fun hs => by simp only [Bool.and_eq_true] at hs; exact hs.1.2) h
  case h_2 => exact .refl h

/-! ### The takings -/

theorem State.taking_rises {takes : Nat → Bool} {work : State → Nat → State} (hw : ∀ n, CounterRises s (work s n))
    (h : CounterLaw s) : CounterRises s (s.taking takes work) := by
  unfold State.taking
  repeat' split
  · exact hw _
  · exact .same h
  · exact .refl h
  · exact .refl h

theorem onlyOne_rises {k : Kind} {work : State → Nat → State} (n : Nat) (hw : CounterRises s (work s n)) (h : CounterLaw s) :
    CounterRises s (onlyOne k work s n) := by
  unfold onlyOne
  split
  · exact .same h
  · exact hw

/-- An operation that writes no counter starts, or waits. -/
theorem CounterRises.startNv {t : State} (op : NvOp) (hop : op.counterValue? = none) (hn : t.nv = s.nv)
    (hl : t.comp.lastIssued = s.comp.lastIssued) (h : CounterLaw s) : CounterRises s (t.startNv op) :=
  PortQuiet.rises (hn ▸ State.startNv_quiet t hop) (by simpa using hl) h

theorem State.takeCalibrate_rises (n : Nat) (h : CounterLaw s) : CounterRises s (s.takeCalibrate n) := by
  unfold State.takeCalibrate
  dsimp only
  split_ifs
  case neg => exact .startNv _ rfl (by simp) (by simp) h
  all_goals exact .same h

theorem State.startCompose_rises {t : State} (n k : Nat) (hn : t.nv = s.nv) (hl : t.comp.lastIssued = s.comp.lastIssued)
    (h : CounterLaw s) : CounterRises s (t.startCompose n k) :=
  .startNv .counterRead rfl (by simpa using hn) (by simpa using hl) h

theorem State.takeCompose_rises (n : Nat) (h : CounterLaw s) : CounterRises s (s.takeCompose n) := by
  unfold State.takeCompose
  dsimp only
  split_ifs
  case neg =>
    split
    · exact .same h
    · exact State.startCompose_rises _ _ (by simp) (by simp) h
  all_goals exact .same h

/-! ### Every act -/

theorem dueSteps_rises : ∀ e ∈ dueSteps, ∀ s, CounterLaw s → CounterRises s (e.act s) := by
  simp only [dueSteps, List.forall_mem_append, settleSteps, List.forall_mem_map]
  refine ⟨⟨⟨⟨fun i _ s h => (.same h : CounterRises s (s.inputSettles i)), ?_⟩, ?_⟩, ?_⟩, ?_⟩
  · simp only [sampleSteps, List.forall_mem_cons, List.not_mem_nil, false_imp_iff, implies_true, and_true]
    refine ⟨?_, ?_, ?_, ?_, ?_, ?_, ?_, ?_, ?_, ?_, ?_, ?_, ?_, ?_⟩ <;> exact fun s h => .same h
  · simp only [windowSteps, List.forall_mem_cons, List.not_mem_nil, false_imp_iff, implies_true, and_true]
    refine ⟨?_, ?_, ?_, ?_, ?_, ?_, ?_, ?_, ?_, ?_⟩ <;> exact fun s h => .same h
  · simp only [timerSteps, List.forall_mem_cons, List.not_mem_nil, false_imp_iff, implies_true, and_true]
    refine ⟨fun s h => State.loadExpires_rises h, fun s h => State.counterReadExpires_rises h,
      fun s h => State.calWriteExpires_rises _ h, fun s h => State.counterWriteExpires_rises _ h,
      fun s h => State.brokenEnds_rises _ h, ?_, ?_, ?_, ?_, fun s h => ?_, ?_, ?_⟩
    case refine_5 => split <;> exact .same h
    all_goals exact fun s h => .same h
  · simp only [takeSteps, takeStep, List.forall_mem_cons, List.not_mem_nil, false_imp_iff, implies_true, and_true]
    refine ⟨?_, ?_, ?_, ?_, ?_, fun s h => State.taking_rises (fun n => onlyOne_rises n (State.takeCalibrate_rises n h) h) h, ?_, ?_,
      fun s h => State.taking_rises (fun n => onlyOne_rises n (State.takeCompose_rises n h) h) h, ?_⟩
    case refine_5 => exact fun s h => State.taking_rises (fun n => onlyOne_rises n (.same h) h) h
    case refine_6 => exact fun s h => State.taking_rises (fun n => onlyOne_rises n (.same h) h) h
    case refine_7 => exact fun s h => State.taking_rises (fun n => onlyOne_rises n (.same h) h) h
    all_goals exact fun s h => State.taking_rises (fun n => .same h) h

theorem foldl_rises {α : Type} (f : State → α → State) (hf : ∀ s x, CounterLaw s → CounterRises s (f s x)) (l : List α)
    (s : State) (h : CounterLaw s) : CounterRises s (l.foldl f s) := by
  induction l generalizing s with
  | nil => exact .refl h
  | cons x l ih => exact (hf s x h).trans (ih _ (hf s x h).law)

theorem Act.rises {t : State} (ha : Act s t) (h : CounterLaw s) : CounterRises s t := by
  cases ha with
  | idle => exact .refl h
  | due e he _ => exact dueSteps_rises e he s h
  | post mask => exact foldl_rises _ (fun _ _ h => .same h) _ s h
  | abort mask => exact foldl_rises _ (fun _ _ h => .same h) _ s h
  | loadReport reply =>
    unfold State.loadReport
    split
    · exact State.loadStep_rises _ _ h
    · exact .refl h
  | calWriteReport cut answered =>
    unfold State.calWriteReport
    split
    case h_1 hop => exact State.calWrite_rises cut _ hop h
    case h_2 => exact .refl h
  | calWriteLimit cut => exact State.calWriteExpires_rises cut h
  | broken cut => exact State.brokenEnds_rises cut h
  | counterReadReport high low => exact State.counterReadReport_rises high low h
  | counterWriteReport cut answered => exact State.counterWriteReport_rises cut answered h
  | counterWriteLimit cut => exact State.counterWriteExpires_rises cut h
  | printerByte byte =>
    unfold State.printerByte
    repeat' split
    all_goals exact .same h
  | journalMode mode => exact .same h rfl rfl
  | _ => exact .same h

/-- A write that a lane reset breaks off stores its number all the same (R180). -/
theorem NvOp.afterReset_counterValue (op : Option NvOp) :
    (op.bind NvOp.afterReset).bind NvOp.counterValue? = op.bind NvOp.counterValue? := by
  cases op with
  | none => rfl
  | some op => cases op <;> rfl

@[simp] theorem State.resetCerts_lastIssued (s : State) : s.resetCerts.comp.lastIssued = s.comp.lastIssued := by
  unfold State.resetCerts
  split <;> rfl

/-- A reset of the port breaks a write off and lets nothing wait (R18, R180). -/
theorem CounterRises.portReset {t : State} (hnv : t.nv = s.nv.afterReset) (hl : t.comp.lastIssued = s.comp.lastIssued)
    (h : CounterLaw s) : CounterRises s t := by
  obtain ⟨hop, -, hissued⟩ := h
  have hstore : t.nv.store = s.nv.store := by rw [hnv]; rfl
  have hops : t.nv.op.bind NvOp.counterValue? = s.nv.op.bind NvOp.counterValue? := by
    rw [hnv]
    exact NvOp.afterReset_counterValue _
  have hwait : t.nv.waiting = none := by rw [hnv]; rfl
  refine ⟨⟨fun v hv => ?_, by rw [hwait]; rfl, fun w hw => ?_⟩, fun w hw => ⟨w, hstore ▸ hw, le_rfl⟩, .inl hl⟩
  · rw [hstore]
    exact hop v (hops ▸ hv)
  · rw [hstore] at hw
    rw [hl]
    exact hissued w hw

theorem State.laneReset_rises (h : CounterLaw s) : CounterRises s s.laneReset :=
  .portReset (by simp [State.laneReset]) (by simp [State.laneReset]) h

/-- A loss of power leaves no counter that could not be read before, and none that is less (R178). -/
theorem counter_afterPowerLoss (h : CounterLaw s) (cut : NvCut) (w : Nat) (hw : (s.nv.storeAfterPowerLoss cut).counter? = some w) :
    ∃ v, s.nv.store.counter? = some v ∧ v ≤ w := by
  unfold Nv.storeAfterPowerLoss at hw
  split at hw
  case h_1 op hop => exact h.afterOp hop cut w hw
  case h_2 => exact ⟨w, hw, le_rfl⟩

theorem CounterRises.publish {t : State} (h : CounterRises s t) : CounterRises s (publish s t) :=
  h.trans (.same h.law)

/-- Every step but POWER_ON from a state with the law leads to one with a counter that has not fallen. -/
theorem counterRises_actRel : ActRel fun s t => CounterLaw s → CounterRises s t where
  refl _ h := .refl h
  trans h h' hs := (h hs).trans (h' (h hs).law)
  act ha h := (ha.rises h).publish
  reset _ h := (State.laneReset_rises h).publish

/-- Settles O58: every act keeps the law, and so does POWER_ON, which leaves what the device made of the write in flight. -/
theorem certificateNumbersOnlyRise : Obligations.CertificateNumbersOnlyRise := by
  unfold Obligations.CertificateNumbersOnlyRise
  intro s t hs ht
  have hmono {t : State} (hc : ∀ w, t.nv.store.counter? = some w → ∃ v, s.nv.store.counter? = some v ∧ v ≤ w) (v w : Nat)
      (hv : s.nv.store.counter? = some v) (hw : t.nv.store.counter? = some w) : v ≤ w := by
    obtain ⟨x, hx, hxw⟩ := hc w hw
    exact Option.some.inj (hv.symm.trans hx) ▸ hxw
  rcases counterRises_actRel.step ht with rfl | ⟨cut, rest, hq, rfl⟩ | ⟨-, rest, h⟩
  · exact ⟨hs, hmono fun w hw => ⟨w, hw, le_rfl⟩, .inl rfl⟩
  · refine ⟨counterLaw_powered _ _, hmono fun w hw => ?_, .inr (.inr ⟨rfl, cut, rest, hq⟩)⟩
    exact counter_afterPowerLoss hs cut w hw
  · obtain ⟨hlaw, hcounter, hissued⟩ := h hs
    exact ⟨hlaw, hmono hcounter, hissued.imp_right .inl⟩

end Sys2Proof.Machine

/-! PROOFS. The header of lane memory shows the state behind it at every step (R196, R211). -/

namespace Sys2Proof.Machine

set_option Elab.async false

/-! ### Blocks of words -/

theorem Memory.readWords_length (m : Memory) (a n : Nat) : (Memory.readWords m a n).length = n := by
  induction n generalizing a with
  | zero => rfl
  | succ n ih => rw [Memory.readWords, List.length_cons, ih]

theorem Memory.getElem_readWords (m : Memory) (a n k : Nat) (hk : k < (Memory.readWords m a n).length) :
    (Memory.readWords m a n)[k] = Memory.readWord m (a + 2 * k) := by
  induction n generalizing a k with
  | zero => simp [Memory.readWords] at hk
  | succ n ih =>
    cases k with
    | zero => rfl
    | succ k =>
      simp only [Memory.readWords, List.getElem_cons_succ]
      rw [ih, show a + 2 + 2 * k = a + 2 * (k + 1) by omega]

/-- A block of lane memory reads as a list of words exactly where each word does. -/
theorem Memory.readWords_eq_iff {m : Memory} {a n : Nat} {ws : List Word} (hn : ws.length = n) :
    Memory.readWords m a n = ws ↔ ∀ k (hk : k < ws.length), Memory.readWord m (a + 2 * k) = ws[k] := by
  have hlen := Memory.readWords_length m a n
  constructor
  · rintro rfl k hk
    exact (Memory.getElem_readWords _ _ _ _ hk).symm
  · intro h
    refine List.ext_getElem (hlen.trans hn.symm) fun k hk hk' => ?_
    rw [Memory.getElem_readWords, h k hk']

/-! ### What publication needs -/

/-- Lane memory of an act's state, before publication: each word of the header is as in the state before, or shows the new state. -/
structure HeaderShows (σ s : State) : Prop where
  wf : Memory.wf s.mem
  words : ∀ k (hk : k < (headerWords s).length), Memory.readWord s.mem (2 * k) = Memory.readWord σ.mem (2 * k) ∨
    Memory.readWord s.mem (2 * k) = (headerWords s)[k]
  skip : Memory.readWord s.mem 0x0046 = Memory.readWord σ.mem 0x0046 ∨ Memory.readWord s.mem 0x0046 = s.gauge.skipped

theorem headerWords_publish (old new : State) : headerWords (publish old new) = headerWords new := rfl

/-- Publication makes the header show the new state (R196). -/
theorem HeaderShows.publish {σ s : State} (h : HeaderShows σ s) (hσ : HeaderLaw σ) : HeaderLaw (publish σ s) := by
  obtain ⟨-, hwords, hskip⟩ := hσ
  refine ⟨publish_wf _ _ h.wf, ?_, ?_⟩
  · rw [headerWords_publish]
    refine (Memory.readWords_eq_iff (headerWords_length s)).2 fun k hk => ?_
    rw [Nat.zero_add]
    refine publish_headerWord_shown σ s h.wf k (by simpa using hk) ((h.words k hk).imp_left fun he => ?_)
    have hk' : k < (headerWords σ).length := by simpa using hk
    have hw := (Memory.readWords_eq_iff (headerWords_length σ)).1 hwords k hk'
    rw [Nat.zero_add] at hw
    exact he.trans hw
  · rw [publish_skipWord _ _ h.wf, (publish_frame σ s).2.2.2.2.2.2.2.1]
    split
    · rename_i he
      exact h.skip.elim (fun h' => h'.trans (hskip.trans he)) id
    · rfl

/-- Publication leaves the host's words of the header alone (R196). -/
theorem publish_hostWord (old new : State) {a : Nat} (ha : 0x0040 ≤ a) (ha' : a ≤ 0x0045) :
    Memory.readByte (publish old new).mem a = Memory.readByte new.mem a := by
  refine publish_readByte old new a ?_
  rintro (h | h | ⟨k, -, h⟩)
  · unfold headerByte at h; omega
  · unfold tableByte at h; omega
  · unfold certByte certBase at h; omega

/-! ### What the acts do to the header -/

/-- A word whose bytes are kept, with lane time and the sequencer state shown or kept. -/
theorem Recorded.headerShows {σ s : State} (h : Recorded σ s) (hσ : Memory.wf σ.mem) : HeaderShows σ s := by
  have hkeep (a : Nat) (ha : a + 1 < 0x0200) (ht : ¬ timeByte a ∧ ¬ timeByte (a + 1)) (hs : ¬ seqByte a ∧ ¬ seqByte (a + 1)) :
      Memory.readWord s.mem a = Memory.readWord σ.mem a := by
    unfold Memory.readWord
    rw [h.low a (by omega) ht.1 hs.1, h.low (a + 1) ha ht.2 hs.2]
  have hkeepWord (a : Nat) (hb : Memory.readByte s.mem a = Memory.readByte σ.mem a)
      (hb' : Memory.readByte s.mem (a + 1) = Memory.readByte σ.mem (a + 1)) :
      Memory.readWord s.mem a = Memory.readWord σ.mem a := by
    unfold Memory.readWord
    rw [hb, hb']
  refine ⟨h.wf hσ, fun k hk => ?_, .inl (hkeep _ (by omega) (by unfold timeByte; omega) (by unfold seqByte; omega))⟩
  have hk32 : k < 32 := by simpa using hk
  by_cases hseq : k = 1
  · subst hseq
    exact (h.seq hσ).imp (fun hb => hkeepWord 2 (hb 2 (.inl rfl)) (hb 3 (.inr rfl))) id
  by_cases htime : k = 5 ∨ k = 6
  · refine (h.time hσ).imp (fun hb => hkeepWord _ (hb.1 _ (by unfold timeByte; omega)) (hb.1 _ (by unfold timeByte; omega)))
      fun hb => ?_
    have hw := (Memory.readWords_eq_iff (ws := [lowWord s.time, highWord s.time]) rfl).1 hb
    rcases htime with rfl | rfl
    · exact hw 0 (by simp)
    · exact hw 1 (by simp)
  · exact .inl (hkeep _ (by omega) (by unfold timeByte; omega) (by unfold seqByte; omega))

/-- An act that leaves lane memory as it is. -/
theorem HeaderShows.of_mem {σ s : State} (hm : s.mem = σ.mem) (hσ : Memory.wf σ.mem) : HeaderShows σ s :=
  ⟨hm ▸ hσ, fun _ _ => .inl (by rw [hm]), .inl (by rw [hm])⟩

/-- The frame that begins after another has left shows its message in the header (R151). -/
theorem State.frameSent_shows {σ : State} (hσ : Memory.wf σ.mem) : HeaderShows σ σ.frameSent := by
  unfold State.frameSent
  split
  case h_2 => exact .of_mem rfl hσ
  case h_1 f _ =>
    refine ⟨Memory.wf_writeWord _ hσ _ _, fun k hk => ?_, .inl (Memory.readWord_writeWord_ne _ _ _ _ (by omega))⟩
    by_cases hd : k = 3
    · subst hd
      exact .inr (Memory.readWord_writeWord _ hσ _ _)
    · exact .inl (Memory.readWord_writeWord_ne _ _ _ _ (by omega))

theorem BesidesRecord.headerShows {s t : State} (h : BesidesRecord s t) (hs : Memory.wf s.mem) : HeaderShows s t := by
  cases h with
  | frameSent => exact State.frameSent_shows hs
  | journalMode mode => exact .of_mem rfl hs
  | jack value => exact .of_mem (by simp) hs
  | stale => exact .of_mem (by simp) hs

theorem Act.headerShows {s t : State} (ha : Act s t) (hs : Memory.wf s.mem) : HeaderShows s t :=
  ha.recorded.elim (fun h => h.headerShows hs) fun h => h.headerShows hs

/-- No act writes the host's words of the header (R196). -/
theorem Act.hostWord {s t : State} (ha : Act s t) {a : Nat} (hlo : 0x0040 ≤ a) (hhi : a ≤ 0x0045) :
    Memory.readByte t.mem a = Memory.readByte s.mem a := by
  rcases ha.recorded with h | h
  · exact h.low a (by omega) (by unfold timeByte; omega) (by unfold seqByte; omega)
  cases h with
  | journalMode mode => rfl
  | jack value => simp
  | stale => simp
  | frameSent =>
    unfold State.frameSent
    split
    · exact Memory.readByte_writeWord _ _ _ _ (by omega)
    · rfl

/-! ### The lane reset -/

/-- The table and the header written whole. -/
theorem State.rewriteTable_rewriteHeader_mem (u : State) :
    u.rewriteTable.rewriteHeader.mem = Memory.writeWord (Memory.writeWords (Memory.writeWords u.mem 0x0900
      (tableWords u.rewriteTable.rewriteHeader.tab)) 0x0000 (headerWords u.rewriteTable.rewriteHeader)) 0x0046
      u.rewriteTable.rewriteHeader.gauge.skipped := by
  simp only [State.rewriteTable, State.rewriteHeader, State.setMem_mem, State.setMem_tab, State.setMem_gauge, headerWords_setMem]

/-- A lane reset writes the table and the header whole, over what the slots' completions and the composer's record leave (R196, R210). -/
theorem State.laneReset_mem (s : State) :
    s.laneReset.mem = Memory.writeWord (Memory.writeWords
      (Memory.writeWords s.resetSlots.resetCerts.mem 0x0900 (tableWords s.laneReset.tab)) 0x0000 (headerWords s.laneReset)) 0x0046
      s.laneReset.gauge.skipped := by
  obtain ⟨u, hu, hmem⟩ : ∃ u : State, s.laneReset = u.rewriteTable.rewriteHeader ∧ u.mem = s.resetSlots.resetCerts.mem :=
    ⟨_, rfl, by simp⟩
  rw [hu, State.rewriteTable_rewriteHeader_mem, hmem]

theorem State.laneReset_headerShows (s : State) (hs : Memory.wf s.mem) : HeaderShows s s.laneReset := by
  have hcerts : Memory.wf s.resetSlots.resetCerts.mem := (State.resetCerts_rec (State.resetSlots_rec (.refl s))).wf hs
  have htable := Memory.wf_writeWords (tableWords s.laneReset.tab) _ hcerts 0x0900
  have hheader := Memory.wf_writeWords (headerWords s.laneReset) _ htable 0x0000
  refine ⟨?_, fun k hk => .inr ?_, .inr ?_⟩
  · rw [State.laneReset_mem]
    exact Memory.wf_writeWord _ hheader _ _
  · rw [State.laneReset_mem, Memory.readWord_writeWord_ne _ _ _ _ (by rw [headerWords_length] at hk; omega)]
    have h := Memory.readWord_writeWords (headerWords s.laneReset) _ htable 0x0000 k hk
    rwa [Nat.zero_add] at h
  · rw [State.laneReset_mem]
    exact Memory.readWord_writeWord _ hheader _ _

theorem State.laneReset_hostWord (s : State) {a : Nat} (hlo : 0x0040 ≤ a) (hhi : a ≤ 0x0045) :
    Memory.readByte s.laneReset.mem a = Memory.readByte s.mem a := by
  rw [State.laneReset_mem, Memory.readByte_writeWord _ _ _ _ (by omega),
    Memory.readByte_writeWords _ _ _ _ (by rw [headerWords_length]; omega),
    Memory.readByte_writeWords _ _ _ _ (by omega)]
  exact (State.resetCerts_rec (State.resetSlots_rec (.refl s))).low a (by omega) (by unfold timeByte; omega)
    (by unfold seqByte; omega)

/-! ### Every step -/

/-- The header law is kept, and so are the host's words. -/
def HeaderKept (s t : State) : Prop :=
  HeaderLaw s → HeaderLaw t ∧ ∀ a, 0x0040 ≤ a → a ≤ 0x0045 → Memory.readByte t.mem a = Memory.readByte s.mem a

theorem headerKept_actRel : ActRel HeaderKept where
  refl _ h := ⟨h, fun _ _ _ => rfl⟩
  trans h h' hs := ⟨(h' (h hs).1).1, fun a hlo hhi => ((h' (h hs).1).2 a hlo hhi).trans ((h hs).2 a hlo hhi)⟩
  act ha h := ⟨(ha.headerShows h.1).publish h, fun _ hlo hhi => (publish_hostWord _ _ hlo hhi).trans (ha.hostWord hlo hhi)⟩
  reset s h := ⟨(s.laneReset_headerShows h.1).publish h,
    fun _ hlo hhi => (publish_hostWord _ _ hlo hhi).trans (s.laneReset_hostWord hlo hhi)⟩

theorem headerLaw_step {s t : State} (hs : HeaderLaw s) (ht : step s = .next t) :
    HeaderLaw t ∧ ((∀ cut rest, s.pending ≠ .powerOn cut :: rest) →
      ∀ a, 0x0040 ≤ a → a ≤ 0x0045 → Memory.readByte t.mem a = Memory.readByte s.mem a) := by
  rcases headerKept_actRel.step ht with rfl | ⟨cut, rest, hq, rfl⟩ | ⟨-, rest, h⟩
  · exact ⟨hs, fun _ _ _ _ => rfl⟩
  · exact ⟨headerLaw_powered _ _, fun hn => absurd hq (hn cut rest)⟩
  · have hkept := h (hs : HeaderLaw (s.setPending rest))
    exact ⟨hkept.1, fun _ => hkept.2⟩

end Sys2Proof.Machine

/-! PROOFS. The words of an axle record's image (R211): the fields in the first sixteen words, the attempts behind them, and what a
rewriting of some of them leaves. -/

namespace Sys2Proof.Machine

set_option Elab.async false

/-! ### Lists of blocks -/

theorem flatMap_length_le (f : Attempt → List Word) (n : Nat) (hf : ∀ a, (f a).length = n) (l : List Attempt) :
    (l.flatMap f).length = n * l.length := by
  simp [List.length_flatMap, hf, Nat.mul_comm]

/-- A word of the first blocks depends on these alone. -/
theorem getElem?_flatMap_take (l : List Attempt) (m j : Nat) (hj : j < 16 * m) :
    (l.flatMap attemptWords)[j]? = ((l.take m).flatMap attemptWords)[j]? := by
  rcases Nat.lt_or_ge m l.length with hm | hm
  · have hlen : ((l.take m).flatMap attemptWords).length = 16 * m := by
      rw [flatMap_length_le _ 16 attemptWords_length, List.length_take, Nat.min_eq_left hm.le]
    conv_lhs => rw [← List.take_append_drop m l, List.flatMap_append]
    exact List.getElem?_append_left (by omega)
  · rw [List.take_of_length_le hm]

/-! ### The image of a record -/

/-- The fields of an axle record in the first sixteen words of its image (R211). -/
def recordHead (r : AxleRecord) : List Word :=
  [word (codeOfStatus r.status),
    flagWord [r.skip.isSome, r.weightL.isSome, r.weightR.isSome, r.sideSlip.value.isSome, r.parking.isSome],
    word (codeOr codeOfSkip r.skip), signedWord (orZero r.weightL), signedWord (orZero r.weightR),
    signedWord (orZero r.sideSlip.value), plateFlagWord r.sideSlip, word r.violations,
    word r.attempts.length, word r.overflow.toNat] ++ parkingWords r.parking ++ [0]

theorem recordHead_length (r : AxleRecord) : (recordHead r).length = 16 := by
  unfold recordHead
  cases r.parking <;> rfl

/-- A field word of the image. -/
theorem recordWords_head (r : AxleRecord) {j : Nat} (hj : j < 16) : (recordWords r)[j]? = (recordHead r)[j]? := by
  have hlen := recordHead_length r
  change ((recordHead r ++ r.attempts.flatMap attemptWords ++ List.replicate _ 0).take 128)[j]? = _
  rw [List.getElem?_take_of_lt (by omega), List.append_assoc, List.getElem?_append_left (by omega)]

/-- A word of the attempts of the image, zero past the last of them. -/
theorem recordWords_attempts (r : AxleRecord) {j : Nat} (hj : j < 112) :
    (recordWords r)[16 + j]? = some (((r.attempts.flatMap attemptWords)[j]?).getD 0) := by
  have hlen := recordHead_length r
  change ((recordHead r ++ r.attempts.flatMap attemptWords ++ List.replicate
    (128 - (recordHead r ++ r.attempts.flatMap attemptWords).length) 0).take 128)[16 + j]? = _
  rw [List.getElem?_take_of_lt (by omega), List.append_assoc, List.getElem?_append_right (by omega), hlen,
    Nat.add_sub_cancel_left, List.length_append, hlen]
  rcases Nat.lt_or_ge j (r.attempts.flatMap attemptWords).length with h | h
  · rw [List.getElem?_append_left h, List.getElem?_eq_getElem h, Option.getD_some]
  · rw [List.getElem?_append_right h, List.getElem?_eq_none_iff.2 h, Option.getD_none, List.getElem?_replicate, if_pos (by omega)]

/-- Two records whose first attempts are the same show these in the same words. -/
theorem recordWords_attempts_congr {r r' : AxleRecord} (m : Nat) (h : r'.attempts.take m = r.attempts.take m) {j : Nat}
    (hj : 16 ≤ j) (hj' : j < 128) (hm : j < 16 + 16 * m) : (recordWords r')[j]? = (recordWords r)[j]? := by
  obtain ⟨i, rfl⟩ : ∃ i, j = 16 + i := ⟨j - 16, by omega⟩
  rw [recordWords_attempts _ (by omega), recordWords_attempts _ (by omega), getElem?_flatMap_take _ m i (by omega),
    getElem?_flatMap_take r.attempts m i (by omega), h]

/-- Past its last attempt the image of a record is zero. -/
theorem recordWords_beyond (r : AxleRecord) {j : Nat} (hj : 16 + 16 * r.attempts.length ≤ j) (hj' : j < 128) :
    (recordWords r)[j]? = some 0 := by
  obtain ⟨i, rfl⟩ : ∃ i, j = 16 + i := ⟨j - 16, by omega⟩
  rw [recordWords_attempts _ (by omega), List.getElem?_eq_none_iff.2, Option.getD_none]
  rw [flatMap_length_le _ 16 attemptWords_length]
  omega

/-- With the same attempts the words of the attempts are the same. -/
theorem recordWords_same_attempts {r r' : AxleRecord} (h : r'.attempts = r.attempts) {j : Nat} (hj : 16 ≤ j) (hj' : j < 128) :
    (recordWords r')[j]? = (recordWords r)[j]? :=
  recordWords_attempts_congr 7 (by rw [h]) hj hj' (by omega)

/-! ### Rewriting words of a record's image -/

/-- The address of word j of the image of axle record k (R211). -/
def recordAddr (k j : Nat) : Nat := 0x0A00 + 256 * k + 2 * j

theorem recordAddr_eq (k j : Nat) : recordAddr k j = 0x0900 + 2 * (128 + 128 * k + j) := by
  unfold recordAddr
  omega

/-- From a state to the next the words W of the image of axle record k have been rewritten, and no other word of the table area. -/
structure Rewrites (s t : State) (k : Nat) (W : Nat → Prop) : Prop where
  wf : Memory.wf s.mem → Memory.wf t.mem
  tab : t.tab = s.tab
  header : ∀ i, i < 128 → Memory.readWord t.mem (0x0900 + 2 * i) = Memory.readWord s.mem (0x0900 + 2 * i)
  keep : ∀ k' j, k' < 8 → j < 128 → ¬ (k' = k ∧ W j) →
    Memory.readWord t.mem (recordAddr k' j) = Memory.readWord s.mem (recordAddr k' j)
  write : Memory.wf s.mem → k < 8 → ∀ j, j < 128 → W j →
    (recordWords (s.record k))[j]? = some (Memory.readWord t.mem (recordAddr k j))

theorem Rewrites.refl (s : State) (k : Nat) : Rewrites s s k fun _ => False :=
  ⟨id, rfl, fun _ _ => rfl, fun _ _ _ _ _ => rfl, fun _ _ _ _ h => h.elim⟩

theorem Rewrites.record {s t : State} {k : Nat} {W : Nat → Prop} (h : Rewrites s t k W) (k' : Nat) : t.record k' = s.record k' := by
  unfold State.record
  rw [h.tab]

/-- Rewriting n words from word i on. -/
theorem Rewrites.fields {s t : State} {k : Nat} {W : Nat → Prop} (h : Rewrites s t k W) (i n : Nat) :
    Rewrites s (t.rewriteFields k i n) k fun j => W j ∨ i ≤ j ∧ j < i + n := by
  have hlen : (((recordWords (t.record k)).drop i).take n).length = min n (128 - i) := by simp
  have hword {k' j : Nat} (hk' : k' < 8) (hj : j < 128) (hout : ¬ (k' = k ∧ i ≤ j ∧ j < i + n)) :
      Memory.readWord (t.rewriteFields k i n).mem (recordAddr k' j) = Memory.readWord t.mem (recordAddr k' j) := by
    unfold State.rewriteFields
    split
    · refine Memory.readWord_writeWords_ne _ _ _ _ ?_
      rw [hlen]
      unfold recordAddr
      omega
    · rfl
  refine ⟨fun hw => State.rewriteFields_wf _ _ _ _ (h.wf hw), (State.rewriteFields_tab t k i n).trans h.tab, fun a ha => ?_,
    fun k' j hk' hj hout => ?_, fun hw hk j hj hW => ?_⟩
  · rw [← h.header a ha]
    unfold State.rewriteFields
    split
    · exact Memory.readWord_writeWords_ne _ _ _ _ (by omega)
    · rfl
  · rw [hword hk' hj (fun hc => hout ⟨hc.1, .inr hc.2⟩), h.keep k' j hk' hj fun hc => hout ⟨hc.1, .inl hc.2⟩]
  · by_cases hin : i ≤ j ∧ j < i + n
    · have hwrite := Memory.readWord_writeWords _ t.mem (h.wf hw) (0x0A00 + 256 * k + 2 * i) (j - i)
        (by rw [hlen]; omega : j - i < (((recordWords (t.record k)).drop i).take n).length)
      rw [show 0x0A00 + 256 * k + 2 * i + 2 * (j - i) = recordAddr k j by unfold recordAddr; omega] at hwrite
      have hmem : (t.rewriteFields k i n).mem =
          Memory.writeWords t.mem (0x0A00 + 256 * k + 2 * i) (((recordWords (t.record k)).drop i).take n) := by
        unfold State.rewriteFields
        rw [if_pos hk]
        rfl
      rw [hmem, hwrite, ← h.record k, List.getElem_take, List.getElem_drop]
      simp only [Nat.add_sub_cancel' hin.1]
      exact List.getElem?_eq_getElem _
    · rw [hword hk hj fun hc => hin hc.2]
      exact h.write hw hk j hj (hW.resolve_right hin)

theorem State.rewriteFields_rewrites (s : State) (k i n : Nat) :
    Rewrites s (s.rewriteFields k i n) k fun j => i ≤ j ∧ j < i + n := by
  have h := (Rewrites.refl s k).fields i n
  simpa only [false_or] using h

end Sys2Proof.Machine

/-! PROOFS. The axle table area of lane memory shows the axle table at every step (R47, R211). -/

namespace Sys2Proof.Machine

set_option Elab.async false

/-! ### What publication needs -/

/-- Lane memory of an act's state, before publication: each word of the table area is as in the state before, or shows the new table. -/
structure TableShows (σ s : State) : Prop where
  wf : Memory.wf s.mem
  words : ∀ i, i < 1152 → Memory.readWord s.mem (0x0900 + 2 * i) = Memory.readWord σ.mem (0x0900 + 2 * i) ∨
    (tableWords s.tab)[i]? = some (Memory.readWord s.mem (0x0900 + 2 * i))

/-- Publication makes the table area show the table (R47). -/
theorem TableShows.publish {σ s : State} (h : TableShows σ s) (hσ : TableLaw σ) : TableLaw (publish σ s) := by
  refine ⟨publish_wf _ _ h.wf, ?_⟩
  rw [publish_tab]
  refine (Memory.readWords_eq_iff (tableWords_length s.tab)).2 fun i hi => ?_
  have hi' : i < 1152 := by simpa using hi
  rw [publish_tableWord _ _ h.wf i hi']
  split
  · rename_i he
    rcases h.words i hi' with hw | hw
    · rw [hw, ← he]
      exact (Memory.readWords_eq_iff (tableWords_length σ.tab)).1 hσ.2 i (by simpa using hi)
    · rw [List.getElem?_eq_getElem hi] at hw
      exact (Option.some.inj hw).symm
  · rfl

/-! ### The invariant of an act's operations -/

/-- The words of a record's image that nothing but publication writes: the violation count, and the attempts of a record that holds more
than three, which no record does after a step. -/
def pastThree (r : AxleRecord) (j : Nat) : Prop := j = 7 ∨ 3 < r.attempts.length ∧ (j = 8 ∨ 16 ≤ j)

/-- No word is left to publication. -/
def noWord (_ : AxleRecord) (_ : Nat) : Prop := False

/-- Each word of the header is as in the state before; each word of a record's image is so too, or it shows the record and is none of those
left to publication. -/
structure TableKept (left : AxleRecord → Nat → Prop) (σ s : State) : Prop where
  wf : Memory.wf s.mem
  header : ∀ i, i < 128 → Memory.readWord s.mem (0x0900 + 2 * i) = Memory.readWord σ.mem (0x0900 + 2 * i)
  words : ∀ k j, k < 8 → j < 128 → Memory.readWord s.mem (recordAddr k j) = Memory.readWord σ.mem (recordAddr k j) ∨
    ¬ left (s.record k) j ∧ (recordWords (s.record k))[j]? = some (Memory.readWord s.mem (recordAddr k j))

theorem TableKept.shows {left : AxleRecord → Nat → Prop} {σ s : State} (h : TableKept left σ s) : TableShows σ s := by
  refine ⟨h.wf, fun i hi => ?_⟩
  by_cases hh : i < 128
  · exact .inl (h.header i hh)
  · obtain ⟨k, j, hj, rfl⟩ : ∃ k j, j < 128 ∧ i = 128 + 128 * k + j :=
      ⟨(i - 128) / 128, (i - 128) % 128, Nat.mod_lt _ (by decide), by omega⟩
    have hk : k < 8 := by omega
    have hw := h.words k j hk hj
    rw [recordAddr_eq] at hw
    refine hw.imp_right fun h' => ?_
    rw [tableWords_record _ _ _ hk hj]
    exact h'.2

theorem tableKept_refl (left : AxleRecord → Nat → Prop) {σ : State} (h : Memory.wf σ.mem) : TableKept left σ σ :=
  ⟨h, fun _ _ => rfl, fun _ _ _ _ => .inl rfl⟩

/-- A record after a change of record k. -/
theorem State.record_setRecord (s : State) (k k' : Nat) (r : AxleRecord) :
    (s.setRecord k r).record k' = s.record k' ∧ (k' = k → s.record k' = AxleRecord.cleared .empty) ∨
      k' = k ∧ (s.setRecord k r).record k' = r := by
  by_cases hk : k' = k
  · subst hk
    by_cases hl : k' < s.tab.records.length
    · exact .inr ⟨rfl, by simp [State.record, State.setRecord, hl]⟩
    · exact .inl ⟨by simp [State.record, State.setRecord, hl], fun _ => by simp [State.record, hl]⟩
  · exact .inl ⟨by simp [State.record, State.setRecord, List.getElem?_set_ne (Ne.symm hk)], fun h => absurd h hk⟩

/-- A record changes and the words W of its image are rewritten, the others that may show it staying as they are. -/
theorem TableKept.edit {left left' : AxleRecord → Nat → Prop} {σ s t : State} {k : Nat} {r : AxleRecord} {W : Nat → Prop}
    (h : TableKept left σ s) (ht : Rewrites (s.setRecord k r) t k W) (hleft : ∀ r j, left' r j → left r j)
    (hW : ∀ j, W j → ¬ left' r j ∧ ¬ left' (AxleRecord.cleared .empty) j)
    (hsame : ∀ j, j < 128 → ¬ W j → ¬ left (s.record k) j →
      ¬ left' r j ∧ (recordWords r)[j]? = (recordWords (s.record k))[j]?) :
    TableKept left' σ t := by
  refine ⟨ht.wf h.wf, fun i hi => (ht.header i hi).trans (h.header i hi), fun k' j hk' hj => ?_⟩
  rw [ht.record k']
  by_cases hw : k' = k ∧ W j
  · obtain ⟨rfl, hWj⟩ := hw
    refine .inr ⟨?_, ht.write h.wf hk' j hj hWj⟩
    rcases s.record_setRecord k' k' r with ⟨hr, hempty⟩ | ⟨-, hr⟩
    · rw [hr, hempty rfl]; exact (hW j hWj).2
    · rw [hr]; exact (hW j hWj).1
  · rw [ht.keep k' j hk' hj hw]
    refine (h.words k' j hk' hj).imp_right fun ⟨hl, hshown⟩ => ?_
    rcases s.record_setRecord k k' r with ⟨hr, -⟩ | ⟨rfl, hr⟩
    · rw [hr]
      exact ⟨fun h' => hl (hleft _ _ h'), hshown⟩
    · rw [hr]
      obtain ⟨hl', he⟩ := hsame j hj (fun hWj => hw ⟨rfl, hWj⟩) hl
      exact ⟨hl', he.trans hshown⟩

/-- A record changes in fields whose words are rewritten, its attempts staying as they are. -/
theorem TableKept.editFields {σ s t : State} {k : Nat} {r : AxleRecord} {W : Nat → Prop} (h : TableKept pastThree σ s)
    (ht : Rewrites (s.setRecord k r) t k W) (hr : r.attempts = (s.record k).attempts)
    (hW : ∀ j, W j → j ≠ 7 ∧ j ≠ 8 ∧ j < 16)
    (hsame : ∀ j, j < 16 → ¬ W j → j ≠ 7 → (recordHead r)[j]? = (recordHead (s.record k))[j]?) : TableKept pastThree σ t := by
  refine h.edit ht (fun _ _ => id) (fun j hj => ?_) fun j hj hWj hl => ?_
  · obtain ⟨h7, h8, h16⟩ := hW j hj
    have hno (r : AxleRecord) : ¬ pastThree r j := by unfold pastThree; omega
    exact ⟨hno _, hno _⟩
  · unfold pastThree at hl ⊢
    rw [hr]
    refine ⟨hl, ?_⟩
    rcases Nat.lt_or_ge j 16 with hlt | hge
    · rw [recordWords_head _ hlt, recordWords_head _ hlt]
      exact hsame j hlt hWj fun h7 => hl (.inl h7)
    · exact recordWords_same_attempts hr hge hj

/-- The first ten words of a record's image (R211). -/
def fieldWords (r : AxleRecord) : List Word :=
  [word (codeOfStatus r.status),
    flagWord [r.skip.isSome, r.weightL.isSome, r.weightR.isSome, r.sideSlip.value.isSome, r.parking.isSome],
    word (codeOr codeOfSkip r.skip), signedWord (orZero r.weightL), signedWord (orZero r.weightR),
    signedWord (orZero r.sideSlip.value), plateFlagWord r.sideSlip, word r.violations,
    word r.attempts.length, word r.overflow.toNat]

theorem recordHead_eq (r : AxleRecord) : recordHead r = fieldWords r ++ (parkingWords r.parking ++ [0]) := rfl

theorem recordHead_fields (r : AxleRecord) {j : Nat} (hj : j < 10) : (recordHead r)[j]? = (fieldWords r)[j]? := by
  rw [recordHead_eq]
  exact List.getElem?_append_left hj

theorem parkingWords_length (p : Option Parking) : (parkingWords p).length = 5 := by cases p <;> rfl

theorem recordHead_parking (r : AxleRecord) {j : Nat} (hj : 10 ≤ j) (hj' : j < 15) :
    (recordHead r)[j]? = (parkingWords r.parking)[j - 10]? := by
  rw [recordHead_eq, List.getElem?_append_right hj]
  exact List.getElem?_append_left (by rw [parkingWords_length]; simp [fieldWords]; omega)

theorem recordHead_last (r : AxleRecord) : (recordHead r)[15]? = some 0 := by
  rw [recordHead_eq, List.getElem?_append_right (by simp [fieldWords]),
    List.getElem?_append_right (by rw [parkingWords_length]; simp [fieldWords])]
  simp [fieldWords, parkingWords_length]

/-- The words of the fields but for those that a change of some of them shows. -/
theorem recordHead_congr {r r' : AxleRecord} {j : Nat} (hj : j < 16)
    (hstatus : j = 0 → r'.status = r.status)
    (hpresence : j = 1 → flagWord [r'.skip.isSome, r'.weightL.isSome, r'.weightR.isSome, r'.sideSlip.value.isSome, r'.parking.isSome] =
      flagWord [r.skip.isSome, r.weightL.isSome, r.weightR.isSome, r.sideSlip.value.isSome, r.parking.isSome])
    (hskip : j = 2 → r'.skip = r.skip) (hl : j = 3 → r'.weightL = r.weightL) (hr : j = 4 → r'.weightR = r.weightR)
    (hslip : j = 5 ∨ j = 6 → r'.sideSlip = r.sideSlip) (hviolations : j = 7 → r'.violations = r.violations)
    (hcount : j = 8 → r'.attempts.length = r.attempts.length) (hoverflow : j = 9 → r'.overflow = r.overflow)
    (hparking : 10 ≤ j → j < 15 → r'.parking = r.parking) : (recordHead r')[j]? = (recordHead r)[j]? := by
  by_cases h10 : j < 10
  · rw [recordHead_fields _ h10, recordHead_fields _ h10]
    unfold fieldWords
    interval_cases j <;> simp_all
  · by_cases h15 : j < 15
    · rw [recordHead_parking _ (by omega) h15, recordHead_parking _ (by omega) h15, hparking (by omega) h15]
    · obtain rfl : j = 15 := by omega
      rw [recordHead_last, recordHead_last]

/-- The number of attempts after a push (R55). -/
theorem pushOnto_length (l : List Attempt) (a : Attempt) : (pushOnto l a).length = if l.length < 3 then l.length + 1 else 3 := by
  unfold pushOnto
  split
  · simp
  · simp; omega

/-- The first attempts stay at a push: all, or the first two of a full list (R55). -/
theorem pushOnto_take (l : List Attempt) (a : Attempt) (m : Nat) (hm : m ≤ l.length) (hm2 : ¬ l.length < 3 → m ≤ 2) :
    (pushOnto l a).take m = l.take m := by
  unfold pushOnto
  split
  · rw [List.take_append_of_le_length hm]
  · rename_i h
    have := hm2 h
    rw [List.take_append_of_le_length (by rw [List.length_take]; omega), List.take_take, Nat.min_eq_left this]

/-- The push of an attempt rewrites the attempt, and the count or the overflow flag with it (R55). -/
theorem tableKept_push {σ s : State} (k : Nat) (a : Attempt) (h : TableKept pastThree σ s) :
    TableKept pastThree σ ((s.setRecord k { s.record k with
        attempts := pushOnto (s.record k).attempts a
        overflow := (s.record k).overflow || decide (3 ≤ (s.record k).attempts.length) }).rewriteAttempt k
          ((pushOnto (s.record k).attempts a).length - 1) (if (s.record k).attempts.length < 3 then 8 else 9)) := by
  have hrw := ((s.setRecord k { s.record k with
        attempts := pushOnto (s.record k).attempts a
        overflow := (s.record k).overflow || decide (3 ≤ (s.record k).attempts.length) }).rewriteFields_rewrites k
          (if (s.record k).attempts.length < 3 then 8 else 9) 1).fields (16 + 16 * ((pushOnto (s.record k).attempts a).length - 1)) 16
  have hlen := pushOnto_length (s.record k).attempts a
  rcases Nat.lt_or_ge (s.record k).attempts.length 3 with hc | hc
  · rw [if_pos hc] at hlen hrw ⊢
    refine h.edit hrw (fun _ _ => id) (fun j hj => ?_) fun j hj hWj hl => ?_
    · rw [hlen] at hj
      unfold pastThree
      dsimp only [AxleRecord.cleared, List.length_nil]
      omega
    · rw [hlen] at hWj
      unfold pastThree at hl ⊢
      refine ⟨by dsimp only; omega, ?_⟩
      rcases Nat.lt_or_ge j 16 with hlt | hge
      · rw [recordWords_head _ hlt, recordWords_head _ hlt]
        exact recordHead_congr hlt (fun _ => rfl) (fun _ => rfl) (fun _ => rfl) (fun _ => rfl) (fun _ => rfl) (fun _ => rfl)
          (fun _ => rfl) (fun h8 => by omega) (fun _ => by simp; omega) (fun _ _ => rfl)
      · rcases Nat.lt_or_ge j (16 + 16 * (s.record k).attempts.length) with hb | hb
        · exact recordWords_attempts_congr _ (pushOnto_take _ _ _ le_rfl (by omega)) hge hj hb
        · rw [recordWords_beyond _ (by dsimp only; omega) hj, recordWords_beyond _ hb hj]
  · rw [if_neg (by omega)] at hlen hrw ⊢
    refine h.edit hrw (fun _ _ => id) (fun j hj => ?_) fun j hj hWj hl => ?_
    · rw [hlen] at hj
      unfold pastThree
      dsimp only [AxleRecord.cleared, List.length_nil]
      omega
    · rw [hlen] at hWj
      unfold pastThree at hl ⊢
      refine ⟨by dsimp only; omega, ?_⟩
      rcases Nat.lt_or_ge j 16 with hlt | hge
      · rw [recordWords_head _ hlt, recordWords_head _ hlt]
        exact recordHead_congr hlt (fun _ => rfl) (fun _ => rfl) (fun _ => rfl) (fun _ => rfl) (fun _ => rfl) (fun _ => rfl)
          (fun _ => rfl) (fun h8 => by dsimp only; omega) (fun _ => by omega) (fun _ _ => rfl)
      · rcases Nat.lt_or_ge j 48 with hb | hb
        · exact recordWords_attempts_congr 2 (pushOnto_take _ _ _ (by omega) fun _ => le_rfl) hge hj hb
        · rw [recordWords_beyond _ (by dsimp only; omega) hj, recordWords_beyond _ (by omega) hj]

/-- The word at an address of the table area, in a state with the same table and the same bytes there. -/
theorem SameTable.word {s t : State} (h : SameTable s t) {a : Nat} (hlo : 0x0900 ≤ a) (hhi : a + 1 < 0x1200) :
    Memory.readWord t.mem a = Memory.readWord s.mem a := by
  unfold Memory.readWord
  rw [h.bytes a (by unfold tableByte; omega), h.bytes (a + 1) (by unfold tableByte; omega)]

theorem TableKept.sameTable {left : AxleRecord → Nat → Prop} {σ s t : State} (h : TableKept left σ s) (ht : SameTable s t) :
    TableKept left σ t := by
  refine ⟨ht.wf h.wf, fun i hi => (ht.word (by omega) (by omega)).trans (h.header i hi), fun k j hk hj => ?_⟩
  have hrec : t.record k = s.record k := by unfold State.record; rw [ht.tab]
  rw [hrec, ht.word (by unfold recordAddr; omega) (by unfold recordAddr; omega)]
  exact h.words k j hk hj

theorem TableShows.sameTable {σ s t : State} (h : TableShows σ s) (ht : SameTable s t) : TableShows σ t := by
  refine ⟨ht.wf h.wf, fun i hi => ?_⟩
  rw [ht.tab, ht.word (by omega) (by omega)]
  exact h.words i hi

/-- A predicate over the table's image: closed under every operation (R47). -/
theorem tableKept_edit (σ : State) : EditClosed (TableKept pastThree σ) where
  free := ⟨fun ht _ _ h => h.sameTable ht⟩
  header t ht h := by
    have hrec (k : Nat) : ∀ s : State, t.records = s.tab.records → (s.setTab t).record k = s.record k := fun s ht => by
      simp [State.record, ht]
    exact ⟨h.wf, h.header, fun k j hk hj => by rw [hrec k _ ht]; exact h.words k j hk hj⟩
  violations k v h := by
    refine h.editFields (Rewrites.refl _ k) rfl (fun _ => False.elim) fun j hj _ h7 => ?_
    exact recordHead_congr hj (fun _ => rfl) (fun _ => rfl) (fun _ => rfl) (fun _ => rfl) (fun _ => rfl) (fun _ => rfl)
      (fun h => absurd h h7) (fun _ => rfl) (fun _ => rfl) (fun _ _ => rfl)
  status k st skip h := by
    refine h.editFields (State.rewriteFields_rewrites _ k 0 3) rfl (fun j hj => by omega) fun j hj hW h7 => ?_
    exact recordHead_congr hj (by omega) (by omega) (by omega) (fun _ => rfl) (fun _ => rfl) (fun _ => rfl)
      (fun _ => rfl) (fun _ => rfl) (fun _ => rfl) (fun _ _ => rfl)
  sideSlip k x h := by
    refine h.editFields ((State.rewriteFields_rewrites _ k 1 1).fields 5 2) rfl (fun j hj => by omega) fun j hj hW h7 => ?_
    exact recordHead_congr hj (fun _ => rfl) (by omega) (fun _ => rfl) (fun _ => rfl) (fun _ => rfl) (by omega)
      (fun _ => rfl) (fun _ => rfl) (fun _ => rfl) (fun _ _ => rfl)
  weights k l r h := by
    refine h.editFields ((State.rewriteFields_rewrites _ k 1 1).fields 3 2) rfl (fun j hj => by omega) fun j hj hW h7 => ?_
    exact recordHead_congr hj (fun _ => rfl) (by omega) (fun _ => rfl) (by omega) (by omega) (fun _ => rfl)
      (fun _ => rfl) (fun _ => rfl) (fun _ => rfl) (fun _ _ => rfl)
  parking k p h := by
    refine h.editFields ((State.rewriteFields_rewrites _ k 1 1).fields 10 5) rfl (fun j hj => by omega) fun j hj hW h7 => ?_
    exact recordHead_congr hj (fun _ => rfl) (by omega) (fun _ => rfl) (fun _ => rfl) (fun _ => rfl) (fun _ => rfl)
      (fun _ => rfl) (fun _ => rfl) (fun _ => rfl) (by omega)
  push k a h := tableKept_push k a h
  start _ _ _ _ h := ⟨h.wf, h.header, h.words⟩
  run _ _ _ _ h := ⟨h.wf, h.header, h.words⟩
  stop _ _ _ h := ⟨h.wf, h.header, h.words⟩
  rest _ _ _ _ h := ⟨h.wf, h.header, h.words⟩

theorem tableKept_loose (σ : State) : LooseClosed (TableKept pastThree σ) := ⟨tableKept_edit σ, fun ht _ h => h.sameTable ht⟩

theorem tableKept_cert (σ : State) : CertClosed (TableKept pastThree σ) := ⟨fun ht _ h => h.sameTable ht⟩

theorem tableShows_free (σ : State) : FreeClosed (TableShows σ) := ⟨fun ht _ _ h => h.sameTable ht⟩

/-- The removal of an attempt rewrites the count and the words of the attempt (R58). -/
theorem tableShows_pop {σ s : State} (k : Nat) (h : TableKept pastThree σ s) : TableShows σ (s.popAttempt k) := by
  have hoffer (t : State) (h : TableShows σ t) : TableShows σ (t.offerAgain k) :=
    State.offerAgain_holds k (tableShows_free σ) h
  refine hoffer _ (TableKept.shows (left := noWord) ?_)
  refine h.edit (((s.setRecord k _).rewriteFields_rewrites k 8 1).fields (16 + 16 * (s.record k).attempts.dropLast.length) 16)
    (fun _ _ => False.elim) (fun _ _ => ⟨id, id⟩) fun j hj hWj hl => ⟨id, ?_⟩
  rw [List.length_dropLast] at hWj
  rcases Nat.lt_or_ge j 16 with hlt | hge
  · rw [recordWords_head _ hlt, recordWords_head _ hlt]
    exact recordHead_congr hlt (fun _ => rfl) (fun _ => rfl) (fun _ => rfl) (fun _ => rfl) (fun _ => rfl) (fun _ => rfl)
      (fun _ => rfl) (fun h8 => by omega) (fun _ => rfl) (fun _ _ => rfl)
  · rcases Nat.lt_or_ge j (16 + 16 * ((s.record k).attempts.length - 1)) with hb | hb
    · refine recordWords_attempts_congr ((s.record k).attempts.length - 1) ?_ hge hj hb
      simp [List.dropLast_eq_take]
    · rw [recordWords_beyond _ (by simp only [List.length_dropLast]; omega) hj, recordWords_beyond _ (by omega) hj]

/-- A table written whole shows the table. -/
theorem TableShows.written {σ s : State} {m : Memory} (hm : Memory.wf m) (hs : Memory.wf s.mem)
    (hw : ∀ i, i < 1152 → Memory.readWord s.mem (0x0900 + 2 * i) =
      Memory.readWord (Memory.writeWords m 0x0900 (tableWords s.tab)) (0x0900 + 2 * i)) : TableShows σ s := by
  refine ⟨hs, fun i hi => .inr ?_⟩
  have hi' : i < (tableWords s.tab).length := by simpa using hi
  rw [hw i hi, Memory.readWord_writeWords _ m hm 0x0900 i hi', List.getElem?_eq_getElem hi']

theorem State.rewriteTable_shows {σ u : State} (h : Memory.wf u.mem) : TableShows σ u.rewriteTable :=
  have hm : u.rewriteTable.mem = Memory.writeWords u.mem 0x0900 (tableWords u.rewriteTable.tab) := by
    simp only [State.rewriteTable, State.setMem_mem, State.setMem_tab]
  have hwf : Memory.wf u.rewriteTable.mem := by
    rw [hm]
    exact Memory.wf_writeWords _ _ h _
  .written h hwf fun i _ => congrArg (Memory.readWord · (0x0900 + 2 * i)) hm

/-- A new table is written whole (R64). -/
theorem tableShows_open {σ s : State} (p : Plan) (h : Memory.wf s.mem) : TableShows σ (s.openTable p) :=
  State.rewriteTable_shows (u := s.setTab (openedTable p (readLimits s.mem p.limitsRow.toNat) s.tab.runId)) h

theorem Act.tableShows {s t : State} (ha : Act s t) (h : Memory.wf s.mem) : TableShows s t := by
  have hs := tableKept_refl pastThree h
  rcases ha.holds_or_special (tableKept_edit s) hs with h' | ha | ha | ha
  · exact h'.shows
  · exact (ha.holds (tableKept_loose s).sensorClosed hs).shows
  · exact (ha.holds (tableKept_edit s) (tableKept_cert s) hs).shows
  · exact ha.holds (tableShows_free s) (fun _ h => h.shows) (fun _ k h => tableShows_pop k h) (fun _ p h => tableShows_open p h.wf) hs

/-- A lane reset writes the table whole (R67). -/
theorem State.laneReset_tableShows (s : State) (hs : Memory.wf s.mem) : TableShows s s.laneReset := by
  have hcerts : Memory.wf s.resetSlots.resetCerts.mem := (State.resetCerts_rec (State.resetSlots_rec (.refl s))).wf hs
  refine .written hcerts (s.laneReset_headerShows hs).wf fun i hi => ?_
  rw [State.laneReset_mem, Memory.readWord_writeWord_ne _ _ _ _ (by omega),
    Memory.readWord_writeWords_ne _ _ _ _ (by rw [headerWords_length]; omega)]

theorem tableLaw_step {s t : State} (hs : TableLaw s) (ht : step s = .next t) : TableLaw t :=
  invariant_step (P := TableLaw) (fun ha h => (ha.tableShows h.1).publish h) (fun s h => (s.laneReset_tableShows h.1).publish h)
    (fun _ _ h => h) (fun _ _ _ _ => tableLaw_powered _ _) hs ht

end Sys2Proof.Machine

/-! PROOFS. The certificate records of lane memory show the composer's records at every step (R170, R171). -/

namespace Sys2Proof.Machine

set_option Elab.async false

/-! ### Predicates of the certificate records -/

/-- A predicate of the certificate records, their bytes and the canonical form of lane memory. -/
structure CertBased (R : State → Prop) : Prop where
  keeps : ∀ {s t}, (Memory.wf s.mem → Memory.wf t.mem) → SameCerts s t → R s → R t

theorem State.rewriteFields_above (s : State) (k i n : Nat) {a : Nat} (ha : 0x1200 ≤ a) :
    Memory.readByte (s.rewriteFields k i n).mem a = Memory.readByte s.mem a := by
  unfold State.rewriteFields
  split
  · exact Memory.readByte_writeWords _ _ _ _ (by simp [recordWords]; omega)
  · rfl

theorem certByte_above {k a : Nat} (h : certByte k a) : 0x1200 ≤ a := by
  unfold certByte certBase at h
  omega

/-- Fields of an axle record rewritten. -/
theorem CertBased.fields {R : State → Prop} {s : State} (hR : CertBased R) (k i n : Nat) (h : R s) :
    R (s.rewriteFields k i n) :=
  hR.keeps (State.rewriteFields_wf s k i n) ⟨by simp, fun _ _ _ ha => s.rewriteFields_above k i n (certByte_above ha)⟩ h

/-- A change of the state that leaves lane memory and the records as they are. -/
theorem CertBased.part {R : State → Prop} {s t : State} (hR : CertBased R) (hm : t.mem = s.mem)
    (hc : t.comp.records = s.comp.records) (h : R s) : R t :=
  hR.keeps (fun hw => hm ▸ hw) (.of_eq hm hc) h

theorem CertBased.tab {R : State → Prop} {s : State} (hR : CertBased R) (t : AxleTable) (h : R s) : R (s.setTab t) :=
  hR.part (s := s) rfl rfl h

theorem CertBased.drv {R : State → Prop} {s : State} (hR : CertBased R) (d : Drive) (h : R s) : R (s.setDrv d) :=
  hR.part (s := s) rfl rfl h

theorem CertBased.editClosed {R : State → Prop} (hR : CertBased R) : EditClosed R where
  free := ⟨fun ht hc _ h => hR.keeps ht.wf hc h⟩
  header _ _ h := hR.tab _ h
  violations _ _ h := hR.tab _ h
  status _ _ _ h := hR.fields _ 0 3 (hR.tab _ h)
  sideSlip _ _ h := hR.fields _ 5 2 (hR.fields _ 1 1 (hR.tab _ h))
  weights _ _ _ h := hR.fields _ 3 2 (hR.fields _ 1 1 (hR.tab _ h))
  parking _ _ h := hR.fields _ 10 5 (hR.fields _ 1 1 (hR.tab _ h))
  push _ _ h := hR.fields _ _ 16 (hR.fields _ _ 1 (hR.tab _ h))
  start _ _ _ _ h := hR.drv _ h
  run _ _ _ _ h := hR.drv _ h
  stop _ _ _ h := hR.drv _ h
  rest _ _ _ _ h := hR.drv _ h

theorem CertBased.looseClosed {R : State → Prop} (hR : CertBased R) : LooseClosed R := ⟨hR.editClosed, fun ht hc h => hR.keeps ht.wf hc h⟩

/-! ### What publication needs -/

/-- Lane memory of an act's state, before publication: each word of a certificate record is as in the state before, or shows the record. -/
structure CertShows (σ s : State) : Prop where
  wf : Memory.wf s.mem
  words : ∀ k i, k < 4 → i < 512 → Memory.readWord s.mem (certBase k + 2 * i) = Memory.readWord σ.mem (certBase k + 2 * i) ∨
    (certWords (s.cert k))[i]? = some (Memory.readWord s.mem (certBase k + 2 * i))

/-- The records' words are as in the state before. -/
structure CertKept (σ s : State) : Prop where
  wf : Memory.wf s.mem
  words : ∀ k i, k < 4 → i < 512 → Memory.readWord s.mem (certBase k + 2 * i) = Memory.readWord σ.mem (certBase k + 2 * i)

theorem CertKept.shows {σ s : State} (h : CertKept σ s) : CertShows σ s := ⟨h.wf, fun k i hk hi => .inl (h.words k i hk hi)⟩

theorem certKept_refl {σ : State} (h : Memory.wf σ.mem) : CertKept σ σ := ⟨h, fun _ _ _ _ => rfl⟩

theorem SameCerts.word {s t : State} (h : SameCerts s t) {k i : Nat} (hk : k < 4) (hi : i < 512) :
    Memory.readWord t.mem (certBase k + 2 * i) = Memory.readWord s.mem (certBase k + 2 * i) := by
  unfold Memory.readWord
  rw [h.bytes k hk (certBase k + 2 * i) (by unfold certByte; omega), h.bytes k hk (certBase k + 2 * i + 1) (by unfold certByte; omega)]

theorem certKept_based (σ : State) : CertBased (CertKept σ) :=
  ⟨fun hw hc h => ⟨hw h.wf, fun k i hk hi => (hc.word hk hi).trans (h.words k i hk hi)⟩⟩

theorem certShows_based (σ : State) : CertBased (CertShows σ) :=
  ⟨fun {s t} hw hc h => ⟨hw h.wf, fun k i hk hi => by
    have hcert : t.cert k = s.cert k := by unfold State.cert; rw [hc.records]
    rw [hc.word hk hi, hcert]
    exact h.words k i hk hi⟩⟩

theorem publish_cert (old new : State) (k : Nat) : (publish old new).cert k = new.cert k := rfl

/-- Publication makes the certificate records of lane memory show the composer's (R170). -/
theorem CertShows.publish {σ s : State} (h : CertShows σ s) (hσ : CertLaw σ) : CertLaw (publish σ s) := by
  refine ⟨publish_wf _ _ h.wf, fun k hk => ?_⟩
  rw [publish_cert]
  refine (Memory.readWords_eq_iff (certWords_length _)).2 fun i hi => ?_
  have hi' : i < 512 := by simpa using hi
  rw [publish_certWord _ _ h.wf k hk i hi']
  split
  · rename_i he
    rcases h.words k i hk hi' with hw | hw
    · rw [hw, ← he]
      exact (Memory.readWords_eq_iff (certWords_length _)).1 (hσ.2 k hk) i (by simpa using hi)
    · rw [List.getElem?_eq_getElem hi] at hw
      exact (Option.some.inj hw).symm
  · rfl

/-! ### Changes of a record -/

/-- Words W of the image of certificate record k are rewritten. -/
structure CertWrites (s t : State) (k : Nat) (W : Nat → Prop) : Prop where
  wf : Memory.wf s.mem → Memory.wf t.mem
  records : t.comp.records = s.comp.records
  keep : ∀ k' i, i < 512 → ¬ (k' = k ∧ W i) →
    Memory.readWord t.mem (certBase k' + 2 * i) = Memory.readWord s.mem (certBase k' + 2 * i)
  write : Memory.wf s.mem → ∀ i, i < 512 → W i → (certWords (s.cert k))[i]? = some (Memory.readWord t.mem (certBase k + 2 * i))

theorem CertWrites.refl (s : State) (k : Nat) : CertWrites s s k fun _ => False :=
  ⟨id, rfl, fun _ _ _ _ => rfl, fun _ _ _ h => h.elim⟩

/-- A block of words from word i on, as the record shows them. -/
theorem CertWrites.block {s t : State} {k : Nat} {W : Nat → Prop} (h : CertWrites s t k W) (i : Nat) (ws : List Word)
    (hws : ∀ j (hj : j < ws.length), (certWords (s.cert k))[i + j]? = some ws[j]) :
    CertWrites s (t.setMem (Memory.writeWords t.mem (certBase k + 2 * i) ws)) k fun j => W j ∨ i ≤ j ∧ j < i + ws.length := by
  have hlen : ws.length = 0 ∨ i + ws.length ≤ 512 := by
    rcases Nat.eq_zero_or_pos ws.length with h0 | h0
    · exact .inl h0
    · have := List.getElem?_eq_some_iff.1 (hws (ws.length - 1) (by omega))
      obtain ⟨hl, -⟩ := this
      rw [certWords_length] at hl
      exact .inr (by omega)
  have hword {k' j : Nat} (hj : j < 512) (hout : ¬ (k' = k ∧ i ≤ j ∧ j < i + ws.length)) :
      Memory.readWord (Memory.writeWords t.mem (certBase k + 2 * i) ws) (certBase k' + 2 * j) =
        Memory.readWord t.mem (certBase k' + 2 * j) := by
    refine Memory.readWord_writeWords_ne _ _ _ _ ?_
    unfold certBase
    omega
  refine ⟨fun hw => Memory.wf_writeWords _ _ (h.wf hw) _, h.records, fun k' j hj hout => ?_, fun hw j hj hW => ?_⟩
  · exact (hword hj fun hc => hout ⟨hc.1, .inr hc.2⟩).trans (h.keep k' j hj fun hc => hout ⟨hc.1, .inl hc.2⟩)
  · by_cases hin : i ≤ j ∧ j < i + ws.length
    · have hwrite := Memory.readWord_writeWords ws t.mem (h.wf hw) (certBase k + 2 * i) (j - i) (by omega)
      have hshown := hws (j - i) (by omega)
      rw [show certBase k + 2 * i + 2 * (j - i) = certBase k + 2 * j by omega] at hwrite
      rw [show i + (j - i) = j by omega] at hshown
      rw [hshown, ← hwrite]
      rfl
    · refine (h.write hw j hj (hW.resolve_right hin)).trans (congrArg some ?_)
      exact (hword hj fun hc => hin hc.2).symm

/-- A record after a change of record k. -/
theorem State.cert_setCert (s : State) (k k' : Nat) (c : CertRecord) :
    (s.setCert k c).cert k' = s.cert k' ∧ (k' = k → s.cert k' = CertRecord.cleared .empty) ∨
      k' = k ∧ (s.setCert k c).cert k' = c := by
  by_cases hk : k' = k
  · subst hk
    by_cases hl : k' < s.comp.records.length
    · exact .inr ⟨rfl, by simp [State.cert, State.setCert, hl]⟩
    · exact .inl ⟨by simp [State.cert, State.setCert, hl], fun _ => by simp [State.cert, hl]⟩
  · exact .inl ⟨by simp [State.cert, State.setCert, List.getElem?_set_ne (Ne.symm hk)], fun h => absurd h hk⟩

/-- From words all kept a record changes in any way. -/
theorem CertKept.edit {σ s t : State} {k : Nat} {c : CertRecord} {W : Nat → Prop} (h : CertKept σ s)
    (ht : CertWrites (s.setCert k c) t k W) : CertShows σ t := by
  refine ⟨ht.wf h.wf, fun k' i hk' hi => ?_⟩
  by_cases hw : k' = k ∧ W i
  · obtain ⟨rfl, hWi⟩ := hw
    right
    have hcert : t.cert k' = (s.setCert k' c).cert k' := by unfold State.cert; rw [ht.records]
    rw [hcert]
    exact ht.write h.wf i hi hWi
  · exact .inl ((ht.keep k' i hi hw).trans (h.words k' i hk' hi))

/-- A record changes in words that are rewritten. -/
theorem CertShows.edit {σ s t : State} {k : Nat} {c : CertRecord} {W : Nat → Prop} (h : CertShows σ s)
    (ht : CertWrites (s.setCert k c) t k W)
    (hsame : ∀ i, i < 512 → ¬ W i → (certWords c)[i]? = (certWords (s.cert k))[i]?) : CertShows σ t := by
  refine ⟨ht.wf h.wf, fun k' i hk' hi => ?_⟩
  have hcert : t.cert k' = (s.setCert k c).cert k' := by unfold State.cert; rw [ht.records]
  rw [hcert]
  by_cases hw : k' = k ∧ W i
  · obtain ⟨rfl, hWi⟩ := hw
    exact .inr (ht.write h.wf i hi hWi)
  · rw [ht.keep k' i hi hw]
    refine (h.words k' i hk' hi).imp_right fun hshown => ?_
    rcases s.cert_setCert k k' c with ⟨hc, -⟩ | ⟨rfl, hc⟩
    · rw [hc]; exact hshown
    · rw [hc, hsame i hi fun hWi => hw ⟨rfl, hWi⟩]
      exact hshown

end Sys2Proof.Machine

/-! PROOFS. The acts that change certificate records rewrite their words (R170 to R179). -/

namespace Sys2Proof.Machine

set_option Elab.async false

/-! ### The image of a record, word by word -/

theorem certWords_state (c : CertRecord) : (certWords c)[0]? = some c.stateWord := by
  unfold certWords padWords
  rw [List.getElem?_take_of_lt (by decide)]
  rfl

/-- Past its first word the image does not show the state. -/
theorem certWords_setState (c : CertRecord) (st : RecordState) {i : Nat} (hi : i ≠ 0) :
    (certWords { c with state := st })[i]? = (certWords c)[i]? := by
  obtain ⟨n, rfl⟩ := Nat.exists_eq_succ_of_ne_zero hi
  simp [certWords, padWords, certSpanWords]

/-- The number stands in words 1 and 2 (R171). -/
theorem certWords_number (c : CertRecord) (j : Nat) (hj : j < (dwords c.number).length) :
    (certWords c)[1 + j]? = some (dwords c.number)[j] := by
  have hj' : j < 2 := hj
  simp only [certWords, padWords, certSpanWords, dwords]
  interval_cases j <;> simp

/-- The check word stands behind the span (R172). -/
theorem certWords_check (c : CertRecord) : (certWords c)[288]? = some c.checkWord := by
  have h := certSpanWords_length c
  simp only [certWords, padWords]
  rw [List.getElem?_take_of_lt (by omega), List.getElem?_append_left (by simp [h]), List.append_assoc,
    List.getElem?_append_right (by simp), List.getElem?_append_right (by simp [h])]
  simp [h]

/-! ### The state read -/

section
variable {σ s : State}

/-- A record whose word was written ARCHIVED follows it, and every other word shows its record again (R173). -/
theorem State.readRecord_shows (k : Nat) (h : CertShows σ s) : CertShows σ (s.readRecord k) := by
  unfold State.readRecord
  dsimp only
  split
  case isTrue hc =>
    obtain ⟨hissued, hword⟩ := hc
    refine h.edit (W := fun i => i = 0) ⟨id, rfl, fun _ _ _ _ => rfl, fun _ i _ hi => ?_⟩
      fun i _ hi => certWords_setState _ _ hi
    subst hi
    rcases s.cert_setCert k k { s.cert k with state := .archived } with ⟨-, hempty⟩ | ⟨-, hc⟩
    · rw [hempty rfl] at hissued
      cases hissued
    · rw [hc, certWords_state]
      exact congrArg some hword.symm
  case isFalse =>
    split
    · exact h
    · have hw := (CertWrites.refl s k).block 0 [(s.cert k).stateWord] fun j hj => by
        obtain rfl : j = 0 := by simpa using hj
        exact certWords_state _
      refine ⟨hw.wf h.wf, fun k' i hk' hi => ?_⟩
      by_cases hin : k' = k ∧ i = 0
      · obtain ⟨rfl, rfl⟩ := hin
        exact .inr (hw.write h.wf 0 hi (by simp))
      · have hkeep := hw.keep k' i hi (by simpa using hin)
        exact (h.words k' i hk' hi).imp hkeep.trans fun hs => hs.trans (congrArg some hkeep.symm)

theorem foldl_shows {α : Type} (f : State → α → State) (hf : ∀ s x, CertShows σ s → CertShows σ (f s x)) (l : List α)
    (s : State) (h : CertShows σ s) : CertShows σ (l.foldl f s) := by
  induction l generalizing s with
  | nil => exact h
  | cons x l ih => exact ih _ (hf _ _ h)

theorem State.stateRead_shows (h : CertShows σ s) : CertShows σ s.stateRead :=
  foldl_shows _ (fun _ k h => State.readRecord_shows k h) _ _ h

/-! ### A record cleared, filled, issued -/

/-- A record cleared as a whole (R175). -/
theorem State.clearCert_shows (k : Nat) (st : RecordState) (h : CertShows σ s) : CertShows σ (s.clearCert k st) := by
  have hw := (CertWrites.refl (s.setCert k (CertRecord.cleared st)) k).block 0
    (certWords ((s.setCert k (CertRecord.cleared st)).cert k)) fun j hj => by
      rw [Nat.zero_add]
      exact List.getElem?_eq_getElem hj
  exact h.edit hw fun i hi hout => absurd (.inr ⟨Nat.zero_le i, by rw [certWords_length]; omega⟩) hout

/-- The words 3 to 287 of a changed record written (R177). -/
theorem CertKept.fill (k : Nat) (c : CertRecord) (h : CertKept σ s) : CertShows σ ((s.setCert k c).rewriteFill k) :=
  h.edit ((CertWrites.refl (s.setCert k c) k).block 3 (((certWords ((s.setCert k c).cert k)).drop 3).take 285) fun j hj => by
    rw [List.getElem_take, List.getElem_drop]
    exact List.getElem?_eq_getElem _)

/-- The number and the check word of a changed record written (R178). -/
theorem CertKept.number (k : Nat) (c : CertRecord) (h : CertKept σ s) : CertShows σ ((s.setCert k c).rewriteNumber k) := by
  have hnumber := (CertWrites.refl (s.setCert k c) k).block 1 (dwords ((s.setCert k c).cert k).number)
    fun j hj => certWords_number _ j hj
  refine h.edit (hnumber.block 288 [((s.setCert k c).cert k).checkWord] fun j hj => ?_)
  obtain rfl : j = 0 := by simpa using hj
  exact certWords_check _

/-- A record changes without a write: publication shows it. -/
theorem CertKept.changed (k : Nat) (c : CertRecord) (h : CertKept σ s) : CertShows σ (s.setCert k c) :=
  h.edit (CertWrites.refl _ k)

/-! ### The composer's acts -/

/-- The end of a COMPOSE without a certificate (R176, R179). -/
theorem State.endCompose_shows (c : ComposeOp) (o : ReqOutcome) (d : Detail)
    (h : CertShows σ (s.setCert c.target (CertRecord.cleared .empty))) : CertShows σ (s.endCompose c o d) :=
  State.completeKind_holds _ _ _ _ _ (certShows_based σ).editClosed.free
    (State.setComp_holds _ rfl (certShows_based σ).editClosed.free h)

theorem State.counterReadEnds_shows (c : ComposeOp) (value : Option Nat) (failed : Nat) (h : CertKept σ s) :
    CertShows σ (s.counterReadEnds c value failed) := by
  have hF := (certKept_based σ).editClosed.free
  have hF' := (certShows_based σ).editClosed.free
  unfold State.counterReadEnds
  split
  · exact State.endCompose_shows _ _ _ (CertKept.changed _ _ (State.releasePort_holds hF h))
  split
  · exact State.endCompose_shows _ _ _ (CertKept.changed _ _ (State.releasePort_holds hF (State.nvErrorEntry_holds _ _ hF h)))
  · split
    · exact State.endCompose_shows _ _ _ (CertKept.changed _ _ (State.releasePort_holds hF h))
    · exact State.nextNv_holds _ hF' (State.setComp_holds _ rfl hF' (h.fill _ _))

theorem State.counterReadExpires_shows (h : CertKept σ s) : CertShows σ s.counterReadExpires := by
  unfold State.counterReadExpires
  split
  · exact State.counterReadEnds_shows _ _ _ h
  · exact h.shows

theorem State.clearFill_cert (s : State) (k k' : Nat) :
    (s.clearFill k).cert k' = (s.setCert k (CertRecord.cleared .empty)).cert k' := by
  simp [State.cert, State.clearFill, State.rewriteFill, State.rewriteCertWords]

/-- The failure of the counter write clears what the fill wrote (R178). -/
theorem State.clearFill_endCompose_shows (c : ComposeOp) (o : ReqOutcome) (d : Detail) (h : CertKept σ s) :
    CertShows σ ((s.clearFill c.target).endCompose c o d) := by
  have hcert : (s.clearFill c.target).cert c.target = CertRecord.cleared .empty := by
    rw [State.clearFill_cert]
    exact (s.cert_setCert c.target c.target (CertRecord.cleared .empty)).elim (fun hc => hc.1.trans (hc.2 rfl)) fun hc => hc.2
  have hfill : CertShows σ (s.clearFill c.target) := h.fill c.target (CertRecord.cleared .empty)
  exact State.endCompose_shows _ _ _ (hfill.edit (CertWrites.refl _ _) fun i _ _ => by rw [hcert])

/-- The issue writes the number and the check word (R178). -/
theorem State.issueCert_shows (c : ComposeOp) (n : Nat) (h : CertKept σ s) : CertShows σ (s.issueCert c n) := by
  have hE := (certShows_based σ).editClosed
  exact State.completeKind_holds _ _ _ _ _ hE.free (State.produce_holds _ _ _ _ hE.free (State.setComp_holds _ rfl hE.free
    (hE.header _ rfl (h.number _ _))))

theorem State.counterWriteEnds_shows (c : ComposeOp) (value : Nat) (success : Bool) (h : CertKept σ s) :
    CertShows σ (s.counterWriteEnds c value success) := by
  have hF := (certKept_based σ).editClosed.free
  have hp := State.releasePort_holds hF h
  unfold State.counterWriteEnds
  dsimp only
  split
  · exact State.issueCert_shows _ _ hp
  · exact State.clearFill_endCompose_shows _ _ _ (State.nvErrorEntry_holds _ _ hF hp)

theorem State.startCompose_shows (n k : Nat) (h : CertShows σ s) : CertShows σ (s.startCompose n k) := by
  have hF := (certShows_based σ).editClosed.free
  have hclear : Holds (CertShows σ) (s.clearCert k .composing) := State.clearCert_shows k _ h
  have hstart : Holds (CertShows σ) (s.startCompose n k) := by
    unfold State.startCompose
    exact State.startNv_holds _ hF (State.setComp_holds _ rfl hF (State.activate_holds _ _ hF hclear))
  exact hstart

theorem State.takeCompose_shows (n : Nat) (h : CertShows σ s) : CertShows σ (s.takeCompose n) := by
  have hF := (certShows_based σ).editClosed.free
  have hread := State.stateRead_shows h
  have hrefuse (o : ReqOutcome) (d : Detail) : CertShows σ (s.stateRead.completeKind n .compose o d []) :=
    State.completeKind_holds _ _ _ _ _ hF hread
  unfold State.takeCompose
  dsimp only
  split_ifs
  case neg =>
    split
    · exact hrefuse _ _
    · exact State.startCompose_shows _ _ hread
  all_goals exact hrefuse _ _

/-! ### The spool's acts -/

theorem State.takePrint_shows (n : Nat) (h : CertShows σ s) : CertShows σ (s.takePrint n) := by
  have hF := (certShows_based σ).editClosed.free
  have hread := State.stateRead_shows h
  have hrefuse (o : ReqOutcome) (d : Detail) : CertShows σ (s.stateRead.completeKind n .print o d []) :=
    State.completeKind_holds _ _ _ _ _ hF hread
  unfold State.takePrint
  dsimp only
  split_ifs
  case neg => exact State.createJob_holds _ _ _ hF hread
  all_goals exact hrefuse _ _

/-- The end of a printed job raises the print count of its record (R191). -/
theorem State.endJob_shows (j : Job) (st : JobState) (o : ReqOutcome) (d : Detail) (h : CertKept σ s) :
    CertShows σ (s.endJob j st o d) := by
  have hF := (certShows_based σ).editClosed.free
  have hcount : Holds (CertShows σ) (if st = .done then s.countPrint j.record else s) := ite_holds (h.changed _ _) h.shows
  exact State.completeKind_holds _ _ _ _ _ hF (State.setPrn_holds _ hF (State.printEntry_holds _ _ hF hcount))

theorem State.lineReady_shows (j : Job) (h : CertKept σ s) : CertShows σ (s.lineReady j) := by
  have hF := (certKept_based σ).editClosed.free
  have hF' := (certShows_based σ).editClosed.free
  have htaken (f : Job → Job) (slot : Nat) : CertKept σ ((s.setPrn { s.prn with crcResends := 0 }).updateJob slot f) :=
    State.updateJob_holds _ _ hF (State.setPrn_holds _ hF h)
  unfold State.lineReady
  dsimp only
  split_ifs
  · exact State.enterReady_holds hF' (State.endJob_shows _ _ _ _ h)
  · exact State.enterReady_holds hF' (State.endJob_shows _ _ _ _ (htaken _ _))
  · exact State.enterReady_holds hF' (State.endJob_shows _ _ _ _ (htaken _ _))
  · exact State.sendCancelled_holds hF' (htaken _ _).shows
  · exact State.sendNewLine_holds _ _ hF' (State.setLink_holds _ hF' (htaken _ _).shows)

theorem State.lineReply_shows (r : Reply) (h : CertKept σ s) : CertShows σ (s.lineReply r) := by
  have hF := (certShows_based σ).editClosed.free
  unfold State.lineReply
  split
  case h_1 j _ =>
    cases r with
    | ready => exact State.lineReady_shows j h
    | busy => exact State.lineBusy_holds hF h.shows
    | crcBad => exact State.lineBad_holds j hF h.shows
    | paperOut => exact State.linePaper_holds j hF h.shows
    | fault => exact State.setLink_holds _ hF (State.failJob_holds _ hF h.shows)
  case h_2 => exact State.enterReady_holds hF h.shows

theorem CertAct.shows {t : State} (ha : CertAct s t) (h : CertKept σ s) : CertShows σ t := by
  have hF := (certKept_based σ).editClosed.free
  have hF' := (certShows_based σ).editClosed.free
  cases ha with
  | compose =>
    exact State.taking_holds _ _ (fun n => onlyOne_holds _ _ n (State.takeCompose_shows n h.shows) hF' h.shows) hF' h.shows
  | print => exact State.taking_holds _ _ (fun n => State.takePrint_shows n h.shows) hF' h.shows
  | readReport high low =>
    unfold State.counterReadReport
    split
    · exact ite_holds (State.counterReadExpires_shows h) (State.counterReadEnds_shows _ _ _
        (State.correctedEntry_holds _ _ _ hF (State.correctedEntry_holds _ _ _ hF h)))
    · exact h.shows
  | readExpires => exact State.counterReadExpires_shows h
  | writeReport cut answered =>
    unfold State.counterWriteReport
    split
    · exact State.counterWriteEnds_shows _ _ _ (State.storeWrite_holds _ _ hF h)
    · exact h.shows
  | writeExpires cut =>
    unfold State.counterWriteExpires
    split
    · exact State.counterWriteEnds_shows _ _ _ (State.storeWrite_holds _ _ hF h)
    · exact h.shows
  | printerByte byte =>
    unfold State.printerByte
    exact ite_holds (State.lineReply_shows _ (State.replyTaken_holds hF h))
      (ite_holds (State.pollReply_holds _ hF' (State.replyTaken_holds hF' h.shows)) h.shows)

/-! ### Every act -/

/-- Lane memory changes below the certificate records alone. -/
theorem CertBased.below {R : State → Prop} {s t : State} {m : Memory} (hR : CertBased R) (hm : t.mem = m)
    (hc : t.comp.records = s.comp.records) (hw : Memory.wf s.mem → Memory.wf m)
    (hb : ∀ a, 0x1200 ≤ a → Memory.readByte m a = Memory.readByte s.mem a) (h : R s) : R t :=
  hR.keeps (fun h => by rw [hm]; exact hw h) ⟨hc, fun _ _ a ha => by rw [hm]; exact hb a (certByte_above ha)⟩ h

theorem CertBased.rewriteTable {R : State → Prop} {u : State} (hR : CertBased R) (h : R u) : R u.rewriteTable := by
  have hm : u.rewriteTable.mem = Memory.writeWords u.mem 0x0900 (tableWords u.tab) := by
    simp only [State.rewriteTable, State.setMem_mem]
  refine hR.below hm (by simp) (fun hw => Memory.wf_writeWords _ _ hw _) (fun a ha => ?_) h
  exact Memory.readByte_writeWords _ _ _ _ (.inr (by rw [tableWords_length]; omega))

/-- The removal of an attempt leaves the certificate records alone. -/
theorem CertKept.popAttempt (k : Nat) (h : CertKept σ s) : CertKept σ (s.popAttempt k) := by
  have hR := certKept_based σ
  exact State.offerAgain_holds k hR.editClosed.free (hR.fields _ _ 16 (hR.fields _ 8 1 (hR.tab _ h)))

/-- A new table leaves the certificate records alone. -/
theorem CertKept.openTable (p : Plan) (h : CertKept σ s) : CertKept σ (s.openTable p) :=
  (certKept_based σ).rewriteTable ((certKept_based σ).tab _ h)

end

theorem Act.certShows {s t : State} (ha : Act s t) (h : Memory.wf s.mem) : CertShows s t := by
  have hs := certKept_refl h
  have hR := certKept_based s
  rcases ha.holds_or_special hR.editClosed hs with h' | ha | ha | ha
  · exact h'.shows
  · exact (ha.holds hR.looseClosed.sensorClosed hs).shows
  · exact ha.shows hs
  · exact (ha.holds hR.editClosed.free (fun _ => id) (fun _ k h => h.popAttempt k) (fun _ p h => h.openTable p) hs).shows

theorem State.resetSlots_holds {R : State → Prop} {s : State} (hR : FreeClosed R) (h : Holds R s) : Holds R s.resetSlots := by
  refine foldl_holds _ (fun s n h => ?_) _ s h
  unfold State.resetSlot
  split
  all_goals simp [h, hR]

theorem State.setOp_shows {σ u : State} (op : Option ComposeOp) (h : CertShows σ u) :
    CertShows σ (u.setComp { u.comp with op := op }) :=
  State.setComp_holds _ rfl (certShows_based σ).editClosed.free h

theorem State.resetCerts_shows {σ u : State} (h : CertShows σ u) : CertShows σ u.resetCerts := by
  unfold State.resetCerts
  cases u.comp.op with
  | none => exact State.setOp_shows none h
  | some c => exact State.setOp_shows none (State.clearCert_shows c.target .empty h)

/-- A lane reset clears a COMPOSING record (R180). -/
theorem State.laneReset_certShows (s : State) (hs : Memory.wf s.mem) : CertShows s s.laneReset := by
  have hF := (certKept_based s).editClosed.free
  have hslots : CertKept s s.resetSlots := State.resetSlots_holds hF (certKept_refl hs)
  have hcerts : CertShows s s.resetSlots.resetCerts := State.resetCerts_shows hslots.shows
  refine (certShows_based s).below s.laneReset_mem (by simp [State.laneReset])
    (fun _ => by rw [← State.laneReset_mem]; exact (s.laneReset_headerShows hs).wf) (fun a ha => ?_) hcerts
  rw [Memory.readByte_writeWord _ _ _ _ (by omega), Memory.readByte_writeWords _ _ _ _ (by rw [headerWords_length]; omega),
    Memory.readByte_writeWords _ _ _ _ (by rw [tableWords_length]; omega)]

theorem certLaw_step {s t : State} (hs : CertLaw s) (ht : step s = .next t) : CertLaw t :=
  invariant_step (P := CertLaw) (fun ha h => (ha.certShows h.1).publish h) (fun s h => (s.laneReset_certShows h.1).publish h)
    (fun _ _ h => h) (fun _ _ _ _ => certLaw_powered _ _) hs ht

/-- Settles O59: what an act writes to the images shows the new state, and publication rewrites the rest that changed. -/
theorem headerImageIsKept : Obligations.HeaderImageIsKept := by
  unfold Obligations.HeaderImageIsKept
  exact ⟨fun _ _ => headerLaw_step, fun _ _ => tableLaw_step, fun _ _ => certLaw_step⟩

end Sys2Proof.Machine

/-! PROOFS. The timers of the request unit (R205, R209) and the gauge record (R208). -/

namespace Sys2Proof.Machine

set_option Elab.async false

/-! ### What an event leaves alone -/

theorem KeepsAllBut.refl (l : List Part) (s : State) : KeepsAllBut l s s := fun p _ => by cases p <;> rfl

theorem KeepsAllBut.trans {l : List Part} {s t u : State} (h : KeepsAllBut l s t) (h' : KeepsAllBut l t u) :
    KeepsAllBut l s u := by
  intro p hp
  have h1 := h p hp
  have h2 := h' p hp
  cases p <;> simp_all [Part.same]

/-- Publication changes lane memory alone (R196). -/
theorem KeepsAllBut.publish {l : List Part} {s t : State} (h : KeepsAllBut l s t) (hl : .mem ∈ l) (old : State) :
    KeepsAllBut l s (publish old t) := by
  intro p hp
  have h1 := h p hp
  cases p <;> simp_all [Part.same]

/-- While no step is due, a sample or a millisecond finds the state as it stands (assumption 5). -/
theorem State.caughtUp_of_quiet (s : State) (h : s.quiet = true) : s.caughtUp = s := by
  have hnone : dueSteps.find? (fun e => e.due s) = none := by
    simpa [State.quiet] using h
  simp only [State.caughtUp, catchUpMost, State.catchUp, hnone]

/-! ### The stale timer (R205) and the millisecond (R209) -/

/-- What the command STALE_TIMER_EXPIRY means (R205). -/
theorem exec_staleTimerExpiry (s : State) (h : s.expired s.jr.staleTimer = true) :
    exec .staleTimerExpiry s
      = .next (publish s ((s.setJr { s.jr with staleTimer := s.staleLoad }).raiseAttn attnStale)) :=
  congrArg (fun t => Host.Outcome.next (publish s t)) (if_pos h)

/-- Lane time's millisecond finds a quiet state as it stands (R209). -/
theorem exec_laneTimeTick (s : State) (h : s.quiet = true) : exec .laneTimeTick s = .next (publish s s.tick) := by
  rw [show exec .laneTimeTick s = answer s.caughtUp s.caughtUp.tick from rfl, State.caughtUp_of_quiet s h, answer]

/-- A millisecond raises lane time and the clock, and ATTN.TIME_WRAP where lane time passes to 0 (R209). -/
theorem State.tick_eq (s : State) :
    s.tick = if s.time + 1 = 0 then ((s.setClk { s.clk with ms := s.clk.ms + 1 }).putTime (s.time + 1)).raiseAttn attnTimeWrap
      else (s.setClk { s.clk with ms := s.clk.ms + 1 }).putTime (s.time + 1) := by
  simp [State.tick]

/-- Lane memory after a millisecond is that of lane time's change (R196, R209). -/
theorem State.tick_mem (s : State) : s.tick.mem = (s.putTime (s.time + 1)).mem := by
  rw [State.tick_eq]
  split <;> simp [State.putTime]

theorem State.tick_time (s : State) : s.tick.time = s.time + 1 := by
  rw [State.tick_eq]
  split <;> simp

/-- The attention register after a millisecond (R207, R209). -/
theorem State.tick_att (s : State) :
    s.tick.att.bits = (if s.time = 0xFFFFFFFF then s.att.bits ||| 0x80 else s.att.bits) ∧ s.tick.att.mask = s.att.mask := by
  have hwrap : s.time + 1 = 0 ↔ s.time = 0xFFFFFFFF := by bv_omega
  rw [State.tick_eq]
  by_cases h : s.time = 0xFFFFFFFF
  · rw [if_pos (hwrap.2 h), if_pos h]
    simp [State.raiseAttn, State.setAttn, attnTimeWrap]
  · rw [if_neg (mt hwrap.1 h), if_neg h]
    simp

theorem State.tick_keepsAllBut (s : State) : KeepsAllBut [.mem, .clk, .time, .att] s s.tick := by
  intro p hp
  rw [State.tick_eq]
  cases p <;> split <;> simp_all [Part.same]

/-- Settles O7: the stale timer stands behind no image, and lane time's words are put and stay shown. -/
theorem timersOfTheRequestUnit : Obligations.TimersOfTheRequestUnit := by
  unfold Obligations.TimersOfTheRequestUnit
  refine ⟨fun s h => ?stale, fun s hquiet hw => ?tick⟩
  case stale =>
    rw [exec_staleTimerExpiry s h,
      publish_same s ((s.setJr { s.jr with staleTimer := s.staleLoad }).raiseAttn attnStale) rfl rfl rfl rfl rfl]
    rfl
  case tick =>
    have hwf : Memory.wf s.tick.mem := State.tick_mem s ▸ State.putTime_wf s _ hw
    have hshown : TimeShown s.tick := by
      have h := State.putTime_shown s (s.time + 1) hw
      unfold TimeShown at h ⊢
      rwa [State.tick_mem, State.tick_time]
    have hpub := hshown.publish s hwf
    simp only [TimeShown, Memory.readWords, List.cons.injEq, and_true] at hpub
    obtain ⟨hlow, hhigh⟩ := hpub
    obtain ⟨hbits, hmask⟩ := State.tick_att s
    refine ⟨_, exec_laneTimeTick s hquiet, State.tick_time s, ?clock, hbits, hmask, hlow, hhigh,
      (State.tick_keepsAllBut s).publish (by simp) s, fun a ha => ?memory⟩
    case clock =>
      rw [show (publish s s.tick).clk = s.tick.clk by simp, State.tick_eq]
      split <;> simp
    case memory =>
      have kept := State.tick_keepsAllBut s
      rw [publish_readByte_header s _ (kept .tab (by simp)).symm (congrArg Composer.records (kept .comp (by simp))).symm a ha,
        State.tick_mem, State.putTime_readByte _ _ _ fun h => ha (timeByte_header a h)]

/-! ### The gauge record (R208) -/

/-- What the command GAUGE_UPDATE means when it is due (R208). -/
theorem exec_gaugeUpdate (s : State) (h : 20 ≤ s.gauge.samples) : exec .gaugeUpdate s = .next (publish s s.updateGauge) :=
  congrArg (fun t => Host.Outcome.next (publish s t)) (if_pos (decide_eq_true h))

/-- A gauge record that keeps the skip count stands behind no image (R196). -/
theorem publish_gauge_kept (s : State) (g : Gauge) (m : Memory) (h : g.skipped = s.gauge.skipped) :
    publish s ((s.setGauge g).setMem m) = (s.setGauge g).setMem m :=
  publish_same _ _ (by simp) rfl h.symm rfl rfl

/-- A skip count that has changed is rewritten in the header, and nothing else (R196). -/
theorem publish_gauge_changed (s : State) (g : Gauge) (h : s.gauge.skipped ≠ g.skipped) :
    publish s (s.setGauge g) = (s.setGauge g).setMem (Memory.writeWord s.mem 0x0046 g.skipped) := by
  have hcert (k : Nat) : (s.setGauge g).cert k = s.cert k := rfl
  have hdwords : headerDWords (s.setGauge g) = headerDWords s := rfl
  simp only [publish, publishedMem, publishHeader, headerWords_setGauge, hdwords, Memory.writeChanged_self,
    Memory.writeChangedDWords_self, publishCert, hcert, State.setGauge_mem, State.setGauge_gauge, State.setGauge_tab, if_neg h,
    if_true, List.range_succ, List.range_zero, List.nil_append, List.foldl_append, List.foldl_cons, List.foldl_nil]

/-- An update that is written (R208). -/
theorem State.updateGauge_written (s : State) (h : Memory.readWord s.mem 0x0044 = 0) :
    publish s s.updateGauge = (s.setGauge { s.gauge with samples := 0, sequence := s.gauge.sequence + 1 }).setMem
      (Memory.writeWords s.mem 0x1200 (s.gaugeWords (s.gauge.sequence + 1))) := by
  rw [State.updateGauge, if_pos h]
  exact publish_gauge_kept s _ _ (by simp)

/-- An update that is skipped (R208). -/
theorem State.updateGauge_skipped (s : State) (h : Memory.readWord s.mem 0x0044 ≠ 0) :
    publish s s.updateGauge = (s.setGauge { s.gauge with samples := 0, skipped := s.gauge.skipped + 1 }).setMem
      (Memory.writeWord s.mem 0x0046 (s.gauge.skipped + 1)) := by
  rw [State.updateGauge, if_neg h]
  exact publish_gauge_changed s _ (by bv_omega)

/-- The first 17 words of a gauge record that has been written (R208, R211). -/
theorem gaugeRecord_words (s : State) (q : Word) (hw : Memory.wf s.mem) :
    Memory.readWords (Memory.writeWords s.mem 0x1200 (s.gaugeWords q)) 0x1200 17 = (s.gaugeWords q).take 17 := by
  have hall := Memory.readWords_writeWords (s.gaugeWords q) s.mem hw 0x1200
  rw [gaugeWords_length] at hall
  rw [← Memory.readWords_take _ _ 32 17 (by decide), hall]

/-- A gauge record is written to its own bytes (R208). -/
theorem gaugeRecord_readByte (s : State) (q : Word) (a : Nat) (h : ¬ gaugeByte a) :
    Memory.readByte (Memory.writeWords s.mem 0x1200 (s.gaugeWords q)) a = Memory.readByte s.mem a := by
  unfold gaugeByte at h
  exact Memory.readByte_writeWords _ _ _ _ (by rw [gaugeWords_length]; omega)

/-- Settles O8: by the hold word the record is written, or the skip count raised. -/
theorem gaugeUpdateWritesOrSkips : Obligations.GaugeUpdateWritesOrSkips := by
  unfold Obligations.GaugeUpdateWritesOrSkips
  intro s hdue hw
  refine ⟨_, exec_gaugeUpdate s hdue, ?_⟩
  by_cases hhold : Memory.readWord s.mem 0x0044 = 0
  case pos =>
    simp only [State.updateGauge_written s hhold, MemKept, State.setMem_mem, State.setMem_gauge, State.setGauge_gauge]
    refine ⟨fun p hp => ?kept, fun _ => ⟨?gauge, ?words, gaugeRecord_readByte s _⟩, fun h => absurd hhold h⟩
    case kept => cases p <;> simp_all [Part.same]
    case gauge => trivial
    case words =>
      rw [gaugeRecord_words s _ hw]
      rfl
  case neg =>
    simp only [State.updateGauge_skipped s hhold, MemKept, State.setMem_mem, State.setMem_gauge, State.setGauge_gauge]
    refine ⟨fun p hp => ?kept, fun h => absurd h hhold, fun _ => ⟨?gauge, Memory.readWord_writeWord _ hw _ _, fun a ha => ?outside⟩⟩
    case kept => cases p <;> simp_all [Part.same]
    case gauge => trivial
    case outside => exact Memory.readByte_writeWord _ _ _ _ (by omega)

end Sys2Proof.Machine

/-! PROOFS. Request slots: the commands that act on every named slot (R197, R201), and what the request unit decides at a taking (R198). -/

namespace Sys2Proof.Machine

set_option Elab.async false

/-! ### One act on one slot, and a fold of such acts -/

/-- Slot m reads the same in both states, in the request unit and in the words that the part writes (R196). -/
def SlotSame (s t : State) (m : Nat) : Prop :=
  t.held m = s.held m ∧ ∀ a, slotByte m a → Memory.readByte t.mem a = Memory.readByte s.mem a

/-- An act on a list of slots that writes, beside the ring, the touched bytes of the slots, and makes a number of entries (R197, R201). -/
structure ActsOn (touched : Nat → Nat → Prop) (l : List Nat) (entries : Nat) (s t : State) : Prop where
  wf : Memory.wf s.mem → Memory.wf t.mem
  length : t.slots.length = s.slots.length
  held : ∀ m, m ∉ l → t.held m = s.held m
  kept : KeepsAllBut [.mem, .jr, .att, .slots] s t
  mem : ∀ a, ¬ ringByte a → (∀ n, n ∈ l → ¬ touched n a) → Memory.readByte t.mem a = Memory.readByte s.mem a
  produced : t.jr.produced = s.jr.produced + BitVec.ofNat 32 entries

/-- The bytes of different slots are different (R211). -/
theorem slotByte_disjoint {m n a : Nat} (hm : m < 16) (hn : n < 16) (h : m ≠ n) (ha : slotByte m a) : ¬ slotByte n a := by
  unfold slotByte slotBase at *
  rw [Nat.mod_eq_of_lt hm] at ha
  rw [Nat.mod_eq_of_lt hn]
  omega

theorem SlotSame.refl (s : State) (m : Nat) : SlotSame s s m := ⟨rfl, fun _ _ => rfl⟩

theorem SlotSame.trans {s t u : State} {m : Nat} (h : SlotSame s t m) (h' : SlotSame t u m) : SlotSame s u m :=
  ⟨h'.1.trans h.1, fun a ha => (h'.2 a ha).trans (h.2 a ha)⟩

theorem SlotSame.slotState {s t : State} {m : Nat} (h : SlotSame s t m) : t.slotState m = s.slotState m :=
  Memory.readWord_congr _ _ _ fun a h1 h2 => h.2 a (.inl ⟨h1, h2⟩)

/-- Publication leaves the slots as they are (R196). -/
theorem SlotSame.publish {s t : State} {m : Nat} (old : State) (h : SlotSame s t m) : SlotSame s (publish old t) m :=
  ⟨by simpa [State.held] using h.1, fun a ha => (publish_readByte _ _ a (slotByte_not_image m a ha)).trans (h.2 a ha)⟩

section
variable {touched : Nat → Nat → Prop} (hslot : ∀ n a, touched n a → slotByte n a)
include hslot

/-- A slot that is not among those acted on reads as before. -/
theorem ActsOn.slotSame {l : List Nat} {e : Nat} {s t : State} (h : ActsOn touched l e s t) {m : Nat} (hm : m < 16)
    (hl : ∀ n, n ∈ l → n < 16) (hml : m ∉ l) : SlotSame s t m :=
  ⟨h.held m hml, fun a ha => h.mem a (slotByte_not_ring m a ha) fun n hn ht =>
    slotByte_disjoint hm (hl n hn) (fun he => hml (he ▸ hn)) ha (hslot n a ht)⟩

/-- Acts on one slot after the other act on the list of them, and each finds its slot as it was at first. `ok` is what an act needs of its
slot, and `makes` whether it makes an entry. -/
theorem foldl_actsOn (f : State → Nat → State) (ok makes : State → Nat → Bool)
    (hsame : ∀ s u n, SlotSame s u n → ok u n = ok s n ∧ makes u n = makes s n)
    (hf : ∀ s n, n < 16 → s.slots.length = 16 → Memory.wf s.mem → ok s n = true →
      ActsOn touched [n] (makes s n).toNat s (f s n))
    (l : List Nat) (s : State) (hd : l.Nodup) (hl : ∀ n, n ∈ l → n < 16) (hs : s.slots.length = 16) (hw : Memory.wf s.mem)
    (hok : ∀ n, n ∈ l → ok s n = true) :
    ActsOn touched l (l.countP (makes s)) s (l.foldl f s) ∧
      ∀ n, n ∈ l → ∃ u, u.slots.length = 16 ∧ Memory.wf u.mem ∧ SlotSame s u n ∧ SlotSame (f u n) (l.foldl f s) n := by
  induction l generalizing s with
  | nil => exact ⟨⟨id, rfl, fun _ _ => rfl, KeepsAllBut.refl _ _, fun _ _ _ => rfl, by simp⟩, nofun⟩
  | cons n l ih =>
    obtain ⟨hnl, hd⟩ := List.nodup_cons.1 hd
    have hn := hl n (by simp)
    have hl' : ∀ m, m ∈ l → m < 16 := fun m hm => hl m (by simp [hm])
    have first := hf s n hn hs hw (hok n (by simp))
    have same (m : Nat) (hm : m ∈ l) : SlotSame s (f s n) m :=
      first.slotSame hslot (hl' m hm) (by simpa using hn) (by
      rw [List.mem_singleton]
      exact fun h => hnl (h ▸ hm))
    have hmakes : l.countP (makes (f s n)) = l.countP (makes s) :=
      List.countP_congr fun m hm => by rw [(hsame s _ m (same m hm)).2]
    obtain ⟨rest, each⟩ := ih (f s n) hd hl' (first.length.trans hs) (first.wf hw)
      fun m hm => (hsame s _ m (same m hm)).1.trans (hok m (by simp [hm]))
    refine ⟨⟨fun h => rest.wf (first.wf h), rest.length.trans first.length, fun m hm => ?held, first.kept.trans rest.kept,
      fun a hr ha => ?mem, ?produced⟩, fun m hm => ?each⟩
    case held =>
      rw [List.foldl_cons, rest.held m (fun h => hm (by simp [h])), first.held m (fun h => hm (by simp_all))]
    case mem =>
      rw [List.foldl_cons, rest.mem a hr (fun m hm => ha m (by simp [hm])), first.mem a hr (fun m hm => ha m (by simp_all))]
    case produced =>
      rw [List.foldl_cons, rest.produced, first.produced, hmakes, BitVec.add_assoc, ← BitVec.ofNat_add, List.countP_cons]
      congr 2
      cases makes s n <;> simp [Nat.add_comm]
    case each =>
      by_cases he : m = n
      · subst he
        exact ⟨s, hs, hw, SlotSame.refl s m, rest.slotSame hslot hn hl' hnl⟩
      · obtain ⟨u, hu, hwu, hsu, hfu⟩ := each m (by simpa [he] using hm)
        exact ⟨u, hu, hwu, (same m (by simpa [he] using hm)).trans hsu, hfu⟩

end

/-! ### The named slots -/

theorem mem_namedSlots (mask : Word) (n : Nat) : n ∈ namedSlots mask ↔ n < 16 ∧ mask.getLsbD n = true := by
  simp [namedSlots, bitOf, testBit_toNat]

theorem namedSlots_nodup (mask : Word) : (namedSlots mask).Nodup := List.nodup_range.filter _

theorem countP_namedSlots (mask : Word) (p : Nat → Bool) :
    (namedSlots mask).countP p = (List.range 16).countP (fun n => mask.getLsbD n && p n) := by
  rw [namedSlots, List.countP_filter]
  exact List.countP_congr fun n _ => by simp [bitOf, testBit_toNat, Bool.and_comm]

/-! ### POST (R197) -/

/-- The bytes of a slot's state word. -/
def stateByte (n a : Nat) : Prop := a = slotBase n ∨ a = slotBase n + 1

theorem stateByte_slot (n a : Nat) (h : stateByte n a) : slotByte n a := by
  unfold stateByte at h
  unfold slotByte
  omega

/-- A post of slot n makes an entry unless the slot becomes POSTED by it (R197). -/
def State.postMakes (s : State) (n : Nat) : Bool := !(s.held n == .free && s.slotState n == wordReady)

theorem SlotSame.postMakes {s u : State} {n : Nat} (h : SlotSame s u n) : u.postMakes n = s.postMakes n := by
  rw [State.postMakes, State.postMakes, h.1, h.slotState]

theorem State.postMakes_held (s : State) (n : Nat) (h : s.held n ≠ .free) : s.postMakes n = true := by
  simp [State.postMakes, beq_eq_false_iff_ne.2 h]

theorem State.postMakes_ignored (s : State) (n : Nat) (h : s.slotState n ≠ wordReady) : s.postMakes n = true := by
  simp [State.postMakes, beq_eq_false_iff_ne.2 h]

theorem State.postMakes_ready (s : State) (n : Nat) (h : s.held n = .free) (hr : s.slotState n = wordReady) :
    s.postMakes n = false := by
  simp [State.postMakes, h, hr]

/-- The post of a slot that the request unit holds: its state word again, and an entry (R197). -/
theorem State.postSlot_held (s : State) (n : Nat) (w : Word) (h : heldWord (s.held n) = some w) :
    s.postSlot n = (s.setMem (Memory.writeWord s.mem (slotBase n) w)).postIgnored n (s.slotState n) := by
  simp [State.postSlot, h]

/-- The post of a READY slot (R197). -/
theorem State.postSlot_ready (s : State) (n : Nat) (h : s.held n = .free) (hr : s.slotState n = wordReady) :
    s.postSlot n = (s.setMem (Memory.writeWord s.mem (slotBase n) wordPosted)).setHeld n .posted := by
  simp [State.postSlot, h, hr, heldWord]

/-- The post of a free slot whose word does not read READY: an entry (R197). -/
theorem State.postSlot_ignored (s : State) (n : Nat) (h : s.held n = .free) (hr : s.slotState n ≠ wordReady) :
    s.postSlot n = s.postIgnored n (s.slotState n) := by
  simp [State.postSlot, h, hr, heldWord]

/-- An entry of the request unit touches the ring alone (R202). -/
theorem State.produce_actsOn (touched : Nat → Nat → Prop) (l : List Nat) (s : State) (code axle : Nat) (p1 p2 : Word) :
    ActsOn touched l 1 s (s.produce code axle p1 p2) :=
  ⟨State.produce_wf s _ _ _ _, by simp, fun m _ => by simp [State.held], (State.produce_keepsAllBut s code axle p1 p2).mono (by simp),
    fun a hr _ => State.produce_readByte s _ _ _ _ a fun h => hr (nextEntryByte_ring _ _ h), State.produce_produced ..⟩

/-- The state word of a slot, written anew, and an entry (R197). -/
theorem rewritten_actsOn (s : State) (n : Nat) (w found : Word) :
    ActsOn stateByte [n] 1 s ((s.setMem (Memory.writeWord s.mem (slotBase n) w)).postIgnored n found) := by
  have made := State.produce_actsOn stateByte [n] (s.setMem (Memory.writeWord s.mem (slotBase n) w)) evPostIgnored 0 (word n) found
  refine ⟨fun h => made.wf (Memory.wf_writeWord _ h _ _), made.length, made.held, ?kept, fun a hr ha => ?mem, made.produced⟩
  case kept => exact KeepsAllBut.trans (fun p hp => by cases p <;> simp_all [Part.same]) made.kept
  case mem =>
    have hne := ha n (by simp)
    unfold stateByte at hne
    exact (made.mem a hr ha).trans (Memory.readByte_writeWord _ _ _ _ (by omega))

theorem State.postSlot_actsOn (s : State) (n : Nat) : ActsOn stateByte [n] (s.postMakes n).toNat s (s.postSlot n) := by
  cases hh : s.held n with
  | posted =>
    rw [State.postSlot_held s n wordPosted (by simp [hh, heldWord]), State.postMakes_held s n (by simp [hh])]
    exact rewritten_actsOn s n _ _
  | active k =>
    rw [State.postSlot_held s n wordActive (by simp [hh, heldWord]), State.postMakes_held s n (by simp [hh])]
    exact rewritten_actsOn s n _ _
  | free =>
    by_cases hr : s.slotState n = wordReady
    · rw [State.postSlot_ready s n hh hr, State.postMakes_ready s n hh hr]
      refine ⟨fun h => Memory.wf_writeWord _ h _ _, by simp [State.setHeld], fun m hm => ?_, fun p hp => ?_, fun a _ ha => ?_, ?_⟩
      · rw [State.setHeld_held _ _ _ _ (by simpa using hm)]
        rfl
      · cases p <;> simp_all [Part.same, State.setHeld]
      · have hne := ha n (by simp)
        unfold stateByte at hne
        exact Memory.readByte_writeWord _ _ _ _ (by omega)
      · simp [State.setHeld]
    · rw [State.postSlot_ignored s n hh hr, State.postMakes_ignored s n hr]
      exact State.produce_actsOn stateByte [n] s evPostIgnored 0 (word n) (s.slotState n)

/-- What a post leaves a slot with, by what it found (R197). -/
theorem State.postSlot_slot (s : State) (n : Nat) (hn : n < s.slots.length) (hw : Memory.wf s.mem) :
    (s.held n = .free → s.slotState n = wordReady → (s.postSlot n).held n = .posted ∧ (s.postSlot n).slotState n = wordPosted) ∧
    (s.held n = .free → s.slotState n ≠ wordReady → (s.postSlot n).held n = .free ∧ (s.postSlot n).slotState n = s.slotState n) ∧
    (s.held n = .posted → (s.postSlot n).held n = .posted ∧ (s.postSlot n).slotState n = wordPosted) ∧
    (∀ k, s.held n = .active k → (s.postSlot n).held n = .active k ∧ (s.postSlot n).slotState n = wordActive) := by
  have entry (t : State) (found : Word) : SlotSame t (t.postIgnored n found) n :=
    ⟨by simp [State.held, State.postIgnored], fun a ha => State.produce_readByte t _ _ _ _ a fun h =>
      slotByte_not_ring n a ha (nextEntryByte_ring _ _ h)⟩
  have again (w : Word) (h : heldWord (s.held n) = some w) : (s.postSlot n).held n = s.held n ∧ (s.postSlot n).slotState n = w := by
    have same := entry (s.setMem (Memory.writeWord s.mem (slotBase n) w)) (s.slotState n)
    rw [State.postSlot_held s n w h, same.1, same.slotState]
    exact ⟨rfl, Memory.readWord_writeWord _ hw _ _⟩
  refine ⟨fun hf hr => ?ready, fun hf hr => ?ignored, fun hp => ?posted, fun k hk => ?active⟩
  case ready =>
    rw [State.postSlot_ready s n hf hr]
    exact ⟨by simp [State.held, State.setHeld, List.getD_eq_getElem?_getD, hn], Memory.readWord_writeWord _ hw _ _⟩
  case ignored =>
    have same := entry s (s.slotState n)
    rw [State.postSlot_ignored s n hf hr]
    exact ⟨same.1.trans hf, same.slotState⟩
  case posted => simpa [hp] using again wordPosted (by simp [hp, heldWord])
  case active => simpa [hk] using again wordActive (by simp [hk, heldWord])

/-- What the command POST means (R197). -/
theorem exec_post (mask : Word) (s : State) :
    exec (.post mask) s = .next (publish s ((namedSlots mask).foldl State.postSlot s)) := rfl

/-- Settles O9: the posts of the named slots are taken one after the other, and each finds its slot as POST found it. -/
theorem postActsOnEachNamedSlot : Obligations.PostActsOnEachNamedSlot := by
  unfold Obligations.PostActsOnEachNamedSlot
  intro mask s hs hw
  have named (n : Nat) (hn : n ∈ namedSlots mask) : n < 16 := ((mem_namedSlots mask n).1 hn).1
  obtain ⟨all, each⟩ := foldl_actsOn stateByte_slot State.postSlot (fun _ _ => true) State.postMakes
    (fun s u n h => ⟨rfl, h.postMakes⟩) (fun s n _ _ _ _ => State.postSlot_actsOn s n) (namedSlots mask) s
    (namedSlots_nodup mask) named hs hw (fun _ _ => rfl)
  refine ⟨_, exec_post mask s, fun n hn hm => ?named, fun n hn hm => ?others, ?produced, ?kept, fun a ha => ?memory⟩
  case named =>
    obtain ⟨u, hu, hwu, hsu, hfu⟩ := each n ((mem_namedSlots mask n).2 ⟨hn, hm⟩)
    have done := hfu.publish s
    simpa only [done.1, done.slotState, hsu.1, hsu.slotState] using State.postSlot_slot u n (hu ▸ hn) hwu
  case others =>
    have same := (all.slotSame stateByte_slot hn named (fun h => by simp_all [mem_namedSlots])).publish s
    exact ⟨same.1, same.slotState⟩
  case produced =>
    rw [show (publish s ((namedSlots mask).foldl State.postSlot s)).jr = ((namedSlots mask).foldl State.postSlot s).jr by simp,
      all.produced, countP_namedSlots]
    rfl
  case kept => exact all.kept.publish (by simp) s
  case memory =>
    simp only [not_or] at ha
    obtain ⟨hheader, hring, hslots⟩ := ha
    rw [publish_readByte_header s _ (all.kept .tab (by simp)).symm (congrArg Composer.records (all.kept .comp (by simp))).symm a
      hheader]
    exact all.mem a hring fun n hn ht => hslots ⟨n, named n hn, ((mem_namedSlots mask n).1 hn).2, ht⟩

/-! ### ABORT of POSTED slots (R201) -/

/-- An abort of slot n makes an entry where the slot is POSTED (R200, R201). -/
def State.abortMakes (s : State) (n : Nat) : Bool := s.held n == .posted

theorem State.abortSlot_posted (s : State) (n : Nat) (h : s.held n = .posted) :
    s.abortSlot n = s.complete n (s.slotKind n) .aborted .none [] := by
  simp [State.abortSlot, h]

theorem State.abortSlot_free (s : State) (n : Nat) (h : s.held n = .free) : s.abortSlot n = s := by
  simp [State.abortSlot, h]

/-- A completion acts on its slot alone and makes one entry (R200). -/
theorem State.complete_actsOn (s : State) (n k : Nat) (o : ReqOutcome) (d : Detail) (r : List Word) :
    ActsOn slotByte [n] 1 s (s.complete n k o d r) :=
  ⟨State.complete_wf s n k o d r, by simp [State.complete, State.finishSlot, State.setHeld],
    fun m hm => State.complete_held s n k o d r m (by simpa using hm), fun p hp => by cases p <;> simp_all [Part.same],
    fun a hr ha => State.complete_readByte s n k o d r a (ha n (by simp)) fun h => hr (nextEntryByte_ring _ _ h),
    State.complete_produced ..⟩

theorem State.abortSlot_actsOn (s : State) (n : Nat) (h : s.held n = .free ∨ s.held n = .posted) :
    ActsOn slotByte [n] (s.abortMakes n).toNat s (s.abortSlot n) := by
  rcases h with h | h
  · rw [State.abortSlot_free s n h]
    exact ⟨id, rfl, fun _ _ => rfl, KeepsAllBut.refl _ _, fun _ _ _ => rfl, by simp [State.abortMakes, h, show (Held.free == Held.posted) = false from rfl]⟩
  · simpa [State.abortSlot_posted s n h, State.abortMakes, h] using State.complete_actsOn s n _ _ _ _

/-- What the command ABORT means (R201). -/
theorem exec_abort (mask : Word) (s : State) :
    exec (.abort mask) s = .next (publish s ((namedSlots mask).foldl State.abortSlot s)) := rfl

/-- An abort of free slots does nothing, so those named may be left out (R201). -/
theorem foldl_abortSlot_posted (l : List Nat) (s : State) (hd : l.Nodup) (h : ∀ n, n ∈ l → s.held n = .free ∨ s.held n = .posted) :
    l.foldl State.abortSlot s = (l.filter (fun n => s.held n == .posted)).foldl State.abortSlot s := by
  induction l generalizing s with
  | nil => rfl
  | cons n l ih =>
    obtain ⟨hnl, hd⟩ := List.nodup_cons.1 hd
    rcases h n (by simp) with hn | hn
    · rw [List.foldl_cons, State.abortSlot_free s n hn, ih s hd (fun m hm => h m (by simp [hm])), List.filter_cons_of_neg (by simp [hn])]
    · have same (m : Nat) (hm : m ∈ l) : (s.abortSlot n).held m = s.held m := by
        rw [State.abortSlot_posted s n hn]
        exact State.complete_held s n _ _ _ _ m fun he => hnl (he ▸ hm)
      rw [List.filter_cons_of_pos (by simp [hn]), List.foldl_cons, List.foldl_cons,
        ih _ hd (fun m hm => by rw [same m hm]; exact h m (by simp [hm]))]
      congr 1
      exact List.filter_congr fun m hm => by rw [same m hm]

/-- Settles O10: the POSTED slots among the named ones are completed one after the other. -/
theorem abortCompletesPostedSlots : Obligations.AbortCompletesPostedSlots := by
  unfold Obligations.AbortCompletesPostedSlots
  intro mask s hs hw hnamed
  have mem_l (n : Nat) : n ∈ (namedSlots mask).filter (fun n => s.held n == .posted) ↔
      (n < 16 ∧ mask.getLsbD n = true) ∧ s.held n = .posted := by
    simp [mem_namedSlots]
  have hfold := foldl_abortSlot_posted (namedSlots mask) s (namedSlots_nodup mask) fun n hn =>
    hnamed n ((mem_namedSlots mask n).1 hn).1 ((mem_namedSlots mask n).1 hn).2
  obtain ⟨all, each⟩ := foldl_actsOn (fun _ _ h => h) State.abortSlot State.abortMakes State.abortMakes
    (fun s u n h => by simp [State.abortMakes, h.1])
    (fun s n _ _ _ h => State.abortSlot_actsOn s n (.inr (by simpa [State.abortMakes] using h)))
    ((namedSlots mask).filter (fun n => s.held n == .posted)) s ((namedSlots_nodup mask).filter _)
    (fun n hn => ((mem_l n).1 hn).1.1) hs hw (fun n hn => by simpa [State.abortMakes] using ((mem_l n).1 hn).2)
  refine ⟨_, exec_abort mask s, ?_⟩
  rw [hfold]
  refine ⟨fun n hn hm hp => ?done, fun n hn hm => ?others, ?produced, all.kept.publish (by simp) s, fun a ha => ?memory⟩
  case done =>
    obtain ⟨u, hu, hwu, hsu, hfu⟩ := each n ((mem_l n).2 ⟨⟨hn, hm⟩, hp⟩)
    rw [State.abortSlot_posted u n (hsu.1.trans hp)] at hfu
    have hdone := State.complete_done u n (u.slotKind n) .aborted .none [] hwu
    have hpub := hfu.publish s
    unfold SlotDone at hdone ⊢
    rw [hpub.1, hpub.slotState, Memory.readWord_congr _ _ _ fun a h1 h2 => hpub.2 a (by unfold slotByte; omega),
      Memory.readWord_congr _ _ _ fun a h1 h2 => hpub.2 a (by unfold slotByte; omega),
      Memory.readWords_congr _ _ _ _ fun a h1 h2 => hpub.2 a (by unfold slotByte; omega)]
    exact hdone
  case others =>
    have same := (all.slotSame (fun _ _ h => h) hn (fun n hn => ((mem_l n).1 hn).1.1)
      (fun h => by have := (mem_l n).1 h; rcases hm with hm | hm <;> simp_all)).publish s
    exact ⟨same.1, same.slotState⟩
  case produced =>
    rw [show (publish s (((namedSlots mask).filter (fun n => s.held n == .posted)).foldl State.abortSlot s)).jr
      = (((namedSlots mask).filter (fun n => s.held n == .posted)).foldl State.abortSlot s).jr by simp, all.produced,
      List.countP_filter, countP_namedSlots]
    congr 2
    exact List.countP_congr fun n _ => by simp [State.abortMakes]
  case memory =>
    simp only [not_or] at ha
    obtain ⟨hheader, hring, hslots⟩ := ha
    rw [publish_readByte_header s _ (all.kept .tab (by simp)).symm (congrArg Composer.records (all.kept .comp (by simp))).symm a
      hheader]
    exact all.mem a hring fun n hn ht =>
      hslots ⟨n, ((mem_l n).1 hn).1.1, ((mem_l n).1 hn).1.2, ((mem_l n).1 hn).2, ht⟩

end Sys2Proof.Machine

/-! PROOFS. The takings: what the request unit decides itself (R198), and the taking of a CALIBRATE (R16). -/

namespace Sys2Proof.Machine

set_option Elab.async false

/-! ### What the commands of the takings mean (R198) -/

/-- The work of the taking of each kind. -/
def workOf : Kind → State → Nat → State
  | .clearFaults => State.takeClearFaults
  | .discardAttempt => State.takeDiscard
  | .setTime => State.takeSetTime
  | .zero => onlyOne .zero State.takeZero
  | .calibrate => onlyOne .calibrate State.takeCalibrate
  | .runPlan => onlyOne .runPlan State.takeRunPlan
  | .driveTest => onlyOne .driveTest State.takeDriveTest
  | .compose => onlyOne .compose State.takeCompose
  | .print => State.takePrint

theorem exec_takingOf (k : Kind) (s : State) :
    exec (takingOf k) s = .next (publish s (s.taking (isKind k) (workOf k))) := by
  cases k <;> rfl

/-- The command of a kind takes the lowest pending slot of its kind (R198). -/
theorem exec_takingOf_takes (k : Kind) (s : State) (n : Nat) (h : Takes s n (codeOfKind k)) :
    exec (takingOf k) s = .next (publish s (workOf k s n)) := by
  rw [exec_takingOf, State.taking_takes s n (codeOfKind k) _ _ h (by simp [isKind])]

/-- A slot whose state word the host has rewritten is withdrawn at its taking (R198). -/
theorem State.taking_withdraws (s : State) (n : Nat) (takes : Nat → Bool) (work : State → Nat → State)
    (hl : s.lowestPosted = some n) (hk : takes (s.slotKind n) = true) (h : s.slotState n ≠ wordPosted) :
    s.taking takes work = s.withdraw n := by
  simp [State.taking, hl, hk, h]

/-- What the command BAD_KIND means (R198). -/
theorem exec_badKind (s : State) : exec .badKind s = .next (publish s
    (s.taking (fun c => c == 0 || decide (9 < c)) (fun s n => s.complete n (s.slotKind n) .badKind .none []))) := rfl

/-- A request of a long kind of which one is ACTIVE is completed KIND_ACTIVE (R198). -/
theorem onlyOne_of_active (k : Kind) (work : State → Nat → State) (s : State) (n : Nat) (h : s.kindActive k = true) :
    onlyOne k work s n = s.complete n (codeOfKind k) .refusedBusy .kindActive [] := by
  rw [onlyOne, if_pos h, State.completeKind]

/-- Settles O12: a taking withdraws its slot, or does the work of its kind, which for a long kind begins with KIND_ACTIVE. -/
theorem takingChecksOfTheRequestUnit : Obligations.TakingChecksOfTheRequestUnit := by
  unfold Obligations.TakingChecksOfTheRequestUnit
  intro s n _ hw hl
  refine ⟨fun k hk hst => ?withdrawn, fun hk hst => ?badKind, fun k hlong hk hst ha => ?kindActive⟩
  case withdrawn =>
    have entry := State.produce_keepsAllBut s evPostIgnored 0 (word n) (s.slotState n)
    refine ⟨_, exec_takingOf k s, ?_⟩
    rw [State.taking_withdraws s n _ _ hl (by simp [isKind, hk]) hst, State.withdraw]
    refine ⟨slotDone_publish_complete _ _ _ _ _ _ _ (State.produce_wf _ _ _ _ _ hw), ?produced,
      KeepsAllBut.publish_complete (entry.mono (by simp)) (by simp) _ _ _ _ _ _⟩
    case produced =>
      rw [show ∀ t : State, (publish s t).jr = t.jr from fun t => by simp, State.complete_produced,
        State.postIgnored, State.produce_produced, BitVec.add_assoc]
      rfl
  case badKind =>
    refine ⟨_, exec_badKind s, ?_⟩
    rw [State.taking_takes s n (s.slotKind n) _ _ ⟨hl, hst, rfl⟩ (by simpa using hk)]
    exact completedAlone s n _ _ _ _ hw
  case kindActive =>
    refine ⟨_, exec_takingOf_takes k s n ⟨hl, hst, hk⟩, ?_⟩
    have hwork : workOf k s n = s.complete n (codeOfKind k) .refusedBusy .kindActive [] := by
      rcases hlong with rfl | rfl | rfl | rfl | rfl <;> exact onlyOne_of_active _ _ s n ha
    rw [hwork]
    exact completedAlone s n _ _ _ _ hw

/-! ### CALIBRATE (R16) -/

/-- The first check of R16 that fails, with its outcome and detail; none when a CALIBRATE passes them all. -/
def State.calibrateRefusal (s : State) (n : Nat) : Option (ReqOutcome × Detail) :=
  if s.eng.mode ≠ .service then some (.refusedMode, .none)
  else if 8 < (s.param n 0).toNat then some (.badParam, .param 1)
  else if (s.param n 1).toInt < -8192 ∨ 8191 < (s.param n 1).toInt then some (.badParam, .param 2)
  else if (s.param n 2).toNat = 0 then some (.badParam, .param 3)
  else if s.kindActive .zero then some (.refusedState, .zeroActive)
  else if s.kindActive .compose then some (.refusedState, .composeActive)
  else none

/-- The write of the CALIBRATE in slot n (R17). -/
def State.calibrateWrite (s : State) (n : Nat) : NvOp := .calWrite (s.param n 0).toNat (s.param n 1) (s.param n 2)

/-- The state with the parameters of the CALIBRATE in slot n copied, its slot ACTIVE, before its write (R16). -/
def State.copyCalibrate (s : State) (n : Nat) : State :=
  (s.setEng { s.eng with calib := some ⟨n, (s.param n 0).toNat, (s.param n 1).toInt, (s.param n 2).toNat, false⟩ }).activate n
    .calibrate

/-- A CALIBRATE in slot n is completed at once with an outcome and a detail (R16). -/
def State.refuseCalibrate (s : State) (n : Nat) (r : ReqOutcome × Detail) : State := s.completeKind n .calibrate r.1 r.2 []

/-- A CALIBRATE that fails a check completes its slot with the outcome of the first one that fails (R16). -/
theorem State.takeCalibrate_refused (s : State) (n : Nat) (r : ReqOutcome × Detail) (h : s.calibrateRefusal n = some r) :
    s.takeCalibrate n = s.refuseCalibrate n r := by
  unfold State.calibrateRefusal at h
  unfold State.takeCalibrate
  refine refused_step (s.refuseCalibrate n) (by rfl) h fun fromChannel => ?_
  refine refused_step (s.refuseCalibrate n) (by rfl) fromChannel fun fromZero => ?_
  refine refused_step (s.refuseCalibrate n) (by rfl) fromZero fun fromGain => ?_
  refine refused_step (s.refuseCalibrate n) (by rfl) fromGain fun fromCapture => ?_
  refine refused_step (s.refuseCalibrate n) (by rfl) fromCapture fun fromCompose => ?_
  exact refused_step (s.refuseCalibrate n) (by rfl) fromCompose nofun

/-- A CALIBRATE that passes every check copies its parameters, becomes ACTIVE and starts its write (R16, R18). -/
theorem State.takeCalibrate_passed (s : State) (n : Nat) (h : s.calibrateRefusal n = none) :
    s.takeCalibrate n = (s.copyCalibrate n).startNv (s.calibrateWrite n) := by
  simp only [State.calibrateRefusal, ite_eq_right_iff, reduceCtorEq, imp_false, ite_eq_iff, and_false, false_or] at h
  obtain ⟨hmode, hchannel, hzero, hgain, hcapture, hcompose⟩ := h
  simp only [State.takeCalibrate, if_neg hmode, if_neg hchannel, if_neg hzero, if_neg hgain, if_neg hcapture, if_neg hcompose,
    State.copyCalibrate, State.calibrateWrite]

/-- An operation of the NV port starts on an idle port and otherwise waits (R18). -/
theorem State.startNv_nv (s : State) (op : NvOp) : (s.startNv op).nv =
    if s.nv.op = none then { s.nv with op := some op, started := s.clk.ms } else { s.nv with waiting := some op } := by
  cases h : s.nv.op <;> simp [State.startNv, h]

/-- The NV port alone takes an operation (R18). -/
theorem State.startNv_eq (s : State) (op : NvOp) : s.startNv op = s.setNv (s.startNv op).nv := by
  simp only [State.startNv]
  split <;> simp

/-- The words of a request slot and the NV port stand behind no image (R196). -/
theorem publish_calibrate_taken (s : State) (n : Nat) :
    publish s ((s.copyCalibrate n).startNv (s.calibrateWrite n)) = (s.copyCalibrate n).startNv (s.calibrateWrite n) := by
  rw [State.startNv_eq]
  exact publish_same _ _ rfl rfl rfl rfl rfl

/-- Settles O17: the checks in their order, and the copied parameters with the write that starts or waits. -/
theorem calibrateRefusedOrTaken : Obligations.CalibrateRefusedOrTaken := by
  unfold Obligations.CalibrateRefusedOrTaken
  intro s n _ hw ht hk ch zero gain
  have hexec : exec .calibrate s = .next (publish s (s.takeCalibrate n)) := by
    rw [← onlyOne_of_not_active .calibrate State.takeCalibrate s n hk]
    exact exec_takingOf_takes .calibrate s n ht
  refine ⟨_, hexec, fun o d hr => ?refused, fun hr => ?taken⟩
  case refused =>
    rw [State.takeCalibrate_refused s n (o, d) hr]
    exact completedAlone s n 5 o d [] hw
  case taken =>
    have hn : n < s.slots.length := State.lowestPosted_lt s n ht.1
    have hactive : BecameActive s (s.copyCalibrate n) n .calibrate := State.activate_active s _ n .calibrate rfl hn hw
    rw [State.takeCalibrate_passed s n hr, publish_calibrate_taken]
    refine ⟨by simp [State.copyCalibrate, ch, zero, gain], hactive.congr (by simp) fun a _ => by simp, ?port, ?kept, fun a ha => ?memory⟩
    case port => simp [State.startNv_nv, State.copyCalibrate, State.calibrateWrite, ch]
    case kept =>
      intro p hp
      cases p <;> simp_all [Part.same, State.copyCalibrate, State.activate, State.setHeld]
    case memory =>
      rw [show ((s.copyCalibrate n).startNv (s.calibrateWrite n)).mem = (s.copyCalibrate n).mem by simp]
      exact State.activate_readByte _ n .calibrate a ha

end Sys2Proof.Machine

/-! PROOFS. The taking of a RUN_PLAN: its checks in order (R127, R128), and the table that it opens (R64, R129). -/

namespace Sys2Proof.Machine

set_option Elab.async false

/-! ### The numbers of a plan's fields (R127) -/

/-- The first failing check of a list has the number that stands at the place of the first failing flag. -/
theorem find?_check (l : List (Nat × Bool)) :
    (l.find? (fun c => !c.2)).map (fun c => c.1) =
      ((l.map (fun c => c.2)).findIdx? (fun b => !b)).bind fun k => (l.map (fun c => c.1))[k]? := by
  induction l with
  | nil => rfl
  | cons c l ih => cases h : c.2 <;> simp_all [List.findIdx?_cons, Option.bind_map, Function.comp_def]

/-- The checks of the axles in axle order, from axle j + 1 on (R127). -/
def axleChecks (axles : List PlanAxle) (j : Nat) : List (Nat × Bool) :=
  (axles.zipIdx j).flatMap (fun x => PlanAxle.checks (x.2 + 1) x.1)

theorem axleChecks_cons (a : PlanAxle) (axles : List PlanAxle) (j : Nat) :
    axleChecks (a :: axles) j = PlanAxle.checks (j + 1) a ++ axleChecks axles (j + 1) := by
  simp [axleChecks]

/-- The flags of an axle's checks do not depend on its number. -/
theorem PlanAxle.checks_flags (a : PlanAxle) (k : Nat) : (a.checks k).map (fun c => c.2) = (a.checks 0).map (fun c => c.2) := rfl

theorem axleChecks_flags (axles : List PlanAxle) (j : Nat) :
    (axleChecks axles j).map (fun c => c.2) = axles.flatMap (fun a => (a.checks 0).map (fun c => c.2)) := by
  induction axles generalizing j with
  | nil => rfl
  | cons a axles ih => rw [axleChecks_cons, List.map_append, ih, List.flatMap_cons, PlanAxle.checks_flags]

/-- Each axle has seven fields, numbered from 16 times its own number on (R127). -/
theorem axleChecks_number (axles : List PlanAxle) (j k : Nat) (h : k < 7 * axles.length) :
    ((axleChecks axles j).map (fun c => c.1))[k]? = some (16 * (j + k / 7 + 1) + (k % 7 + 1)) := by
  induction axles generalizing j k with
  | nil => simp at h
  | cons a axles ih =>
    rw [axleChecks_cons, List.map_append]
    by_cases hk : k < 7
    · rw [List.getElem?_append_left (by simpa [PlanAxle.checks] using hk), Nat.div_eq_of_lt hk, Nat.mod_eq_of_lt hk]
      interval_cases k <;> rfl
    · have hlen : ((a.checks (j + 1)).map (fun c => c.1)).length = 7 := rfl
      rw [List.getElem?_append_right (by omega), hlen, ih _ _ (by simp at h; omega)]
      congr 1
      omega

theorem Plan.generalChecks_number (p : Plan) (k : Nat) (h : k < 10) : (p.generalChecks.map (fun c => c.1))[k]? = some (k + 1) := by
  interval_cases k <;> rfl

/-- A place of the first failing flag lies within the list. -/
theorem findIdx?_lt {l : List Bool} {k : Nat} (h : l.findIdx? (fun b => !b) = some k) : k < l.length := by
  obtain ⟨hk, _⟩ := List.findIdx?_eq_some_iff_getElem.1 h
  exact hk

theorem bind_eq_map {α β : Type} (o : Option α) {f : α → Option β} {g : α → β} (h : ∀ k, o = some k → f k = some (g k)) :
    o.bind f = o.map g := by
  cases o with
  | none => rfl
  | some k => exact h k rfl

/-- The first field out of range is a general one, and after them one of the axles' fields in axle order (R127). -/
theorem Plan.firstBad_eq (p : Plan) : p.firstBad =
    (((p.generalChecks.map (fun c => c.2)).findIdx? (fun b => !b)).map (fun k => k + 1)).or
      ((((p.axles.take p.axleCount.toNat).flatMap (fun a => (a.checks 0).map (fun c => c.2))).findIdx? (fun b => !b)).map
        (fun k => 16 * (k / 7 + 1) + (k % 7 + 1))) := by
  have hsplit : p.firstBad = ((p.generalChecks ++ axleChecks (p.axles.take p.axleCount.toNat) 0).find? (fun c => !c.2)).map
      (fun c => c.1) := rfl
  have hlen : (p.generalChecks.map (fun c => c.2)).length = 10 := rfl
  rw [hsplit, List.find?_append, Option.map_or, find?_check, find?_check, axleChecks_flags]
  congr 1
  · exact bind_eq_map _ fun k hk => Plan.generalChecks_number p k (hlen ▸ findIdx?_lt hk)
  · refine bind_eq_map _ fun k hk => ?_
    have hlt := findIdx?_lt hk
    rw [List.length_flatMap, show (fun a : PlanAxle => ((a.checks 0).map (fun c => c.2)).length) = fun _ => 7 from rfl,
      List.map_const', List.sum_replicate, smul_eq_mul, Nat.mul_comm] at hlt
    rw [axleChecks_number _ 0 k hlt, Nat.zero_add]

/-- An axle count that passes lies from 1 to 8 (section 7.1). -/
theorem Plan.axleCount_of_firstBad (p : Plan) (h : p.firstBad = none) : 1 ≤ p.axleCount.toNat ∧ p.axleCount.toNat ≤ 8 := by
  have hall : (p.generalChecks ++ axleChecks (p.axles.take p.axleCount.toNat) 0).find? (fun c => !c.2) = none := by
    simpa using show ((p.generalChecks ++ axleChecks (p.axles.take p.axleCount.toNat) 0).find? (fun c => !c.2)).map
      (fun c => c.1) = none from h
  have hcount := List.find?_eq_none.1 hall (3, inRange 1 8 p.axleCount.toNat) (by simp [Plan.generalChecks])
  simp [inRange] at hcount
  omega

/-- The general checks in the words of section 7.1. -/
theorem Plan.generalChecks_flags (p : Plan) : p.generalChecks.map (fun c => c.2) =
    [decide (p.identifier ≠ [] ∧ ∀ b ∈ p.identifier, 32 ≤ b.toNat ∧ b.toNat ≤ 126), decide (p.limitsRow.toNat ≤ 15),
     decide (1 ≤ p.axleCount.toNat ∧ p.axleCount.toNat ≤ 8), true,
     decide (p.slipLimit = 0 ∨ 10 ≤ p.slipLimit.toNat ∧ p.slipLimit.toNat ≤ 40),
     decide (5000 ≤ p.startWindow.toNat ∧ p.startWindow.toNat ≤ 60000),
     decide (500 ≤ p.closeWindow.toNat ∧ p.closeWindow.toNat ≤ 5000),
     decide (2000 ≤ p.openWindow.toNat ∧ p.openWindow.toNat ≤ 20000 ∧ p.closeWindow.toNat < p.openWindow.toNat),
     decide (1000 ≤ p.holdTime.toNat ∧ p.holdTime.toNat ≤ 5000),
     decide (1 ≤ p.maxViolations.toNat ∧ p.maxViolations.toNat ≤ 7)] := by
  have hzero : p.slipLimit.toNat = 0 ↔ p.slipLimit = 0 := by bv_omega
  have hslip : (p.slipLimit.toNat == 0 || inRange 10 40 p.slipLimit.toNat)
      = decide (p.slipLimit = 0 ∨ 10 ≤ p.slipLimit.toNat ∧ p.slipLimit.toNat ≤ 40) := by
    rw [Bool.eq_iff_iff]
    simp [inRange, hzero]
  have hname : (!p.identifier.isEmpty && p.identifier.all (fun b => inRange 32 126 b.toNat))
      = decide (p.identifier ≠ [] ∧ ∀ b ∈ p.identifier, 32 ≤ b.toNat ∧ b.toNat ≤ 126) := by
    rw [Bool.eq_iff_iff]
    simp [inRange]
  simp only [Plan.generalChecks, hslip, hname, List.map_cons, List.map_nil]
  simp only [inRange, ← Bool.decide_and, Nat.zero_le, true_and, and_assoc]

/-- The checks of an axle in the words of section 7.1: fields 4 and 5 for an AIR axle with a pressure channel. -/
theorem PlanAxle.checks_words (a : PlanAxle) : (a.checks 0).map (fun c => c.2) =
    [decide (a.tests.toNat ≤ 31), decide (a.kind.toNat ≤ 1), decide (a.channel.toNat ≤ 4),
     decide (a.kind = 1 ∧ 1 ≤ a.channel.toNat ∧ a.channel.toNat ≤ 4 → a.p0.toNat ≤ 200),
     decide (a.kind = 1 ∧ 1 ≤ a.channel.toNat ∧ a.channel.toNat ≤ 4 →
       100 ≤ a.pref.toNat ∧ a.pref.toNat ≤ 1200 ∧ a.p0.toNat + 100 ≤ a.pref.toNat),
     decide (a.coupling.toNat ≤ 1), decide (a.mark.toNat ≤ 8000)] := by
  have hair : (a.isAir && a.pressure.isSome) = decide (a.kind = 1 ∧ 1 ≤ a.channel.toNat ∧ a.channel.toNat ≤ 4) := by
    have hkind : a.kind.toNat = 1 ↔ a.kind = 1#16 := by bv_omega
    have hchannel : a.pressure.isSome = decide (1 ≤ a.channel.toNat ∧ a.channel.toNat ≤ 4) := by
      unfold PlanAxle.pressure
      split <;> simp_all
    rw [Bool.eq_iff_iff]
    simp [PlanAxle.isAir, hkind, hchannel]
  have himp (c d : Prop) [Decidable c] [Decidable d] : (!decide c || decide d) = decide (c → d) := by
    by_cases c <;> simp_all
  simp only [PlanAxle.checks, hair, inRange, List.map_cons, List.map_nil, ← Bool.decide_and, himp, Nat.zero_le, true_and,
    and_assoc]

/-! ### The checks of R128 -/

/-- The first check of R128 that fails, with its outcome and detail; none when a RUN_PLAN passes them all. -/
def State.runPlanRefusal (s : State) : Option (ReqOutcome × Detail) :=
  if s.eng.mode ≠ .normal ∨ s.eng.loading = true then some (.refusedMode, .none)
  else if s.kindActive .driveTest then some (.refusedState, .testActive)
  else if s.kindActive .zero then some (.refusedState, .zeroActive)
  else if s.kindActive .calibrate then some (.refusedState, .calibrateActive)
  else if s.kindActive .compose then some (.refusedState, .composeActive)
  else (readPlan s.mem).firstBad.map (fun f => (.badParam, .param f))

/-- A RUN_PLAN in slot n is completed at once with an outcome and a detail (R128). -/
def State.refuseRunPlan (s : State) (n : Nat) (r : ReqOutcome × Detail) : State := s.completeKind n .runPlan r.1 r.2 []

/-- A RUN_PLAN that fails a check completes its slot with the outcome of the first one that fails (R128). -/
theorem State.takeRunPlan_refused (s : State) (n : Nat) (r : ReqOutcome × Detail) (h : s.runPlanRefusal = some r) :
    s.takeRunPlan n = s.refuseRunPlan n r := by
  unfold State.runPlanRefusal at h
  unfold State.takeRunPlan
  refine refused_step (s.refuseRunPlan n) (by rfl) h fun fromTest => ?_
  refine refused_step (s.refuseRunPlan n) (by rfl) fromTest fun fromZero => ?_
  refine refused_step (s.refuseRunPlan n) (by rfl) fromZero fun fromCalibrate => ?_
  refine refused_step (s.refuseRunPlan n) (by rfl) fromCalibrate fun fromCompose => ?_
  refine refused_step (s.refuseRunPlan n) (by rfl) fromCompose fun fromPlan => ?_
  obtain ⟨f, hf, rfl⟩ := Option.map_eq_some_iff.1 fromPlan
  simp only [hf]
  rfl

/-- The command RUN_PLAN takes the slot of a RUN_PLAN while none is ACTIVE (R198). -/
theorem exec_runPlan_takes (s : State) (n : Nat) (h : Takes s n 6) (hk : s.kindActive .runPlan = false) :
    exec .runPlan s = .next (publish s (s.takeRunPlan n)) := by
  rw [← onlyOne_of_not_active .runPlan State.takeRunPlan s n hk]
  exact exec_takingOf_takes .runPlan s n h

/-- Settles O18: the chain of checks, and the first failing flag of the plan's fields. -/
theorem runPlanRefusedInOrder : Obligations.RunPlanRefusedInOrder := by
  unfold Obligations.RunPlanRefusedInOrder
  refine ⟨fun s n _ hw ht hk => ?refused, fun m => ?fields⟩
  case refused =>
    intro refusal o d hr
    refine ⟨_, exec_runPlan_takes s n ht hk, ?_⟩
    rw [State.takeRunPlan_refused s n (o, d) hr]
    exact completedAlone s n 6 o d [] hw
  case fields =>
    intro p text general axle
    have hgeneral : general = p.generalChecks.map (fun c => c.2) := (Plan.generalChecks_flags p).symm
    have haxle : axle = fun a => (a.checks 0).map (fun c => c.2) := funext fun a => (PlanAxle.checks_words a).symm
    have hfirst := Plan.firstBad_eq p
    rw [← hgeneral, ← haxle] at hfirst
    refine ⟨fun k hk => ?general, fun hnone => ⟨fun k hk => ?axle, fun hf => ?passed⟩⟩
    case general => rw [hfirst, hk, Option.map_some, Option.some_or]
    case axle => rw [hfirst, hnone, hk, Option.map_none, Option.none_or, Option.map_some]
    case passed => rw [hfirst, hnone, hf, Option.map_none, Option.none_or, Option.map_none]

end Sys2Proof.Machine

/-! PROOFS. The journal of several entries (R202): what a sequence of productions leaves in the totals and in the ring, so that a
command with several entries is described by the list of them. -/

namespace Sys2Proof.Machine

set_option Elab.async false

/-! ## A list of entries in the journal -/

/-- What an entry says, beside its sequence number, its gap and its time (R211). -/
structure JournalEntry where
  code : Nat
  axle : Nat
  p1 : Word
  p2 : Word

/-- A journal in which n more entries are all written: those that do not fit the ring are dropped in BLOCKING mode alone (R202). -/
def Journal.fits (j : Journal) (n : Nat) : Prop := j.mode = .blocking → j.count + n ≤ 128

theorem Journal.fits_one (j : Journal) : j.fits 1 ↔ j.blocks = false := by
  rw [← Bool.not_eq_true, Journal.blocks_iff, Journal.fits]
  constructor
  · rintro h ⟨hc, hm⟩
    have := h hm
    omega
  · intro h hm
    have : ¬ 128 ≤ j.count := fun hc => h ⟨hc, hm⟩
    omega

theorem Journal.fits_mono {j : Journal} {m n : Nat} (h : j.fits n) (hmn : m ≤ n) : j.fits m := fun hm => by
  have := h hm
  omega

/-- Between two states a list of entries was produced, and nothing else touched the journal or its area (R202): the entries that fit
stand in the ring from the old put index on, the later ones with gap 0. -/
structure Logged (σ s : State) (l : List JournalEntry) : Prop where
  wf : Memory.wf σ.mem → Memory.wf s.mem
  time : s.time = σ.time
  mode : s.jr.mode = σ.jr.mode
  produced : s.jr.produced = σ.jr.produced + BitVec.ofNat 32 l.length
  stored : σ.jr.fits l.length → s.jr.stored = σ.jr.stored + BitVec.ofNat 32 l.length
  put : σ.jr.fits l.length → s.jr.put = σ.jr.put + BitVec.ofNat 8 l.length
  gap : σ.jr.fits l.length → s.jr.gap = if l = [] then σ.jr.gap else 0
  count : σ.jr.fits l.length → σ.jr.mode = .blocking → s.jr.count = σ.jr.count + l.length
  full : ¬ σ.jr.fits l.length → s.jr.blocks = true
  words : Memory.wf σ.mem → ∀ (i : Nat) (h : i < l.length), σ.jr.fits (i + 1) → l.length ≤ i + 128 →
    Memory.readWords s.mem (entryBase (σ.jr.put + BitVec.ofNat 8 i).toNat) 8
      = entryWords (lowWord (σ.jr.produced + BitVec.ofNat 32 (i + 1))) l[i].code l[i].axle (if i = 0 then σ.jr.gap else 0) σ.time
          l[i].p1 l[i].p2

theorem Logged.refl (s : State) : Logged s s [] where
  wf := id
  time := rfl
  mode := rfl
  produced := by simp
  stored _ := by simp
  put _ := by simp
  gap _ := by simp
  count _ _ := by simp
  full h := by
    rw [Journal.blocks_iff]
    simp only [Journal.fits, List.length_nil, Nat.add_zero, not_forall] at h
    obtain ⟨hm, hc⟩ := h
    exact ⟨by omega, hm⟩
  words _ i h := absurd h (by simp)

/-- An act beside the journal and its area keeps the list of entries. -/
theorem Logged.congr {σ s t : State} {l : List JournalEntry} (h : Logged σ s l) (hj : t.jr = s.jr) (ht : t.time = s.time)
    (hw : Memory.wf s.mem → Memory.wf t.mem)
    (hm : ∀ a, ringByte a → Memory.readByte t.mem a = Memory.readByte s.mem a) : Logged σ t l where
  wf := hw ∘ h.wf
  time := ht.trans h.time
  mode := hj ▸ h.mode
  produced := hj ▸ h.produced
  stored := hj ▸ h.stored
  put := hj ▸ h.put
  gap := hj ▸ h.gap
  count := hj ▸ h.count
  full := hj ▸ h.full
  words hwf i hi hf hl := by
    rw [← h.words hwf i hi hf hl]
    refine Memory.readWords_congr _ _ _ _ fun b h1 h2 => hm b ?_
    have := entryBase_range (σ.jr.put + BitVec.ofNat 8 i).toNat
    exact ⟨by omega, by omega⟩

/-- An act that leaves lane memory and the journal alone. -/
theorem Logged.same {σ s t : State} {l : List JournalEntry} (h : Logged σ s l) (hm : t.mem = s.mem := by simp)
    (hj : t.jr = s.jr := by simp) (ht : t.time = s.time := by simp) : Logged σ t l :=
  h.congr hj ht (fun hw => hm ▸ hw) fun _ _ => by rw [hm]

/-- The entries before the last stay where they are: the last is written to another position of the ring. -/
theorem nextEntry_other (put : BitVec 8) {i n b : Nat} (hi : i < n) (hn : n + 1 ≤ i + 128)
    (h1 : entryBase (put + BitVec.ofNat 8 i).toNat ≤ b) (h2 : b < entryBase (put + BitVec.ofNat 8 i).toNat + 16)
    (h3 : entryBase (put + BitVec.ofNat 8 n).toNat ≤ b) (h4 : b < entryBase (put + BitVec.ofNat 8 n).toNat + 16) : False := by
  simp only [entryBase, BitVec.toNat_add, BitVec.toNat_ofNat] at h1 h2 h3 h4
  omega

/-- One more entry is produced (R202). -/
theorem Logged.produce {σ s : State} {l : List JournalEntry} (h : Logged σ s l) (code axle : Nat) (p1 p2 : Word) :
    Logged σ (s.produce code axle p1 p2) (l ++ [⟨code, axle, p1, p2⟩]) := by
  have hlen : (l ++ [(⟨code, axle, p1, p2⟩ : JournalEntry)]).length = l.length + 1 := by simp
  have next : σ.jr.fits (l.length + 1) → s.jr.blocks = false := by
    intro hf
    rw [← Journal.fits_one]
    intro hm
    have hm' : σ.jr.mode = .blocking := h.mode ▸ hm
    have := h.count (Journal.fits_mono hf (by omega)) hm'
    have := hf hm'
    omega
  have jr : σ.jr.fits (l.length + 1) → (s.produce code axle p1 p2).jr = { s.jr.written (decide (128 ≤ s.jr.count)) with
      staleTimer := if s.jr.count = 0 then s.staleLoad else s.jr.staleTimer } := by
    intro hf
    rw [State.produce_jr, if_neg (by simp [next hf])]
  refine ⟨State.produce_wf s _ _ _ _ ∘ h.wf, by simpa using h.time, (State.produce_mode s _ _ _ _).trans h.mode, ?produced, ?stored,
    ?put, ?gap, ?count, ?full, ?words⟩
  case produced =>
    rw [State.produce_produced, h.produced, hlen, BitVec.ofNat_add, BitVec.add_assoc]
    rfl
  case stored =>
    rw [hlen]
    intro hf
    rw [jr hf, BitVec.ofNat_add, ← BitVec.add_assoc, ← h.stored (Journal.fits_mono hf (by omega))]
    rfl
  case put =>
    rw [hlen]
    intro hf
    rw [jr hf, BitVec.ofNat_add, ← BitVec.add_assoc, ← h.put (Journal.fits_mono hf (by omega))]
    rfl
  case gap =>
    rw [hlen]
    intro hf
    rw [jr hf]
    simp [Journal.written]
  case count =>
    rw [hlen]
    intro hf hm
    have hc := h.count (Journal.fits_mono hf (by omega)) hm
    have hroom : s.jr.count < 128 := by
      have := hf hm
      omega
    rw [jr hf, decide_eq_false (by omega)]
    exact (Journal.count_written_room s.jr hroom).trans (by omega)
  case full =>
    rw [hlen]
    intro hf
    have blocked : s.jr.blocks = true := by
      by_contra hb
      have hb' : s.jr.blocks = false := by simpa using hb
      by_cases hl : σ.jr.fits l.length
      · refine hf fun hm => ?_
        have hc := h.count hl hm
        have := (Journal.fits_one s.jr).2 hb' (h.mode.trans hm)
        omega
      · exact hb (h.full hl)
    rw [State.produce_jr, if_pos blocked]
    exact blocked
  case words =>
    intro hw i hi hf hl
    rw [hlen] at hl
    have hws := h.wf hw
    rcases Nat.lt_or_ge i l.length with hil | hil
    · have hold := h.words hw i hil hf (by omega)
      rw [List.getElem_append_left hil, ← hold]
      by_cases hb : s.jr.blocks = true
      · rw [State.produce_mem_of_blocks s _ _ _ _ hb]
      · have hfl : σ.jr.fits l.length := by
          by_contra hn
          exact hb (h.full hn)
        refine Memory.readWords_congr _ _ _ _ fun b h1 h2 => State.produce_readByte s _ _ _ _ b ?_
        rintro ⟨h3, h4⟩
        rw [h.put hfl] at h3 h4
        exact nextEntry_other σ.jr.put hil hl h1 (by omega) h3 h4
    · have hi' : i = l.length := by omega
      subst hi'
      have hfl := Journal.fits_mono hf (Nat.le_succ l.length)
      obtain ⟨-, hm⟩ := entryMade_produce s s (s.produce code axle p1 p2) code axle p1 p2 rfl rfl hws rfl fun _ _ => rfl
      obtain ⟨-, -, hwords⟩ := hm (next hf)
      have hseq : s.jr.produced + 1 = σ.jr.produced + BitVec.ofNat 32 (l.length + 1) := by
        rw [h.produced, BitVec.ofNat_add, ← BitVec.add_assoc]
        rfl
      rw [h.put hfl, hseq, h.gap hfl, h.time] at hwords
      rw [hwords, List.getElem_concat_length rfl]
      cases l <;> rfl

/-! ## What a list of entries says of the first, and of the only one -/

/-- One entry produced, and no other (R202). -/
theorem Logged.entryMade {s t : State} {code axle : Nat} {p1 p2 : Word} (h : Logged s t [⟨code, axle, p1, p2⟩])
    (hw : Memory.wf s.mem) : EntryMade s t code axle p1 p2 := by
  refine ⟨h.produced, fun hb => ?_⟩
  have hf : s.jr.fits 1 := (Journal.fits_one s.jr).2 hb
  refine ⟨h.stored hf, h.put hf, ?_⟩
  simpa using h.words hw 0 (by simp) hf (by simp)

/-- The first entry of a list stands at the old put index unless the ring is full (R202). -/
theorem Logged.first {s t : State} {code axle : Nat} {p1 p2 : Word} {l : List JournalEntry}
    (h : Logged s t (⟨code, axle, p1, p2⟩ :: l)) (hl : l.length ≤ 127) (hw : Memory.wf s.mem) (hb : s.jr.blocks = false) :
    Memory.readWords t.mem (entryBase s.jr.put.toNat) 8
      = entryWords (lowWord (s.jr.produced + 1)) code axle s.jr.gap s.time p1 p2 := by
  have := h.words hw 0 (by simp) ((Journal.fits_one s.jr).2 hb) (by simp; omega)
  rw [BitVec.add_zero] at this
  exact this

/-! ## The model's acts -/

theorem Logged.publish {σ s : State} {l : List JournalEntry} (h : Logged σ s l) (old : State) : Logged σ (publish old s) l :=
  h.congr (by simp) (by simp) (publish_wf old s) fun a ha => publish_readByte old s a (ringByte_not_image a ha)

theorem Logged.produceHere {σ s : State} {l : List JournalEntry} (h : Logged σ s l) (code : Nat) (p1 p2 : Word) :
    Logged σ (s.produceHere code p1 p2) (l ++ [⟨code, s.planAxleNumber, p1, p2⟩]) := h.produce code s.planAxleNumber p1 p2

/-- Words written outside the journal area keep the list of entries. -/
theorem Logged.setMem_writeWord {σ s : State} {l : List JournalEntry} (h : Logged σ s l) (a : Nat) (w : Word)
    (ha : a + 2 ≤ 0x1240 ∨ 0x1A40 ≤ a := by simp) : Logged σ (s.setMem (Memory.writeWord s.mem a w)) l :=
  h.congr rfl rfl (fun hw => Memory.wf_writeWord _ hw _ _) fun b hb =>
    Memory.readByte_writeWord _ _ _ _ (by unfold ringByte at hb; omega)

theorem Logged.setMem_writeWords {σ s : State} {l : List JournalEntry} (h : Logged σ s l) (a : Nat) (ws : List Word)
    (ha : a + 2 * ws.length ≤ 0x1240 ∨ 0x1A40 ≤ a) : Logged σ (s.setMem (Memory.writeWords s.mem a ws)) l :=
  h.congr rfl rfl (fun hw => Memory.wf_writeWords _ _ hw _) fun b hb =>
    Memory.readByte_writeWords _ _ _ _ (by unfold ringByte at hb; omega)

theorem Logged.putSeq {σ s : State} {l : List JournalEntry} (h : Logged σ s l) (x : Sequencer) : Logged σ (s.putSeq x) l :=
  (h.setMem_writeWord 0x0002 (word (codeOfSeq x.state))).same rfl rfl rfl

theorem Logged.finishSlot {σ s : State} {l : List JournalEntry} (h : Logged σ s l) (n : Nat) (o : ReqOutcome) (d : Detail)
    (r : List Word) : Logged σ (s.finishSlot n o d r) l :=
  h.congr (by simp) (by simp) (State.finishSlot_wf s n o d r) fun a ha =>
    State.finishSlot_readByte s n o d r a fun hs => slotByte_not_ring n a hs ha

theorem Logged.complete {σ s : State} {l : List JournalEntry} (h : Logged σ s l) (n k : Nat) (o : ReqOutcome) (d : Detail)
    (r : List Word) : Logged σ (s.complete n k o d r)
      (l ++ [⟨evRequestDone, 0, bytePair n k, bytePair (codeOfDetail d) (codeOfOutcome o)⟩]) :=
  ((h.finishSlot n o d r).produce evRequestDone 0 _ _).same (by simp [State.complete]) (by simp [State.complete]) (by simp)

theorem Logged.activate {σ s : State} {l : List JournalEntry} (h : Logged σ s l) (n : Nat) (k : Kind) :
    Logged σ (s.activate n k) l :=
  h.congr (by simp) (by simp) (State.activate_wf s n k) fun a ha =>
    State.activate_readByte s n k a fun hs => slotByte_not_ring n a hs ha

end Sys2Proof.Machine

/-! PROOFS. A change of sequencer state, the drive's entries and the frame that follows an event (R41, R130, R156): what each leaves in
every part and which entry it makes. -/

namespace Sys2Proof.Machine

set_option Elab.async false

/-! ## A change of sequencer state (R130) -/

/-- The sequencer's own fields after a change of state: the held exit is cleared by an entry into APPROACH (R139). -/
def Sequencer.entered (q : Sequencer) (n : SeqState) : Sequencer :=
  { q with state := n, heldExit := if n = .approach then .none else q.heldExit }

/-- The state in which the SEQ_STATE entry of a change is made: all but the entry and ATTN.LANE (R130). -/
def State.changeSeq (s : State) (n : SeqState) : State :=
  let t := s.putSeq (s.seq.entered n)
  let t := if isRunState s.seq.state && !isRunState n then t.lapseRepeat else t
  if isPlanState n then t else t.discardCrossing

theorem State.enterSeq_of_eq (s : State) (n : SeqState) (h : s.seq.state = n) : s.enterSeq n = s := if_pos h

theorem State.enterSeq_eq (s : State) (n : SeqState) (h : s.seq.state ≠ n) :
    s.enterSeq n =
      let t := (s.changeSeq n).produceHere evSeqState (word (codeOfSeq n)) (word (codeOfSeq s.seq.state))
      if raisesLane n then t.raiseAttn attnLane else t := by
  simp only [State.enterSeq, if_neg h, State.changeSeq, Sequencer.entered]

@[simp] theorem State.changeSeq_seq (s : State) (n : SeqState) : (s.changeSeq n).seq = s.seq.entered n := by
  simp only [State.changeSeq]
  split <;> split <;> simp [Sequencer.entered]

theorem State.changeSeq_kept (s : State) (n : SeqState) : KeepsAllBut [.mem, .plate, .seq, .disp] s (s.changeSeq n) := by
  intro p hp
  simp only [State.changeSeq]
  cases p <;> split <;> split <;> simp_all [Part.same]

theorem State.changeSeq_mem (s : State) (n : SeqState) : (s.changeSeq n).mem = (s.putSeq (s.seq.entered n)).mem := by
  simp only [State.changeSeq]
  split <;> split <;> simp

theorem State.changeSeq_disp (s : State) (n : SeqState) : (s.changeSeq n).disp =
    if isRunState s.seq.state = true ∧ isRunState n = false then { s.disp with repeatMark := none } else s.disp := by
  simp only [State.changeSeq]
  cases isRunState s.seq.state <;> cases isRunState n <;> cases isPlanState n <;> simp [State.lapseRepeat]

theorem State.changeSeq_plate (s : State) (n : SeqState) : (s.changeSeq n).plate =
    if isPlanState n = true then s.plate else { s.plate with crossing := .idle, follower := false } := by
  simp only [State.changeSeq]
  cases isRunState s.seq.state <;> cases isRunState n <;> cases isPlanState n <;> simp [State.discardCrossing]

@[simp] theorem State.planAxleNumber_changeSeq (s : State) (n : SeqState) : (s.changeSeq n).planAxleNumber = s.planAxleNumber := by
  have hs : (s.changeSeq n).slots = s.slots := State.changeSeq_kept s n .slots (by simp)
  have ht : (s.changeSeq n).tab = s.tab := State.changeSeq_kept s n .tab (by simp)
  simp [State.planAxleNumber, State.kindActive, hs, ht]

/-- Who the sequencer is after a change of state, the state it was in included. -/
theorem State.enterSeq_seq (s : State) (n : SeqState) :
    (s.enterSeq n).seq = if s.seq.state = n then s.seq else s.seq.entered n := by
  by_cases h : s.seq.state = n
  · simp [State.enterSeq_of_eq s n h, h]
  · rw [State.enterSeq_eq s n h, if_neg h]
    simp only
    split <;> simp

@[simp] theorem State.enterSeq_state (s : State) (n : SeqState) : (s.enterSeq n).seq.state = n := by
  rw [State.enterSeq_seq]
  split
  · assumption
  · rfl

/-- A change of state that leaves the run states ends the repeat mark (R161). -/
theorem State.enterSeq_disp (s : State) (n : SeqState) : (s.enterSeq n).disp =
    if isRunState s.seq.state = true ∧ isRunState n = false then { s.disp with repeatMark := none } else s.disp := by
  by_cases h : s.seq.state = n
  · rw [State.enterSeq_of_eq s n h, h]
    cases isRunState n <;> simp
  · rw [← State.changeSeq_disp, State.enterSeq_eq s n h]
    simp only
    split <;> simp

/-- An entry into COMPLETE, ABORTED or IDLE discards the open crossing, and any other leaves the plate unit alone (R114). -/
theorem State.enterSeq_plate (s : State) (n : SeqState) (h : s.seq.state ≠ n) : (s.enterSeq n).plate =
    if isPlanState n = true then s.plate else { s.plate with crossing := .idle, follower := false } := by
  rw [← State.changeSeq_plate, State.enterSeq_eq s n h]
  simp only
  split <;> simp

theorem State.enterSeq_plate_of_plan (s : State) (n : SeqState) (hn : isPlanState n = true) : (s.enterSeq n).plate = s.plate := by
  by_cases h : s.seq.state = n
  · rw [State.enterSeq_of_eq s n h]
  · rw [State.enterSeq_plate s n h, if_pos hn]

/-- ATTN.LANE at an entry into COMPLETE, ABORTED or PAUSED (R130). -/
theorem State.enterSeq_lane (s : State) (n : SeqState) (h : s.seq.state ≠ n) (hn : raisesLane n = true) :
    (s.enterSeq n).att.bits.getLsbD 5 = true := by
  rw [State.enterSeq_eq s n h]
  simp [hn, State.raiseAttn, State.setAttn, attnLane]

theorem State.enterSeq_keepsAllBut (s : State) (n : SeqState) :
    KeepsAllBut [.mem, .jr, .att, .plate, .seq, .disp] s (s.enterSeq n) := fun p hp => by
  cases p <;> simp_all [Part.same]

/-- The entry of a change of sequencer state (R130). -/
def seqEntry (s : State) (n : SeqState) : JournalEntry :=
  ⟨evSeqState, s.planAxleNumber, word (codeOfSeq n), word (codeOfSeq s.seq.state)⟩

theorem Logged.changeSeq {σ s : State} {l : List JournalEntry} (h : Logged σ s l) (n : SeqState) : Logged σ (s.changeSeq n) l :=
  (h.putSeq (s.seq.entered n)).same (State.changeSeq_mem s n) ((State.changeSeq_kept s n .jr (by simp)).trans (by simp))
    ((State.changeSeq_kept s n .time (by simp)).trans (by simp))

theorem Logged.enterSeq {σ s : State} {l : List JournalEntry} (h : Logged σ s l) (n : SeqState) (hn : s.seq.state ≠ n) :
    Logged σ (s.enterSeq n) (l ++ [seqEntry s n]) := by
  have made := (h.changeSeq n).produceHere evSeqState (word (codeOfSeq n)) (word (codeOfSeq s.seq.state))
  rw [State.planAxleNumber_changeSeq] at made
  rw [State.enterSeq_eq s n hn]
  simp only
  split
  · exact made.same
  · exact made

theorem State.enterSeq_wf (s : State) (n : SeqState) (h : Memory.wf s.mem) : Memory.wf (s.enterSeq n).mem := by
  by_cases hn : s.seq.state = n
  · rwa [State.enterSeq_of_eq s n hn]
  · exact ((Logged.refl s).enterSeq n hn).wf h

/-- Lane memory outside the sequencer's word and the journal area is left alone by a change of state (R130, R196). -/
theorem State.enterSeq_readByte (s : State) (n : SeqState) (a : Nat) (h : ¬ seqByte a) (hr : ¬ ringByte a) :
    Memory.readByte (s.enterSeq n).mem a = Memory.readByte s.mem a := by
  by_cases hn : s.seq.state = n
  · rw [State.enterSeq_of_eq s n hn]
  · have hc : Memory.readByte (s.changeSeq n).mem a = Memory.readByte s.mem a := by
      rw [State.changeSeq_mem]
      exact State.putSeq_readByte s _ a (by unfold seqByte at h; omega)
    rw [← hc, State.enterSeq_eq s n hn]
    simp only
    have hp := State.produce_readByte (s.changeSeq n) evSeqState (s.changeSeq n).planAxleNumber (word (codeOfSeq n))
      (word (codeOfSeq s.seq.state)) a fun hb => hr (nextEntryByte_ring _ a hb)
    split
    · rw [State.raiseAttn_mem]
      exact hp
    · exact hp

/-! ## Frames and reloads of the refresh timer (R156, R157) -/

theorem Logged.frameAfter {σ s : State} {l : List JournalEntry} (h : Logged σ s l) (old : State) :
    Logged σ (frameAfter old s) l := h.same

theorem frameAfter_keepsAllBut (old s : State) : KeepsAllBut [.disp] s (frameAfter old s) := fun p hp => by
  cases p <;> simp_all [Part.same]

/-- No frame falls due where the sequencer state, the refusal and the offer are as they were (R156). -/
theorem frameAfter_of_seq {old new : State} (h : new.seq = old.seq) : frameAfter old new = new := by
  simp [Machine.frameAfter, h]

/-- A reload where the period changes, of a timer that runs (R157, R162). -/
theorem State.reloadRefresh_disp (s : State) : s.reloadRefresh.disp =
    if s.disp.refresh = none ∨ s.disp.period = refreshPeriod s.drv.state then s.disp
    else { s.disp with refresh := some (s.clk.ms + refreshPeriod s.drv.state), period := refreshPeriod s.drv.state } := by
  unfold State.reloadRefresh
  cases s.disp.refresh <;> by_cases h : s.disp.period = refreshPeriod s.drv.state <;>
    simp [h, State.loadRefresh, State.timerIn]

/-! ## The drive's entries (R41) -/

/-- The axle number of an entry depends on the slots and the table alone (R30). -/
theorem State.planAxleNumber_congr {s t : State} (hs : t.slots = s.slots) (ht : t.tab = s.tab) :
    t.planAxleNumber = s.planAxleNumber := by
  simp [State.planAxleNumber, State.kindActive, hs, ht]

theorem State.kindActive_congr {s t : State} (hs : t.slots = s.slots) (k : Kind) : t.kindActive k = s.kindActive k := by
  simp [State.kindActive, hs]

/-- The DRIVE_STATE entry of a drive state (R41). -/
def driveEntryOf (s : State) (d : DriveState) (p2 : Word) : JournalEntry :=
  ⟨evDriveState, s.planAxleNumber, word (codeOfDrive d), p2⟩

theorem Logged.driveEntry {σ s : State} {l : List JournalEntry} (h : Logged σ s l) (p2 : Word) :
    Logged σ (s.driveEntry p2) (l ++ [driveEntryOf s s.drv.state p2]) := h.produceHere evDriveState _ p2

theorem Logged.startDrive {σ s : State} {l : List JournalEntry} (h : Logged σ s l) (o : Owner) (m : DirMode) (k : Nat) :
    Logged σ (s.startDrive o m k) (l ++ [driveEntryOf s .spinup (bytePair (codeOfOwner o) (codeOfDirMode m))]) := by
  have made := (h.same (t := (s.setDrv { s.drv with
    state := .spinup, energised := true, dirL := .forward, dirR := if m = .contra then .reverse else .forward
    owner := some o, slipLimit := k, spinupCount := 0, overL := 0, overR := 0, lowL := 0, lowR := 0 }).reloadRefresh)).driveEntry
    (bytePair (codeOfOwner o) (codeOfDirMode m))
  rw [driveEntryOf, State.planAxleNumber_congr (s := s) (by simp) (by simp)] at made
  simpa [State.startDrive, driveEntryOf] using made

theorem Logged.enterStopping {σ s : State} {l : List JournalEntry} (h : Logged σ s l) (r : StopReason) :
    Logged σ (s.enterStopping r) (l ++ [driveEntryOf s .stopping (word (codeOfStop r))]) := by
  have made := (h.same (t := (s.setDrv { s.drv with
    state := .stopping, energised := false, stopReason := some r, estopSeen := false, restCount := 0,
    stopCount := 0 }).reloadRefresh)).driveEntry (word (codeOfStop r))
  rw [driveEntryOf, State.planAxleNumber_congr (s := s) (by simp) (by simp)] at made
  simpa [State.enterStopping, driveEntryOf] using made

theorem State.startDrive_disp (s : State) (o : Owner) (m : DirMode) (k : Nat) : (s.startDrive o m k).disp =
    if s.disp.refresh = none ∨ s.disp.period = 200 then s.disp
    else { s.disp with refresh := some (s.clk.ms + 200), period := 200 } := by
  simp [State.startDrive, State.driveEntry, State.reloadRefresh_disp, refreshPeriod]
  rfl

theorem State.startDrive_drv (s : State) (o : Owner) (m : DirMode) (k : Nat) : (s.startDrive o m k).drv = { s.drv with
    state := .spinup, energised := true, dirL := .forward, dirR := if m = .contra then .reverse else .forward
    owner := some o, slipLimit := k, spinupCount := 0, overL := 0, overR := 0, lowL := 0, lowR := 0 } := by
  simp [State.startDrive]

theorem State.enterStopping_drv (s : State) (r : StopReason) : (s.enterStopping r).drv = { s.drv with
    state := .stopping, energised := false, stopReason := some r, estopSeen := false, restCount := 0, stopCount := 0 } := by
  simp [State.enterStopping]

theorem State.enterStopping_disp (s : State) (r : StopReason) : (s.enterStopping r).disp =
    if s.disp.refresh = none ∨ s.disp.period = 1000 then s.disp
    else { s.disp with refresh := some (s.clk.ms + 1000), period := 1000 } := by
  simp [State.enterStopping, State.driveEntry, State.reloadRefresh_disp, refreshPeriod]
  rfl

end Sys2Proof.Machine

/-! PROOFS. RUN_PLAN and DRIVE_TEST (R33, R34, R42, R64, R129): the table that opens, the checks of DRIVE_TEST, and the spin that starts. -/

namespace Sys2Proof.Machine

set_option Elab.async false

/-! ## Slots that become ACTIVE -/

theorem slotByte_not_seq (n a : Nat) (h : slotByte n a) : ¬ seqByte a := by
  unfold slotByte slotBase at h
  unfold seqByte
  omega

/-- A start and a stop of the drive write the ring alone (R41). -/
theorem State.driveEntry_readByte (s : State) (p2 : Word) (a : Nat) (h : ¬ ringByte a) :
    Memory.readByte (s.driveEntry p2).mem a = Memory.readByte s.mem a :=
  State.produce_readByte s _ _ _ _ a fun hb => h (nextEntryByte_ring _ a hb)

theorem State.startDrive_readByte (s : State) (o : Owner) (m : DirMode) (k a : Nat) (h : ¬ ringByte a) :
    Memory.readByte (s.startDrive o m k).mem a = Memory.readByte s.mem a := by
  simp only [State.startDrive]
  rw [State.driveEntry_readByte _ _ a h]
  simp

theorem State.kindActive_activate (s : State) (n : Nat) (k : Kind) (hn : n < s.slots.length) :
    (s.activate n k).kindActive k = true := by
  simp only [State.kindActive, State.activate, State.setHeld, State.setMem_slots, State.setSlots_slots]
  exact List.any_eq_true.2 ⟨.active k, List.mem_set hn _, by simp⟩

/-- A slot that becomes ACTIVE makes no request of another kind ACTIVE. -/
theorem State.kindActive_activate_of_ne (s : State) (n : Nat) {k k' : Kind} (hk : k ≠ k') (h : s.kindActive k' = false) :
    (s.activate n k).kindActive k' = false := by
  simp only [State.kindActive, State.activate, State.setHeld, State.setMem_slots, State.setSlots_slots] at *
  rw [List.any_eq_false] at *
  intro x hx
  rcases List.mem_or_eq_of_mem_set hx with hx | rfl
  · exact h x hx
  · simpa using hk

theorem State.rewriteTable_wf (s : State) (h : Memory.wf s.mem) : Memory.wf s.rewriteTable.mem := by
  simp only [State.rewriteTable, State.setMem_mem]
  exact Memory.wf_writeWords _ _ h _

/-! ## A RUN_PLAN that passes (R64, R129) -/

/-- The state with the table opened and the slot ACTIVE, in which APPROACH is entered (R129). -/
def State.openedPlan (s : State) (n : Nat) (p : Plan) : State :=
  (((s.setTab (openedTable p (readLimits s.mem p.limitsRow.toNat) s.tab.runId)).rewriteTable).setSeq
    (Sequencer.cleared s.seq.state)).activate n .runPlan

theorem State.openPlan_eq (s : State) (n : Nat) (p : Plan) :
    s.openPlan n p = frameAfter (s.openedPlan n p) ((s.openedPlan n p).enterSeq .approach) := by
  simp only [State.openPlan, State.openedPlan, State.rewriteTable_frame, State.setTab_seq]

theorem State.openedPlan_kept (s : State) (n : Nat) (p : Plan) :
    KeepsAllBut [.mem, .tab, .seq, .slots] s (s.openedPlan n p) := fun q hq => by
  cases q <;> simp_all [Part.same, State.openedPlan]

theorem State.openedPlan_logged (s : State) (n : Nat) (p : Plan) : Logged s (s.openedPlan n p) [] := by
  have opened : Logged s (s.setTab (openedTable p (readLimits s.mem p.limitsRow.toNat) s.tab.runId)) [] :=
    (Logged.refl s).same
  have written : Logged s (s.setTab (openedTable p (readLimits s.mem p.limitsRow.toNat) s.tab.runId)).rewriteTable [] :=
    opened.setMem_writeWords 0x0900 _ (by simp)
  exact (written.same (t := State.setSeq _ (Sequencer.cleared s.seq.state))).activate n .runPlan

theorem State.openedPlan_active (s : State) (n : Nat) (p : Plan) (hn : n < s.slots.length) (hw : Memory.wf s.mem) :
    BecameActive s (s.openedPlan n p) n .runPlan := by
  refine State.activate_active s _ n .runPlan (by simp) hn ?_
  rw [State.setSeq_mem]
  exact State.rewriteTable_wf _ hw

/-- The axle number of the entry into APPROACH (R30). -/
theorem State.openedPlan_axle (s : State) (n : Nat) (p : Plan) (hn : n < s.slots.length) (hcount : 1 ≤ p.axleCount.toNat) :
    (s.openedPlan n p).planAxleNumber = 1 := by
  have hactive : (s.openedPlan n p).kindActive .runPlan = true := State.kindActive_activate _ n .runPlan (by simpa using hn)
  have htab : (s.openedPlan n p).tab = openedTable p (readLimits s.mem p.limitsRow.toNat) s.tab.runId := by
    simp [State.openedPlan]
  rw [State.planAxleNumber, hactive, htab]
  exact if_pos (decide_eq_true (Nat.lt_of_lt_of_le Nat.zero_lt_one hcount))

theorem openedTable_record (p : Plan) (l : LimitsRow) (i k : Nat) (hk : k < 8) :
    (openedTable p l i).records.getD k (AxleRecord.cleared .empty)
      = AxleRecord.cleared (if k < p.axleCount.toNat then .pending else .empty) := by
  simp [openedTable, hk]

theorem openedTable_runId (p : Plan) (l : LimitsRow) (i : Nat) :
    (openedTable p l i).runId = if 65535 ≤ i then 1 else i + 1 := by
  simp only [openedTable, nextRunId]

theorem State.takeRunPlan_passed (s : State) (n : Nat) (hm : s.eng.mode = .normal) (hl : s.eng.loading = false)
    (ht : s.kindActive .driveTest = false) (hz : s.kindActive .zero = false) (hc : s.kindActive .calibrate = false)
    (hk : s.kindActive .compose = false) (hb : (readPlan s.mem).firstBad = none) :
    s.takeRunPlan n = s.openPlan n (readPlan s.mem) := by
  simp [State.takeRunPlan, hm, hl, ht, hz, hc, hk, hb]

/-- Settles O19: the table opens, the slot becomes ACTIVE, and the sequencer enters APPROACH with the first axle under its cursor. -/
theorem runPlanOpensTheTable : Obligations.RunPlanOpensTheTable := by
  unfold Obligations.RunPlanOpensTheTable
  intro s n hs hw ht hk hm hl htest hz hc hcomp hb hq p
  have hn : n < s.slots.length := State.lowestPosted_lt s n ht.1
  obtain ⟨hcount, -⟩ := Plan.axleCount_of_firstBad p hb
  have hstate : (s.openedPlan n p).seq = Sequencer.cleared s.seq.state := by simp [State.openedPlan]
  have hentry : (s.openedPlan n p).seq.state ≠ .approach := by
    rw [hstate]
    intro h
    rw [show s.seq.state = .approach from h] at hq
    simp [isPlanState] at hq
  have htab (v : SeqState) : (publish s (frameAfter (s.openedPlan n p) ((s.openedPlan n p).enterSeq v))).tab
      = openedTable p (readLimits s.mem p.limitsRow.toNat) s.tab.runId := by simp [State.openedPlan]
  have hactive := s.openedPlan_active n p hn hw
  have hlog := ((s.openedPlan_logged n p).enterSeq .approach hentry).frameAfter (s.openedPlan n p) |>.publish s
  refine ⟨_, exec_runPlan_takes s n ht hk, ?_⟩
  rw [show s.takeRunPlan n = s.openPlan n p from State.takeRunPlan_passed s n hm hl htest hz hc hcomp hb, State.openPlan_eq]
  clear_value p
  refine ⟨by rw [htab, openedTable], by rw [htab, openedTable], by rw [htab, openedTable], by rw [htab, openedTable_runId],
    by rw [htab, openedTable], by rw [htab, openedTable], by rw [htab, openedTable], fun k hk8 => ?_, ?_, ?_, ?_, ?_⟩
  · rw [State.record, htab, openedTable_record _ _ _ _ hk8]
  · simp [State.enterSeq_seq, hstate, Sequencer.entered, Sequencer.cleared]
  · refine BecameActive.publish s (hactive.congr (by simp) fun a ha => ?_)
    have hframe := (frameAfter_keepsAllBut (s.openedPlan n p) ((s.openedPlan n p).enterSeq .approach)) .mem (by simp)
    rw [show State.mem _ = _ from hframe]
    exact State.enterSeq_readByte (s.openedPlan n p) .approach a (slotByte_not_seq n a ha) (slotByte_not_ring n a ha)
  · have haxle := s.openedPlan_axle n p hn hcount
    rw [List.nil_append, seqEntry, haxle, hstate] at hlog
    exact hlog.entryMade hw
  · have hopen := s.openedPlan_kept n p
    have henter := State.enterSeq_keepsAllBut (s.openedPlan n p) .approach
    have hplate := State.enterSeq_plate_of_plan (s.openedPlan n p) .approach rfl
    intro q hq
    have h1 := hopen q
    cases q <;> simp_all [Part.same]

/-! ## DRIVE_TEST (R33, R42) -/

/-- The first check of R42 that fails, with its outcome and detail; none when a DRIVE_TEST passes them all. -/
def State.driveTestRefusal (s : State) (n : Nat) : Option (ReqOutcome × Detail) :=
  if s.kindActive .runPlan then some (.refusedState, .planActive)
  else if s.kindActive .zero then some (.refusedState, .zeroActive)
  else if !inRange 1000 60000 (s.param n 0).toNat then some (.badParam, .param 1)
  else if 1 < (s.param n 1).toNat then some (.badParam, .param 2)
  else if !((s.param n 2).toNat == 0 || inRange 10 40 (s.param n 2).toNat) then some (.badParam, .param 3)
  else s.startRefusal.map (fun r => if r = .mode then (.refusedMode, .mode) else (.refusedState, detailOfRefusal r))

/-- A DRIVE_TEST in slot n is completed at once with an outcome and a detail (R42). -/
def State.refuseDriveTest (s : State) (n : Nat) (r : ReqOutcome × Detail) : State := s.completeKind n .driveTest r.1 r.2 []

/-- A DRIVE_TEST that fails a check completes its slot with the outcome of the first one that fails (R42). -/
theorem State.takeDriveTest_refused (s : State) (n : Nat) (r : ReqOutcome × Detail) (h : s.driveTestRefusal n = some r) :
    s.takeDriveTest n = s.refuseDriveTest n r := by
  unfold State.driveTestRefusal at h
  unfold State.takeDriveTest
  refine refused_step (s.refuseDriveTest n) (by rfl) h fun fromZero => ?_
  refine refused_step (s.refuseDriveTest n) (by rfl) fromZero fun fromDuration => ?_
  refine refused_step (s.refuseDriveTest n) (by rfl) fromDuration fun fromDir => ?_
  refine refused_step (s.refuseDriveTest n) (by rfl) fromDir fun fromSlip => ?_
  refine refused_step (s.refuseDriveTest n) (by rfl) fromSlip fun fromStart => ?_
  obtain ⟨refusal, hr, rfl⟩ := Option.map_eq_some_iff.1 fromStart
  simp only [hr]
  cases refusal <;> rfl

theorem exec_driveTest_takes (s : State) (n : Nat) (h : Takes s n 7) (hk : s.kindActive .driveTest = false) :
    exec .driveTest s = .next (publish s (s.takeDriveTest n)) := by
  rw [← onlyOne_of_not_active .driveTest State.takeDriveTest s n hk]
  exact exec_takingOf_takes .driveTest s n h

/-- Settles O20: the checks of R42 and after them those of R33, each with its outcome. -/
theorem driveTestRefusedInOrder : Obligations.DriveTestRefusedInOrder := by
  unfold Obligations.DriveTestRefusedInOrder
  intro s n _ hw ht hk duration dir slip hduration hdir hslip refusal o d hr
  have hrefusal : s.driveTestRefusal n = refusal := by
    subst hduration hdir hslip
    simp only [State.driveTestRefusal, State.startRefusal, apply_ite (Option.map _), Option.map_some, Option.map_none]
    rfl
  refine ⟨_, exec_driveTest_takes s n ht hk, ?_⟩
  rw [State.takeDriveTest_refused s n (o, d) (hrefusal.trans hr)]
  exact completedAlone s n 7 o d [] hw

/-- The state in which the spin of the DRIVE_TEST in slot n starts: the test noted and its slot ACTIVE (R42). -/
def State.notedTest (s : State) (n : Nat) : State :=
  (s.setDtest (some ⟨n, (s.param n 0).toNat, none, none⟩)).activate n .driveTest

theorem State.takeDriveTest_passed (s : State) (n : Nat) (hp : s.kindActive .runPlan = false) (hz : s.kindActive .zero = false)
    (hduration : inRange 1000 60000 (s.param n 0).toNat = true) (hdir : (s.param n 1).toNat ≤ 1)
    (hslip : ((s.param n 2).toNat == 0 || inRange 10 40 (s.param n 2).toNat) = true) (hstart : s.startRefusal = none) :
    s.takeDriveTest n = (s.notedTest n).startDrive .driveTest (if (s.param n 1).toNat = 1 then .contra else .normal)
      (if (s.param n 2).toNat = 0 then 30 else (s.param n 2).toNat) := by
  simp only [State.takeDriveTest, hp, hz, hduration, hslip, hstart, State.notedTest, Bool.not_true, Bool.false_eq_true, if_false,
    if_neg (Nat.not_lt.2 hdir)]

/-- Settles O21: the start is taken on the state with the test noted, and makes the one entry of SPINUP. -/
theorem driveTestStartsASpin : Obligations.DriveTestStartsASpin := by
  unfold Obligations.DriveTestStartsASpin
  intro s n hs hw ht hk hp hz hoff hmode hestop hpresence hseated duration dir slip h1 h2 hdir hslip
  have hn : n < s.slots.length := State.lowestPosted_lt s n ht.1
  have hstart : s.startRefusal = none := by simp [State.startRefusal, hoff, hmode, hestop, hpresence, hseated]
  have hactive : BecameActive s (s.notedTest n) n .driveTest := State.activate_active s _ n .driveTest (by simp) hn hw
  have haxle : (s.notedTest n).planAxleNumber = 0 := by
    have hplan : (s.notedTest n).kindActive .runPlan = false := State.kindActive_activate_of_ne _ n (by simp) hp
    simp [State.planAxleNumber, hplan]
  have hlog : Logged s (s.notedTest n) [] := ((Logged.refl s).same (t := s.setDtest _)).activate n .driveTest
  refine ⟨_, exec_driveTest_takes s n ht hk, ?_⟩
  rw [State.takeDriveTest_passed s n hp hz (by simp [inRange]; omega) hdir (by simp [inRange]; omega) hstart]
  set m : DirMode := if (s.param n 1).toNat = 1 then .contra else .normal with hm
  have hcontra : m = .contra ↔ dir = 1 := by
    rw [hm]
    split <;> simp_all [dir]
  have hcode : codeOfDirMode m = dir := by
    rw [hm]
    have : dir = 0 ∨ dir = 1 := by omega
    rcases this with h | h <;> simp [dir] at h <;> simp [h, dir, codeOfDirMode]
  refine ⟨?drv, by simp [State.notedTest, duration], ?active, ?entry, ?disp, ?kept⟩
  case drv => simp [State.startDrive_drv, State.notedTest, hcontra, slip]
  case active =>
    refine BecameActive.publish s (hactive.congr (by simp) fun a ha => ?_)
    exact State.startDrive_readByte (s.notedTest n) .driveTest m _ a (slotByte_not_ring n a ha)
  case entry =>
    have made := (hlog.startDrive .driveTest m (if (s.param n 2).toNat = 0 then 30 else (s.param n 2).toNat)).publish s
    rw [List.nil_append, driveEntryOf, haxle, hcode] at made
    exact made.entryMade hw
  case disp => simp [State.startDrive_disp, State.notedTest]
  case kept =>
    intro q hq
    cases q <;> simp_all [Part.same, State.notedTest]

end Sys2Proof.Machine

/-! PROOFS. Events with one entry of their own: NO_PULSE (R9, R12) and the crossing limit of the plate unit (R122). -/

namespace Sys2Proof.Machine

set_option Elab.async false

/-! ## NO_PULSE (R12) -/

theorem exec_noPulse (side : Side) (s : State) (h : 2 ≤ s.eng.noPulse side) :
    exec (.noPulse side) s = .next (publish s (s.noPulseMet side)) :=
  congrArg (fun t => Host.Outcome.next (publish s t)) (if_pos (decide_eq_true h))

/-- The no-pulse count of a side is 0 again (R12). -/
def State.resetNoPulse (s : State) (side : Side) : State :=
  s.setEng (match side with
    | .left => { s.eng with noPulseL := 0 }
    | .right => { s.eng with noPulseR := 0 })

theorem State.noPulseMet_eq (s : State) (side : Side) : s.noPulseMet side =
    if (s.faultsOf (pulseChannel side)).noPulse then s.resetNoPulse side
    else ((s.resetNoPulse side).setFaultsOf (pulseChannel side)
      { s.faultsOf (pulseChannel side) with noPulse := true }).faultEntry (pulseChannel side) flagNoPulse := by
  cases side <;> rfl

theorem State.resetNoPulse_faultsOf (s : State) (side : Side) (k : Nat) : (s.resetNoPulse side).faultsOf k = s.faultsOf k := by
  cases side <;> rfl

theorem State.resetNoPulse_count (s : State) (side : Side) : (s.resetNoPulse side).eng.noPulse side = 0 := by
  cases side <;> rfl

/-- The flags of one channel after a write of them, and those of the other channels (R9). -/
theorem State.setFaultsOf_faultsOf (s : State) (i k : Nat) (f : FaultFlags) (h : i < s.eng.faults.length) :
    (s.setFaultsOf i f).faultsOf k = if k = i then f else s.faultsOf k := by
  simp only [State.setFaultsOf, State.faultsOf, State.setEng_eng, List.getD_eq_getElem?_getD, List.getElem?_set]
  by_cases hk : k = i
  · simp [hk, h]
  · simp [hk, Ne.symm hk]

theorem State.faultsOf_congr {s t : State} (h : t.eng = s.eng) (k : Nat) : t.faultsOf k = s.faultsOf k := by
  rw [State.faultsOf, h, State.faultsOf]

/-- A FAULT_SET entry raises ATTN.FAULT and touches the journal alone beside it (R9). -/
theorem State.faultEntry_att (s : State) (i : Nat) (flag : Word) : (s.faultEntry i flag).att.bits.getLsbD 4 = true := by
  simp [State.faultEntry, State.raiseAttn, State.setAttn, attnFault]

theorem Logged.faultEntry {σ s : State} {l : List JournalEntry} (h : Logged σ s l) (i : Nat) (flag : Word) :
    Logged σ (s.faultEntry i flag) (l ++ [⟨evFaultSet, 0, word i, flag⟩]) := 
  (h.produce evFaultSet 0 (word i) flag).same (by simp [State.faultEntry]) (by simp [State.faultEntry]) (by simp)

/-- The engine's counts stand behind no image (R196). -/
theorem publish_resetNoPulse (s : State) (side : Side) : publish s (s.resetNoPulse side) = s.resetNoPulse side := by
  cases side
  · exact publish_same s (s.setEng { s.eng with noPulseL := 0 }) rfl rfl rfl rfl rfl
  · exact publish_same s (s.setEng { s.eng with noPulseR := 0 }) rfl rfl rfl rfl rfl

theorem State.resetNoPulse_kept (s : State) (side : Side) : KeepsAllBut [.eng] s (s.resetNoPulse side) := fun p hp => by
  cases p <;> simp_all [Part.same, State.resetNoPulse]

/-- Settles O34: the count is taken back, and a flag that is clear is set with its entry. -/
theorem noPulseSetsTheFlag : Obligations.NoPulseSetsTheFlag := by
  unfold Obligations.NoPulseSetsTheFlag
  intro side s hdue hlen hw
  have hin : pulseChannel side < s.eng.faults.length := by cases side <;> simp [pulseChannel, hlen]
  have hkept := s.resetNoPulse_kept side
  refine ⟨_, exec_noPulse side s hdue, ?_⟩
  rw [State.noPulseMet_eq]
  cases hflag : (s.faultsOf (pulseChannel side)).noPulse with
  | true =>
    rw [if_pos rfl, publish_resetNoPulse]
    refine ⟨s.resetNoPulse_count side, ?_, fun k _ => s.resetNoPulse_faultsOf side k, fun _ => hkept, fun h => by simp at h⟩
    rw [State.resetNoPulse_faultsOf, hflag]
  | false =>
    rw [if_neg (by simp)]
    set f : FaultFlags := { s.faultsOf (pulseChannel side) with noPulse := true } with hf
    set u := (s.resetNoPulse side).setFaultsOf (pulseChannel side) f with hu
    have huf (k : Nat) : u.faultsOf k = if k = pulseChannel side then f else s.faultsOf k := by
      rw [hu, State.setFaultsOf_faultsOf _ _ _ _ (by cases side <;> exact hin), State.resetNoPulse_faultsOf]
    have htf (k : Nat) : (publish s (u.faultEntry (pulseChannel side) flagNoPulse)).faultsOf k = u.faultsOf k :=
      State.faultsOf_congr (by simp) k
    have hlog : Logged s u [] := (Logged.refl s).same (by simp [hu, State.resetNoPulse, State.setFaultsOf])
      (by simp [hu, State.resetNoPulse, State.setFaultsOf]) (by simp [hu, State.resetNoPulse, State.setFaultsOf])
    refine ⟨?_, ?_, fun k hk => ?_, fun h => by simp at h, fun _ => ⟨?_, ?_, ?_⟩⟩
    · have hcount := s.resetNoPulse_count side
      cases side <;> simpa [hu, State.setFaultsOf, Engine.noPulse] using hcount
    · rw [htf, huf, if_pos rfl]
    · rw [htf, huf, if_neg hk]
    · exact ((hlog.faultEntry (pulseChannel side) flagNoPulse).publish s).entryMade hw
    · simpa using u.faultEntry_att (pulseChannel side) flagNoPulse
    · intro p hp
      cases p <;> simp_all [Part.same, State.resetNoPulse]

/-! ## The crossing limit (R122) -/

theorem exec_crossingTimeout (s : State) (h : s.crossingDue = true) :
    exec .crossingTimeout s = .next (publish s s.crossingExpires) :=
  congrArg (fun t => Host.Outcome.next (publish s t)) (if_pos h)

/-- What the end of a crossing without a result leaves: the unit IDLE and one entry (R122). -/
theorem crossingExpires_event (s : State) (hdue : s.crossingDue = true) (hw : Memory.wf s.mem) :
    ∃ t, exec .crossingTimeout s = .next t ∧
      t.plate = { s.plate with crossing := .idle, follower := false } ∧
      EntryMade s t evPlateTimeout s.timeoutAxle (directionWord (s.plate.crossing == .forwardOn)) 0 ∧
      KeepsAllBut [.plate, .mem, .jr, .att] s t := by
  refine ⟨_, exec_crossingTimeout s hdue, by simp [State.crossingExpires, State.discardCrossing], ?entry, fun p hp => ?kept⟩
  case entry =>
    have made := (((Logged.refl s).same (t := s.discardCrossing)).produce evPlateTimeout s.timeoutAxle
      (directionWord (s.plate.crossing == .forwardOn)) 0).publish s
    exact made.entryMade hw
  case kept => cases p <;> simp_all [Part.same]

/-- Settles O47: the crossing limit in either direction, with the axle that R122 names. -/
theorem crossingTimeout : Obligations.CrossingTimeout := by
  unfold Obligations.CrossingTimeout
  intro s hage hw n
  refine ⟨fun hc hclosing => ?forward, fun hc hclosing => ?reverse⟩
  case forward =>
    have haxle : s.timeoutAxle = if n < s.tab.axleCount ∧ s.plate.length ≠ none then n + 1 else 0 := by
      simp [State.timeoutAxle, hc, n, Option.isSome_iff_ne_none]
    have hevent := crossingExpires_event s (by simp [State.crossingDue, hc, hclosing, State.elapsed, hage]) hw
    rwa [haxle, hc] at hevent
  case reverse =>
    have haxle : s.timeoutAxle =
        if n ≤ s.tab.axleCount ∧ ¬ (s.planRuns = true ∧ s.seat.seated = true ∧ n = s.tab.cursor + 1) then n else 0 := by
      cases hp : s.planRuns <;> cases hs : s.seat.seated <;> simp [State.timeoutAxle, hc, n, State.crossingHeld, hp, hs]
    have hevent := crossingExpires_event s (by simp [State.crossingDue, hc, hclosing, State.elapsed, hage]) hw
    rwa [haxle, hc] at hevent

end Sys2Proof.Machine

/-! PROOFS. The end of a stop of the drive (R39, R43, R135, R137): OFF or LOCKOUT, the DRIVE_TEST that completes there, and the
sequencer that leaves SPINDOWN or repeats a refused start. -/

namespace Sys2Proof.Machine

set_option Elab.async false

/-! ## The sequencer's start command (R34, R134, R135) -/

theorem State.repeatStart_of_refused (s : State) (hq : s.seq.state = .spinup) (hr : s.seq.refusal ≠ none) :
    s.repeatStart = s.issueStart := by
  simp [State.repeatStart, hq, Option.isSome_iff_ne_none, hr]

theorem State.repeatStart_of_state (s : State) (hq : s.seq.state ≠ .spinup) : s.repeatStart = s := by
  simp [State.repeatStart, hq]

theorem State.issueStart_seq (s : State) : s.issueStart.seq = { s.seq with refusal := s.startRefusal } := by
  unfold State.issueStart
  cases h : s.startRefusal <;> simp

theorem State.issueStart_refused (s : State) (h : s.startRefusal ≠ none) :
    s.issueStart = s.setSeq { s.seq with refusal := s.startRefusal } := by
  unfold State.issueStart
  cases hr : s.startRefusal with
  | none => exact absurd hr h
  | some r => rfl

theorem State.issueStart_taken (s : State) (h : s.startRefusal = none) :
    s.issueStart = (s.setSeq { s.seq with refusal := none }).startDrive .sequencer (s.planAxle s.tab.cursor).dirMode
      s.tab.plan.slipPercent := by
  simp [State.issueStart, h]

/-- A start command that is taken turns the rollers for the sequencer (R34). -/
theorem State.issueStart_started (s : State) (h : s.startRefusal = none) : StartedBySequencer s s.issueStart := by
  have hslip : s.tab.plan.slipLimit.toNat = 0 ↔ s.tab.plan.slipLimit = 0 := by bv_omega
  have hcoupling : (s.planAxle s.tab.cursor).coupling.toNat = 1 ↔ (s.planAxle s.tab.cursor).coupling = 1 := by bv_omega
  rw [StartedBySequencer, State.issueStart_taken s h, State.startDrive_drv]
  simp only [PlanAxle.dirMode, Plan.slipPercent, hslip, hcoupling, State.setSeq_drv]
  split <;> rfl

/-- The start command depends on the drive, the table and nothing else that an act beside them changes. -/
theorem StartedBySequencer.congr {s s' t t' : State} (h : StartedBySequencer s t) (hd : s'.drv = s.drv) (ht : s'.tab = s.tab)
    (hd' : t'.drv = t.drv) : StartedBySequencer s' t' := by
  unfold StartedBySequencer at *
  simp only [State.planAxle, hd, ht, hd'] at *
  exact h

/-- The checks of a start read the drive, the lane mode, the levels and the seat state (R33). -/
theorem State.startRefusal_congr {s t : State} (hd : t.drv = s.drv) (he : t.eng = s.eng) (hs : t.seat = s.seat) :
    t.startRefusal = s.startRefusal := by
  simp [State.startRefusal, State.level, State.input, hd, he, hs]

theorem Logged.issueStart_refused {σ s : State} {l : List JournalEntry} (h : Logged σ s l) (hr : s.startRefusal ≠ none) :
    Logged σ s.issueStart l := by
  rw [State.issueStart_refused s hr]
  exact h.same

theorem Logged.issueStart_taken {σ s : State} {l : List JournalEntry} (h : Logged σ s l) (hr : s.startRefusal = none) :
    ∃ e, Logged σ s.issueStart (l ++ [e]) := by
  rw [State.issueStart_taken s hr]
  exact ⟨_, (h.same (t := s.setSeq _)).startDrive _ _ _⟩

/-! ## DRIVE_TEST completion (R43) -/

theorem State.finishTest_none (s : State) (f : Bool) (h : s.dtest = none) : s.finishTest f = s := by
  simp [State.finishTest, h]

theorem State.finishTest_some (s : State) (f : Bool) (d : DriveTest) (h : s.dtest = some d) :
    s.finishTest f = (s.setDtest none).complete d.slot 7
      (if f then .failed else (d.decided.getD (.failed, .none)).1) (if f then .driveFault else (d.decided.getD (.failed, .none)).2)
      [] := by
  cases f <;> simp [State.finishTest, h, State.completeKind, codeOfKind]

/-! ## The drive at the end of a stop (R39) -/

/-- A drive that has come to OFF (R39, R40). -/
def Drive.off (d : Drive) : Drive := { d with state := .off, dirL := .forward, dirR := .forward, lockCause := none }

/-- A drive locked out with a cause (R39). -/
def Drive.locked (d : Drive) (c : LockCause) : Drive := { d with state := .lockout, lockCause := some c }

/-- The state as the sequencer finds it at the drive's entry into OFF or LOCKOUT: drive, entry and completed DRIVE_TEST (R39, R43). -/
def State.ended (s : State) (d : Drive) (p2 : Word) (fault : Bool) : State :=
  ((s.setDrv d).reloadRefresh.driveEntry p2).finishTest fault

theorem State.driveOff_eq (s : State) (p2 : Word) :
    s.driveOff p2 = frameAfter (s.ended s.drv.off p2 false) (s.ended s.drv.off p2 false).seqDriveEnds := rfl

theorem State.driveLockout_eq (s : State) (c : LockCause) :
    s.driveLockout c = frameAfter (s.ended (s.drv.locked c) (word (codeOfLock c)) (c == .driveFault))
      (s.ended (s.drv.locked c) (word (codeOfLock c)) (c == .driveFault)).seqDriveEnds := rfl

theorem State.ended_drv (s : State) (d : Drive) (p2 : Word) (f : Bool) : (s.ended d p2 f).drv = d := by
  simp [State.ended]

theorem State.ended_kept (s : State) (d : Drive) (p2 : Word) (f : Bool) :
    KeepsAllBut [.mem, .slots, .jr, .att, .dtest, .drv, .disp] s (s.ended d p2 f) := fun p hp => by
  cases p <;> simp_all [Part.same, State.ended]

/-- The entry of the drive's new state (R41). -/
theorem State.entered_logged (s : State) (d : Drive) (p2 : Word) :
    Logged s ((s.setDrv d).reloadRefresh.driveEntry p2) [driveEntryOf s d.state p2] := by
  have made := ((Logged.refl s).same (t := (s.setDrv d).reloadRefresh)).driveEntry p2
  rw [driveEntryOf, State.planAxleNumber_congr (s := s) (by simp) (by simp)] at made
  simpa [driveEntryOf] using made

theorem State.ended_logged (s : State) (d : Drive) (p2 : Word) (f : Bool) (h : s.dtest = none) :
    Logged s (s.ended d p2 f) [driveEntryOf s d.state p2] := by
  rw [State.ended, State.finishTest_none _ _ (by simp [h])]
  exact s.entered_logged d p2

/-- A DRIVE_TEST completes with the outcome decided, a drive fault overriding it, as the second of two entries (R43). -/
theorem State.ended_test (s : State) (d : Drive) (p2 : Word) (f : Bool) (x : DriveTest) (h : s.dtest = some x)
    (hw : Memory.wf s.mem) :
    SlotDone (s.ended d p2 f) x.slot (if f then .failed else (x.decided.getD (.failed, .none)).1)
        (if f then .driveFault else (x.decided.getD (.failed, .none)).2) [] ∧
      (s.ended d p2 f).dtest = none ∧ ∃ e, Logged s (s.ended d p2 f) [driveEntryOf s d.state p2, e] := by
  have made := s.entered_logged d p2
  rw [State.ended, State.finishTest_some _ _ x (by simp [h])]
  exact ⟨State.complete_done _ _ _ _ _ _ (made.wf hw), by simp, _, (made.same (t := State.setDtest _ none)).complete _ _ _ _ _⟩

theorem State.seqDriveEnds_of_state (s : State) (h1 : s.seq.state ≠ .spinup) (h2 : s.seq.state ≠ .spindown) :
    s.seqDriveEnds = s := by
  rw [State.seqDriveEnds, if_neg h2, State.repeatStart_of_state s h1]

/-- The drive's end of a stop where the sequencer waits for none (R39, R43). -/
theorem ended_event (s : State) (d : Drive) (p2 : Word) (f : Bool) (h1 : s.seq.state ≠ .spinup) (h2 : s.seq.state ≠ .spindown) :
    frameAfter (s.ended d p2 f) (s.ended d p2 f).seqDriveEnds = s.ended d p2 f := by
  have hq : (s.ended d p2 f).seq = s.seq := s.ended_kept d p2 f .seq (by simp)
  rw [State.seqDriveEnds_of_state _ (hq ▸ h1) (hq ▸ h2), frameAfter_of_seq rfl]

theorem exec_rollersAtRest (s : State) (hs : s.drv.state = .stopping) (hr : 2 ≤ s.drv.restCount) :
    exec .rollersAtRest s = .next (publish s s.rest) :=
  congrArg (fun t => Host.Outcome.next (publish s t)) (if_pos (by simp [State.restDue, hs, hr]))

theorem exec_stopTimeout (s : State) (hs : s.drv.state = .stopping) (hr : s.drv.restCount < 2) (ht : 160 ≤ s.drv.stopCount) :
    exec .stopTimeout s = .next (publish s (s.driveLockout .driveFault)) :=
  congrArg (fun t => Host.Outcome.next (publish s t)) (if_pos (by simp [State.stopTimeoutDue, State.restDue, hs, hr, ht]))

theorem State.rest_lockout (s : State) (h : s.drv.stopReason = some .estop ∨ s.drv.estopSeen = true) :
    s.rest = s.driveLockout .estop := if_pos (by simpa using h)

theorem State.rest_off (s : State) (h1 : s.drv.stopReason ≠ some .estop) (h2 : s.drv.estopSeen = false) :
    s.rest = s.driveOff (word (codeOfStop? s.drv.stopReason)) := if_neg (by simp [h1, h2])

/-- A published end of a stop, with what it leaves of the drive, the entry and the DRIVE_TEST (R39, R43). -/
theorem ended_outcome (s : State) (d : Drive) (p2 : Word) (f : Bool) (hw : Memory.wf s.mem) :
    (publish s (s.ended d p2 f)).drv = d ∧
    (s.dtest = none → EntryMade s (publish s (s.ended d p2 f)) evDriveState s.planAxleNumber (word (codeOfDrive d.state)) p2) ∧
    ∀ x, s.dtest = some x → SlotDone (publish s (s.ended d p2 f)) x.slot
        (if f then .failed else (x.decided.getD (.failed, .none)).1) (if f then .driveFault else (x.decided.getD (.failed, .none)).2)
        [] ∧ (publish s (s.ended d p2 f)).dtest = none ∧ (publish s (s.ended d p2 f)).jr.produced = s.jr.produced + 2 := by
  refine ⟨by simp [State.ended_drv], fun h => ((s.ended_logged d p2 f h).publish s).entryMade hw, fun x hx => ?_⟩
  obtain ⟨hdone, hnone, e, hlog⟩ := s.ended_test d p2 f x hx hw
  exact ⟨hdone.congr (by simp) fun a ha => publish_readByte _ _ a (slotByte_not_image _ a ha), by simpa using hnone,
    (hlog.publish s).produced⟩

/-- Settles O36: a stop ends at rest or at its 160th window, and a DRIVE_TEST with it. -/
theorem restOrTimeoutEndsTheStop : Obligations.RestOrTimeoutEndsTheStop := by
  unfold Obligations.RestOrTimeoutEndsTheStop
  refine ⟨fun s hs hr h1 h2 hw => ⟨_, exec_rollersAtRest s hs hr, ?rest⟩, fun s hs hr ht h1 h2 hw =>
    ⟨_, exec_stopTimeout s hs hr ht, ?timeout⟩⟩
  case rest =>
    by_cases hc : s.drv.stopReason = some .estop ∨ s.drv.estopSeen = true
    · rw [State.rest_lockout s hc, State.driveLockout_eq, ended_event s _ _ _ h1 h2]
      obtain ⟨hdrv, hentry, htest⟩ := ended_outcome s (s.drv.locked .estop) (word (codeOfLock .estop)) false hw
      refine ⟨fun _ => ⟨hdrv, hentry⟩, fun n1 n2 => by simp_all, fun d o e hd he _ _ => ?_⟩
      have := htest d hd
      rw [he] at this
      exact this
    · obtain ⟨n1, n2⟩ : s.drv.stopReason ≠ some .estop ∧ s.drv.estopSeen = false := by simpa using hc
      rw [State.rest_off s n1 n2, State.driveOff_eq, ended_event s _ _ _ h1 h2]
      obtain ⟨hdrv, hentry, htest⟩ := ended_outcome s s.drv.off (word (codeOfStop? s.drv.stopReason)) false hw
      refine ⟨fun h => absurd h hc, fun _ _ => ⟨hdrv, hentry⟩, fun d o e hd he _ _ => ?_⟩
      simpa [he] using htest d hd
  case timeout =>
    rw [State.driveLockout_eq, ended_event s _ _ _ h1 h2]
    obtain ⟨hdrv, hentry, htest⟩ := ended_outcome s (s.drv.locked .driveFault) (word (codeOfLock .driveFault)) true hw
    refine ⟨hdrv, hentry, fun d hd _ _ => ?_⟩
    obtain ⟨hdone, hnone, -⟩ := htest d hd
    exact ⟨hdone, hnone⟩

end Sys2Proof.Machine

/-! PROOFS. The sequencer at the drive's entry into OFF or LOCKOUT (R135, R137, R138): SPINDOWN left, a refused start repeated. -/

namespace Sys2Proof.Machine

set_option Elab.async false

/-! ## Entries into REVIEW, EXIT_WAIT and SPINUP -/

/-- The retest offer reads the record under the cursor and the limits of the table (R138). -/
theorem State.offerNow_congr {s t : State} (h : t.tab = s.tab) : t.offerNow = s.offerNow := by
  simp [State.offerNow, State.record, h]

theorem State.enterReview_seq (s : State) : s.enterReview.seq = { s.seq with
    state := .review, reviewMarks := s.seq.reviewMarks.set s.tab.cursor true, offer := s.offerNow } := by
  have hoffer : (s.enterSeq .review).setReviewMark.offerNow = s.offerNow := State.offerNow_congr (by simp)
  rw [State.enterReview, State.evaluateOffer, hoffer]
  simp only [State.setReviewMark, State.setSeq_seq, State.enterSeq_seq, Sequencer.entered, State.enterSeq_frame]
  by_cases h : s.seq.state = .review <;> simp [h]

/-- No held exit is acted on for a seated axle, and none where none is held (R140). -/
theorem State.enterExitWait_of_none (s : State) (h : s.seat.seated = true ∨ s.seq.heldExit = .none) :
    s.enterExitWait = s.enterSeq .exitWait := by
  have hheld : (s.enterSeq .exitWait).seq.heldExit = s.seq.heldExit := by
    rw [State.enterSeq_seq]
    split <;> rfl
  rcases h with h | h
  · simp [State.enterExitWait, h]
  · simp [State.enterExitWait, hheld, h]

theorem State.enterSpinup_armed (s : State) (runs : Runs) (h : s.armRefused s.tab.cursor runs = false) :
    s.enterSpinup runs = ((s.enterSeq .spinup).armUnit s.tab.cursor runs).issueStart := by
  have hsame : (s.enterSeq .spinup).armRefused s.tab.cursor runs = s.armRefused s.tab.cursor runs := by
    simp [State.armRefused, State.record]
  simp [State.enterSpinup, hsame, h]

theorem State.enterSpinup_reviewed (s : State) (runs : Runs) (h : s.armRefused s.tab.cursor runs = true) :
    s.enterSpinup runs = (s.enterSeq .spinup).enterReview := by
  have hsame : (s.enterSeq .spinup).armRefused s.tab.cursor runs = s.armRefused s.tab.cursor runs := by
    simp [State.armRefused, State.record]
  simp [State.enterSpinup, hsame, h]

/-- A spin that is armed and started for the sequencer (R68, R134). -/
theorem State.enterSpinup_started (s : State) (runs : Runs) (h : s.armRefused s.tab.cursor runs = false)
    (hs : s.startRefusal = none) :
    (s.enterSpinup runs).seq = { (s.seq.entered .spinup) with refusal := none } ∧
    (s.enterSpinup runs).run = { RunUnit.cleared with
      phase := .armed, axle := s.tab.cursor, runs := runs, arm := s.armValues s.tab.cursor } ∧
    StartedBySequencer s (s.enterSpinup runs) := by
  have hstart : ((s.enterSeq .spinup).armUnit s.tab.cursor runs).startRefusal = none := by
    rw [← hs]
    exact State.startRefusal_congr (by simp) (by simp) (by simp)
  rw [State.enterSpinup_armed s runs h]
  refine ⟨?_, ?_, ?_⟩
  · rw [State.issueStart_seq, hstart]
    simp only [State.armUnit, State.setRun_seq, State.enterSeq_seq]
    by_cases hq : s.seq.state = .spinup <;> simp [hq, Sequencer.entered]
  · rw [State.issueStart_taken _ hstart]
    simp [State.armUnit, State.armValues, State.planAxle]
  · exact (State.issueStart_started _ hstart).congr (by simp) (by simp) rfl

/-! ## SPINDOWN (R137) -/

theorem State.leaveSpindown_off (s : State) (hq : s.seq.state = .spindown) (hd : s.drv.state = .off) : s.leaveSpindown =
    if !s.seat.seated then (s.setSeq { s.seq with parkingOwed := false }).enterExitWait
    else if s.seq.parkingOwed then (s.setSeq { s.seq with parkingOwed := false }).enterSpinup ⟨false, false, true⟩
    else s.enterReview := by
  simp [State.leaveSpindown, hq, hd]

section
variable (s : State) (hs : s.drv.state = .stopping)

/-- The rest of the rollers at the end of a stop without the emergency stop, up to the sequencer (R39). -/
def State.rested : State := s.ended s.drv.off (word (codeOfStop? s.drv.stopReason)) false

theorem State.rested_drv : s.rested.drv = s.drv.off := State.ended_drv _ _ _ _

theorem State.rested_kept : KeepsAllBut [.mem, .slots, .jr, .att, .dtest, .drv, .disp] s s.rested := State.ended_kept _ _ _ _

include hs

theorem exec_rest_off (hr : 2 ≤ s.drv.restCount) (h1 : s.drv.stopReason ≠ some .estop) (h2 : s.drv.estopSeen = false) :
    exec .rollersAtRest s = .next (publish s (frameAfter s.rested s.rested.seqDriveEnds)) := by
  rw [exec_rollersAtRest s hs hr, State.rest_off s h1 h2, State.driveOff_eq]
  rfl

end

/-- The checks of R33 that remain in OFF (R135). -/
theorem State.rested_refusal (s : State) : s.rested.startRefusal =
    if s.eng.mode ≠ .normal then some .mode else if s.level .estop then some .estop
    else if s.level .presence then some .presence else if s.seat.seated = false then some .notSeated else none := by
  have he : s.rested.eng = s.eng := s.rested_kept .eng (by simp)
  have hst : s.rested.seat = s.seat := s.rested_kept .seat (by simp)
  have hl (i : Input) : s.rested.level i = s.level i := level_of_inputs (by rw [he]) i
  simp [State.startRefusal, State.rested_drv, Drive.off, he, hst, hl]

/-- A start that was refused in SPINUP is refused LOCKED_OUT when the drive enters LOCKOUT (R135). -/
theorem lockout_repeats (s : State) (c : LockCause) (hq : s.seq.state = .spinup) (href : s.seq.refusal ≠ none) :
    (publish s (s.driveLockout c)).drv = { s.drv with state := .lockout, lockCause := some c } ∧
    (publish s (s.driveLockout c)).seq = { s.seq with refusal := some .lockedOut } := by
  set u := s.ended (s.drv.locked c) (word (codeOfLock c)) (c == .driveFault) with hu
  have hdrv : u.drv = s.drv.locked c := State.ended_drv _ _ _ _
  have hseq : u.seq = s.seq := s.ended_kept _ _ _ .seq (by simp)
  have hrefusal : u.startRefusal = some .lockedOut := by simp [State.startRefusal, hdrv, Drive.locked]
  rw [State.driveLockout_eq, ← hu, State.seqDriveEnds, if_neg (by simp [hseq, hq]),
    State.repeatStart_of_refused _ (by rw [hseq, hq]) (by rwa [hseq])]
  refine ⟨?_, by simp [State.issueStart_seq, hrefusal, hseq]⟩
  rw [State.issueStart_refused _ (by simp [hrefusal])]
  simp [hdrv, Drive.locked]

/-- Settles O37: what the sequencer does when the drive ends its stop, from SPINDOWN and from SPINUP. -/
theorem spindownIsLeftAtOff : Obligations.SpindownIsLeftAtOff := by
  unfold Obligations.SpindownIsLeftAtOff
  refine ⟨fun s hs hr h1 h2 hq => ⟨_, exec_rest_off s hs hr h1 h2, ?spindown⟩, fun s hs hq href hd => ?spinup⟩
  case spindown =>
    have hseq : s.rested.seq = s.seq := s.rested_kept .seq (by simp)
    have hseat : s.rested.seat = s.seat := s.rested_kept .seat (by simp)
    have htab : s.rested.tab = s.tab := s.rested_kept .tab (by simp)
    have hrun : s.rested.run = s.run := s.rested_kept .run (by simp)
    have hleave := State.leaveSpindown_off s.rested (by rw [hseq, hq]) (by rw [State.rested_drv]; rfl)
    rw [State.seqDriveEnds, if_pos (by rw [hseq, hq]), hleave]
    refine ⟨fun hunseated hheld => ?exitWait, fun hseated howed => ?review, fun hseated howed hidle hmode hestop hpres => ?again⟩
    case exitWait =>
      rw [if_pos (by simp [hseat, hunseated]), State.enterExitWait_of_none _ (.inr (by simp [hseq, hheld]))]
      simp [State.enterSeq_seq, hseq, hq, Sequencer.entered]
    case review =>
      rw [if_neg (by simp [hseat, hseated]), if_neg (by simp [hseq, howed])]
      simp [State.enterReview_seq, hseq, htab, State.offerNow_congr htab]
    case again =>
      rw [if_neg (by simp [hseat, hseated]), if_pos (by simp [hseq, howed])]
      have hstart : (s.rested.setSeq { s.rested.seq with parkingOwed := false }).startRefusal = none := by
        refine (State.startRefusal_congr (s := s.rested) rfl rfl rfl).trans ?_
        simp [State.rested_refusal, hmode, hestop, hpres, hseated]
      have harm : (s.rested.setSeq { s.rested.seq with parkingOwed := false }).armRefused
          (s.rested.setSeq { s.rested.seq with parkingOwed := false }).tab.cursor ⟨false, false, true⟩ = false := by
        simp [State.armRefused, hrun, hidle]
      obtain ⟨hsq, hru, hst⟩ := State.enterSpinup_started _ _ harm hstart
      unfold StartedBySequencer at hst
      simp [hsq, hru, hst, Sequencer.entered]
  case spinup =>
    refine ⟨fun hr h1 h2 => ?off, fun hr h => ⟨_, exec_rollersAtRest s hs hr, ?locked⟩,
      fun hr ht => ⟨_, exec_stopTimeout s hs hr ht, ?timeout⟩⟩
    case off =>
      intro off refusal
      refine ⟨_, exec_rest_off s hs hr h1 h2, ?_⟩
      have hseq : s.rested.seq = s.seq := s.rested_kept .seq (by simp)
      have hlog : Logged s s.rested [_] := s.ended_logged s.drv.off (word (codeOfStop? s.drv.stopReason)) false hd
      have hrefusal : s.rested.startRefusal = refusal := s.rested_refusal
      rw [State.seqDriveEnds, if_neg (by simp [hseq, hq]), State.repeatStart_of_refused _ (by rw [hseq, hq]) (by rwa [hseq])]
      refine ⟨by simp [State.issueStart_seq, hrefusal, hseq], fun hne => ⟨?_, ?_⟩, fun hnone => ⟨?_, ?_⟩⟩
      · rw [State.issueStart_refused _ (hrefusal ▸ hne)]
        simp [State.rested_drv, Drive.off, off]
      · exact (((hlog.issueStart_refused (hrefusal ▸ hne)).frameAfter _).publish s).produced
      · exact (State.issueStart_started s.rested (hrefusal.trans hnone)).congr (by simp [State.rested_drv, Drive.off, off])
          (by simpa using (s.rested_kept .tab (by simp)).symm) (by simp)
      · obtain ⟨e, made⟩ := hlog.issueStart_taken (hrefusal.trans hnone)
        exact ((made.frameAfter _).publish s).produced
    case locked =>
      rw [State.rest_lockout s h]
      exact lockout_repeats s .estop hq href
    case timeout => exact lockout_repeats s .driveFault hq href

end Sys2Proof.Machine

/-! PROOFS. The stops of a spin (R35 to R38, R43): what a stop leaves of the DRIVE_TEST and of an armed run, and the end of a ZERO
capture (R20). -/

namespace Sys2Proof.Machine

set_option Elab.async false

/-! ## A stop as it is handed on (R38) -/

theorem State.stopDrive_eq (s : State) (r : StopReason) (h : isSpinning s.drv.state = true) : s.stopDrive r =
    ((s.enterStopping (s.stopCause r)).runStop (s.stopCause r)).ownerStop (s.stopCause r) := by
  simp [State.stopDrive, h]

/-- A DRIVE_TEST as it takes the stop of its spin (R43). -/
def DriveTest.stopped (d : DriveTest) (r : StopReason) : DriveTest :=
  { d with timer := none, decided := some (d.decided.getD (.failed, detailOfStop r)) }

theorem State.testStop_dtest (s : State) (r : StopReason) : (s.testStop r).dtest = s.dtest.map (·.stopped r) := by
  unfold State.testStop
  cases h : s.dtest with
  | none => simp [h]
  | some d => cases hd : d.decided <;> simp [DriveTest.stopped, hd]

/-- A stop of a spin of a DRIVE_TEST decides it, unless it is decided already (R43). -/
theorem State.stopEvent_dtest (s : State) (r : StopReason) (h : isSpinning s.drv.state = true)
    (ho : s.drv.owner = some .driveTest) : (s.stopEvent r).dtest = s.dtest.map (·.stopped (s.stopCause r)) := by
  simp [State.stopEvent, State.stopDrive_eq s r h, State.ownerStop, ho, State.enterStopping_drv, State.testStop_dtest]

/-- A stop ends an armed run without a record, and the sequencer in SPINUP enters SPINDOWN (R69, R136). -/
theorem State.stopDrive_armed (s : State) (r : StopReason) (h : isSpinning s.drv.state = true)
    (ho : s.drv.owner = some .sequencer) (hq : s.seq.state = .spinup) (hp : s.run.phase = .armed) :
    s.stopDrive r = ((s.enterStopping (s.stopCause r)).idleUnit).enterSeq .spindown := by
  have hrun : (s.enterStopping (s.stopCause r)).run = s.run := by simp
  rw [State.stopDrive_eq s r h, State.runStop, hrun, hp]
  simp [State.ownerStop, State.enterStopping_drv, ho, State.takeDriveStop, hq]

/-- The recorded reason, spelled as R38 ranks the causes of one sample. -/
theorem State.stopCause_sampled (s : State) (r : StopReason)
    (h : r = .unseat ∨ r = .slipL ∨ r = .slipR ∨ r = .slipBoth ∨ r = .stall) : s.stopCause r =
      if s.settlesOn .estop then .estop else if s.settlesOn .presence then .presence
      else if s.settlesOn .key ∧ s.eng.mode = .normal then .mode else r := by
  rcases h with rfl | rfl | rfl | rfl | rfl <;> simp [State.stopCause, State.modeLapses]

/-- The details of the reasons with which a stop decides a DRIVE_TEST (R43). -/
theorem detailOfStop_reasons (r : StopReason) :
    (r = .estop → detailOfStop r = .estop) ∧ (r = .presence → detailOfStop r = .presence) ∧
    (r = .mode → detailOfStop r = .mode) ∧ (r = .slipL → detailOfStop r = .slipL) ∧ (r = .slipR → detailOfStop r = .slipR) ∧
    (r = .slipBoth → detailOfStop r = .slipBoth) ∧ (r = .stall → detailOfStop r = .stall) := by
  cases r <;> simp [detailOfStop]

theorem exec_spinupStall (s : State) (hs : s.drv.state = .spinup) (hc : 80 ≤ s.drv.spinupCount) :
    exec .spinupStall s = .next (publish s (s.stopEvent .stall)) :=
  congrArg (fun t => Host.Outcome.next (publish s t)) (if_pos (by simp [State.spinupStallDue, hs, hc]))

theorem exec_slipStop (s : State) (hs : s.drv.state = .run) (hc : 2 ≤ s.drv.overL ∨ 2 ≤ s.drv.overR) :
    exec .slipStop s = .next (publish s (s.stopEvent s.drv.slipReason)) :=
  congrArg (fun t => Host.Outcome.next (publish s t)) (if_pos (by simp [State.slipStopDue, hs, hc]))

theorem exec_lowSpeedStall (s : State) (hs : s.drv.state = .run) (hl : s.drv.overL < 2) (hr : s.drv.overR < 2)
    (hc : 2 ≤ s.drv.lowL ∨ 2 ≤ s.drv.lowR) : exec .lowSpeedStall s = .next (publish s (s.stopEvent .stall)) :=
  congrArg (fun t => Host.Outcome.next (publish s t)) (if_pos (by simp [State.lowSpeedDue, State.slipStopDue, hs, hc, hl, hr]))

theorem exec_driveTestTimerExpiry (s : State) (d : DriveTest) (h : s.dtest = some d) (ht : s.expired d.timer = true) :
    exec .driveTestTimerExpiry s = .next (publish s ((s.decideTest .ok .none).stopEvent .commanded)) :=
  congrArg (fun t => Host.Outcome.next (publish s t)) (if_pos (by simp [State.testTimerDue, h, ht]))

/-- A published stop, by the drive it leaves (R38). -/
theorem stopEvent_published (s : State) (r : StopReason) (h : isSpinning s.drv.state = true) :
    Stopped s (publish s (s.stopEvent r)) (s.stopCause r) := by
  have hstop := stopEvent_stopped s r h
  unfold Stopped at *
  simpa using hstop

/-- A published stop of a spin of a DRIVE_TEST: no slot changes, and the test is decided with the detail of the reason (R43). -/
theorem stopEvent_decides (s : State) (r : StopReason) (h : isSpinning s.drv.state = true)
    (ho : s.drv.owner = some .driveTest) (d : DriveTest) (hd : s.dtest = some d) :
    (publish s (s.stopEvent r)).slots = s.slots ∧ ∃ e : Detail, (publish s (s.stopEvent r)).dtest = some { d with
      timer := none, decided := some (d.decided.getD (.failed, e)) } ∧
      (s.stopCause r = .estop → e = .estop) ∧ (s.stopCause r = .presence → e = .presence) ∧
      (s.stopCause r = .mode → e = .mode) ∧ (s.stopCause r = .slipL → e = .slipL) ∧ (s.stopCause r = .slipR → e = .slipR) ∧
      (s.stopCause r = .slipBoth → e = .slipBoth) ∧ (s.stopCause r = .stall → e = .stall) := by
  refine ⟨by simp, detailOfStop (s.stopCause r), ?_, detailOfStop_reasons _⟩
  simp [State.stopEvent_dtest s r h ho, hd, DriveTest.stopped]

/-- The slip reason names the sides whose over-limit count is 2 (R36). -/
theorem Drive.slipReason_eq (d : Drive) (h : 2 ≤ d.overL ∨ 2 ≤ d.overR) : d.slipReason =
    if 2 ≤ d.overL ∧ 2 ≤ d.overR then .slipBoth else if 2 ≤ d.overL then .slipL else .slipR := by
  unfold Drive.slipReason
  by_cases hl : 2 ≤ d.overL <;> by_cases hr : 2 ≤ d.overR <;> simp_all

/-- Settles O35: each stop of a spin by its counts or by the test timer, with the ranked reason. -/
theorem countsAndTimersStopTheSpin : Obligations.CountsAndTimersStopTheSpin := by
  unfold Obligations.CountsAndTimersStopTheSpin
  intro s stronger failed
  refine ⟨fun hs hc => ⟨_, exec_spinupStall s hs hc, ?stall⟩, fun hs hc => ⟨_, exec_slipStop s hs hc, ?slip⟩,
    fun hs hl hr hc => ⟨_, exec_lowSpeedStall s hs hl hr hc, ?low⟩,
    fun d hd ht hspin ho => ⟨_, exec_driveTestTimerExpiry s d hd ht, ?timer⟩⟩
  case stall =>
    have hspin : isSpinning s.drv.state = true := by simp [hs, isSpinning]
    have hcause : s.stopCause .stall = stronger .stall := s.stopCause_sampled .stall (by simp)
    rw [← hcause]
    refine ⟨stopEvent_published s .stall hspin, fun ho d hd => stopEvent_decides s .stall hspin ho d hd, fun ho hq hp => ?_⟩
    simp [State.stopEvent, State.stopDrive_armed s .stall hspin ho hq hp, State.idleUnit]
  case slip =>
    have hspin : isSpinning s.drv.state = true := by simp [hs, isSpinning]
    have hcause : s.stopCause s.drv.slipReason = stronger s.drv.slipReason := s.stopCause_sampled _ (by
      unfold Drive.slipReason
      split <;> [split; skip] <;> simp)
    rw [← Drive.slipReason_eq s.drv hc, ← hcause]
    exact ⟨stopEvent_published s _ hspin, fun ho d hd => stopEvent_decides s _ hspin ho d hd⟩
  case low =>
    have hspin : isSpinning s.drv.state = true := by simp [hs, isSpinning]
    have hcause : s.stopCause .stall = stronger .stall := s.stopCause_sampled .stall (by simp)
    rw [← hcause]
    exact ⟨stopEvent_published s _ hspin, fun ho d hd => stopEvent_decides s _ hspin ho d hd⟩
  case timer =>
    set u := s.decideTest .ok .none with hu
    have hdrv : u.drv = s.drv := by simp [hu]
    have htest : u.dtest = some { d with timer := none, decided := some (d.decided.getD (.ok, .none)) } := by
      cases hx : d.decided <;> simp [hu, State.decideTest, hd, hx]
    have hstop := stopEvent_stopped u .commanded (hdrv ▸ hspin)
    refine ⟨?_, ?_, by simp [hu]⟩
    · unfold Stopped at *
      simpa [hdrv, State.stopCause] using hstop
    · simp [State.stopEvent_dtest u .commanded (hdrv ▸ hspin) (hdrv ▸ ho), htest, DriveTest.stopped]

/-! ## The 200th sample of a ZERO capture (R20) -/

theorem exec_zeroCaptureEnd (s : State) (c : ZeroCapture) (h : s.eng.capture = some c) (hc : 200 ≤ c.count) :
    exec .zeroCaptureEnd s = .next (publish s s.captureEnds) :=
  congrArg (fun t => Host.Outcome.next (publish s t)) (if_pos (by simp [State.captureDue, h, hc]))

/-- The state with the new zeros and the re-primed histories, in which the request completes (R20). -/
def State.zeroed (s : State) (c : ZeroCapture) : State :=
  (s.setEng { s.eng with capture := none, cals := withZeros s.eng.cals (zeroChannels.zip (c.sums.map clampedZero)) }).rePrime
    (fun i => zeroChannels.contains i)

theorem State.captureEnds_eq (s : State) (c : ZeroCapture) (h : s.eng.capture = some c) : s.captureEnds =
    (s.zeroed c).complete c.slot 4 .ok .none ((c.sums.map clampedZero).map signedWord ++
      [flagWord (c.sums.map (fun x => newZero x != clampedZero x))]) := by
  simp only [State.captureEnds, h]
  rfl

theorem getD_set {α : Type} (l : List α) (i k : Nat) (v d : α) (h : i < l.length) :
    (l.set i v).getD k d = if k = i then v else l.getD k d := by
  simp only [List.getD_eq_getElem?_getD, List.getElem?_set]
  by_cases hk : k = i
  · simp [hk, h]
  · simp [hk, Ne.symm hk]

/-- One new zero: the record of its channel alone changes, in its zero alone. -/
theorem setZero_getD (cals : List CalRecord) (i k : Nat) (v : Int) (h : i < cals.length) :
    (cals.set i { cals.getD i noCal with zero := v }).getD k noCal =
      { cals.getD k noCal with zero := if k = i then v else (cals.getD k noCal).zero } := by
  rw [getD_set _ _ _ _ _ h]
  by_cases hk : k = i <;> simp [hk]

/-- The calibration records with new zeros: each channel takes the zero listed for it, and keeps its own where none is (R20). -/
theorem withZeros_lookup (zeros : List (Nat × Int)) (cals : List CalRecord) (k : Nat) (hd : (zeros.map (·.1)).Nodup)
    (hl : ∀ z ∈ zeros, z.1 < cals.length) : (withZeros cals zeros).getD k noCal =
      { cals.getD k noCal with zero := (zeros.lookup k).getD (cals.getD k noCal).zero } := by
  induction zeros generalizing cals with
  | nil => rfl
  | cons z zs ih =>
    obtain ⟨i, v⟩ := z
    obtain ⟨hz, hzs⟩ := List.nodup_cons.1 hd
    have hlen : i < cals.length := hl (i, v) (by simp)
    rw [show withZeros cals ((i, v) :: zs) = withZeros (cals.set i { cals.getD i noCal with zero := v }) zs from rfl,
      ih _ hzs (fun x hx => by simpa using hl x (by simp [hx])), setZero_getD _ _ _ _ hlen]
    by_cases hk : k = i
    · have hnone : zs.lookup i = none := by
        rw [List.lookup_eq_none_iff]
        intro p hp
        refine bne_iff_ne.2 fun he => hz ?_
        exact List.mem_map.2 ⟨p, hp, he.symm⟩
      subst hk
      simp [hnone]
    · simp [List.lookup_cons, hk, beq_eq_false_iff_ne.2 hk]

/-- The zero that a ZERO lists for a channel (R20). -/
theorem zeroChannels_lookup (a b d e f : Int) (k : Nat) : (zeroChannels.zip [a, b, d, e, f]).lookup k =
    if k = 0 then some a else if k = 1 then some b else if k = 2 then some d else if k = 3 then some e
      else if k = 8 then some f else none := by
  have other (n : Nat) (h : ¬ k = n) : (k == n) = false := beq_eq_false_iff_ne.2 h
  split_ifs with h0 h1 h2 h3 h8 <;> simp [zeroChannels, List.lookup_cons, *]

/-- The histories of the five channels are empty, the other channels as they were (R20). -/
theorem State.rePrime_chan (s : State) (which : Nat → Bool) (k : Nat) (h : k < s.eng.chans.length) :
    (s.rePrime which).eng.chans.getD k noChannel =
      if which k then { s.eng.chans.getD k noChannel with history := [] } else s.eng.chans.getD k noChannel := by
  simp [State.rePrime, List.getD_eq_getElem?_getD, h]

/-- Settles O38: the capture's last sample gives the zeros, re-primes the histories and completes the slot. -/
theorem zeroCaptureEnd : Obligations.ZeroCaptureEnd := by
  unfold Obligations.ZeroCaptureEnd
  intro s c a b d e f hcap hcount hsums hslot hs hcals hchans hw z zero
  refine ⟨_, exec_zeroCaptureEnd s c hcap hcount, ?_⟩
  have hz (x : Int) : clampedZero x = z x := rfl
  rw [State.captureEnds_eq s c hcap]
  have hresult : (c.sums.map clampedZero).map signedWord ++ [flagWord (c.sums.map (fun x => newZero x != clampedZero x))]
      = [signedWord (z a), signedWord (z b), signedWord (z d), signedWord (z e), signedWord (z f),
         flagWord [roundDiv a 200 != z a, roundDiv b 200 != z b, roundDiv d 200 != z d, roundDiv e 200 != z e,
           roundDiv f 200 != z f]] := by simp [hsums, hz, newZero]
  rw [hresult]
  have hzero (k : Nat) : zeroChannels.contains k = (zero k).isSome := by
    simp only [zero, zeroChannels]
    split_ifs <;> simp_all
  refine ⟨slotDone_publish_complete _ _ _ _ _ _ _ (by simpa [State.zeroed] using hw), ?entry, by simp [State.zeroed, State.rePrime],
    fun k hk => ⟨?cal, ?chan⟩, fun p hp => ?kept⟩
  case entry =>
    exact entryMade_publish_complete s (s.zeroed c) _ _ _ _ _ (by simp [State.zeroed]) (by simp [State.zeroed])
      (by simpa [State.zeroed] using hw)
  case cal =>
    have hcal := withZeros_lookup (zeroChannels.zip [z a, z b, z d, z e, z f]) s.eng.cals k (by simp [zeroChannels])
      (by simp [zeroChannels, hcals])
    rw [zeroChannels_lookup] at hcal
    simpa [State.zeroed, State.rePrime, hsums, hz] using hcal
  case chan =>
    have := State.rePrime_chan (s.setEng { s.eng with
      capture := none, cals := withZeros s.eng.cals (zeroChannels.zip (c.sums.map clampedZero)) })
      (fun i => zeroChannels.contains i) k (by simpa [hchans] using hk)
    rw [hzero] at this
    simpa [State.zeroed] using this
  case kept => cases p <;> simp_all [Part.same, State.zeroed]

end Sys2Proof.Machine

/-! PROOFS. The end of a slip window (R7, R8, R12, R35 to R37, R39): the counts, and the entry into RUN with the run that begins. -/

namespace Sys2Proof.Machine

set_option Elab.async false

theorem exec_slipWindowEnd (s : State) (h : 10 ≤ s.eng.windowSamples) :
    exec .slipWindowEnd s = .next (publish s s.windowEnds) :=
  congrArg (fun t => Host.Outcome.next (publish s t)) (if_pos (decide_eq_true h))

/-- Counts of the engine and of the drive stand behind no image (R196). -/
theorem publish_counts (s : State) (e : Engine) (d : Drive) (hm : e.mode = s.eng.mode) (hf : e.faults = s.eng.faults)
    (hc : e.cals = s.eng.cals) (hd : d.state = s.drv.state) :
    publish s ((s.setEng e).setDrv d) = (s.setEng e).setDrv d := by
  refine publish_same _ _ ?_ rfl rfl rfl rfl
  have hfaults (i : Nat) : ((s.setEng e).setDrv d).faultsOf i = s.faultsOf i := by simp [State.faultsOf, hf]
  have hdisp : displayWord ((s.setEng e).setDrv d) = displayWord s := rfl
  simp only [headerWords, hfaults, hdisp, State.setDrv_eng, State.setEng_eng, State.setDrv_drv, hm, hc, hd]
  rfl

/-- The engine after the end of a slip window, spelled as R7, R8 and R12 give it. -/
theorem State.engineWindow_eng (s : State) : s.engineWindow.eng = { s.eng with
    windowSamples := 0, pulses := ⟨0, 0, 0, 0⟩, lastPd := some (s.eng.pulses.spdL, s.eng.pulses.spdR)
    slipL := slipOf s.eng.pulses.spdL s.eng.pulses.slpL, slipR := slipOf s.eng.pulses.spdR s.eng.pulses.slpR
    noPulseL := if s.drv.state = .run ∧ s.eng.pulses.spdL = 0 then s.eng.noPulseL + 1 else 0
    noPulseR := if s.drv.state = .run ∧ s.eng.pulses.spdR = 0 then s.eng.noPulseR + 1 else 0 } := by
  simp [State.engineWindow, countWhile]

theorem State.engineWindow_eq (s : State) : s.engineWindow = s.setEng s.engineWindow.eng := rfl

theorem State.windowEnds_eng (s : State) : s.windowEnds.eng = s.engineWindow.eng := by simp [State.windowEnds]

/-- The drive counts a window, with the engine's own part, and no more (R35 to R37, R39). -/
theorem State.windowEnds_counts (s : State) (d : Drive) (hd : d.state = s.drv.state)
    (h : s.windowEnds = s.engineWindow.setDrv d) :
    KeepsAllBut [.eng, .drv] s (publish s s.windowEnds) ∧ (publish s s.windowEnds).drv = d := by
  have hpub : publish s s.windowEnds = (s.setEng s.engineWindow.eng).setDrv d := by
    rw [h, State.engineWindow_eq]
    exact publish_counts s _ d (by simp [State.engineWindow]) (by simp [State.engineWindow]) (by simp [State.engineWindow]) hd
  rw [hpub]
  exact ⟨fun p hp => by cases p <;> simp_all [Part.same], rfl⟩

theorem publish_windowEnds_idle (s : State) (h : s.drv.state = .off ∨ s.drv.state = .lockout) :
    KeepsAllBut [.eng] s (publish s s.windowEnds) := by
  have hw : s.windowEnds = (s.setEng s.engineWindow.eng).setDrv s.drv := by
    rcases h with h | h <;> simp only [State.windowEnds, State.driveWindow, State.engineWindow, State.setEng_drv, h] <;> rfl
  rw [hw, publish_counts s _ s.drv (by simp [State.engineWindow]) (by simp [State.engineWindow]) (by simp [State.engineWindow]) rfl]
  exact fun p hp => by cases p <;> simp_all [Part.same]

/-! ## The entry into RUN (R35, R69, R136) -/

/-- The drive at the entry into RUN. -/
def Drive.atRun (d : Drive) : Drive := { d with state := .run, spinupCount := d.spinupCount + 1 }

/-- The state in which the owner of the spin takes the entry into RUN (R41). -/
def State.runEntered (s : State) : State := (s.engineWindow.setDrv s.drv.atRun).reloadRefresh.driveEntry 0

theorem State.windowEnds_run (s : State) (hs : s.drv.state = .spinup) (hl : 60 ≤ s.eng.pulses.spdL)
    (hr : 60 ≤ s.eng.pulses.spdR) : s.windowEnds = s.runEntered.spinReachesRun := by
  have hdrv : s.engineWindow.drv = s.drv := by simp
  have hboth : (decide (60 ≤ s.eng.pulses.spdL) && decide (60 ≤ s.eng.pulses.spdR)) = true := by simp [hl, hr]
  simp only [State.windowEnds, State.driveWindow, hdrv, hs, hboth, if_true, State.driveRun]
  rfl

theorem State.runEntered_kept (s : State) : KeepsAllBut [.mem, .jr, .att, .eng, .drv, .disp] s s.runEntered := fun p hp => by
  cases p <;> simp_all [Part.same, State.runEntered]

theorem State.runEntered_drv (s : State) : s.runEntered.drv = s.drv.atRun := by simp [State.runEntered]

theorem State.runEntered_logged (s : State) : ∃ e, Logged s s.runEntered [e] :=
  ⟨_, ((Logged.refl s).same (t := (s.engineWindow.setDrv s.drv.atRun).reloadRefresh)).driveEntry 0⟩

theorem State.runEntered_filtered (s : State) (k : Nat) : s.runEntered.filtered k = s.filtered k := by
  simp [State.filtered, State.runEntered, State.engineWindow]

/-- The phase in which the first named run of a spin begins (R69). -/
def Runs.firstPhase (r : Runs) : Phase := if r.ovality then .ovality else if r.service then .serviceOnset else .parkOnset

/-- The sequencer state of the first named run (R136). -/
def Runs.firstState (r : Runs) : SeqState := if r.ovality then .ovality else if r.service then .serviceOnset else .parkOnset

theorem Runs.firstState_eq (r : Runs) : seqOfPhase r.firstPhase = some r.firstState := by
  unfold Runs.firstPhase Runs.firstState
  split
  · rfl
  · split <;> rfl

theorem Runs.firstState_isRun (r : Runs) : isRunState r.firstState = true := by
  unfold Runs.firstState
  split
  · rfl
  · split <;> rfl

/-- What examining the watch marks leaves of the run unit (R72). -/
theorem State.watch_run (s : State) : s.watch.run = { s.run with
    tqFaultSeen := s.watch.run.tqFaultSeen, openSeen := s.watch.run.openSeen } := by
  unfold State.watch
  split <;> rfl

/-- The first named run as it begins (R69, R73). -/
theorem State.beginRuns_run (s : State) (h : s.run.phase = .armed) :
    ∃ fault wire : Bool, s.beginRuns.run = { (s.run.beginWait s.clk.sampleNo s.released) with
      phase := s.run.runs.firstPhase, step := .onsetWait, tqFaultSeen := fault, openSeen := wire } := by
  have hbegin : s.beginRuns = (s.setRun (({ s.run with phase := s.run.runs.firstPhase, step := .onsetWait } : RunUnit).beginWait
      s.clk.sampleNo s.released)).watch := by
    simp [State.beginRuns, h, Runs.firstPhase]
  rw [hbegin, State.watch_run]
  exact ⟨_, _, rfl⟩

/-- The sequencer's spin that reaches RUN: the first named run begins and the sequencer enters its state (R69, R136). -/
theorem State.spinReachesRun_eq (s : State) (ho : s.drv.owner = some .sequencer) (hq : s.seq.state = .spinup)
    (hp : s.run.phase = .armed) :
    s.spinReachesRun = frameAfter s ((s.beginRuns.enterSeq s.run.runs.firstState).setReviewMark) := by
  obtain ⟨_, _, hbegin⟩ := State.beginRuns_run s hp
  have hphase : s.beginRuns.run.phase = s.run.runs.firstPhase := by rw [hbegin]
  simp [State.spinReachesRun, ho, hq, hphase, Runs.firstState_eq]

/-- An entry into a run state with the review mark set (R136). -/
theorem State.enterSeq_marked (s : State) (n : SeqState) (h : n ≠ .approach) : (s.enterSeq n).setReviewMark.seq =
    { s.seq with state := n, reviewMarks := s.seq.reviewMarks.set s.tab.cursor true } := by
  simp only [State.setReviewMark, State.setSeq_seq, State.enterSeq_seq, State.enterSeq_frame]
  by_cases hn : s.seq.state = n
  · simp [hn]
  · simp [hn, Sequencer.entered, h]

/-- Settles O33: each drive state counts the window by its own rule, and SPINUP with both sides fast enough enters RUN. -/
theorem slipWindowEnd : Obligations.SlipWindowEnd := by
  unfold Obligations.SlipWindowEnd
  refine ⟨fun s hdue => ⟨_, exec_slipWindowEnd s hdue, fun pd ps pdR psR hp => ?counts⟩,
    fun s hdue hs hl hr ho hq hph _ => ⟨_, exec_slipWindowEnd s hdue, ?begins⟩⟩
  case counts =>
    intro slip above
    have hslip (d p : Nat) : slipOf d p = slip d p := rfl
    have habove (x : Option Nat) : overLimit x s.drv.slipLimit = above x := by cases x <;> rfl
    refine ⟨?eng, fun h => publish_windowEnds_idle s h, fun h => ?stopping, fun h => ?run, fun h hslow => ?slow, fun h h1 h2 => ?fast⟩
    case eng =>
      rw [show (publish s s.windowEnds).eng = s.windowEnds.eng by simp, State.windowEnds_eng, State.engineWindow_eng, hp]
      rfl
    case stopping =>
      refine State.windowEnds_counts s _ rfl ?_
      simp [State.windowEnds, State.driveWindow, h, countWhile, hp]
    case run =>
      refine State.windowEnds_counts s _ rfl ?_
      simp [State.windowEnds, State.driveWindow, h, countWhile, hp, habove, State.engineWindow_eng, hslip]
    case slow =>
      refine State.windowEnds_counts s _ rfl ?_
      have hboth : ¬ (60 ≤ pd ∧ 60 ≤ pdR) := by omega
      simp [State.windowEnds, State.driveWindow, h, hp, hboth]
    case fast =>
      rw [State.windowEnds_run s h (by simpa [hp] using h1) (by simpa [hp] using h2)]
      refine ⟨by simp [State.runEntered_drv, Drive.atRun], fun d ho hd => ?_⟩
      have htest : s.runEntered.dtest = s.dtest := s.runEntered_kept .dtest (by simp)
      have hclk : s.runEntered.clk = s.clk := s.runEntered_kept .clk (by simp)
      have hreach : s.runEntered.spinReachesRun = s.runEntered.setDtest (some { d with timer := some (s.clk.ms + d.duration) }) := by
        simp [State.spinReachesRun, State.runEntered_drv, Drive.atRun, ho, htest, hd, State.timerIn, hclk]
      obtain ⟨e, hlog⟩ := s.runEntered_logged
      rw [hreach]
      exact ⟨by simp, ((hlog.same (t := State.setDtest _ _)).publish s).produced⟩
  case begins =>
    have hrun : s.runEntered.run = s.run := s.runEntered_kept .run (by simp)
    have hseq : s.runEntered.seq = s.seq := s.runEntered_kept .seq (by simp)
    have htab : s.runEntered.tab = s.tab := s.runEntered_kept .tab (by simp)
    have hclk : s.runEntered.clk = s.clk := s.runEntered_kept .clk (by simp)
    have hreleased : s.runEntered.released = decide (s.filtered 0 + s.filtered 1 < 30) := by
      simp [State.released, State.forceSum, State.runEntered_filtered]
    obtain ⟨e, hlog⟩ := s.runEntered_logged
    have hphase : s.runEntered.run.phase = .armed := hrun ▸ hph
    have hreach := State.spinReachesRun_eq s.runEntered (by simp [State.runEntered_drv, Drive.atRun, ho]) (hseq ▸ hq) hphase
    obtain ⟨_, _, hbegin⟩ := State.beginRuns_run s.runEntered hphase
    rw [hrun] at hbegin hreach
    rw [State.windowEnds_run s hs hl hr, hreach]
    have hne : s.runEntered.beginRuns.seq.state ≠ s.run.runs.firstState := by
      have := s.run.runs.firstState_isRun
      intro h
      rw [← h] at this
      simp [hseq, hq, isRunState] at this
    have made := (((hlog.same (t := s.runEntered.beginRuns)).enterSeq _ hne).same
      (t := (s.runEntered.beginRuns.enterSeq s.run.runs.firstState).setReviewMark)).frameAfter s.runEntered |>.publish s
    refine ⟨by simp [State.runEntered_drv, Drive.atRun], made.produced, ?_⟩
    simp only [publish_frame, frameAfter_frame, State.setReviewMark_frame, State.enterSeq_frame, State.beginRuns_frame, hbegin, htab,
      hclk, hreleased]
    refine ⟨rfl, trivial, rfl, rfl, rfl, rfl, rfl, ?_, trivial⟩
    have hstate : (s.runEntered.beginRuns).seq = s.seq := by simp [hseq]
    have hheld : s.run.runs.firstState ≠ .approach := by
      have := s.run.runs.firstState_isRun
      intro h
      simp [h, isRunState] at this
    rw [State.enterSeq_marked _ _ hheld, hstate, show s.runEntered.beginRuns.tab = s.tab by simp [htab]]
    rfl

end Sys2Proof.Machine

/-! PROOFS. Exits and passes (R26 to R30, R132, R140, R145): what a report of the detector leaves, and what the sequencer makes of it. -/

namespace Sys2Proof.Machine

set_option Elab.async false

/-! ## Bits of ATTN that stand, and records under the cursor -/

/-- A production raises bits of ATTN and clears none (R207). -/
theorem State.produce_att_mono (s : State) (code axle : Nat) (p1 p2 : Word) (k : Nat) (h : s.att.bits.getLsbD k = true) :
    (s.produce code axle p1 p2).att.bits.getLsbD k = true := by
  rw [State.produce_attBits]
  split <;> simp [h]

theorem State.complete_att_mono (s : State) (n c : Nat) (o : ReqOutcome) (d : Detail) (r : List Word) (k : Nat)
    (h : s.att.bits.getLsbD k = true) : (s.complete n c o d r).att.bits.getLsbD k = true := by
  have hp := State.produce_att_mono (s.finishSlot n o d r) evRequestDone 0 (bytePair n c)
    (bytePair (codeOfDetail d) (codeOfOutcome o)) k (by simpa using h)
  simp [State.complete, State.raiseAttn, State.setAttn, hp]

theorem State.activeSlot_congr {s t : State} (h : t.slots = s.slots) (k : Kind) : t.activeSlot k = s.activeSlot k := by
  simp [State.activeSlot, h]

theorem State.record_congr {s t : State} (h : t.tab = s.tab) (k : Nat) : t.record k = s.record k := by
  simp [State.record, h]

/-- A record written as it stands changes nothing. -/
theorem State.set_record_self (s : State) (k : Nat) (h : k < s.tab.records.length) :
    s.tab.records.set k (s.record k) = s.tab.records := by
  rw [State.record, List.getD_eq_getElem?_getD, List.getElem?_eq_getElem h, Option.getD_some, List.set_getElem_self]

/-- No frame falls due where state, refusal and offer are as they were (R156). -/
theorem frameAfter_of_shown {old new : State} (h : new.seq.state = old.seq.state) (hr : new.seq.refusal = old.seq.refusal)
    (ho : new.seq.offer = old.seq.offer) : frameAfter old new = new := by
  simp [Machine.frameAfter, h, hr, ho]

theorem State.setStatus_tab (s : State) (k : Nat) (st : AxleStatus) (x : Option SkipReason) : (s.setStatus k st x).tab =
    { s.tab with records := s.tab.records.set k { s.record k with status := st, skip := if st = .skipped then x else none } } := by
  simp [State.setStatus, State.setRecord]

/-- The words of an axle record lie in the table area (R211). -/
theorem State.rewriteFields_readByte_outside (s : State) (k i n a : Nat) (h : ¬ tableByte a) :
    Memory.readByte (s.rewriteFields k i n).mem a = Memory.readByte s.mem a := by
  unfold State.rewriteFields
  split
  · refine Memory.readByte_writeWords _ _ _ _ ?_
    unfold tableByte at h
    have hlen := recordWords_length (s.record k)
    simp only [List.length_take, List.length_drop, hlen]
    omega
  · rfl

theorem Logged.rewriteFields {σ s : State} {l : List JournalEntry} (h : Logged σ s l) (k i n : Nat) :
    Logged σ (s.rewriteFields k i n) l := by
  refine h.congr (by simp) (by simp) (State.rewriteFields_wf s k i n) fun a ha => State.rewriteFields_readByte_outside s k i n a ?_
  unfold ringByte at ha
  unfold tableByte
  omega

/-! ## The completion of a plan (R145) -/

theorem State.completePlan_done (s : State) (o : ReqOutcome) (d : Detail) (n : Nat) (h : s.activeSlot .runPlan = some n)
    (hw : Memory.wf s.mem) : SlotDone (s.completePlan o d) n o d [] := by
  simp only [State.completePlan, h]
  exact State.complete_done s n 6 o d [] hw

theorem State.completePlan_att_mono (s : State) (o : ReqOutcome) (d : Detail) (k : Nat) (h : s.att.bits.getLsbD k = true) :
    (s.completePlan o d).att.bits.getLsbD k = true := by
  unfold State.completePlan
  split
  · exact State.complete_att_mono s _ _ _ _ _ k h
  · exact h

/-! ## The cursor moves on (R132, R140, R145) -/

/-- What the raise of the cursor leaves of the table and of the sequencer, below the axle count and at it. -/
theorem State.advanceCursor_event (s : State) (hq : s.seq.state ≠ .complete) (hw : Memory.wf s.mem) :
    (s.advanceCursor .approach).tab = { s.tab with cursor := s.tab.cursor + 1 } ∧
    (s.advanceCursor .approach).seq.heldExit = .none ∧
    (s.tab.cursor + 1 < s.tab.axleCount → (s.advanceCursor .approach).seq.state = .approach ∧
      (s.advanceCursor .approach).slots = s.slots) ∧
    (s.tab.axleCount ≤ s.tab.cursor + 1 → (s.advanceCursor .approach).seq.state = .complete ∧
      (s.advanceCursor .approach).att.bits.getLsbD 5 = true ∧
      ∀ n, s.activeSlot .runPlan = some n → SlotDone (s.advanceCursor .approach) n .ok .none []) := by
  set u := s.setCursor (s.tab.cursor + 1) with hu
  have hadvance : s.advanceCursor .approach = if s.tab.axleCount ≤ s.tab.cursor + 1 then u.enterComplete else u.enterSeq .approach := rfl
  have hseq : u.seq = { s.seq with heldExit := .none } := by simp [hu, State.setCursor]
  have htab : u.tab = { s.tab with cursor := s.tab.cursor + 1 } := by simp [hu, State.setCursor]
  by_cases hc : s.tab.axleCount ≤ s.tab.cursor + 1
  · rw [hadvance, if_pos hc]
    have hne : u.seq.state ≠ .complete := by simpa [hseq] using hq
    have hslots : (u.enterSeq .complete).slots = s.slots := by simp [hu]
    refine ⟨by simp [htab], by simp [State.enterComplete, State.enterSeq_seq, hseq, hq, Sequencer.entered],
      fun h => absurd hc (by omega), fun _ => ⟨by simp [State.enterComplete], ?_, fun n hn => ?_⟩⟩
    · exact State.completePlan_att_mono _ _ _ 5 (State.enterSeq_lane u .complete hne rfl)
    · exact State.completePlan_done _ _ _ n ((State.activeSlot_congr hslots _).trans hn)
        (State.enterSeq_wf _ _ (by simpa [hu, State.setCursor] using hw))
  · rw [hadvance, if_neg hc]
    refine ⟨by simp [htab], ?_, fun _ => ⟨by simp, by simp [hu]⟩, fun h => absurd h hc⟩
    rw [State.enterSeq_seq]
    split <;> simp [hseq, Sequencer.entered]

/-- The forward exit of the axle under the cursor (R140, R145). -/
theorem State.exitForward_left (s : State) (hk : s.tab.cursor < s.tab.records.length) (hq : s.seq.state ≠ .complete)
    (hw : Memory.wf s.mem) : LeftForward s s.exitForward := by
  set u := if (s.record s.tab.cursor).status = .skipped then s else s.setStatus s.tab.cursor .done none with hu
  have hwf : Memory.wf u.mem := by
    rw [hu]
    split
    · exact hw
    · exact State.rewriteFields_wf _ _ _ _ hw
  have htab : u.tab = { s.tab with
      records := s.tab.records.set s.tab.cursor (if (s.record s.tab.cursor).status = .skipped then s.record s.tab.cursor
        else { s.record s.tab.cursor with status := .done, skip := none }) } := by
    rw [hu]
    split
    · rw [State.set_record_self s _ hk]
    · simp [State.setStatus_tab]
  have hslots : u.slots = s.slots := by
    rw [hu]
    split <;> simp
  have hseq : u.seq = s.seq := by
    rw [hu]
    split <;> simp
  obtain ⟨h1, h2, h3, h4⟩ := u.advanceCursor_event (hseq ▸ hq) hwf
  have hcursor : u.tab.cursor = s.tab.cursor := by rw [htab]
  have hcount : u.tab.axleCount = s.tab.axleCount := by rw [htab]
  rw [hcursor, hcount] at h3 h4
  have hexit : s.exitForward = u.advanceCursor .approach := rfl
  rw [LeftForward, hexit]
  refine ⟨by rw [h1, htab], h2, fun h => ⟨(h3 h).1, (h3 h).2.trans hslots⟩, fun h => ?_⟩
  obtain ⟨hstate, hlane, hdone⟩ := h4 h
  exact ⟨hstate, hlane, fun n hn => hdone n ((State.activeSlot_congr hslots _).trans hn)⟩

/-- The report of a forward exit reads the table and the slots alone. -/
theorem LeftForward.congr {s s' t t' : State} (h : LeftForward s t) (htab : s'.tab = s.tab) (hslots : s'.slots = s.slots)
    (hm : ∀ n a, slotByte n a → Memory.readByte t'.mem a = Memory.readByte t.mem a) (ht : t'.tab = t.tab := by simp)
    (hq : t'.seq = t.seq := by simp) (hs : t'.slots = t.slots := by simp) (ha : t'.att = t.att := by simp) : LeftForward s' t' := by
  unfold LeftForward at *
  obtain ⟨h1, h2, h3, h4⟩ := h
  simp only [State.record_congr htab, htab, ht, hq, hs, ha, hslots]
  refine ⟨h1, h2, h3, fun hc => ?_⟩
  obtain ⟨hstate, hlane, hdone⟩ := h4 hc
  refine ⟨hstate, hlane, fun n hn => (hdone n ?_).congr hs fun a hb => hm n a hb⟩
  rwa [State.activeSlot_congr hslots] at hn

end Sys2Proof.Machine

/-! PROOFS. The exit window and the beam tracker (R27 to R30, R132, R140): an expiry, a decided exit, a pass. -/

namespace Sys2Proof.Machine

set_option Elab.async false

/-! ## The report of an exit (R29, R30) -/

/-- The state in which the sequencer takes an exit report: the tracker started and the entry made (R30). -/
def State.exitReported (s : State) (e : ExitReport) (rearDecided frontDecided : Bool) : State :=
  (s.startTracker rearDecided frontDecided).produceHere (exitCode e) (word s.seat.sinceUnseated) 0

theorem State.reportExit_eq (s : State) (e : ExitReport) (r f : Bool) :
    s.reportExit e r f = frameAfter (s.exitReported e r f) ((s.exitReported e r f).seqExit (e == .forward)) := rfl

theorem State.exitReported_kept (s : State) (e : ExitReport) (r f : Bool) :
    KeepsAllBut [.mem, .jr, .att, .seat] s (s.exitReported e r f) := fun p hp => by
  cases p <;> simp_all [Part.same, State.exitReported]

theorem State.exitReported_seat (s : State) (e : ExitReport) (r f : Bool) : (s.exitReported e r f).seat = { s.seat with
    exitWindow := none, active := true, record := s.openRecord r f, restart := .none } := by
  simp [State.exitReported, State.startTracker]

theorem State.exitReported_logged (s : State) (e : ExitReport) (r f : Bool) :
    Logged s (s.exitReported e r f) [⟨exitCode e, s.planAxleNumber, word s.seat.sinceUnseated, 0⟩] := by
  have made := ((Logged.refl s).same (t := s.startTracker r f)).produceHere (exitCode e) (word s.seat.sinceUnseated) 0
  rwa [State.planAxleNumber_congr (s := s) (by simp) (by simp)] at made

/-- The sequencer that does not wait for the exit holds it for a state of work on the axle and ignores it elsewhere (R139). -/
theorem State.seqExit_held (s : State) (forward : Bool) (h : s.seq.state ≠ .exitWait) : s.seqExit forward =
    s.setSeq (if isWorkState s.seq.state ∨ s.seq.state = .paused
      then { s.seq with heldExit := if forward then .forward else .backward } else s.seq) := by
  by_cases hw : isWorkState s.seq.state = true ∨ s.seq.state = .paused
  · simp [State.seqExit, h, hw]
  · simp only [State.seqExit, if_neg h, if_neg hw]
    rw [if_neg (by simpa using hw)]
    rfl

/-- A report that the sequencer holds or ignores makes no frame due (R156). -/
theorem State.reportExit_held (s : State) (e : ExitReport) (r f : Bool) (h : s.seq.state ≠ .exitWait) :
    s.reportExit e r f = (s.exitReported e r f).setSeq (if isWorkState s.seq.state ∨ s.seq.state = .paused
      then { s.seq with heldExit := if e == .forward then .forward else .backward } else s.seq) := by
  have hseq : (s.exitReported e r f).seq = s.seq := s.exitReported_kept e r f .seq (by simp)
  rw [State.reportExit_eq, State.seqExit_held _ _ (hseq ▸ h), hseq]
  refine frameAfter_of_shown ?_ ?_ ?_ <;> simp only [State.setSeq_seq, hseq] <;> split <;> rfl

/-- A report of an exit backward that the sequencer waits for takes it to APPROACH (R140). -/
theorem State.reportExit_backward (s : State) (e : ExitReport) (r f : Bool) (h : s.seq.state = .exitWait) (he : e ≠ .forward) :
    s.reportExit e r f = frameAfter (s.exitReported e r f) ((s.exitReported e r f).enterSeq .approach) := by
  have hseq : (s.exitReported e r f).seq = s.seq := s.exitReported_kept e r f .seq (by simp)
  have hne : (e == ExitReport.forward) = false := by cases e <;> simp_all
  rw [State.reportExit_eq]
  simp [State.seqExit, hseq, h, hne, State.exitBackward]

theorem exitBackward_event (s σ : State) (e : ExitReport) (r f : Bool) (h : s.seq.state = .exitWait) (he : e ≠ .forward)
    (hlog : Logged σ s []) :
    (publish σ (s.reportExit e r f)).seq = { s.seq with state := .approach, heldExit := .none } ∧
    (publish σ (s.reportExit e r f)).jr.produced = σ.jr.produced + 2 ∧
    KeepsAllBut [.mem, .jr, .att, .seat, .seq, .disp] s (publish σ (s.reportExit e r f)) := by
  have hseq : (s.exitReported e r f).seq = s.seq := s.exitReported_kept e r f .seq (by simp)
  have hne : (s.exitReported e r f).seq.state ≠ .approach := by simp [hseq, h]
  rw [State.reportExit_backward s e r f h he]
  refine ⟨by simp [State.enterSeq_seq, hseq, h, Sequencer.entered], ?_, fun p hp => ?_⟩
  · have made := (hlog.same (t := s.startTracker r f)).produceHere (exitCode e) (word s.seat.sinceUnseated) 0
    exact (((made.enterSeq .approach hne).frameAfter _).publish σ).produced
  · have hkept := s.exitReported_kept e r f p
    have hplate := State.enterSeq_plate_of_plan (s.exitReported e r f) .approach rfl
    cases p <;> simp_all [Part.same]

/-- The record of a tracker that starts (R27). -/
theorem State.openRecord_none (s : State) : s.openRecord false false =
    if s.levelNow .beamR = s.levelNow .beamF then .empty
    else if s.levelNow .beamR then .rearOpen false false else .frontOpen false := by
  cases hr : s.levelNow .beamR <;> cases hf : s.levelNow .beamF <;> simp [State.openRecord, hr, hf]

theorem State.openRecord_front (s : State) : s.openRecord false true =
    if s.levelNow .beamR then .rearOpen false false else .empty := by
  cases hr : s.levelNow .beamR <;> simp [State.openRecord, hr]

theorem State.openRecord_rear (s : State) : s.openRecord true false =
    if s.levelNow .beamF then .frontOpen false else .empty := by
  cases hf : s.levelNow .beamF <;> simp [State.openRecord, hf]

theorem State.openRecord_both (s : State) : s.openRecord true true = .empty := by simp [State.openRecord]

/-! ## The exit window expires (R29) -/

theorem exec_exitWindowExpiry (s : State) (n : Nat) (h : s.seat.exitWindow = some n) (hn : 600 ≤ n)
    (hr : s.settlesOn .beamR = false) (hf : s.settlesOn .beamF = false) :
    exec .exitWindowExpiry s = .next (publish s (s.reportExit .unclear false false)) :=
  congrArg (fun t => Host.Outcome.next (publish s t)) (if_pos (by simp [State.exitDue, h, hn, hr, hf]))

/-- Settles O31: an expired exit window is an unclear exit, which the sequencer takes as one backward. -/
theorem exitWindowExpiry : Obligations.ExitWindowExpiry := by
  unfold Obligations.ExitWindowExpiry
  intro s n hwin hn hr hf hw
  have hms : s.seat.sinceUnseated = 5 * n := by simp [Seating.sinceUnseated, hwin]
  refine ⟨_, exec_exitWindowExpiry s n hwin hn hr hf, ?seat, fun h => ?held, fun h => ?waited⟩
  case seat =>
    rw [← State.openRecord_none]
    simp [State.reportExit_eq, State.exitReported_seat]
  case held =>
    rw [State.reportExit_held s _ _ _ h]
    refine ⟨?_, by simp, fun p hp => ?_⟩
    · rw [← hms]
      exact (((s.exitReported_logged .unclear false false).same (t := State.setSeq _ _)).publish s).entryMade hw
    · have hkept := s.exitReported_kept .unclear false false p
      cases p <;> simp_all [Part.same]
  case waited =>
    obtain ⟨hseq, hproduced, hkept⟩ := exitBackward_event s s .unclear false false h (by simp) (Logged.refl s)
    exact ⟨hseq, hproduced, hkept .tab (by simp)⟩

end Sys2Proof.Machine

/-! PROOFS. The beams that decide an exit and judge a pass (R27 to R29), and what the sequencer makes of it (R132, R140, R145). -/

namespace Sys2Proof.Machine

set_option Elab.async false

/-! ## A beam that settles while no axle is seated -/

theorem exec_settledChange (s : State) (i : Input) (h : s.settles i = true) :
    exec (.settledChange i) s = .next (publish s (s.inputSettles i)) :=
  congrArg (fun t => Host.Outcome.next (publish s t)) (if_pos h)

theorem State.settles_of_settlesOn {s : State} {i : Input} (h : s.settlesOn i = true) : s.settles i = true := by
  simp only [State.settlesOn, Bool.and_eq_true] at h
  exact h.1

theorem State.settleLevel_kept (s : State) (i : Input) : KeepsAllBut [.eng] s (s.settleLevel i) := fun p hp => by
  cases p <;> simp_all [Part.same, State.settleLevel]

/-- A settled change leaves the levels of the other inputs as they are at this sample (R5). -/
theorem State.settleLevel_levelNow (s : State) (h : s.eng.inputs.length = 11) {i j : Input} (hij : i ≠ j) :
    (s.settleLevel i).levelNow j = s.levelNow j := by
  simp [State.levelNow, State.settles, State.level, input_settle s h, hij]

section
variable {s : State} (hseat : s.seat.seated = false)
include hseat

theorem State.rearSettles (h : s.settlesOn .beamR = true) (hf : s.settlesOn .beamF = false) :
    exec (.settledChange .beamR) s = .next (publish s ((s.settleLevel .beamR).freeBeam true false)) := by
  rw [exec_settledChange s _ (State.settles_of_settlesOn h)]
  simp [State.inputSettles, State.beamSettles, hseat, h, hf, show (Input.beamR == Input.beamF) = false from rfl]

theorem State.frontSettles (h : s.settlesOn .beamF = true) (hr : s.settlesOn .beamR = false) :
    exec (.settledChange .beamF) s = .next (publish s ((s.settleLevel .beamF).freeBeam false true)) := by
  rw [exec_settledChange s _ (State.settles_of_settlesOn h)]
  simp [State.inputSettles, State.beamSettles, hseat, h, hr, show (Input.beamF == Input.beamR) = false from rfl]

theorem State.bothSettle (h : s.settlesOn .beamR = true) (hf : s.settlesOn .beamF = true) :
    exec (.settledChange .beamR) s = .next (publish s (((s.settleLevel .beamR).settleLevel .beamF).freeBeam true true)) := by
  rw [exec_settledChange s _ (State.settles_of_settlesOn h)]
  simp [State.inputSettles, State.beamSettles, hseat, h, hf]

end

theorem State.freeBeam_window (s : State) (r f : Bool) (n : Nat) (h : s.seat.exitWindow = some n) :
    s.freeBeam r f = s.windowBeams r f := by
  simp [State.freeBeam, h]

theorem State.freeBeam_tracker (s : State) (r f : Bool) (h : s.seat.exitWindow = none) (ha : s.seat.active = true) :
    s.freeBeam r f = s.trackBeams r f := by
  simp [State.freeBeam, h, ha]

/-! ## Reports beside a plan -/

theorem isWork_of_not_plan {q : SeqState} (h : isPlanState q = false) :
    q ≠ .exitWait ∧ q ≠ .approach ∧ ¬ (isWorkState q = true ∨ q = .paused) := by
  cases q <;> simp_all [isPlanState, isWorkState]

/-- An exit report without a plan: the entry and the tracker, and nothing of the sequencer (R29, R148). -/
theorem exit_ignored {s u : State} (hu : KeepsAllBut [.eng] s u) (hp : isPlanState s.seq.state = false) (hw : Memory.wf s.mem)
    {n : Nat} (hn : s.seat.exitWindow = some n) (e : ExitReport) (r f : Bool) :
    EntryMade s (publish s (u.reportExit e r f)) (exitCode e) s.planAxleNumber (word (5 * n)) 0 ∧
    (publish s (u.reportExit e r f)).seat = { s.seat with
      exitWindow := none, active := true, record := u.openRecord r f, restart := .none } ∧
    KeepsAllBut [.mem, .jr, .att, .seat, .eng] s (publish s (u.reportExit e r f)) := by
  have hseq : u.seq = s.seq := hu .seq (by simp)
  have hseat : u.seat = s.seat := hu .seat (by simp)
  have hslots : u.slots = s.slots := hu .slots (by simp)
  have htab : u.tab = s.tab := hu .tab (by simp)
  have hms : u.seat.sinceUnseated = 5 * n := by simp [Seating.sinceUnseated, hseat, hn]
  obtain ⟨hwait, -, hheld⟩ := isWork_of_not_plan hp
  have hlog : Logged s u [] := (Logged.refl s).same (hu .mem (by simp)) (hu .jr (by simp)) (hu .time (by simp))
  have made := (hlog.same (t := u.startTracker r f)).produceHere (exitCode e) (word u.seat.sinceUnseated) 0
  rw [State.planAxleNumber_congr (s := s) (by simp [hslots]) (by simp [htab]), hms,
    List.nil_append] at made
  rw [State.reportExit_held u e r f (hseq ▸ hwait), hseq, if_neg hheld]
  refine ⟨?_, by simp [State.exitReported_seat, hseat], fun p hp' => ?_⟩
  · refine Logged.entryMade (Logged.publish (Logged.same (s := u.exitReported e r f) ?_) s) hw
    rw [State.exitReported, hms]
    exact made
  · have hkept := u.exitReported_kept e r f p
    have := hu p
    cases p <;> simp_all [Part.same]

/-- The detector's own words and an input's level stand behind no image (R196). -/
theorem publish_tracked (s : State) (i : Input) (d : Seating) :
    publish s ((s.settleLevel i).setSeat d) = (s.settleLevel i).setSeat d :=
  publish_same s ((s.setEng { s.eng with inputs := s.eng.inputs.set (inputIndex i) ⟨!s.level i, 0⟩ }).setSeat d) rfl rfl rfl rfl rfl

theorem tracked_kept (s : State) (i : Input) (d : Seating) :
    KeepsAllBut [.seat, .eng] s ((s.settleLevel i).setSeat d) := fun p hp => by
  cases p <;> simp_all [Part.same, State.settleLevel]

/-- The entry of a pass (R28). -/
def passCode (forward : Bool) : Nat := if forward then evPassForward else evPassBackward

/-- The state in which the sequencer takes a pass: its entry made (R30). -/
def State.passReported (s : State) (forward : Bool) : State := s.produceHere (passCode forward) 0 0

theorem State.reportPass_eq (s : State) (forward : Bool) :
    s.reportPass forward = frameAfter (s.passReported forward) ((s.passReported forward).seqPass forward) := rfl

/-- A pass away from APPROACH is reported and no more (R132). -/
theorem State.reportPass_ignored (s : State) (forward : Bool) (h : s.seq.state ≠ .approach) :
    s.reportPass forward = s.passReported forward := by
  rw [State.reportPass_eq, State.seqPass, if_neg (by simpa [State.passReported] using h), frameAfter_of_seq rfl]

/-- The tracker has judged a pass: the state with the record it keeps, and the entry (R27, R28). -/
theorem tracked_logged (s : State) (i : Input) (d : Seating) (forward : Bool) :
    Logged s (((s.settleLevel i).setSeat d).passReported forward) [⟨passCode forward, s.planAxleNumber, 0, 0⟩] := by
  have hlog : Logged s ((s.settleLevel i).setSeat d) [] :=
    (Logged.refl s).same (by simp [State.settleLevel]) (by simp [State.settleLevel]) (by simp [State.settleLevel])
  have made := hlog.produceHere (passCode forward) 0 0
  rwa [State.planAxleNumber_congr (s := s) (by simp [State.settleLevel]) (by simp [State.settleLevel])] at made

/-- A pass that the sequencer does not take: the entry and the tracker's record (R28). -/
theorem pass_ignored (s : State) (hw : Memory.wf s.mem) (h : s.seq.state ≠ .approach) (i : Input) (d : Seating) (forward : Bool) :
    EntryMade s (publish s (((s.settleLevel i).setSeat d).reportPass forward)) (passCode forward) s.planAxleNumber 0 0 ∧
    (publish s (((s.settleLevel i).setSeat d).reportPass forward)).seat = d ∧
    KeepsAllBut [.mem, .jr, .att, .seat, .eng] s (publish s (((s.settleLevel i).setSeat d).reportPass forward)) := by
  rw [State.reportPass_ignored _ _ (by simpa [State.settleLevel] using h)]
  refine ⟨((tracked_logged s i d forward).publish s).entryMade hw, by simp [State.passReported], fun p hp => ?_⟩
  cases p <;> simp_all [Part.same, State.passReported, State.settleLevel]

/-! ## Passes in APPROACH (R132) -/

/-- The axle under the cursor has rolled through forward, as APPROACH takes it (R132). -/
theorem State.seqPass_forward (s : State) (hq : s.seq.state = .approach) (hk : s.tab.cursor < s.tab.records.length)
    (hw : Memory.wf s.mem) :
    (s.seqPass true).tab = { s.tab with
      cursor := s.tab.cursor + 1
      records := s.tab.records.set s.tab.cursor (if (s.record s.tab.cursor).status = .done then s.record s.tab.cursor
        else { s.record s.tab.cursor with status := .skipped, skip := some .rolledThrough }) } ∧
    (s.seqPass true).seq.heldExit = .none ∧
    (s.tab.cursor + 1 < s.tab.axleCount → (s.seqPass true).seq.state = .approach ∧ (s.seqPass true).slots = s.slots ∧
      (s.seqPass true).jr = s.jr) ∧
    (s.tab.axleCount ≤ s.tab.cursor + 1 → (s.seqPass true).seq.state = .complete ∧
      (s.seqPass true).att.bits.getLsbD 5 = true ∧
      ∀ n, s.activeSlot .runPlan = some n → SlotDone (s.seqPass true) n .ok .none []) := by
  set u := if (s.record s.tab.cursor).status = .done then s else s.setStatus s.tab.cursor .skipped (some .rolledThrough) with hu
  have hwf : Memory.wf u.mem := by
    rw [hu]
    split
    · exact hw
    · exact State.rewriteFields_wf _ _ _ _ hw
  have htab : u.tab = { s.tab with
      records := s.tab.records.set s.tab.cursor (if (s.record s.tab.cursor).status = .done then s.record s.tab.cursor
        else { s.record s.tab.cursor with status := .skipped, skip := some .rolledThrough }) } := by
    rw [hu]
    split
    · rw [State.set_record_self s _ hk]
    · simp [State.setStatus_tab]
  have hslots : u.slots = s.slots := by
    rw [hu]
    split <;> simp
  have hjr : u.jr = s.jr := by
    rw [hu]
    split <;> simp
  have hseq : u.seq = s.seq := by
    rw [hu]
    split <;> simp
  have hpass : s.seqPass true = u.advanceCursor .approach := by simp [State.seqPass, hq, hu]
  obtain ⟨h1, h2, h3, h4⟩ := u.advanceCursor_event (by simp [hseq, hq]) hwf
  have hcursor : u.tab.cursor = s.tab.cursor := by rw [htab]
  have hcount : u.tab.axleCount = s.tab.axleCount := by rw [htab]
  rw [hcursor, hcount] at h3 h4
  rw [hpass]
  refine ⟨by rw [h1, htab], h2, fun h => ⟨(h3 h).1, (h3 h).2.trans hslots, ?_⟩, fun h => ?_⟩
  · have hstay : u.advanceCursor .approach = u.setCursor (s.tab.cursor + 1) := by
      have hadvance : u.advanceCursor .approach = if u.tab.axleCount ≤ u.tab.cursor + 1
          then (u.setCursor (u.tab.cursor + 1)).enterComplete else (u.setCursor (u.tab.cursor + 1)).enterSeq .approach := rfl
      rw [hadvance, if_neg (by omega), hcursor]
      exact State.enterSeq_of_eq _ _ (by simp [State.setCursor, hseq, hq])
    rw [hstay]
    simp [State.setCursor, hjr]
  · obtain ⟨hstate, hlane, hdone⟩ := h4 h
    exact ⟨hstate, hlane, fun n hn => hdone n ((State.activeSlot_congr hslots _).trans hn)⟩

/-! ## The settling of a beam (O32) -/

/-- What a tracker that waits for the rear beam makes of it (R27, R28). -/
theorem State.trackBeams_rear (s : State) :
    s.trackBeams true false = match s.seat.record with
      | .empty => s.setSeat { s.seat with record := .rearOpen false false }
      | .rearOpen l _ => s.setSeat { s.seat with record := .rearOpen l true }
      | .frontOpen f => (s.setSeat { s.seat with record := if f then .frontOpen false else .empty }).reportPass false := by
  unfold State.trackBeams
  cases s.seat.record <;> simp

/-- What it makes of the front beam. -/
theorem State.trackBeams_front (s : State) :
    s.trackBeams false true = match s.seat.record with
      | .empty => s.setSeat { s.seat with record := .frontOpen false }
      | .rearOpen l f =>
        let t := s.setSeat { s.seat with record := if f then .rearOpen false false else .empty }
        if l then t.reportPass true else t
      | .frontOpen _ => s.setSeat { s.seat with record := .frontOpen true } := by
  unfold State.trackBeams
  cases s.seat.record <;> simp

/-- Settles O32: the beams decide an open exit window or are judged by the tracker, and the sequencer takes the report. -/
theorem beamsDecideExitsAndPasses : Obligations.BeamsDecideExitsAndPasses := by
  unfold Obligations.BeamsDecideExitsAndPasses
  refine ⟨fun s hin hseat hp hw => ?alone, fun s hin hseat hw hs hk => ?planned⟩
  case alone =>
    obtain ⟨-, happ, -⟩ := isWork_of_not_plan hp
    have hkept (i : Input) := s.settleLevel_kept i
    have hsseat (i : Input) : (s.settleLevel i).seat = s.seat := hkept i .seat (by simp)
    have hrf := s.settleLevel_levelNow hin (i := .beamR) (j := .beamF) (by simp)
    have hfr := s.settleLevel_levelNow hin (i := .beamF) (j := .beamR) (by simp)
    refine ⟨fun n hn hf hr => ⟨_, State.frontSettles hseat hf hr, ?forward⟩, fun n hn hr hf => ⟨_, State.rearSettles hseat hr hf, ?backward⟩,
      fun n hn hr hf => ⟨_, State.bothSettle hseat hr hf, ?unclear⟩, fun hn ha hr hf => ⟨_, State.rearSettles hseat hr hf, ?rear⟩,
      fun hn ha hf hr => ⟨_, State.frontSettles hseat hf hr, ?front⟩⟩
    case forward =>
      rw [State.freeBeam_window _ _ _ n (by rw [hsseat, hn])]
      obtain ⟨hentry, hst, hk⟩ := exit_ignored (hkept .beamF) hp hw hn .forward false true
      rw [State.openRecord_front, hfr] at hst
      exact ⟨hentry, hst, hk⟩
    case backward =>
      rw [State.freeBeam_window _ _ _ n (by rw [hsseat, hn])]
      obtain ⟨hentry, hst, hk⟩ := exit_ignored (hkept .beamR) hp hw hn .backward true false
      rw [State.openRecord_rear, hrf] at hst
      exact ⟨hentry, hst, hk⟩
    case unclear =>
      have hboth : KeepsAllBut [.eng] s ((s.settleLevel .beamR).settleLevel .beamF) :=
        (hkept .beamR).trans ((s.settleLevel .beamR).settleLevel_kept .beamF)
      rw [State.freeBeam_window _ _ _ n ((congrArg _ (hboth .seat (by simp))).trans hn)]
      obtain ⟨hentry, hst, -⟩ := exit_ignored hboth hp hw hn .unclear true true
      rw [State.openRecord_both] at hst
      exact ⟨hentry, hst⟩
    case rear =>
      rw [State.freeBeam_tracker _ _ _ (by rw [hsseat, hn]) (by rw [hsseat, ha]), State.trackBeams_rear, hsseat]
      refine ⟨fun he => ?_, fun l f he => ?_, fun f he => ?_⟩ <;> rw [he]
      · rw [publish_tracked]
        exact ⟨by simp, tracked_kept s _ _⟩
      · rw [publish_tracked]
        exact ⟨by simp, tracked_kept s _ _⟩
      · exact pass_ignored s hw happ _ _ false
    case front =>
      rw [State.freeBeam_tracker _ _ _ (by rw [hsseat, hn]) (by rw [hsseat, ha]), State.trackBeams_front, hsseat]
      refine ⟨fun he => ?_, fun f he => ?_, fun l f he => ?_⟩ <;> rw [he]
      · rw [publish_tracked]
        exact ⟨by simp, tracked_kept s _ _⟩
      · rw [publish_tracked]
        exact ⟨by simp, tracked_kept s _ _⟩
      · cases l with
        | true =>
          obtain ⟨hentry, hst, hk⟩ := pass_ignored s hw happ .beamF
            { s.seat with record := if f then .rearOpen false false else .empty } true
          exact ⟨hst, fun _ => ⟨hentry, hk⟩, fun h => by simp at h⟩
        | false =>
          simp only [Bool.false_eq_true, if_false]
          rw [publish_tracked]
          exact ⟨by simp, fun h => by simp at h, fun _ => tracked_kept s _ _⟩
  case planned =>
    intro k
    have hkept (i : Input) := s.settleLevel_kept i
    have hsseat (i : Input) : (s.settleLevel i).seat = s.seat := hkept i .seat (by simp)
    refine ⟨fun f hq hn ha he hf hr => ⟨_, State.frontSettles hseat hf hr, ?passForward⟩,
      fun f hq hn ha he hr hf => ⟨_, State.rearSettles hseat hr hf, ?passBackward⟩,
      fun n hq hn hf hr => ⟨_, State.frontSettles hseat hf hr, ?exitForward⟩,
      fun n hq hn hr hf => ⟨_, State.rearSettles hseat hr hf, ?exitBackward⟩⟩
    case passForward =>
      rw [State.freeBeam_tracker _ _ _ (by rw [hsseat, hn]) (by rw [hsseat, ha]), State.trackBeams_front, hsseat, he]
      simp only [if_true]
      set d : Seating := { s.seat with record := if f then .rearOpen false false else .empty }
      set u := ((s.settleLevel .beamF).setSeat d).passReported true with hu
      have hlog : Logged s u _ := tracked_logged s .beamF d true
      have htab : u.tab = s.tab := by simp [hu, State.passReported, State.settleLevel]
      have hslots : u.slots = s.slots := by simp [hu, State.passReported, State.settleLevel]
      have hseq : u.seq = s.seq := by simp [hu, State.passReported, State.settleLevel]
      obtain ⟨h1, h2, h3, h4⟩ := u.seqPass_forward (hseq ▸ hq) (htab ▸ hk) (hlog.wf hw)
      rw [htab] at h1 h3 h4
      simp only [State.record_congr htab, hslots, State.activeSlot_congr hslots] at h1 h3 h4
      rw [State.reportPass_eq, ← hu]
      refine ⟨by simpa using h1, by simpa using h2, by simp [hu, State.passReported, State.settleLevel],
        fun hc => ?_, fun hc => ?_⟩
      · obtain ⟨hstate, hsl, hj⟩ := h3 hc
        exact ⟨by simpa using hstate, by simpa using hsl, by simpa [hj] using hlog.produced⟩
      · obtain ⟨hstate, hlane, hdone⟩ := h4 hc
        exact ⟨by simpa using hstate, by simpa using hlane, fun n hn => SlotDone.congr (s := u.seqPass true) (hdone n hn) (by simp)
          fun a hb => (publish_readByte _ _ a (slotByte_not_image _ a hb)).trans (by simp)⟩
    case passBackward =>
      rw [State.freeBeam_tracker _ _ _ (by rw [hsseat, hn]) (by rw [hsseat, ha]), State.trackBeams_rear, hsseat, he]
      simp only
      set d : Seating := { s.seat with record := if f then .frontOpen false else .empty }
      set u := ((s.settleLevel .beamR).setSeat d).passReported false with hu
      have hlog : Logged s u _ := tracked_logged s .beamR d false
      have htab : u.tab = s.tab := by simp [hu, State.passReported, State.settleLevel]
      have hseq : u.seq = s.seq := by simp [hu, State.passReported, State.settleLevel]
      have hpass : u.seqPass false = if k = 0 then u else u.setCursor (k - 1) := by
        simp [State.seqPass, hseq, hq, htab, k]
      have hframe : frameAfter u (u.seqPass false) = u.seqPass false := by
        refine frameAfter_of_shown ?_ ?_ ?_ <;> rw [hpass] <;> split <;> simp [State.setCursor]
      rw [State.reportPass_eq, ← hu, hframe, hpass]
      by_cases hk0 : k = 0
      · rw [if_pos hk0]
        refine ⟨(hlog.publish s).produced, by simp [hseq, hq], fun _ p hp => ?_, fun h => absurd h (by omega)⟩
        cases p <;> simp_all [Part.same, State.passReported, State.settleLevel]
      · rw [if_neg hk0]
        refine ⟨((hlog.same (t := u.setCursor (k - 1)) (by simp) (by simp) (by simp)).publish s).produced,
          by simp [State.setCursor, hseq, hq], fun h => absurd h hk0,
          fun _ => ⟨by simp [State.setCursor, htab], by simp [State.setCursor], fun p hp => ?_⟩⟩
        cases p <;> simp_all [Part.same, State.passReported, State.settleLevel]
    case exitForward =>
      rw [State.freeBeam_window _ _ _ n (by rw [hsseat, hn])]
      set u := (s.settleLevel .beamF).exitReported .forward false true with hu
      have htab : u.tab = s.tab := by simp [hu, State.exitReported, State.settleLevel]
      have hslots : u.slots = s.slots := by simp [hu, State.exitReported, State.settleLevel]
      have hseq : u.seq = s.seq := by simp [hu, State.exitReported, State.settleLevel]
      have hlog : Logged (s.settleLevel .beamF) u _ := (s.settleLevel .beamF).exitReported_logged .forward false true
      have hwf : Memory.wf u.mem := hlog.wf (by simpa [State.settleLevel] using hw)
      have hexit : (s.settleLevel .beamF).windowBeams false true = frameAfter u u.exitForward := by
        simp [State.windowBeams, State.reportExit_eq, ← hu, State.seqExit, hseq, hq]
      rw [hexit]
      refine ⟨(State.exitForward_left u (htab ▸ hk) (by simp [hseq, hq]) hwf).congr htab.symm hslots.symm fun m a hb => ?_, ?_⟩
      · exact (publish_readByte _ _ a (slotByte_not_image _ a hb)).trans (by simp)
      · simp [hu, State.exitReported, State.settleLevel]
    case exitBackward =>
      rw [State.freeBeam_window _ _ _ n (by rw [hsseat, hn])]
      have hlog : Logged s (s.settleLevel .beamR) [] :=
        (Logged.refl s).same (by simp [State.settleLevel]) (by simp [State.settleLevel]) (by simp [State.settleLevel])
      have hseq : (s.settleLevel .beamR).seq = s.seq := hkept .beamR .seq (by simp)
      obtain ⟨h1, h2, h3⟩ := exitBackward_event (s.settleLevel .beamR) s .backward true false (hseq ▸ hq) (by simp) hlog
      rw [hseq] at h1
      exact ⟨h1, h2, ((hkept .beamR).mono (by simp)).trans (h3.mono (by simp))⟩

end Sys2Proof.Machine

/-! PROOFS. The seating of an axle (R25, R29, R30, R123, R131, R135): what a SEATED report writes, and the course the sequencer takes. -/

namespace Sys2Proof.Machine

set_option Elab.async false

/-! ## Reconciliation of the plate unit (R123) -/

/-- The entries of the missed axles with index i to i + k - 1 at a count of n (R123). -/
def missedEntries (n i k : Nat) : List JournalEntry := (List.range k).map (fun j => ⟨evPlateMissed, i + j + 1, word n, 0⟩)

theorem missedEntries_succ (n i k : Nat) :
    missedEntries n i (k + 1) = ⟨evPlateMissed, i + 1, word n, 0⟩ :: missedEntries n (i + 1) k := by
  simp only [missedEntries, List.range_succ_eq_map, List.map_cons, List.map_map]
  refine List.cons_eq_cons.2 ⟨rfl, List.map_congr_left fun j _ => ?_⟩
  simp only [Function.comp_apply]
  congr 1
  omega

theorem Logged.rewriteOptional {σ s : State} {l : List JournalEntry} (h : Logged σ s l) (k i n : Nat) :
    Logged σ (s.rewriteOptional k i n) l := (h.rewriteFields k 1 1).rewriteFields k i n

theorem Logged.setSideSlip {σ s : State} {l : List JournalEntry} (h : Logged σ s l) (k : Nat) (x : SideSlip) :
    Logged σ (s.setSideSlip k x) l := 
  (h.same (t := s.setRecord k { s.record k with sideSlip := x })).rewriteOptional k 5 2

theorem Logged.markMissed {σ : State} (n k : Nat) {s : State} {l : List JournalEntry} {i : Nat} (h : Logged σ s l) :
    Logged σ (s.markMissed n i k) (l ++ missedEntries n i k) := by
  induction k generalizing s l i with
  | zero => simpa [State.markMissed, missedEntries] using h
  | succ k ih =>
    have step := ih (i := i + 1) ((h.setSideSlip i ⟨none, false, true, false⟩).produce evPlateMissed (i + 1) (word n) 0)
    rw [List.append_assoc] at step
    rw [missedEntries_succ]
    exact step

theorem State.setSideSlip_tab (s : State) (k : Nat) (x : SideSlip) : (s.setSideSlip k x).tab =
    { s.tab with records := s.tab.records.set k { s.record k with sideSlip := x } } := by
  simp [State.setSideSlip, State.setRecord]

/-- What the missed writes leave of the table: the side-slip fields of the missed axles alone change (R51, R123). -/
theorem State.markMissed_tab (n k : Nat) (s : State) (i : Nat) :
    ∃ records, (s.markMissed n i k).tab = { s.tab with records := records } ∧ records.length = s.tab.records.length ∧
      ∀ j, j < s.tab.records.length → records.getD j (AxleRecord.cleared .empty) = { s.record j with
        sideSlip := if i ≤ j ∧ j < i + k then ⟨none, false, true, false⟩ else (s.record j).sideSlip } := by
  induction k generalizing s i with
  | zero => exact ⟨s.tab.records, rfl, rfl, fun j _ => by simp [State.record, show ¬ (i ≤ j ∧ j < i) by omega]⟩
  | succ k ih =>
    set u := (s.setSideSlip i ⟨none, false, true, false⟩).produce evPlateMissed (i + 1) (word n) 0 with hu
    have htab : u.tab = { s.tab with records := s.tab.records.set i { s.record i with sideSlip := ⟨none, false, true, false⟩ } } := by
      simp [hu, State.setSideSlip_tab]
    obtain ⟨records, h1, h2, h3⟩ := ih u (i + 1)
    refine ⟨records, by rw [State.markMissed, ← hu, h1, htab], by rw [h2, htab]; simp, fun j hj => ?_⟩
    have hrec : u.record j = if j = i then { s.record i with sideSlip := ⟨none, false, true, false⟩ } else s.record j := by
      by_cases hij : j = i
      · subst hij
        simp [State.record, htab, hj]
      · simp [State.record, htab, hij, Ne.symm hij]
    rw [h3 j (by rw [htab]; simpa using hj), hrec]
    by_cases hij : j = i
    · subst hij
      simp
    · have hiff : (i + 1 ≤ j ∧ j < i + 1 + k) ↔ (i ≤ j ∧ j < i + (k + 1)) := by omega
      simp only [if_neg hij, hiff]

/-- The reconciliation at a seating: the plate count, the missed axles and their entries (R123). -/
theorem State.reconcile_event (s : State) (h : s.planRuns = true) (hc : s.tab.cursor < s.tab.axleCount) :
    (∃ records, s.reconcile.tab = { s.tab with plateCount := max s.tab.plateCount (s.tab.cursor + 1), records := records } ∧
      records.length = s.tab.records.length ∧
      ∀ j, j < s.tab.records.length → records.getD j (AxleRecord.cleared .empty) = { s.record j with
        sideSlip := if s.tab.plateCount ≤ j ∧ j < s.tab.cursor + 1 then ⟨none, false, true, false⟩ else (s.record j).sideSlip }) ∧
    ∀ σ l, Logged σ s l →
      Logged σ s.reconcile (l ++ missedEntries (s.tab.cursor + 1) s.tab.plateCount (s.tab.cursor + 1 - s.tab.plateCount)) := by
  by_cases hp : s.tab.plateCount < s.tab.cursor + 1
  · set n := s.tab.cursor + 1 with hn
    have hrec : s.reconcile = (s.setPlateCount n).markMissed n s.tab.plateCount (n - s.tab.plateCount) := by
      simp only [State.reconcile, h, hc, ← hn, hp, decide_true, Bool.and_self, if_true]
    obtain ⟨records, h1, h2, h3⟩ := State.markMissed_tab n (n - s.tab.plateCount) (s.setPlateCount n) s.tab.plateCount
    rw [hrec]
    refine ⟨⟨records, ?_, h2, fun j hj => ?_⟩, fun σ l hlog => ?_⟩
    · rw [h1, Nat.max_eq_right (by omega)]
      rfl
    · rw [h3 j hj, Nat.add_sub_cancel' (by omega)]
      rfl
    · exact (hlog.same (t := s.setPlateCount n)).markMissed n (n - s.tab.plateCount)
  · have hrec : s.reconcile = s := by simp [State.reconcile, h, hc, hp]
    rw [hrec]
    refine ⟨⟨s.tab.records, by rw [Nat.max_eq_left (by omega)], rfl, fun j hj => ?_⟩, fun σ l hlog => ?_⟩
    · simp only [show ¬ (s.tab.plateCount ≤ j ∧ j < s.tab.cursor + 1) by omega, if_false]
      rfl
    · simpa [missedEntries, show s.tab.cursor + 1 - s.tab.plateCount = 0 by omega] using hlog

/-- In every state the reconciliation leaves the plan, the cursor and the number of records, and of a record all but its side-slip. -/
theorem State.reconcile_tab (s : State) :
    ∃ records count, s.reconcile.tab = { s.tab with plateCount := count, records := records } ∧
      records.length = s.tab.records.length := by
  unfold State.reconcile
  simp only
  split
  · obtain ⟨records, h1, h2, -⟩ := State.markMissed_tab (s.tab.cursor + 1) (s.tab.cursor + 1 - s.tab.plateCount)
      (s.setPlateCount (s.tab.cursor + 1)) s.tab.plateCount
    exact ⟨records, s.tab.cursor + 1, h1, h2⟩
  · exact ⟨s.tab.records, s.tab.plateCount, rfl, rfl⟩

theorem State.reconcile_none (s : State) (h : s.planRuns = false) : s.reconcile = s := by simp [State.reconcile, h]

theorem State.reconcile_wf (s : State) (h : Memory.wf s.mem) : Memory.wf s.reconcile.mem := by
  unfold State.reconcile
  simp only
  split
  · exact (((Logged.refl s).same (t := s.setPlateCount _)).markMissed _ _).wf h
  · exact h

theorem State.reconcile_kept (s : State) : KeepsAllBut [.mem, .jr, .att, .tab] s s.reconcile := fun p hp => by
  cases p <;> simp_all [Part.same]

/-! ## The course of an axle (R131) -/

/-- The words that show the sequencer state outlive an act beside them. -/
theorem SeqShown.congr {s t : State} (h : SeqShown s) (hq : t.seq.state = s.seq.state)
    (hm : ∀ a, seqByte a → Memory.readByte t.mem a = Memory.readByte s.mem a) : SeqShown t := by
  rw [SeqShown, hq, ← h]
  exact Memory.readWord_congr _ _ _ fun b h1 h2 => hm b (by unfold seqByte; omega)

theorem SeqShown.same {s t : State} (h : SeqShown s) (hm : t.mem = s.mem := by simp)
    (hq : t.seq.state = s.seq.state := by simp) : SeqShown t := h.congr hq fun _ _ => by rw [hm]

theorem seqByte_not_ring (a : Nat) (h : seqByte a) : ¬ ringByte a := by
  unfold seqByte at h
  unfold ringByte
  omega

/-- A change of state writes the word that shows it (R196). -/
theorem State.enterSeq_shown (s : State) (n : SeqState) (hw : Memory.wf s.mem) (h : s.seq.state ≠ n ∨ SeqShown s) :
    SeqShown (s.enterSeq n) := by
  by_cases hn : s.seq.state = n
  · rw [State.enterSeq_of_eq s n hn]
    exact h.resolve_left (fun hne => hne hn)
  · have hchange : SeqShown (s.changeSeq n) := by
      rw [SeqShown, State.changeSeq_mem, State.changeSeq_seq]
      exact State.putSeq_word s hw (s.seq.entered n)
    refine hchange.congr (by simp [Sequencer.entered]) fun a ha => ?_
    rw [State.enterSeq_eq s n hn]
    have hp := State.produce_readByte (s.changeSeq n) evSeqState (s.changeSeq n).planAxleNumber (word (codeOfSeq n))
      (word (codeOfSeq s.seq.state)) a fun hb => seqByte_not_ring a ha (nextEntryByte_ring _ a hb)
    simp only
    split
    · rw [State.raiseAttn_mem]
      exact hp
    · exact hp

theorem State.enterReview_logged {σ s : State} {l : List JournalEntry} (h : Logged σ s l) (hq : s.seq.state ≠ .review) :
    Logged σ s.enterReview (l ++ [seqEntry s .review]) :=
  (h.enterSeq .review hq).same (by simp [State.enterReview]) (by simp [State.enterReview]) (by simp)

theorem State.enterReview_shown (s : State) (hw : Memory.wf s.mem) (h : s.seq.state ≠ .review) : SeqShown s.enterReview :=
  (s.enterSeq_shown .review hw (.inl h)).same (by simp [State.enterReview]) (by simp [State.enterReview_seq])

theorem State.issueStart_readByte (s : State) (a : Nat) (h : ¬ ringByte a) :
    Memory.readByte s.issueStart.mem a = Memory.readByte s.mem a := by
  cases hr : s.startRefusal with
  | none =>
    rw [State.issueStart_taken s hr]
    exact State.startDrive_readByte _ _ _ _ a h
  | some r =>
    rw [State.issueStart_refused s (by simp [hr])]
    rfl

/-- An entry into SPINUP makes its entry and at most one more, and shows the state it ends in (R134). -/
theorem State.enterSpinup_event {σ s : State} {l : List JournalEntry} (h : Logged σ s l) (hq : s.seq.state ≠ .spinup)
    (runs : Runs) : (∃ tail : List JournalEntry, tail.length ≤ 2 ∧ Logged σ (s.enterSpinup runs) (l ++ tail)) ∧
      (Memory.wf s.mem → SeqShown (s.enterSpinup runs)) := by
  have entered := h.enterSeq .spinup hq
  cases ha : s.armRefused s.tab.cursor runs with
  | true =>
    rw [State.enterSpinup_reviewed s runs ha]
    have made := State.enterReview_logged entered (by simp)
    rw [List.append_assoc] at made
    exact ⟨⟨[_, _], Nat.le_refl 2, made⟩, fun hw => State.enterReview_shown _ (State.enterSeq_wf _ _ hw) (by simp)⟩
  | false =>
    rw [State.enterSpinup_armed s runs ha]
    have armed := entered.same (t := (s.enterSeq .spinup).armUnit s.tab.cursor runs)
    refine ⟨?_, fun hw => ?_⟩
    · by_cases hr : ((s.enterSeq .spinup).armUnit s.tab.cursor runs).startRefusal = none
      · obtain ⟨e, made⟩ := armed.issueStart_taken hr
        rw [List.append_assoc] at made
        exact ⟨[_, _], Nat.le_refl 2, made⟩
      · exact ⟨_, by simp, armed.issueStart_refused hr⟩
    · refine ((s.enterSeq_shown .spinup hw (.inl hq)).same (t := (s.enterSeq .spinup).armUnit s.tab.cursor runs)).congr
        (by rw [State.issueStart_seq]) fun a hb => State.issueStart_readByte _ a (seqByte_not_ring a hb)

/-- The course of a seated axle from APPROACH: at most two entries, the table and the drive's speed untouched, and the state it ends
in shown (R131). -/
theorem State.axleCourse_event {σ s : State} {l : List JournalEntry} (h : Logged σ s l) (hq : s.seq.state = .approach)
    (hs : s.seat.seated = true) : (∃ tail : List JournalEntry, tail.length ≤ 2 ∧ Logged σ s.axleCourse (l ++ tail)) ∧
      (Memory.wf s.mem → SeqShown s.axleCourse) ∧ s.axleCourse.tab = s.tab := by
  unfold State.axleCourse
  simp only
  split
  · exact ⟨⟨_, by simp, State.enterReview_logged h (by simp [hq])⟩, fun hw => s.enterReview_shown hw (by simp [hq]), by simp⟩
  · split
    · exact ⟨⟨_, by simp, (h.enterSeq .weigh (by simp [hq])).same⟩,
        fun hw => (s.enterSeq_shown .weigh hw (.inl (by simp [hq]))).same, by simp⟩
    · split
      · obtain ⟨h1, h2⟩ := State.enterSpinup_event h (by simp [hq]) (s.planAxle s.tab.cursor).runs
        exact ⟨h1, h2, by simp⟩
      · rw [State.enterExitWait_of_none s (.inl hs)]
        exact ⟨⟨_, by simp, h.enterSeq .exitWait (by simp [hq])⟩, fun hw => s.enterSeq_shown .exitWait hw (.inl (by simp [hq])),
          by simp⟩

/-! ## The sequencer at a SEATED report (R131, R135, R139) -/

/-- The sequencer with its held exit cleared (R139). -/
def State.clearHeld (s : State) : State := s.setSeq { s.seq with heldExit := .none }

theorem Logged.clearHeld {σ s : State} {l : List JournalEntry} (h : Logged σ s l) : Logged σ s.clearHeld l := h.same rfl rfl rfl

theorem State.seqSeated_approach (s : State) (h : s.seq.state = .approach) :
    s.seqSeated = (s.clearHeld.setStatus s.tab.cursor .inTest none).axleCourse := by
  simp [State.seqSeated, h, State.clearHeld]

theorem State.seqSeated_plan (s : State) (h : s.seq.state ≠ .approach) (hp : isPlanState s.seq.state = true) :
    s.seqSeated = s.clearHeld.repeatStart := by
  simp [State.seqSeated, h, hp, State.clearHeld]

theorem State.seqSeated_none (s : State) (h : isPlanState s.seq.state = false) : s.seqSeated = s := by
  have happ := (isWork_of_not_plan h).2.1
  simp [State.seqSeated, h, happ]

theorem Logged.setStatus {σ s : State} {l : List JournalEntry} (h : Logged σ s l) (k : Nat) (st : AxleStatus)
    (x : Option SkipReason) : Logged σ (s.setStatus k st x) l :=
  (h.same (t := s.setRecord k { s.record k with status := st, skip := if st = .skipped then x else none })).rewriteFields k 0 3

/-- What the sequencer makes of a SEATED report in a plan: at most two entries, and of the table the status under the cursor alone. -/
theorem State.seqSeated_event {σ s : State} {l : List JournalEntry} (h : Logged σ s l) (hs : s.seat.seated = true)
    (hp : isPlanState s.seq.state = true) :
    (∃ tail : List JournalEntry, tail.length ≤ 2 ∧ Logged σ s.seqSeated (l ++ tail)) ∧
    s.seqSeated.tab.plateCount = s.tab.plateCount ∧ (∀ k, k < s.tab.records.length →
      (s.seqSeated.record k).sideSlip = (s.record k).sideSlip) := by
  by_cases hq : s.seq.state = .approach
  · rw [State.seqSeated_approach s hq]
    have cleared := h.clearHeld.setStatus s.tab.cursor .inTest none
    obtain ⟨h1, -, h3⟩ := State.axleCourse_event cleared (by simp [State.clearHeld, hq]) (by simp [State.clearHeld, hs])
    refine ⟨h1, by rw [h3, State.setStatus_tab]; simp [State.clearHeld], fun k hk => ?_⟩
    rw [State.record_congr h3]
    by_cases hkc : k = s.tab.cursor
    · subst hkc
      simp [State.record, State.setStatus_tab, State.clearHeld, hk]
    · simp [State.record, State.setStatus_tab, State.clearHeld, Ne.symm hkc]
  · rw [State.seqSeated_plan s hq hp]
    have cleared := h.clearHeld
    refine ⟨?_, by simp [State.clearHeld], fun k _ => by rw [State.record_congr (s := s) (by simp [State.clearHeld])]⟩
    unfold State.repeatStart
    split
    · by_cases hr : s.clearHeld.startRefusal = none
      · obtain ⟨e, made⟩ := cleared.issueStart_taken hr
        exact ⟨_, by simp, made⟩
      · exact ⟨[], by simp, by simpa using cleared.issueStart_refused hr⟩
    · exact ⟨[], by simp, by simpa using cleared⟩

end Sys2Proof.Machine

/-! PROOFS. The SEATED report as one command (R25, R29, R30, R123, R131, R135). -/

namespace Sys2Proof.Machine

set_option Elab.async false

theorem exec_seated (s : State) (h : s.seat.seated = false) (hq : 101 ≤ s.seat.qualify) :
    exec .seated s = .next (publish s s.seatNow) :=
  congrArg (fun t => Host.Outcome.next (publish s t)) (if_pos (by simp [State.seatDue, h, qualifySamples, hq]))

/-! ## The report, part by part -/

/-- The state after the report of an exit window that is still open (R29). -/
def State.exitCleared (s : State) : State :=
  if s.seat.exitWindow.isSome then s.reportExit .unclear false false else s

/-- The seat fields of a seated axle (R25, R31). -/
def Seating.seatedNow (d : Seating) : Seating :=
  { d with seated := true, qualify := 0, lastBeam := none, record := .empty, active := false, exitWindow := none }

/-- The state with the axle seated and the SEATED entry made, which the plate unit reconciles (R25, R30). -/
def State.seatReported (s : State) : State :=
  (s.exitCleared.setSeat s.exitCleared.seat.seatedNow).loadEntry evSeated

theorem State.seatNow_eq (s : State) :
    s.seatNow = frameAfter s.seatReported.reconcile s.seatReported.reconcile.seqSeated := rfl

theorem State.exitCleared_none (s : State) (h : s.seat.exitWindow = none) : s.exitCleared = s := by simp [State.exitCleared, h]

theorem State.exitCleared_some (s : State) (h : s.seat.exitWindow ≠ none) :
    s.exitCleared = s.reportExit .unclear false false := by
  simp [State.exitCleared, Option.isSome_iff_ne_none, h]

/-- The sequencer after the report of an open exit window, which it takes as an exit backward (R29, R139, R140). -/
def State.exitSeq (s : State) : Sequencer :=
  if s.seat.exitWindow = none then s.seq
  else if s.seq.state = .exitWait then { s.seq with state := .approach, heldExit := .none }
  else if isWorkState s.seq.state ∨ s.seq.state = .paused then { s.seq with heldExit := .backward } else s.seq

/-- The number of entries before the SEATED entry (R29, R140). -/
def State.exitEntries (s : State) : Nat :=
  if s.seat.exitWindow = none then 0 else if s.seq.state = .exitWait then 2 else 1

theorem State.exitCleared_event (s : State) : s.exitCleared.seq = s.exitSeq ∧
    KeepsAllBut [.mem, .jr, .att, .seat, .seq, .disp] s s.exitCleared ∧
    ∃ l : List JournalEntry, l.length = s.exitEntries ∧ Logged s s.exitCleared l := by
  by_cases h : s.seat.exitWindow = none
  · rw [State.exitCleared_none s h]
    exact ⟨by simp [State.exitSeq, h], KeepsAllBut.refl _ _, [], by simp [State.exitEntries, h], Logged.refl s⟩
  · rw [State.exitCleared_some s h]
    by_cases hq : s.seq.state = .exitWait
    · have hseq : (s.exitReported .unclear false false).seq = s.seq := s.exitReported_kept _ _ _ .seq (by simp)
      have hne : (s.exitReported .unclear false false).seq.state ≠ .approach := by simp [hseq, hq]
      have hplate := State.enterSeq_plate_of_plan (s.exitReported .unclear false false) .approach rfl
      rw [State.reportExit_backward s _ _ _ hq (by simp)]
      refine ⟨by simp [State.enterSeq_seq, hseq, hq, Sequencer.entered, State.exitSeq, h], fun p hp => ?_, [_, _],
        by simp [State.exitEntries, h, hq], ((s.exitReported_logged _ _ _).enterSeq .approach hne).frameAfter _⟩
      have hkept := s.exitReported_kept .unclear false false p
      cases p <;> simp_all [Part.same]
    · rw [State.reportExit_held s _ _ _ hq]
      refine ⟨by simp [State.exitSeq, h, hq], fun p hp => ?_, [_], by simp [State.exitEntries, h, hq],
        (s.exitReported_logged .unclear false false).same⟩
      have hkept := s.exitReported_kept .unclear false false p
      cases p <;> simp_all [Part.same]

theorem State.exitCleared_restart (s : State) :
    s.exitCleared.seat.restart = if s.seat.exitWindow = none then s.seat.restart else .none := by
  by_cases h : s.seat.exitWindow = none
  · simp [State.exitCleared_none s h, h]
  · simp [State.exitCleared_some s h, State.reportExit_eq, State.exitReported_seat, h]

theorem State.seatReported_kept (s : State) : KeepsAllBut [.mem, .jr, .att, .seat, .seq, .disp] s s.seatReported := by
  obtain ⟨-, hkept, -⟩ := s.exitCleared_event
  refine hkept.trans fun p hp => ?_
  cases p <;> simp_all [Part.same, State.seatReported]

theorem State.seatReported_seq (s : State) : s.seatReported.seq = s.exitSeq := by
  obtain ⟨h, -⟩ := s.exitCleared_event
  simpa [State.seatReported] using h

theorem State.seatReported_seat (s : State) : s.seatReported.seat =
    ⟨true, 0, none, none, .empty, false, if s.seat.exitWindow = none then s.seat.restart else .none⟩ := by
  rw [← State.exitCleared_restart]
  simp [State.seatReported, Seating.seatedNow]

/-- The entries up to the SEATED entry (R29, R30). -/
theorem State.seatReported_logged (s : State) : ∃ l : List JournalEntry, l.length = s.exitEntries + 1 ∧ Logged s s.seatReported l := by
  obtain ⟨-, -, l, hlen, hlog⟩ := s.exitCleared_event
  exact ⟨_, by simp [hlen], (hlog.same (t := s.exitCleared.setSeat s.exitCleared.seat.seatedNow)).produceHere evSeated _ _⟩

/-- A seating outside a plan (R25, R148). -/
theorem State.seatNow_idle (s : State) (hp : isPlanState s.seq.state = false) : s.seatNow = s.seatReported := by
  have hseq : s.exitSeq = s.seq := by
    obtain ⟨h1, -, h2⟩ := isWork_of_not_plan hp
    simp [State.exitSeq, h1, h2]
  have hq : s.seatReported.seq = s.seq := s.seatReported_seq.trans hseq
  have hrec : s.seatReported.reconcile = s.seatReported :=
    State.reconcile_none _ (by simp [State.planRuns, hq, hp])
  rw [State.seatNow_eq, hrec, State.seqSeated_none _ (by rw [hq, hp]), frameAfter_of_seq rfl]

theorem State.seatReported_open (s : State) (h : s.seat.exitWindow = none) :
    s.seatReported = (s.setSeat s.seat.seatedNow).loadEntry evSeated := by
  simp [State.seatReported, State.exitCleared_none s h]

/-- The state that the sequencer finds: seated, reconciled (R123). -/
theorem State.reconciled_facts (s : State) : s.seatReported.reconcile.seq = s.exitSeq ∧
    s.seatReported.reconcile.seat.seated = true ∧ s.seatReported.reconcile.drv = s.drv ∧ s.seatReported.reconcile.eng = s.eng ∧
    s.seatReported.reconcile.slots = s.slots ∧
    (∃ records count, s.seatReported.reconcile.tab = { s.tab with plateCount := count, records := records } ∧
      records.length = s.tab.records.length) ∧
    (Memory.wf s.mem → Memory.wf s.seatReported.reconcile.mem) := by
  have hk := s.seatReported.reconcile_kept
  have hs := s.seatReported_kept
  obtain ⟨records, count, htab, hlen⟩ := s.seatReported.reconcile_tab
  obtain ⟨l, -, hlog⟩ := s.seatReported_logged
  have htab' : s.seatReported.tab = s.tab := hs .tab (by simp)
  refine ⟨Eq.trans (hk .seq (by simp)) s.seatReported_seq, ?_, Eq.trans (hk .drv (by simp)) (hs .drv (by simp)),
    Eq.trans (hk .eng (by simp)) (hs .eng (by simp)), Eq.trans (hk .slots (by simp)) (hs .slots (by simp)),
    ⟨records, count, by rw [htab, htab'], by rw [hlen, htab']⟩, fun hw => State.reconcile_wf _ (hlog.wf hw)⟩
  rw [show s.seatReported.reconcile.seat = s.seatReported.seat from hk .seat (by simp), State.seatReported_seat]

theorem PlanAxle.wants_bits (a : PlanAxle) : a.wantsWeigh = a.tests.getLsbD 0 ∧ a.wantsOvality = a.tests.getLsbD 1 ∧
    a.wantsService = a.tests.getLsbD 2 ∧ a.wantsParking = a.tests.getLsbD 3 := by
  simp only [PlanAxle.wantsWeigh, PlanAxle.wantsOvality, PlanAxle.wantsService, PlanAxle.wantsParking, bitOf, testBit_toNat,
    and_self]

/-- The start command reads of the table the plan and the cursor alone (R134). -/
theorem StartedBySequencer.congr_plan {s s' t t' : State} (h : StartedBySequencer s t) (hd : s'.drv = s.drv)
    (hp : s'.tab.plan = s.tab.plan) (hc : s'.tab.cursor = s.tab.cursor) (hd' : t'.drv = t.drv) : StartedBySequencer s' t' := by
  unfold StartedBySequencer at *
  simp only [State.planAxle, hd, hp, hc, hd'] at *
  exact h

/-- Settles O30: the seated axle with its entries, the reconciliation, the course from APPROACH and the repeat of a refused start. -/
theorem seatedReport : Obligations.SeatedReport := by
  unfold Obligations.SeatedReport
  refine ⟨fun s hseat hqual hw => ⟨_, exec_seated s hseat hqual, ?seat, fun hp hn => ?idle, fun hp hn => ?window,
    fun hq hn hk hmark hweigh => ?weigh, fun hq hn => ?back⟩, fun s hseat hqual hw hplan hcur hax hlen => ?plate,
    fun s hseat hqual hn hq href => ?again⟩
  case seat =>
    rw [← State.seatReported_seat]
    simp [State.seatNow_eq]
  case idle =>
    rw [State.seatNow_idle s hp, State.seatReported_open s hn]
    have made := (((Logged.refl s).same (t := s.setSeat s.seat.seatedNow)).produceHere evSeated (signedWord (s.filtered 2))
      (signedWord (s.filtered 3))).publish s
    refine ⟨made.entryMade hw, fun p hp' => ?_⟩
    cases p <;> simp_all [Part.same]
  case window =>
    obtain ⟨l, hl, hlog⟩ := s.seatReported_logged
    have hwait := (isWork_of_not_plan hp).1
    rw [State.seatNow_idle s hp, (hlog.publish s).produced, hl]
    simp [State.exitEntries, hn, hwait]
  case weigh =>
    obtain ⟨hseq, hseated, hdrv, -, -, ⟨records, count, htab, hrl⟩, -⟩ := s.reconciled_facts
    rw [State.exitSeq, if_pos hn] at hseq
    rw [State.seatNow_eq]
    generalize s.seatReported.reconcile = v at *
    set u := v.clearHeld.setStatus v.tab.cursor .inTest none with hu
    have hcourse : v.seqSeated = (u.enterSeq .weigh).startWeighing := by
      rw [State.seqSeated_approach _ (by rw [hseq, hq]), ← hu, State.axleCourse]
      have hmark' : u.seq.reviewMarks.getD u.tab.cursor false = false := by
        simpa [hu, State.clearHeld, hseq, State.setStatus_tab, htab] using hmark
      have hwants : (u.planAxle u.tab.cursor).wantsWeigh = true := by
        rw [(PlanAxle.wants_bits _).1]
        simpa [hu, State.clearHeld, State.planAxle, State.setStatus_tab, htab] using hweigh
      simp only [hmark', hwants, Bool.false_eq_true, if_false, if_true]
    rw [hcourse]
    have hcursor : u.tab.cursor = s.tab.cursor := by simp [hu, State.clearHeld, State.setStatus_tab, htab]
    refine ⟨by simp [State.startWeighing], by simp [State.startWeighing, hcursor], ?_, ?_, by simp [hu, State.clearHeld, hdrv]⟩ <;>
      simp [State.record, hu, State.clearHeld, State.setStatus_tab, htab, hrl, hk]
  case back =>
    obtain ⟨hseq, hseated, hdrv, -, -, ⟨records, count, htab, hrl⟩, hwf⟩ := s.reconciled_facts
    rw [State.exitSeq, if_neg hn, if_pos hq] at hseq
    have hnow := State.seatNow_eq s
    generalize s.seatReported.reconcile = v at *
    set u := v.clearHeld.setStatus v.tab.cursor .inTest none with hu
    have hcourse : v.seqSeated = u.axleCourse := State.seqSeated_approach _ (by rw [hseq])
    have hwfu : Memory.wf u.mem := ((Logged.refl v).clearHeld.setStatus _ _ _).wf (hwf hw)
    have hseatu : u.seat.seated = true := by simpa [hu, State.clearHeld] using hseated
    obtain ⟨⟨tail, -, hlog⟩, hshown, -⟩ := State.axleCourse_event (Logged.refl u) (by simp [hu, State.clearHeld, hseq]) hseatu
    have hsh : SeqShown s.seatNow := by
      rw [hnow, hcourse]
      exact (hshown hwfu).same
    have hwt : Memory.wf s.seatNow.mem := by
      rw [hnow, hcourse]
      simpa using hlog.wf hwfu
    refine ⟨?_, fun hmark hbits => ?_⟩
    · have hword := publish_headerWord_shown s s.seatNow hwt 1 (by simp) (.inr hsh)
      rw [show (publish s s.seatNow).seq = s.seatNow.seq by simp]
      exact hword
    · have hmark' : u.seq.reviewMarks.getD u.tab.cursor false = false := by
        simpa [hu, State.clearHeld, hseq, State.setStatus_tab, htab] using hmark
      have htests (k : Nat) (hk : k < 4) : (u.planAxle u.tab.cursor).tests.getLsbD k = false := by
        have hplan : u.planAxle u.tab.cursor = s.planAxle s.tab.cursor := by
          simp [hu, State.clearHeld, State.planAxle, State.setStatus_tab, htab]
        rw [hplan]
        exact hbits k hk
      obtain ⟨w1, w2, w3, w4⟩ := PlanAxle.wants_bits (u.planAxle u.tab.cursor)
      have hexit : u.axleCourse = u.enterExitWait := by
        simp only [State.axleCourse, hmark', w1, htests 0 (by simp), PlanAxle.runs, Runs.any, w2, w3, w4, htests 1 (by simp),
          htests 2 (by simp), htests 3 (by simp), Bool.or_false, Bool.false_eq_true, if_false]
      rw [hnow, hcourse, hexit, State.enterExitWait_of_none _ (.inl hseatu)]
      simp
  case plate =>
    intro n before
    obtain ⟨hactive, hstate⟩ : s.kindActive .runPlan = true ∧ isPlanState s.seq.state = true := by
      simpa [State.planRuns] using hplan
    have hkept := s.seatReported_kept
    have htab : s.seatReported.tab = s.tab := hkept .tab (by simp)
    have hslots : s.seatReported.slots = s.slots := hkept .slots (by simp)
    have hseq := s.seatReported_seq
    have hexitPlan : isPlanState s.exitSeq.state = true := by
      unfold State.exitSeq
      split
      · exact hstate
      · split
        · rfl
        · split <;> exact hstate
    have hruns : s.seatReported.planRuns = true := by
      simp [State.planRuns, State.kindActive_congr hslots, hactive, hseq, hexitPlan]
    obtain ⟨⟨records, hrtab, hrlen, hrec⟩, hmissed⟩ := s.seatReported.reconcile_event hruns (by rw [htab]; exact hcur)
    obtain ⟨l, hl, hlog⟩ := s.seatReported_logged
    have made := hmissed s l hlog
    obtain ⟨hrseq, hseated, -, -, -, -, -⟩ := s.reconciled_facts
    have hnow := State.seatNow_eq s
    have hrecord (k : Nat) : s.seatReported.record k = s.record k := State.record_congr htab k
    rw [htab] at made hrtab hrec hrlen
    generalize s.seatReported.reconcile = v at *
    have hplanned : isPlanState v.seq.state = true := by rw [hrseq]; exact hexitPlan
    obtain ⟨⟨tail, htail, hfinal⟩, hcount, hslip⟩ := State.seqSeated_event made hseated hplanned
    refine ⟨_, exec_seated s hseat hqual, ?_⟩
    rw [hnow]
    refine ⟨?count, fun k hk => ?slip, fun hq => ?produced, fun j hj hfit => ?entries⟩
    case count =>
      rw [show (publish s (frameAfter v v.seqSeated)).tab = v.seqSeated.tab by simp, hcount, hrtab]
    case slip =>
      have hvr : v.record k = records.getD k (AxleRecord.cleared .empty) := by rw [State.record, hrtab]
      rw [State.record_congr (s := v.seqSeated) (by simp), hslip k (by rw [hrtab, hrlen, hlen]; exact hk), hvr,
        hrec k (by rw [hlen]; exact hk), hrecord]
    case produced =>
      have hstay : v.seqSeated = v.clearHeld := by
        have hstates : v.seq.state ≠ .approach ∧ v.seq.state ≠ .spinup := by
          rw [hrseq]
          rcases hq with hq | ⟨hq, hn⟩
          · by_cases hn : s.seat.exitWindow = none <;> simp [State.exitSeq, hn, hq]
          · simp [State.exitSeq, hn, hq]
        rw [State.seqSeated_plan v hstates.1 hplanned, State.repeatStart_of_state v.clearHeld hstates.2]
      rw [hstay]
      have hp := ((made.clearHeld.frameAfter v).publish s).produced
      rw [List.length_append, hl, missedEntries, List.length_map, List.length_range] at hp
      exact hp
    case entries =>
      have hlen' : (l ++ missedEntries n s.tab.plateCount (n - s.tab.plateCount) ++ tail).length
          = before + 1 + (n - s.tab.plateCount) + tail.length := by
        simp only [List.length_append, hl, missedEntries, List.length_map, List.length_range]
        rfl
      have hbefore : l.length = before + 1 := hl
      replace hfinal : Logged s v.seqSeated (l ++ missedEntries n s.tab.plateCount (n - s.tab.plateCount) ++ tail) := hfinal
      have hword := ((hfinal.frameAfter v).publish s).words hw (before + 1 + j) (by omega) (fun _ => by omega)
        (by have : n ≤ 8 := by omega
            omega)
      have hget : (l ++ missedEntries n s.tab.plateCount (n - s.tab.plateCount) ++ tail)[before + 1 + j]'(by omega)
          = ⟨evPlateMissed, s.tab.plateCount + j + 1, word n, 0⟩ := by
        rw [List.getElem_append_left (by simp [missedEntries, hbefore]; omega), List.getElem_append_right (by omega)]
        simp [missedEntries, hbefore]
      rw [hget, if_neg (by omega), show before + 1 + j + 1 = before + 2 + j by omega] at hword
      exact hword
  case again =>
    intro refusal
    obtain ⟨hseq, hseated, hdrv, heng, -, ⟨records, count, htab, -⟩, -⟩ := s.reconciled_facts
    rw [State.exitSeq, if_pos hn] at hseq
    refine ⟨_, exec_seated s hseat hqual, ?_⟩
    rw [State.seatNow_eq]
    generalize s.seatReported.reconcile = v at *
    rw [State.seqSeated_plan v (by simp [hseq, hq]) (by simp [hseq, hq, isPlanState]),
      State.repeatStart_of_refused _ (by simp [State.clearHeld, hseq, hq]) (by simpa [State.clearHeld, hseq] using href)]
    have hrefusal : v.clearHeld.startRefusal = refusal := by
      have hl (i : Input) : v.level i = s.level i := level_of_inputs (by rw [heng]) i
      refine (State.startRefusal_congr (s := v) rfl rfl rfl).trans ?_
      simp [State.startRefusal, hdrv, heng, hl, hseated, refusal]
    have hstarted : v.clearHeld.issueStart.seq = { s.seq with heldExit := .none, refusal := refusal } := by
      rw [State.issueStart_seq, hrefusal]
      simp [State.clearHeld, hseq]
    refine ⟨by simp [State.clearHeld, hseated], by simpa using hstarted, fun hne => ?_, fun hnone => ?_⟩
    · rw [State.issueStart_refused _ (hrefusal ▸ hne)]
      simp [State.clearHeld, hdrv]
    · exact (State.issueStart_started _ (hrefusal.trans hnone)).congr_plan (by simp [State.clearHeld, hdrv])
        (by simp [State.clearHeld, htab]) (by simp [State.clearHeld, htab]) (by simp)

end Sys2Proof.Machine

/-! PROOFS. The judgement of a stability window (R61, R62, R133), and the words of a record that an event writes whole (R47). -/

namespace Sys2Proof.Machine

set_option Elab.async false

/-! ## Words of a record's image that are written whole (R47) -/

/-- Word j of the image of axle record k shows the record (R211). -/
def FieldShown (t : State) (k j : Nat) : Prop :=
  (recordWords (t.record k))[j]? = some (Memory.readWord t.mem (recordAddr k j))

theorem FieldShown.publish {t : State} {k j : Nat} (h : FieldShown t k j) (hw : Memory.wf t.mem) (hk : k < 8) (hj : j < 128)
    (old : State) : FieldShown (publish old t) k j := by
  have hi : 128 + 128 * k + j < 1152 := by omega
  have hword := tableWords_record t.tab k j hk hj
  rw [FieldShown, State.record_congr (s := t) (by simp), recordAddr_eq, publish_tableWord old t hw _ hi]
  split
  · rw [← recordAddr_eq]
    exact h
  · exact hword.symm.trans (List.getElem?_eq_getElem (by simpa using hi))

/-- A word that shows its record outlives every edit of the table that leaves that part of the record. -/
theorem FieldShown.kept {σ t : State} {k j : Nat} (h : FieldShown σ k j) (ht : TableKept pastThree σ t) (hk : k < 8) (hj : j < 128)
    (hr : (recordWords (t.record k))[j]? = (recordWords (σ.record k))[j]?) : FieldShown t k j := by
  rcases ht.words k j hk hj with hw | ⟨-, hw⟩
  · rw [FieldShown, hr, hw]
    exact h
  · exact hw

theorem State.rewriteFields_shown (s : State) (k i n : Nat) {j : Nat} (hw : Memory.wf s.mem) (hk : k < 8) (hj : j < 128)
    (hi : i ≤ j ∧ j < i + n) : FieldShown (s.rewriteFields k i n) k j := by
  have hrw := s.rewriteFields_rewrites k i n
  rw [FieldShown, State.record_congr hrw.tab]
  exact hrw.write hw hk j hj hi

/-- The words of the weights (R211). -/
theorem recordWords_weights (r : AxleRecord) :
    (recordWords r)[3]? = some (signedWord (r.weightL.getD 0)) ∧ (recordWords r)[4]? = some (signedWord (r.weightR.getD 0)) := by
  rw [recordWords_head r (by simp), recordWords_head r (by simp), recordHead_fields r (by simp), recordHead_fields r (by simp)]
  exact ⟨rfl, rfl⟩

/-! ## The weighing's completion (R133) -/

/-- The weights of a record (R61). -/
def State.weightsOf (s : State) (k : Nat) : Option Int × Option Int := ((s.record k).weightL, (s.record k).weightR)

theorem State.weightsOf_congr {s t : State} (h : t.tab = s.tab) (k : Nat) : t.weightsOf k = s.weightsOf k := by
  simp [State.weightsOf, State.record_congr h]

theorem State.weightsOf_records {s t : State} (h : t.tab.records = s.tab.records) (k : Nat) : t.weightsOf k = s.weightsOf k := by
  simp [State.weightsOf, State.record, h]

theorem State.weightsOf_setStatus (s : State) (i : Nat) (st : AxleStatus) (x : Option SkipReason) (k : Nat) :
    (s.setStatus i st x).weightsOf k = s.weightsOf k := by
  have hrec : (s.setStatus i st x).record k = (s.setRecord i { s.record i with
      status := st, skip := if st = .skipped then x else none }).record k := by
    simp [State.record, State.setStatus_tab, State.setRecord]
  rcases s.record_setRecord i k { s.record i with status := st, skip := if st = .skipped then x else none } with ⟨h, -⟩ | ⟨rfl, h⟩ <;>
    simp [State.weightsOf, hrec, h]

theorem State.advanceCursor_records (s : State) (n : SeqState) : (s.advanceCursor n).tab.records = s.tab.records := by
  simp only [State.advanceCursor, State.enterComplete]
  split <;> simp [State.setCursor]

theorem State.exitForward_weightsOf (s : State) (k : Nat) : s.exitForward.weightsOf k = s.weightsOf k := by
  simp only [State.exitForward]
  rw [State.weightsOf_records (State.advanceCursor_records _ _)]
  split
  · rfl
  · exact s.weightsOf_setStatus _ _ _ k

theorem State.enterExitWait_weightsOf (s : State) (k : Nat) : s.enterExitWait.weightsOf k = s.weightsOf k := by
  have entered (n : SeqState) (t : State) : (t.enterSeq n).weightsOf k = t.weightsOf k := State.weightsOf_congr (by simp) k
  simp only [State.enterExitWait]
  split
  · exact entered _ s
  · split
    · exact entered _ s
    · rw [State.exitForward_weightsOf, entered]
    · rw [State.exitBackward, entered, entered]

/-- What the sequencer makes of a weighing leaves every weight alone (R133). -/
theorem State.seqWeighed_weightsOf (s : State) (k : Nat) : s.seqWeighed.weightsOf k = s.weightsOf k := by
  simp only [State.seqWeighed]
  split
  · split
    · exact State.weightsOf_congr (by simp) k
    · exact s.enterExitWait_weightsOf k
  · rfl

theorem Runs.any_eq_false (r : Runs) : r.any = false ↔ r = ⟨false, false, false⟩ := by
  obtain ⟨o, v, p⟩ := r
  simp [Runs.any, and_assoc]

/-- An axle that is to be braked no further waits for its exit (R133). -/
theorem State.weighHandsOver_exit {σ u : State} {l : List JournalEntry} (h : Logged σ u l) (hq : u.seq.state = .weigh)
    (hr : (u.planAxle u.tab.cursor).runs = ⟨false, false, false⟩) (hs : u.seat.seated = true) :
    u.weighHandsOver.seq.state = .exitWait ∧ u.weighHandsOver.tab = u.tab ∧
    ∃ tail : List JournalEntry, tail.length ≤ 2 ∧ Logged σ u.weighHandsOver (l ++ tail) := by
  have hweighed : (u.setWeigh none).seqWeighed = (u.setWeigh none).enterSeq .exitWait := by
    have hnone : ((u.setWeigh none).planAxle (u.setWeigh none).tab.cursor).runs.any = false := (Runs.any_eq_false _).2 hr
    rw [State.seqWeighed, if_pos (by simpa using hq)]
    simp only [hnone, Bool.false_eq_true, if_false]
    exact State.enterExitWait_of_none _ (.inl hs)
  rw [State.weighHandsOver, hweighed]
  exact ⟨by simp, by simp, _, by simp, ((h.same (t := u.setWeigh none)).enterSeq .exitWait (by simp [hq])).frameAfter _⟩

/-- An axle that is to be braked spins up (R133, R134). -/
theorem State.weighHandsOver_spin {σ u : State} {l : List JournalEntry} (h : Logged σ u l) (hq : u.seq.state = .weigh)
    (hr : (u.planAxle u.tab.cursor).runs ≠ ⟨false, false, false⟩) (hp : u.run.phase = .idle)
    (hv : (u.record u.tab.cursor).violations < u.tab.plan.maxViolations.toNat) :
    u.weighHandsOver.seq.state = .spinup ∧ u.weighHandsOver.tab = u.tab ∧ u.weighHandsOver.run.phase = .armed ∧
    u.weighHandsOver.run.axle = u.tab.cursor ∧ u.weighHandsOver.run.runs = (u.planAxle u.tab.cursor).runs ∧
    ∃ tail : List JournalEntry, tail.length ≤ 2 ∧ Logged σ u.weighHandsOver (l ++ tail) := by
  have hweighed : (u.setWeigh none).seqWeighed = (u.setWeigh none).enterSpinup (u.planAxle u.tab.cursor).runs := by
    have hany : (u.planAxle u.tab.cursor).runs.any = true := by
      rw [← Bool.not_eq_false]
      exact fun hf => hr ((Runs.any_eq_false _).1 hf)
    rw [State.seqWeighed, if_pos (by simpa using hq)]
    exact if_pos hany
  have harm : (u.setWeigh none).armRefused (u.setWeigh none).tab.cursor (u.planAxle u.tab.cursor).runs = false := by
    rw [State.armRefused, show (u.setWeigh none).run.phase = .idle from hp]
    simp only [State.setWeigh_tab, State.record_congr (s := u) (State.setWeigh_tab _ _), decide_eq_false (Nat.not_le.2 hv),
      Bool.and_false, Bool.or_false]
    rfl
  have hspin := State.enterSpinup_armed (u.setWeigh none) _ harm
  obtain ⟨⟨tail, htail, made⟩, -⟩ := State.enterSpinup_event (h.same (t := u.setWeigh none)) (by simp [hq])
    (u.planAxle u.tab.cursor).runs
  rw [State.weighHandsOver, hweighed]
  refine ⟨?_, by simp, ?_, ?_, ?_, tail, htail, made.frameAfter _⟩ <;> simp [hspin, State.issueStart_seq, State.armUnit]

/-- Where the sequencer waits for no weighing its completion is the weighing's alone (R133). -/
theorem State.weighHandsOver_ignored (u : State) (hq : u.seq.state ≠ .weigh) : u.weighHandsOver = u.setWeigh none := by
  rw [State.weighHandsOver, State.seqWeighed, if_neg (by simpa using hq), frameAfter_of_seq rfl]

@[simp] theorem State.weighHandsOver_weigh (u : State) : u.weighHandsOver.weigh = none := by
  simp [State.weighHandsOver]

theorem State.weighHandsOver_weightsOf (u : State) (k : Nat) : u.weighHandsOver.weightsOf k = u.weightsOf k := by
  rw [State.weighHandsOver, State.weightsOf_congr (s := (u.setWeigh none).seqWeighed) (by simp), State.seqWeighed_weightsOf,
    State.weightsOf_congr (State.setWeigh_tab u none)]

/-! ## The window's verdict (R61, R62) -/

theorem exec_weighWindowEnd (s : State) (w : Weighing) (h : s.weigh = some w) (hg : w.gathering = true) (hc : w.count % 200 = 0)
    (hn : 400 ≤ w.count) : exec .weighWindowEnd s = .next (publish s s.weighWindow) :=
  congrArg (fun t => Host.Outcome.next (publish s t)) (if_pos (by simp [State.weighDue, h, weighSamples, hg, hc, hn]))

/-- The record of the axle with the weights of the window (R61). -/
def Weighing.written (w : Weighing) (r : AxleRecord) : AxleRecord := { r with weightL := w.left.weight, weightR := w.right.weight }

/-- The state with both weights written whole (R47, R61). -/
def State.weightsWritten (s : State) (w : Weighing) : State :=
  (s.setRecord w.axle (w.written (s.record w.axle))).rewriteOptional w.axle 3 2

/-- The state with the weights written and the WEIGHED entry made (R61). -/
def State.weighed (s : State) (w : Weighing) : State :=
  (s.weightsWritten w).produce evWeighed (w.axle + 1) (weightWord w.left.weight) (weightWord w.right.weight)

theorem State.weightsWritten_wf (s : State) (w : Weighing) (h : Memory.wf s.mem) : Memory.wf (s.weightsWritten w).mem :=
  State.rewriteFields_wf _ _ _ _ (State.rewriteFields_wf _ _ _ _ h)

theorem State.weightsWritten_shown (s : State) (w : Weighing) (h : Memory.wf s.mem) (hk : w.axle < 8) {j : Nat}
    (hj : 3 ≤ j ∧ j < 5) : FieldShown (s.weightsWritten w) w.axle j :=
  State.rewriteFields_shown _ _ _ _ (State.rewriteFields_wf (s.setRecord w.axle (w.written (s.record w.axle))) _ _ _ h) hk (by omega) hj

theorem State.weighAccepted_eq (s : State) (w : Weighing) : s.weighAccepted w = (s.weighed w).weighHandsOver := rfl

theorem State.weighed_kept (s : State) (w : Weighing) : KeepsAllBut [.mem, .jr, .att, .tab] s (s.weighed w) := fun p hp => by
  cases p <;> simp_all [Part.same, State.weighed, State.weightsWritten]

theorem State.weighed_tab (s : State) (w : Weighing) : (s.weighed w).tab = { s.tab with
    records := s.tab.records.set w.axle (w.written (s.record w.axle)) } := by
  simp [State.weighed, State.weightsWritten, State.setRecord]

theorem State.weighed_logged (s : State) (w : Weighing) : Logged s (s.weighed w)
    [⟨evWeighed, w.axle + 1, weightWord w.left.weight, weightWord w.right.weight⟩] :=
  (((Logged.refl s).same (t := s.setRecord w.axle (w.written (s.record w.axle)))).rewriteOptional w.axle 3 2).produce evWeighed
    (w.axle + 1) _ _

theorem State.weighed_record (s : State) (w : Weighing) (h : w.axle < s.tab.records.length) : (s.weighed w).record w.axle =
    w.written (s.record w.axle) := by
  simp [State.record, State.weighed_tab, h]

theorem State.weighed_violations (s : State) (w : Weighing) (k : Nat) :
    ((s.weighed w).record k).violations = (s.record k).violations := by
  have hrec : (s.weighed w).record k = (s.setRecord w.axle (w.written (s.record w.axle))).record k :=
    State.record_congr (State.weighed_tab s w) k
  rcases s.record_setRecord w.axle k (w.written (s.record w.axle)) with ⟨h, -⟩ | ⟨rfl, h⟩
  · rw [hrec, h]
  · rw [hrec, h, Weighing.written]

/-- Both weights stand in the table area after an accepted window, whatever the sequencer does then (R47). -/
theorem State.weighed_words (s : State) (w : Weighing) (h : w.axle < s.tab.records.length) (hk : w.axle < 8)
    (hw : Memory.wf s.mem) : Memory.readWords (publish s (s.weighed w).weighHandsOver).mem (0x0A06 + 256 * w.axle) 2
      = [signedWord (w.left.weight.getD 0), signedWord (w.right.weight.getD 0)] := by
  have hR := tableKept_edit (s.weightsWritten w)
  have hkept : TableKept pastThree (s.weightsWritten w) (s.weighed w).weighHandsOver := State.weighHandsOver_holds hR
    (State.produce_holds evWeighed (w.axle + 1) (weightWord w.left.weight) (weightWord w.right.weight) hR.free
      (tableKept_refl pastThree (s.weightsWritten_wf w hw)))
  have hweights := (s.weighed w).weighHandsOver_weightsOf w.axle
  set u := (s.weighed w).weighHandsOver with hu
  obtain ⟨hl, hr⟩ : (u.record w.axle).weightL = w.left.weight ∧ (u.record w.axle).weightR = w.right.weight := by
    simpa [State.weightsOf, s.weighed_record w h, Weighing.written] using hweights
  have hrec : (s.weightsWritten w).record w.axle = w.written (s.record w.axle) :=
    (State.record_congr (by simp [State.weighed]) _).trans (s.weighed_record w h)
  obtain ⟨h3, h4⟩ := recordWords_weights (u.record w.axle)
  obtain ⟨g3, g4⟩ := recordWords_weights (w.written (s.record w.axle))
  rw [hl] at h3
  rw [hr] at h4
  have f3 := ((s.weightsWritten_shown w hw hk (j := 3) (by simp)).kept hkept hk (by simp) (by rw [hrec, h3]; exact g3.symm)).publish
    hkept.wf hk (by simp) s
  have f4 := ((s.weightsWritten_shown w hw hk (j := 4) (by simp)).kept hkept hk (by simp) (by rw [hrec, h4]; exact g4.symm)).publish
    hkept.wf hk (by simp) s
  rw [FieldShown, State.record_congr (s := u) (by simp)] at f3 f4
  rw [h3] at f3
  rw [h4] at f4
  have a3 : 0x0A06 + 256 * w.axle = recordAddr w.axle 3 := by unfold recordAddr; omega
  have a4 : recordAddr w.axle 3 + 2 = recordAddr w.axle 4 := rfl
  rw [a3]
  simp only [Memory.readWords, a4]
  rw [← Option.some.inj f3, ← Option.some.inj f4]

/-- The state with the WEIGH_UNSTABLE entry made (R62). -/
def State.notWeighed (s : State) (w : Weighing) : State :=
  s.produce evWeighUnstable (w.axle + 1) (signedWord w.left.spread) (signedWord w.right.spread)

theorem State.notWeighed_logged (s : State) (w : Weighing) : Logged s (s.notWeighed w)
    [⟨evWeighUnstable, w.axle + 1, signedWord w.left.spread, signedWord w.right.spread⟩] :=
  (Logged.refl s).produce evWeighUnstable (w.axle + 1) _ _

theorem State.notWeighed_kept (s : State) (w : Weighing) : KeepsAllBut [.mem, .jr, .att] s (s.notWeighed w) := fun p hp => by
  cases p <;> simp_all [Part.same, State.notWeighed]

theorem State.weighWindow_eq (s : State) (w : Weighing) (h : s.weigh = some w) : s.weighWindow =
    if w.left.greatest - w.left.least ≤ 20 ∧ w.right.greatest - w.right.least ≤ 20 then (s.weighed w).weighHandsOver
    else if 1200 ≤ w.count then (s.notWeighed w).weighHandsOver else s.setWeigh (some { w with gathering := false }) := by
  have hstable : (w.stable = true) = (w.left.greatest - w.left.least ≤ 20 ∧ w.right.greatest - w.right.least ≤ 20) := by
    simp [Weighing.stable, WeighSide.spread]
  simp only [State.weighWindow, h, hstable]
  rfl

/-- Settles O39: the verdict on a window, and what the sequencer makes of the weighing's completion. -/
theorem weighWindowEnd : Obligations.WeighWindowEnd := by
  unfold Obligations.WeighWindowEnd
  intro s w hweigh hg hc hn hax hw stable weight entryWord setAt entryFirst
  have first {t : State} {c : Nat} {p1 p2 : Word} {tail : List JournalEntry} (h : Logged s t (⟨c, w.axle + 1, p1, p2⟩ :: tail))
      (ht : tail.length ≤ 2) : entryFirst (publish s t) c p1 p2 := fun hb => (h.publish s).first (by omega) hw hb
  have hwindow := State.weighWindow_eq s w hweigh
  have hword (v : Option Int) : entryWord v = weightWord v := by cases v <;> rfl
  have hplan : ((s.weighed w).planAxle (s.weighed w).tab.cursor) = s.planAxle s.tab.cursor := by
    simp [State.planAxle, State.weighed_tab]
  have hseq : (s.weighed w).seq = s.seq := s.weighed_kept w .seq (by simp)
  have hseat : (s.weighed w).seat = s.seat := s.weighed_kept w .seat (by simp)
  have hrun : (s.weighed w).run = s.run := s.weighed_kept w .run (by simp)
  have nseq : (s.notWeighed w).seq = s.seq := s.notWeighed_kept w .seq (by simp)
  have nseat : (s.notWeighed w).seat = s.seat := s.notWeighed_kept w .seat (by simp)
  have nrun : (s.notWeighed w).run = s.run := s.notWeighed_kept w .run (by simp)
  have ntab : (s.notWeighed w).tab = s.tab := s.notWeighed_kept w .tab (by simp)
  have nplan : ((s.notWeighed w).planAxle (s.notWeighed w).tab.cursor) = s.planAxle s.tab.cursor := by
    simp [State.planAxle, ntab]
  have weights : ((publish s (s.weighed w).weighHandsOver).record w.axle).weightL = weight w.left ∧
      ((publish s (s.weighed w).weighHandsOver).record w.axle).weightR = weight w.right := by
    have h := (s.weighed w).weighHandsOver_weightsOf w.axle
    rw [State.record_congr (s := (s.weighed w).weighHandsOver) (by simp)]
    have hweight (x : WeighSide) : weight x = x.weight := rfl
    rw [hweight, hweight]
    simpa [State.weightsOf, s.weighed_record w hax, Weighing.written] using h
  refine ⟨_, exec_weighWindowEnd s w hweigh hg hc hn, ?_⟩
  refine ⟨fun h hk => ?words, fun h hq => ?weighed, fun h hq hr hs => ?leaves, fun h hq hr hp hv => ?spins, fun h hlast hq hr hs => ?unstableLeaves,
    fun h hlast hq hr hp hv => ?unstableSpins, fun h hlast hq => ?unstable, fun h hmore => ?again⟩
  case words =>
    rw [hwindow, if_pos h]
    exact s.weighed_words w hax hk hw
  case weighed =>
    rw [hwindow, if_pos h, State.weighHandsOver_ignored _ (hseq ▸ hq)]
    refine ⟨by rw [publish_tab]; exact State.weighed_tab s w, ?_, by simp, fun p hp => ?_⟩
    · simp only [hword]
      exact (((s.weighed_logged w).same (t := (s.weighed w).setWeigh none)).publish s).entryMade hw
    · have hkept := s.weighed_kept w p
      cases p <;> simp_all [Part.same]
  case leaves =>
    rw [hwindow, if_pos h]
    obtain ⟨hst, -, tail, ht, made⟩ := State.weighHandsOver_exit (s.weighed_logged w) (hseq ▸ hq) (hplan ▸ hr) (hseat ▸ hs)
    refine ⟨by simpa using hst, by simp, weights.1, weights.2, ?_⟩
    simp only [hword]
    exact first made ht
  case spins =>
    rw [hwindow, if_pos h]
    obtain ⟨hst, -, hph, hra, hrr, tail, ht, made⟩ := State.weighHandsOver_spin (s.weighed_logged w) (hseq ▸ hq) (hplan ▸ hr)
      (hrun ▸ hp) (by rw [State.weighed_violations, State.weighed_tab]; exact hv _)
    rw [hplan] at hrr
    refine ⟨by simpa using hst, by simpa using hph, by simpa [State.weighed_tab] using hra, by simpa using hrr, weights.1,
      weights.2, ?_⟩
    simp only [hword]
    exact first made ht
  case unstableLeaves =>
    rw [hwindow, if_neg h, if_pos hlast]
    obtain ⟨hst, htab, tail, ht, made⟩ := State.weighHandsOver_exit (s.notWeighed_logged w) (nseq ▸ hq) (nplan ▸ hr) (nseat ▸ hs)
    exact ⟨by simpa using hst, by simp, by simp [htab, ntab], first made ht⟩
  case unstableSpins =>
    rw [hwindow, if_neg h, if_pos hlast]
    obtain ⟨hst, htab, hph, hra, hrr, tail, ht, made⟩ := State.weighHandsOver_spin (s.notWeighed_logged w) (nseq ▸ hq) (nplan ▸ hr)
      (nrun ▸ hp) (by rw [State.record_congr ntab, ntab]; exact hv _)
    rw [nplan] at hrr
    exact ⟨by simpa using hst, by simp, by simpa using hph, by simpa [ntab] using hra, by simpa using hrr, by simp [htab, ntab],
      first made ht⟩
  case unstable =>
    rw [hwindow, if_neg h, if_pos hlast, State.weighHandsOver_ignored _ (nseq ▸ hq)]
    refine ⟨(((s.notWeighed_logged w).same (t := (s.notWeighed w).setWeigh none)).publish s).entryMade hw, by simp, fun p hp => ?_⟩
    have hkept := s.notWeighed_kept w p
    cases p <;> simp_all [Part.same]
  case again =>
    rw [hwindow, if_neg h, if_neg (by omega)]
    exact publish_same s _ rfl rfl rfl rfl rfl

end Sys2Proof.Machine

/-! PROOFS. The brake run unit's ends (R76, R79, R84 to R92): the attempt that is pushed, the parking result that is written, and the
end of the spin that the unit hands to the sequencer. -/

namespace Sys2Proof.Machine

set_option Elab.async false

/-! ## The attempt and the parking result in the table (R54, R55) -/

/-- An axle record after the push of an attempt (R55). -/
def AxleRecord.pushed (r : AxleRecord) (a : Attempt) : AxleRecord :=
  { r with attempts := pushOnto r.attempts a, overflow := r.overflow || decide (3 ≤ r.attempts.length) }

theorem AxleRecord.pushed_top (r : AxleRecord) (a : Attempt) : (r.pushed a).top = some a := by
  simp only [AxleRecord.top, AxleRecord.pushed, pushOnto]
  split <;> simp

theorem AxleRecord.pushed_length (r : AxleRecord) (a : Attempt) : (r.pushed a).attempts.length = min 3 (r.attempts.length + 1) := by
  rw [AxleRecord.pushed, pushOnto_length]
  split <;> omega

theorem State.pushAttempt_tab (s : State) (k : Nat) (a : Attempt) : (s.pushAttempt k a).tab = { s.tab with
    records := s.tab.records.set k ((s.record k).pushed { a with time := s.time }) } := by
  simp [State.pushAttempt, State.setRecord, AxleRecord.pushed]

/-- The entry of an attempt that is pushed (R88). -/
def attemptEntry (k : Nat) (a : Attempt) : JournalEntry :=
  ⟨evAttemptDone, k + 1, bytePair (codeOfEnd a.reason) 0,
    bytePair (flagWord [a.sensor, a.noOnset, a.unsteady]).toNat (codeOfRamp a.ramp)⟩

theorem Logged.pushAttempt {σ s : State} {l : List JournalEntry} (h : Logged σ s l) (k : Nat) (a : Attempt) :
    Logged σ (s.pushAttempt k a) (l ++ [attemptEntry k a]) := by
  have pushed := h.same (t := s.setRecord k ((s.record k).pushed { a with time := s.time }))
  exact ((pushed.rewriteFields k (if (s.record k).attempts.length < 3 then 8 else 9) 1).rewriteFields k
    (16 + 16 * ((pushOnto (s.record k).attempts { a with time := s.time }).length - 1)) 16).produce evAttemptDone (k + 1) _ _

/-- The parking result of the axle under test at the end of its run (R54, R91): peaks 0 for a run ended in PARK_ONSET. -/
def State.parkingResult (s : State) (reason : EndReason) : Parking :=
  ⟨if s.run.phase = .parkRun then s.run.parkPeakL else 0, if s.run.phase = .parkRun then s.run.parkPeakR else 0, reason, s.time⟩

theorem State.writeParking_eq (s : State) (reason : EndReason) : s.writeParking reason =
    ((s.setRecord s.run.axle { s.record s.run.axle with parking := some (s.parkingResult reason) }).rewriteOptional s.run.axle 10
      5).produce evAttemptDone (s.run.axle + 1) (bytePair (codeOfEnd reason) 1) 0 := by
  have hphase : (s.run.phase == .parkRun) = decide (s.run.phase = .parkRun) := rfl
  simp only [State.writeParking, State.parkingResult, hphase, decide_eq_true_eq]

theorem State.writeParking_tab (s : State) (reason : EndReason) : (s.writeParking reason).tab = { s.tab with
    records := s.tab.records.set s.run.axle { s.record s.run.axle with parking := some (s.parkingResult reason) } } := by
  simp [State.writeParking_eq, State.setRecord]

theorem Logged.writeParking {σ s : State} {l : List JournalEntry} (h : Logged σ s l) (reason : EndReason) :
    Logged σ (s.writeParking reason) (l ++ [⟨evAttemptDone, s.run.axle + 1, bytePair (codeOfEnd reason) 1, 0⟩]) := by
  rw [State.writeParking_eq]
  exact ((h.same (t := s.setRecord s.run.axle _)).rewriteOptional s.run.axle 10 5).produce evAttemptDone (s.run.axle + 1) _ _

/-! ## The record of the attempt part (R87, R100 to R102) -/

theorem projectionOf_eq_side (r : RunUnit) (slipped : Bool) (peak : Int) (press : Option Int) :
    projectionOf r.arm.air r.arm.channel r.openSeen r.arm.p0 r.arm.pref slipped peak press = sideProjection r slipped peak press := by
  unfold projectionOf sideProjection
  cases press with
  | none => simp
  | some p =>
    have habsent : (!r.arm.air || r.arm.channel.isNone || r.openSeen) = true ↔
        r.arm.air = false ∨ r.arm.channel = none ∨ r.openSeen = true := by
      simp [or_assoc]
    by_cases h : r.arm.air = false ∨ r.arm.channel = none ∨ r.openSeen = true
    · rw [if_pos (habsent.2 h)]
      exact (if_pos h).symm
    · rw [if_neg (mt habsent.1 h)]
      exact (if_neg h).symm

theorem State.fixAttempt_of (s : State) (reason : EndReason) : AttemptOf s.run (s.fixAttempt reason false) reason := by
  simp only [AttemptOf, State.fixAttempt, Bool.false_eq_true, if_false, projectionOf_eq_side, ownSlip, Prod.mk.eta, and_self]

/-! ## Hand-overs to the sequencer (R71, R88, R136) -/

theorem State.handPhase_of (s : State) (n : SeqState) (hq : isRunState s.seq.state = true) (hp : seqOfPhase s.run.phase = some n) :
    s.handPhase = frameAfter s (s.enterSeq n) := by
  simp [State.handPhase, hq, hp]

theorem State.ownerStop_commanded (s : State) (hq : isRunState s.seq.state = true) :
    ((s.ownerStop .commanded).enterSeq .spindown).seq = { s.seq with state := .spindown } ∧
    KeepsAllBut [.mem, .jr, .att, .dtest, .plate, .seq, .disp] s ((s.ownerStop .commanded).enterSeq .spindown) ∧
    ∀ σ l, Logged σ s l → ∃ e, Logged σ ((s.ownerStop .commanded).enterSeq .spindown) (l ++ [e]) := by
  have hne : s.seq.state ≠ .spindown := by
    intro h
    simp [h, isRunState] at hq
  obtain ⟨u, he, hseq, hkept, hm⟩ : ∃ u : State, (s.ownerStop .commanded).enterSeq .spindown = u.enterSeq .spindown ∧
      u.seq = s.seq ∧ KeepsAllBut [.dtest] s u ∧ u.mem = s.mem := by
    unfold State.ownerStop
    split
    · refine ⟨s, ?_, rfl, KeepsAllBut.refl _ s, rfl⟩
      rw [State.takeDriveStop, if_pos (by simp [hq]), State.enterSeq_of_eq _ .spindown (by simp)]
    · exact ⟨s.testStop .commanded, rfl, by simp, fun p hp => by cases p <;> simp_all [Part.same], by simp⟩
    · exact ⟨s, rfl, rfl, KeepsAllBut.refl _ s, rfl⟩
  rw [he]
  refine ⟨by rw [State.enterSeq_seq, hseq, if_neg hne]; rfl, (hkept.mono (by simp)).trans ((u.enterSeq_keepsAllBut .spindown).mono
    (by simp)), fun σ l h => ⟨_, (h.same hm (hkept .jr (by simp)) (hkept .time (by simp))).enterSeq .spindown (hseq ▸ hne)⟩⟩

/-- An IDLE unit takes no stop of the drive (R69). -/
theorem State.runStop_idle (s : State) (r : StopReason) (h : s.run.phase = .idle) : s.runStop r = s := by
  simp [State.runStop, h]

/-- The end of a spin of the unit's own making: the mark recorded, the drive stopped COMMANDED, SPINDOWN entered (R88, R136). -/
theorem State.handEndOfSpin_event (s : State) (owed : Bool) (hq : isRunState s.seq.state = true) (hd : s.drv.state = .run)
    (hp : s.run.phase = .idle) : Stopped s (s.handEndOfSpin owed) .commanded ∧
      (s.handEndOfSpin owed).seq = { s.seq with state := .spindown, parkingOwed := owed } ∧
      (s.handEndOfSpin owed).run = s.run ∧ (s.handEndOfSpin owed).tab = s.tab ∧
      ∀ σ l, Logged σ s l → ∃ e f, Logged σ (s.handEndOfSpin owed) (l ++ [e, f]) := by
  set t := s.setSeq { s.seq with parkingOwed := owed } with ht
  have hstop : t.stopDrive .commanded = (t.enterStopping .commanded).ownerStop .commanded := by
    have hrun : (t.enterStopping .commanded).run = s.run := by simp [ht]
    rw [State.stopDrive_eq t .commanded (by simp [ht, hd, isSpinning]), show t.stopCause .commanded = .commanded from rfl,
      State.runStop_idle _ _ (hrun ▸ hp)]
  have hend : s.handEndOfSpin owed = frameAfter s (((t.enterStopping .commanded).ownerStop .commanded).enterSeq .spindown) := by
    rw [← hstop]
    simp [State.handEndOfSpin, hq, ← ht, show t.drv = s.drv from rfl, hd]
  obtain ⟨hseq, hkept, hlog⟩ := State.ownerStop_commanded (t.enterStopping .commanded) (by simpa [ht] using hq)
  rw [hend]
  have hdrv : (((t.enterStopping .commanded).ownerStop .commanded).enterSeq .spindown).drv = (t.enterStopping .commanded).drv :=
    hkept .drv (by simp)
  refine ⟨?_, by simpa [ht] using hseq, by simp [ht], by simp [ht], fun σ l h => ?_⟩
  · rw [Stopped, show (frameAfter s _).drv = _ from (frameAfter_keepsAllBut s _) .drv (by simp), hdrv, State.enterStopping_drv]
    rfl
  · obtain ⟨f, made⟩ := hlog σ _ ((h.same (t := t) rfl rfl rfl).enterStopping .commanded)
    rw [List.append_assoc] at made
    exact ⟨_, f, made.frameAfter s⟩

end Sys2Proof.Machine

/-! PROOFS. The ends of the attempt part by the unit's own condition, and the expiry of its start window (R74 to R76, R79, R84, R89). -/

namespace Sys2Proof.Machine

set_option Elab.async false

/-! ## The attempt part ends (R79, R84, R88, R89) -/

/-- The unit with the record fixed and the parking wait begun on the same spin (R89). -/
def State.parkWaitBegun (s : State) (reason : EndReason) (noOnset : Bool) : State :=
  s.setRun (({ s.run with
    phase := .parkOnset, held := some (s.fixAttempt reason noOnset), parkExpiries := 0 } : RunUnit).beginWait s.clk.sampleNo s.released)

theorem State.ownEnd_parking (s : State) (reason : EndReason) (noOnset : Bool) (h : s.run.runs.parking = true)
    (hq : isRunState s.seq.state = true) : s.ownEnd reason noOnset =
      frameAfter (s.parkWaitBegun reason noOnset) ((s.parkWaitBegun reason noOnset).enterSeq .parkOnset) := by
  simp only [State.ownEnd, h, if_true]
  exact State.handPhase_of (s.parkWaitBegun reason noOnset) .parkOnset hq rfl

theorem State.parkWaitBegun_logged (s : State) (reason : EndReason) (noOnset : Bool) {σ : State} {l : List JournalEntry}
    (h : Logged σ s l) (hq : isRunState s.seq.state = true) (hr : s.run.runs.parking = true) :
    ∃ tail : List JournalEntry, tail.length ≤ 1 ∧ Logged σ (s.ownEnd reason noOnset) (l ++ tail) := by
  have begun : Logged σ (s.parkWaitBegun reason noOnset) l := h.same rfl rfl rfl
  rw [State.ownEnd_parking s reason noOnset hr hq]
  by_cases hn : (s.parkWaitBegun reason noOnset).seq.state = .parkOnset
  · rw [State.enterSeq_of_eq _ _ hn]
    exact ⟨[], by simp, by simpa using begun.frameAfter _⟩
  · exact ⟨_, by simp, (begun.enterSeq .parkOnset hn).frameAfter _⟩

/-- The state in which the sequencer takes the end of the spin: the attempt pushed and the unit IDLE (R88). -/
def State.attemptPushed (s : State) (reason : EndReason) (noOnset : Bool) : State :=
  (s.pushAttempt s.run.axle (s.fixAttempt reason noOnset)).idleUnit

theorem State.attemptPushed_tab (s : State) (reason : EndReason) (noOnset : Bool) : (s.attemptPushed reason noOnset).tab = { s.tab with
    records := s.tab.records.set s.run.axle ((s.record s.run.axle).pushed { s.fixAttempt reason noOnset with time := s.time }) } := by
  simp [State.attemptPushed, State.idleUnit, State.pushAttempt_tab]

/-- The attempt part ends without a parking run on its spin: the attempt pushed, the unit IDLE, the drive stopped (R88, R136). -/
theorem State.ownEnd_last (s : State) (reason : EndReason) (noOnset : Bool) (h : s.run.runs.parking = false)
    (hq : isRunState s.seq.state = true) (hd : s.drv.state = .run) :
    Stopped s (s.ownEnd reason noOnset) .commanded ∧ (s.ownEnd reason noOnset).seq = { s.seq with
        state := .spindown, parkingOwed := false } ∧ (s.ownEnd reason noOnset).run = RunUnit.cleared ∧
      (s.ownEnd reason noOnset).tab = (s.attemptPushed reason noOnset).tab ∧
      ∀ σ l, Logged σ s l → ∃ e f g, Logged σ (s.ownEnd reason noOnset) (l ++ [e, f, g]) := by
  have hown : s.ownEnd reason noOnset = (s.attemptPushed reason noOnset).handEndOfSpin false := by
    simp only [State.ownEnd, h, Bool.false_eq_true, if_false, State.attemptPushed]
  have hdrv : (s.attemptPushed reason noOnset).drv = s.drv := by simp [State.attemptPushed, State.idleUnit]
  have hseq : (s.attemptPushed reason noOnset).seq = s.seq := by simp [State.attemptPushed, State.idleUnit]
  have hrun : (s.attemptPushed reason noOnset).run = RunUnit.cleared := rfl
  obtain ⟨hstop, hsq, hr, ht, hlog⟩ := State.handEndOfSpin_event (s.attemptPushed reason noOnset) false (hseq ▸ hq) (hdrv ▸ hd) rfl
  rw [hown]
  refine ⟨?_, by rw [hsq, hseq], hr.trans hrun, ht, fun σ l hl => ?_⟩
  · rw [Stopped, hdrv] at hstop
    exact hstop
  · have pushed : Logged σ (s.attemptPushed reason noOnset) _ :=
      (hl.pushAttempt s.run.axle (s.fixAttempt reason noOnset)).same rfl rfl rfl
    obtain ⟨f, g, made⟩ := hlog σ _ pushed
    rw [List.append_assoc] at made
    exact ⟨_, f, g, made⟩

/-- What the host sees of an end of the attempt part (R79, R84, R88, R89). -/
theorem ownEnd_published (s : State) (reason : EndReason) (hd : s.drv.state = .run) (hq : isRunState s.seq.state = true) :
    let t := publish s (s.ownEnd reason false)
    (s.run.runs.parking = true → t.run.phase = .parkOnset ∧ t.run.parkExpiries = 0 ∧
      t.run.waitRef = s.clk.sampleNo ∧ t.run.waitBegan = s.clk.sampleNo ∧
      t.run.releaseMark = decide (s.filtered 0 + s.filtered 1 < 30) ∧
      (∃ a, t.run.held = some a ∧ AttemptOf s.run a reason) ∧ t.seq.state = .parkOnset ∧ t.drv = s.drv ∧ t.tab = s.tab) ∧
    (s.run.runs.parking = false → t.run = RunUnit.cleared ∧ Stopped s t .commanded ∧ t.seq.state = .spindown ∧
      t.seq.parkingOwed = false ∧ ∃ a, AttemptOf s.run a reason ∧ a.time = s.time ∧
        t.tab = { s.tab with records := s.tab.records.set s.run.axle { s.record s.run.axle with
          attempts := if (s.record s.run.axle).attempts.length < 3 then (s.record s.run.axle).attempts ++ [a]
            else (s.record s.run.axle).attempts.take 2 ++ [a]
          overflow := (s.record s.run.axle).overflow || decide (3 ≤ (s.record s.run.axle).attempts.length) } }) := by
  refine ⟨fun hr => ?parking, fun hr => ?last⟩
  case parking =>
    rw [State.ownEnd_parking s reason false hr hq]
    have hrun : (publish s (frameAfter (s.parkWaitBegun reason false) ((s.parkWaitBegun reason false).enterSeq .parkOnset))).run
        = (s.parkWaitBegun reason false).run := by simp
    rw [hrun]
    exact ⟨rfl, rfl, rfl, rfl, rfl, ⟨_, rfl, s.fixAttempt_of reason⟩, by simp, by simp [State.parkWaitBegun],
      by simp [State.parkWaitBegun]⟩
  case last =>
    obtain ⟨hstop, hseq, hrun, htab, -⟩ := s.ownEnd_last reason false hr hq hd
    refine ⟨by simpa using hrun, by simpa [Stopped] using hstop, by simp [hseq], by simp [hseq],
      { s.fixAttempt reason false with time := s.time }, s.fixAttempt_of reason, rfl, ?_⟩
    rw [publish_tab, htab, State.attemptPushed_tab]
    rfl

theorem exec_ovalityLimit (s : State) (hp : s.run.phase = .ovality) (hs : s.run.step ≠ .onsetWait)
    (hl : 30000 ≤ 5 * (s.clk.sampleNo - s.run.ovalityOnset)) :
    exec .ovalityLimit s = .next (publish s (s.ownEnd .runLimit false)) :=
  congrArg (fun t => Host.Outcome.next (publish s t)) (if_pos (by simp [State.ovalityLimitDue, hp, hs, runLimit, State.elapsed, hl]))

theorem exec_serviceRelease (s : State) (hp : s.run.phase = .serviceRun) (hc : 41 ≤ s.run.releaseCount) :
    exec .serviceRelease s = .next (publish s (s.ownEnd .release false)) :=
  congrArg (fun t => Host.Outcome.next (publish s t)) (if_pos (by simp [State.serviceReleaseDue, hp, releaseSamples, hc]))

theorem exec_serviceRunLimit (s : State) (hp : s.run.phase = .serviceRamp ∨ s.run.phase = .serviceRun ∧ s.run.releaseCount < 41)
    (hl : 30000 ≤ 5 * (s.clk.sampleNo - s.run.serviceOnset)) :
    exec .serviceRunLimit s = .next (publish s (s.ownEnd .runLimit false)) :=
  congrArg (fun t => Host.Outcome.next (publish s t)) (if_pos (by
    rcases hp with hp | ⟨hp, hc⟩
    · simp [State.serviceLimitDue, State.serviceReleaseDue, hp, runLimit, State.elapsed, hl]
    · simp [State.serviceLimitDue, State.serviceReleaseDue, hp, releaseSamples, Nat.not_le.2 hc, runLimit, State.elapsed, hl]))

/-- Settles O40: each of the three conditions ends the attempt part by the same act. -/
theorem attemptPartEndsByTheUnit : Obligations.AttemptPartEndsByTheUnit := by
  unfold Obligations.AttemptPartEndsByTheUnit
  intro s hd hq _ r setAt ended
  exact ⟨fun hp hs hl => ⟨_, exec_ovalityLimit s hp hs hl, ownEnd_published s .runLimit hd hq⟩,
    fun hp hc => ⟨_, exec_serviceRelease s hp hc, ownEnd_published s .release hd hq⟩,
    fun hp hl => ⟨_, exec_serviceRunLimit s hp hl, ownEnd_published s .runLimit hd hq⟩⟩

/-! ## The start window (R74 to R76) -/

theorem exec_startWindowExpiry (s : State) (hp : s.run.phase = .serviceOnset ∨ s.run.phase = .ovality ∧ s.run.step = .onsetWait)
    (hl : s.run.arm.startWindow ≤ 5 * (s.clk.sampleNo - s.run.waitRef)) :
    exec .startWindowExpiry s = .next (publish s s.startWindowExpires) :=
  congrArg (fun t => Host.Outcome.next (publish s t)) (if_pos (by
    rcases hp with hp | ⟨hp, hs⟩ <;> simp [State.startWindowDue, State.elapsed, *]))

/-- A violation below the maximum: the count raised and the entry made (R75). -/
theorem State.violation_eq (s : State) (cause : Nat) (h : (s.record s.run.axle).violations < s.run.arm.maxViolations)
    (hk : s.run.axle < s.tab.records.length) : s.violation cause =
      (s.setRecord s.run.axle { s.record s.run.axle with violations := (s.record s.run.axle).violations + 1 }).produce evRampViolation
        (s.run.axle + 1) (word cause) (word ((s.record s.run.axle).violations + 1)) := by
  have hraise : s.raiseViolation =
      s.setRecord s.run.axle { s.record s.run.axle with violations := (s.record s.run.axle).violations + 1 } :=
    if_neg (Nat.not_le.2 h)
  have hcount : (s.setRecord s.run.axle { s.record s.run.axle with violations := (s.record s.run.axle).violations + 1 }).record
      s.run.axle = { s.record s.run.axle with violations := (s.record s.run.axle).violations + 1 } := by
    rcases s.record_setRecord s.run.axle s.run.axle
      { s.record s.run.axle with violations := (s.record s.run.axle).violations + 1 } with ⟨-, -⟩ | ⟨-, h⟩
    · simp [State.record, State.setRecord, hk]
    · exact h
  rw [State.violation, hraise]
  simp only [State.setRecord, State.setTab_run] at hcount ⊢
  rw [hcount]

theorem State.violation_tab (s : State) (cause : Nat) (h : (s.record s.run.axle).violations < s.run.arm.maxViolations)
    (hk : s.run.axle < s.tab.records.length) : (s.violation cause).tab = { s.tab with
      records := s.tab.records.set s.run.axle { s.record s.run.axle with violations := (s.record s.run.axle).violations + 1 } } := by
  rw [State.violation_eq s cause h hk]
  simp [State.setRecord]

theorem State.violation_record (s : State) (cause : Nat) (h : (s.record s.run.axle).violations < s.run.arm.maxViolations)
    (hk : s.run.axle < s.tab.records.length) : (s.violation cause).record s.run.axle =
      { s.record s.run.axle with violations := (s.record s.run.axle).violations + 1 } := by
  simp [State.record, s.violation_tab cause h hk, hk]

theorem Logged.violation {σ s : State} {l : List JournalEntry} (hl : Logged σ s l) (cause : Nat)
    (h : (s.record s.run.axle).violations < s.run.arm.maxViolations) (hk : s.run.axle < s.tab.records.length) :
    Logged σ (s.violation cause) (l ++
      [⟨evRampViolation, s.run.axle + 1, word cause, word ((s.record s.run.axle).violations + 1)⟩]) := by
  rw [State.violation_eq s cause h hk]
  exact (hl.same (t := s.setRecord s.run.axle _)).produce evRampViolation _ _ _

theorem State.violation_kept (s : State) (cause : Nat) : KeepsAllBut [.mem, .jr, .att, .tab] s (s.violation cause) := fun p hp => by
  cases p <;> simp_all [Part.same]

/-- A frame that fell before an event was published, and after acts beside the display link (R156). -/
theorem FrameFell.from {s u t : State} (h : FrameFell u t) (hs : u.disp.sending = s.disp.sending) (hw : u.disp.waiting = s.disp.waiting)
    (hm : u.disp.lastMessage = s.disp.lastMessage) : FrameFell s t := by
  unfold FrameFell at *
  rw [← hs, ← hw, ← hm]
  exact h

theorem FrameFell.publish {s t : State} (h : FrameFell s t) (old : State) : FrameFell s (publish old t) := h

/-- A repeated prompt falls due as a frame that blinks (R156, R161). -/
theorem State.promptRepeat_fell (s : State) : FrameFell s s.promptRepeat ∧
    s.promptRepeat.disp.repeatMark = some (s.clk.ms + 2000) := by
  refine ⟨(State.frameDue_fell (s.setDisp { s.disp with repeatMark := s.timerIn 2000 })).from rfl rfl rfl, ?_⟩
  cases h : s.disp.sending <;> simp [State.promptRepeat, State.frameDue, State.loadRefresh, State.timerIn, h]

/-- The violation that reaches the maximum ends the attempt part (R76). -/
theorem State.startWindowExpires_last (s : State) (hv : (s.record s.run.axle).violations + 1 = s.run.arm.maxViolations)
    (hk : s.run.axle < s.tab.records.length) : s.startWindowExpires = (s.violation 0).ownEnd .runLimit true := by
  have hbelow : (s.record s.run.axle).violations < s.run.arm.maxViolations := by omega
  have hrun : (s.violation 0).run = s.run := s.violation_kept 0 .run (by simp)
  rw [State.startWindowExpires]
  simp only [hrun, s.violation_record 0 hbelow hk]
  exact if_neg (by omega)

/-- Settles O41: the expiry costs a violation, and repeats the prompt or ends the attempt part. -/
theorem startWindowExpiry : Obligations.StartWindowExpiry := by
  unfold Obligations.StartWindowExpiry
  intro s hp hl hk hq hw v entryFirst
  refine ⟨fun hv => ⟨_, exec_startWindowExpiry s hp hl, ?again⟩, fun hv hr => ⟨_, exec_startWindowExpiry s hp hl, ?parking⟩,
    fun hv hr hd => ⟨_, exec_startWindowExpiry s hp hl, ?last⟩⟩
  case again =>
    have hbelow : (s.record s.run.axle).violations < s.run.arm.maxViolations := by
      show v < _
      omega
    have hrun : (s.violation 0).run = s.run := s.violation_kept 0 .run (by simp)
    have hclk : (s.violation 0).clk = s.clk := s.violation_kept 0 .clk (by simp)
    have hexpires : s.startWindowExpires = ((s.violation 0).setRun { s.run with waitRef := s.clk.sampleNo }).promptRepeat := by
      rw [State.startWindowExpires]
      simp only [hrun, hclk, s.violation_record 0 hbelow hk]
      exact if_pos hv
    obtain ⟨hfell, hmark⟩ := State.promptRepeat_fell ((s.violation 0).setRun { s.run with waitRef := s.clk.sampleNo })
    have made := (((Logged.refl s).violation 0 hbelow hk).same
      (t := ((s.violation 0).setRun { s.run with waitRef := s.clk.sampleNo }).promptRepeat)).publish s
    rw [hexpires]
    refine ⟨by simpa using s.violation_tab 0 hbelow hk, made.entryMade hw, by simp, ?_, ?_, fun p hp' => ?_⟩
    · simpa [hclk] using hmark
    · exact FrameFell.publish (hfell.from (by simp) (by simp) (by simp)) s
    · have hkept := s.violation_kept 0 p
      cases p <;> simp_all [Part.same]
  case parking =>
    have hbelow : (s.record s.run.axle).violations < s.run.arm.maxViolations := by
      show v < _
      omega
    set u := s.violation 0 with hu
    have hrun : u.run = s.run := s.violation_kept 0 .run (by simp)
    have hseq : u.seq = s.seq := s.violation_kept 0 .seq (by simp)
    have hdrv : u.drv = s.drv := s.violation_kept 0 .drv (by simp)
    have hrec := s.violation_record 0 hbelow hk
    have hexpires : s.startWindowExpires = u.ownEnd .runLimit true := State.startWindowExpires_last s hv hk
    obtain ⟨tail, ht, made⟩ := u.parkWaitBegun_logged .runLimit true ((Logged.refl s).violation 0 hbelow hk) (hseq ▸ hq) (hrun ▸ hr)
    rw [hexpires]
    refine ⟨fun hb => (made.publish s).first (by simp only [List.append_eq, List.nil_append]; omega) hw hb, ?_⟩
    rw [State.ownEnd_parking u .runLimit true (hrun ▸ hr) (hseq ▸ hq)]
    have hrun' : (publish s (frameAfter (u.parkWaitBegun .runLimit true) ((u.parkWaitBegun .runLimit true).enterSeq .parkOnset))).run
        = (u.parkWaitBegun .runLimit true).run := by simp
    rw [hrun', State.record_congr (s := u) (by simp [State.parkWaitBegun]), hrec]
    refine ⟨rfl, rfl, by simp, by simp [State.parkWaitBegun, hdrv], _, rfl, rfl, rfl, rfl, rfl, rfl, rfl, ?_⟩
    simp [State.fixAttempt, projectionOf, hrun]
  case last =>
    have hbelow : (s.record s.run.axle).violations < s.run.arm.maxViolations := by
      show v < _
      omega
    set u := s.violation 0 with hu
    have hrun : u.run = s.run := s.violation_kept 0 .run (by simp)
    have hseq : u.seq = s.seq := s.violation_kept 0 .seq (by simp)
    have hdrv : u.drv = s.drv := s.violation_kept 0 .drv (by simp)
    have hrec := s.violation_record 0 hbelow hk
    have hlen : s.run.axle < u.tab.records.length := by simpa [hu, s.violation_tab 0 hbelow hk] using hk
    obtain ⟨hstop, hsq, hr', htab, hlog⟩ := u.ownEnd_last .runLimit true (hrun ▸ hr) (hseq ▸ hq) (hdrv ▸ hd)
    obtain ⟨e, f, g, made⟩ := hlog s _ ((Logged.refl s).violation 0 hbelow hk)
    have hfinal : (u.ownEnd .runLimit true).record s.run.axle =
        (u.record s.run.axle).pushed { u.fixAttempt .runLimit true with time := u.time } := by
      rw [State.record_congr htab, State.record, State.attemptPushed_tab, hrun]
      simp [hlen]
    rw [State.startWindowExpires_last s hv hk, ← hu]
    refine ⟨fun hb => (made.publish s).first (by simp only [List.append_eq, List.nil_append, List.length_cons, List.length_nil, Nat.reduceAdd,
      Nat.reduceLeDiff]) hw hb, ?_, by simpa using hr', ?_, by simp [hsq],
      { u.fixAttempt .runLimit true with time := u.time }, ?_, rfl, rfl, rfl, rfl⟩
    · rw [State.record_congr (s := u.ownEnd .runLimit true) (by simp), hfinal, AxleRecord.pushed, hrec]
    · rw [Stopped, hdrv] at hstop
      simpa [Stopped] using hstop
    · rw [State.record_congr (s := u.ownEnd .runLimit true) (by simp), hfinal, AxleRecord.pushed_top]

end Sys2Proof.Machine

/-! PROOFS. A stop of the drive ends the attempt part or the parking run (R85, R88, R89, R91, R92). -/

namespace Sys2Proof.Machine

set_option Elab.async false

/-! ## The held attempt and the parking result (R88, R92) -/

/-- An axle record after the push of the attempt that waited on its spin, if one did (R88). -/
def AxleRecord.withHeld (r : AxleRecord) (held : Option Attempt) (time : DWord) : AxleRecord :=
  match held with
  | none => r
  | some a => r.pushed { a with time := time }

theorem AxleRecord.withHeld_kept (r : AxleRecord) (held : Option Attempt) (time : DWord) :
    (r.withHeld held time).parking = r.parking ∧ (r.withHeld held time).violations = r.violations ∧
    (held = none → (r.withHeld held time).attempts = r.attempts) ∧
    ∀ a, held = some a → (r.withHeld held time).top = some { a with time := time } ∧
      (r.withHeld held time).attempts.length = min 3 (r.attempts.length + 1) := by
  cases held with
  | none => simp [AxleRecord.withHeld]
  | some a =>
    refine ⟨rfl, rfl, by simp, fun b hb => ?_⟩
    obtain rfl := Option.some.inj hb
    exact ⟨r.pushed_top _, r.pushed_length _⟩

theorem State.pushHeld_tab (s : State) (h : s.run.axle < s.tab.records.length) : s.pushHeld.tab = { s.tab with
    records := s.tab.records.set s.run.axle ((s.record s.run.axle).withHeld s.run.held s.time) } := by
  unfold State.pushHeld
  cases hh : s.run.held with
  | none => simp [AxleRecord.withHeld, State.set_record_self s _ h]
  | some a => exact s.pushAttempt_tab s.run.axle a

theorem Logged.pushHeld {σ s : State} {l : List JournalEntry} (h : Logged σ s l) :
    ∃ tail : List JournalEntry, tail.length = (if s.run.held = none then 0 else 1) ∧ Logged σ s.pushHeld (l ++ tail) := by
  unfold State.pushHeld
  cases hh : s.run.held with
  | none => exact ⟨[], rfl, by simpa using h⟩
  | some a => exact ⟨_, rfl, h.pushAttempt s.run.axle a⟩

/-- An axle record with its parking result replaced (R54). -/
def AxleRecord.parked (r : AxleRecord) (p : Parking) : AxleRecord := { r with parking := some p }

/-- The table after the end of a parking run: the result replaced, the held attempt pushed (R54, R88, R92). -/
theorem State.endParking_tab (s : State) (reason : EndReason) (h : s.run.axle < s.tab.records.length) :
    (s.endParking reason).tab = { s.tab with 
      records := s.tab.records.set s.run.axle (((s.record s.run.axle).parked (s.parkingResult reason)).withHeld s.run.held s.time) } := by
  have hw := s.writeParking_tab reason
  have hlen : (s.writeParking reason).run.axle < (s.writeParking reason).tab.records.length := by simpa [hw] using h
  have hrec : (s.writeParking reason).record s.run.axle = (s.record s.run.axle).parked (s.parkingResult reason) := by
    simp [State.record, hw, h, AxleRecord.parked]
  have hrun : (s.writeParking reason).run = s.run := by simp
  have htime : (s.writeParking reason).time = s.time := by simp
  rw [show (s.endParking reason).tab = (s.writeParking reason).pushHeld.tab from rfl, State.pushHeld_tab _ hlen, hrun, htime, hrec, hw]
  simp

theorem State.endParking_run (s : State) (reason : EndReason) : (s.endParking reason).run = RunUnit.cleared := rfl

theorem Logged.endParking {σ s : State} {l : List JournalEntry} (h : Logged σ s l) (reason : EndReason) :
    ∃ tail : List JournalEntry, tail.length = (if s.run.held = none then 0 else 1) ∧ Logged σ (s.endParking reason)
      (l ++ ⟨evAttemptDone, s.run.axle + 1, bytePair (codeOfEnd reason) 1, 0⟩ :: tail) := by
  obtain ⟨tail, ht, made⟩ := (h.writeParking reason).pushHeld
  have hrun : (s.writeParking reason).run = s.run := by simp
  rw [hrun] at ht
  rw [List.append_assoc] at made
  exact ⟨tail, ht, made.same rfl rfl rfl⟩

/-! ## The end of a spin handed over (R136) -/

theorem State.takeEndOfSpin_run (s : State) (owed : Bool) (hq : isRunState s.seq.state = true) :
    (s.takeEndOfSpin owed).seq = { s.seq with state := .spindown, parkingOwed := owed } ∧
    KeepsAllBut [.mem, .jr, .att, .plate, .seq, .disp] s (s.takeEndOfSpin owed) ∧
    ∀ σ l, Logged σ s l → ∃ e, Logged σ (s.takeEndOfSpin owed) (l ++ [e]) := by
  have hne : s.seq.state ≠ .spindown := by
    intro h
    simp [h, isRunState] at hq
  have htake : s.takeEndOfSpin owed = (s.setSeq { s.seq with parkingOwed := owed }).enterSeq .spindown := by
    simp [State.takeEndOfSpin, hq]
  rw [htake]
  refine ⟨by simp [State.enterSeq_seq, hne, Sequencer.entered], fun p hp => ?_, fun σ l h =>
    ⟨_, (h.same (t := s.setSeq { s.seq with parkingOwed := owed }) rfl rfl rfl).enterSeq .spindown hne⟩⟩
  cases p <;> simp_all [Part.same]

/-- The end reason of a stop, as R85 and R91 name it. -/
theorem endOfStop_named (r : StopReason) : endOfStop r =
    if r = .slipL then .slipL else if r = .slipR then .slipR else if r = .slipBoth then .slipBoth
    else if r = .stall then .stall else if r = .unseat then .unseat else if r = .presence then .presence
    else if r = .estop then .estop else .abort := by
  cases r <;> rfl

/-! ## A stop in the attempt part (R78, R85) -/

/-- The unit as it takes a stop: a slip in the settle or in the hold is a disturbance (R78). -/
def RunUnit.stopped (r : RunUnit) (reason : StopReason) : RunUnit :=
  { r with unsteady := r.unsteady || (isSlip reason && r.holding) }

theorem State.runStop_attempt (s : State) (r : StopReason) (h : inAttemptPart s.run.phase = true) : s.runStop r =
    ((s.setRun (s.run.stopped r)).endAttempt (endOfStop r)).takeEndOfSpin (isSlip r && s.run.runs.parking) := by
  have hdisturb : (if isSlip r && s.run.holding then s.disturb else s) = s.setRun (s.run.stopped r) := by
    cases h : isSlip r && s.run.holding <;> simp [RunUnit.stopped, State.disturb, h]
    rfl
  rw [← hdisturb]
  unfold State.runStop
  split <;> first | rfl | simp_all [inAttemptPart]

theorem ownSlip_endOfStop (r : StopReason) : ownSlip .left (endOfStop r) = (r == .slipL || r == .slipBoth) ∧
    ownSlip .right (endOfStop r) = (r == .slipR || r == .slipBoth) ∧
    isSlip r = (r == .slipL || r == .slipR || r == .slipBoth) := by
  cases r <;> exact ⟨rfl, rfl, rfl⟩

/-! ## A stop in the parking run (R89, R91) -/

theorem State.runStop_parking (s : State) (r : StopReason) (h : s.run.phase = .parkOnset ∨ s.run.phase = .parkRun) : s.runStop r =
    if s.run.phase = .parkOnset ∧ s.run.held ≠ none ∧ s.run.waitBegan = s.clk.sampleNo then s.pushHeld.idleUnit.takeEndOfSpin true
    else (s.endParking (endOfStop r)).takeEndOfSpin false := by
  have hheld : s.run.held.isSome = true ↔ s.run.held ≠ none := Option.isSome_iff_ne_none
  rcases h with h | h
  · simp only [State.runStop, h, State.parkWithdrawn, hheld, Bool.and_eq_true, beq_self_eq_true, true_and, beq_iff_eq]
  · simp [State.runStop, h]

/-- Settles O45: the stop in the attempt part, and the stop in the parking run with its two outcomes. -/
theorem driveStopEndsTheAttempt : Obligations.DriveStopEndsTheAttempt := by
  unfold Obligations.DriveStopEndsTheAttempt
  refine ⟨fun s r hp _ hk hq => ?attempt, fun s r hp _ hk hq hw => ?parking⟩
  case attempt =>
    intro t reason
    have hreason : endOfStop r = reason := endOfStop_named r
    obtain ⟨hleft, hright, hslip⟩ := ownSlip_endOfStop r
    set u := (s.setRun (s.run.stopped r)).endAttempt (endOfStop r) with hu
    have hstop : t = u.takeEndOfSpin (isSlip r && s.run.runs.parking) := s.runStop_attempt r hp
    have hutab := (s.setRun (s.run.stopped r)).attemptPushed_tab (endOfStop r) false
    have huq : u.seq = s.seq := by simp [hu, State.endAttempt, State.idleUnit]
    obtain ⟨hseq, hkept, -⟩ := u.takeEndOfSpin_run (isSlip r && s.run.runs.parking) (huq ▸ hq)
    rw [← hstop] at hseq hkept
    have htab : t.tab = u.tab := hkept .tab (by simp)
    have hrec : t.record s.run.axle = (s.record s.run.axle).pushed { (s.setRun (s.run.stopped r)).fixAttempt (endOfStop r) false with
        time := s.time } := by
      rw [State.record, htab, show u.tab = _ from hutab]
      simp [RunUnit.stopped, hk]
      rfl
    refine ⟨hkept .run (by simp), by rw [hseq], ?_, ⟨_, by rw [hrec]; exact AxleRecord.pushed_top _ _, hreason, rfl, rfl, rfl, rfl, rfl,
      ?_, ?_⟩, by rw [hrec]; rfl,
      (show t.drv = u.drv from hkept .drv (by simp)).trans (by simp [hu, State.endAttempt, State.idleUnit])⟩
    · rw [hseq, ← hslip, Bool.and_comm]
    · rw [← hleft]
      exact projectionOf_eq_side s.run _ _ _
    · rw [← hright]
      exact projectionOf_eq_side s.run _ _ _
  case parking =>
    intro t reason withdrawn pushed
    have hreason : endOfStop r = reason := endOfStop_named r
    have hstop := s.runStop_parking r hp
    by_cases hwd : withdrawn
    · have ht : t = s.pushHeld.idleUnit.takeEndOfSpin true := hstop.trans (if_pos hwd)
      obtain ⟨hseq, hkept, hlog⟩ := s.pushHeld.idleUnit.takeEndOfSpin_run true (by simpa [State.idleUnit] using hq)
      rw [← ht] at hseq hkept hlog
      have htab : t.tab = s.pushHeld.tab := hkept .tab (by simp)
      have hrec : t.record s.run.axle = (s.record s.run.axle).withHeld s.run.held s.time := by
        simp [State.record, htab, State.pushHeld_tab s hk, hk]
      obtain ⟨hpark, -, hnone, hsome⟩ := (s.record s.run.axle).withHeld_kept s.run.held s.time
      obtain ⟨tail, hlen, made⟩ := (Logged.refl s).pushHeld
      obtain ⟨e, hfinal⟩ := hlog s _ (made.same rfl rfl rfl)
      refine ⟨hkept .run (by simp), by rw [hseq], ?_, ?_, ?_, fun k hne => ?_, fun _ => ⟨by rw [hseq], ?_, ?_⟩, fun h => absurd hwd h⟩
      · refine (show t.drv = _ from hkept .drv (by simp)).trans ?_
        simp [State.idleUnit]
      · rw [hrec]; exact hnone
      · rw [hrec]; exact hsome
      · simp [State.record, htab, State.pushHeld_tab s hk, Ne.symm hne]
      · rw [hrec]; exact hpark
      · rw [hfinal.produced]
        simp [hlen, hwd.2.1]
    · have ht : t = (s.endParking (endOfStop r)).takeEndOfSpin false := hstop.trans (if_neg hwd)
      obtain ⟨hseq, hkept, hlog⟩ := (s.endParking (endOfStop r)).takeEndOfSpin_run false (by simpa using hq)
      rw [← ht] at hseq hkept hlog
      have htab : t.tab = (s.endParking (endOfStop r)).tab := hkept .tab (by simp)
      have hrec : t.record s.run.axle = ((s.record s.run.axle).parked
          (s.parkingResult (endOfStop r))).withHeld s.run.held s.time := by
        simp [State.record, htab, State.endParking_tab s _ hk, hk]
      obtain ⟨hpark, -, hnone, hsome⟩ := ((s.record s.run.axle).parked
          (s.parkingResult (endOfStop r))).withHeld_kept s.run.held s.time
      obtain ⟨tail, hlen, made⟩ := (Logged.refl s).endParking (endOfStop r)
      obtain ⟨e, hfinal⟩ := hlog s _ made
      refine ⟨hkept .run (by simp), by rw [hseq], ?_, ?_, ?_, fun k hne => ?_, fun h => absurd h hwd, fun _ => ⟨by rw [hseq], ?_, ?_, ?_⟩⟩
      · refine (show t.drv = _ from hkept .drv (by simp)).trans ?_
        simp
      · rw [hrec]; exact hnone
      · rw [hrec]; exact hsome
      · simp [State.record, htab, State.endParking_tab s _ hk, Ne.symm hne]
      · rw [hrec, hpark, State.parkingResult, hreason]
        split <;> rfl
      · rw [hfinal.produced]
        by_cases hh : s.run.held = none <;> simp [pushed, hh, hlen]
        rw [BitVec.add_assoc]
        rfl
      · intro hb
        rw [← hreason]
        exact hfinal.first (by simp [hlen]; split <;> simp) hw hb

end Sys2Proof.Machine

/-! PROOFS. The sample up to the brake run unit (R1 to R5, R9 to R11): the debounced inputs, the converted channels, and the fault flags
with their entries. -/

namespace Sys2Proof.Machine

set_option Elab.async false

/-! ## Fault tests (R9 to R11) -/

/-- The flags of a channel after a sample (R10, R11). -/
def FaultFlags.after (f : FaultFlags) (i : Nat) (raw : Int) : FaultFlags :=
  { f with overRange := f.overRange || atLimit raw, openWire := f.openWire || wireOpen i raw }

/-- The entries of a channel at a sample: one for each flag that is set (R9). -/
def faultEntries (f : FaultFlags) (i : Nat) (raw : Int) : List JournalEntry :=
  (if atLimit raw && !f.overRange then [⟨evFaultSet, 0, word i, flagOverRange⟩] else []) ++
    (if wireOpen i raw && !f.openWire then [⟨evFaultSet, 0, word i, flagOpen⟩] else [])

/-- From one state to another fault tests have been made: the flags of the engine alone change, the entries are made, and ATTN.FAULT is
raised by each (R9). -/
structure FaultsTested (s t : State) (flags : Nat → FaultFlags) (entries : List JournalEntry) : Prop where
  kept : KeepsAllBut [.mem, .jr, .att, .eng] s t
  eng : t.eng = { s.eng with faults := t.eng.faults }
  length : t.eng.faults.length = s.eng.faults.length
  flags : ∀ k, t.faultsOf k = flags k
  logged : ∀ σ l, Logged σ s l → Logged σ t (l ++ entries)
  attn : s.att.bits.getLsbD 4 = true ∨ entries ≠ [] → t.att.bits.getLsbD 4 = true

theorem FaultsTested.refl (s : State) : FaultsTested s s s.faultsOf [] :=
  ⟨KeepsAllBut.refl _ s, rfl, rfl, fun _ => rfl, fun σ l h => by simpa using h, fun h => by simpa using h⟩

theorem FaultsTested.trans {s t u : State} {f g : Nat → FaultFlags} {a b : List JournalEntry} (h : FaultsTested s t f a)
    (h' : FaultsTested t u g b) : FaultsTested s u g (a ++ b) where
  kept := h.kept.trans h'.kept
  eng := by rw [h'.eng, h.eng]
  length := h'.length.trans h.length
  flags := h'.flags
  logged σ l hl := by
    rw [← List.append_assoc]
    exact h'.logged σ _ (h.logged σ l hl)
  attn hb := by
    by_cases ha : s.att.bits.getLsbD 4 = true ∨ a ≠ []
    · exact h'.attn (.inl (h.attn ha))
    · simp only [not_or, not_not] at ha
      refine h'.attn (.inr ?_)
      rcases hb with hb | hb
      · exact absurd hb ha.1
      · simpa [ha.2] using hb

/-- A flag set with its entry, or left alone (R9). -/
def State.setFlag (s : State) (due : Bool) (i : Nat) (f : FaultFlags) (flag : Word) : State :=
  if due then (s.setFaultsOf i f).faultEntry i flag else s

theorem State.setFlag_tested (s : State) (due : Bool) (i : Nat) (f : FaultFlags) (flag : Word) (hi : i < s.eng.faults.length) :
    FaultsTested s (s.setFlag due i f flag) (fun k => if due = true ∧ k = i then f else s.faultsOf k)
      (if due then [⟨evFaultSet, 0, word i, flag⟩] else []) := by
  cases due with
  | false => simpa [State.setFlag] using FaultsTested.refl s
  | true =>
    have heng : (s.setFlag true i f flag).eng = (s.setFaultsOf i f).eng := by simp [State.setFlag]
    refine ⟨fun p hp => ?_, by rw [heng]; rfl, by rw [heng]; simp [State.setFaultsOf], fun k => ?_, fun σ l h => ?_,
      fun _ => State.faultEntry_att _ i flag⟩
    · cases p <;> simp_all [Part.same, State.setFlag, State.setFaultsOf]
    · rw [State.faultsOf_congr heng, State.setFaultsOf_faultsOf _ _ _ _ hi]
      simp
    · exact (h.same (t := s.setFaultsOf i f) rfl rfl rfl).faultEntry i flag

theorem State.faultTest_tested (s : State) (i : Nat) (raw : Int) (hi : i < s.eng.faults.length) :
    FaultsTested s (s.faultTest i raw) (fun k => if k = i then (s.faultsOf i).after i raw else s.faultsOf k)
      (faultEntries (s.faultsOf i) i raw) := by
  set u := s.setFlag (atLimit raw && !(s.faultsOf i).overRange) i { s.faultsOf i with overRange := true } flagOverRange with hu
  have htest : s.faultTest i raw = u.setFlag (wireOpen i raw && !(u.faultsOf i).openWire) i { u.faultsOf i with openWire := true }
      flagOpen := rfl
  have first := s.setFlag_tested (atLimit raw && !(s.faultsOf i).overRange) i { s.faultsOf i with overRange := true } flagOverRange hi
  rw [← hu] at first
  have hufi : u.faultsOf i = { s.faultsOf i with overRange := (s.faultsOf i).overRange || atLimit raw } := by
    rw [first.flags i]
    cases h1 : atLimit raw <;> cases h2 : (s.faultsOf i).overRange <;> simp [← h2]
  have second := u.setFlag_tested (wireOpen i raw && !(u.faultsOf i).openWire) i { u.faultsOf i with openWire := true } flagOpen
    (first.length ▸ hi)
  have both := first.trans second
  rw [← htest] at both
  refine { both with flags := fun k => ?_, logged := ?_, attn := ?_ }
  · rw [both.flags k, hufi]
    by_cases hk : k = i
    · subst hk
      rw [hufi]
      cases h1 : wireOpen k raw <;> cases h2 : (s.faultsOf k).openWire <;> simp [FaultFlags.after, h1, h2]
    · simp [hk, first.flags k]
  · have := both.logged
    rw [hufi] at this
    exact this
  · have := both.attn
    rw [hufi] at this
    exact this

/-- The entries of the fault tests of some channels from index n on (R9). -/
def faultEntriesFrom (flags : Nat → FaultFlags) (n : Nat) : List Int → List JournalEntry
  | [] => []
  | raw :: raws => faultEntries (flags n) n raw ++ faultEntriesFrom flags (n + 1) raws

theorem faultEntriesFrom_congr {f g : Nat → FaultFlags} (n : Nat) (raws : List Int) (h : ∀ k, n ≤ k → f k = g k) :
    faultEntriesFrom f n raws = faultEntriesFrom g n raws := by
  induction raws generalizing n with
  | nil => rfl
  | cons raw raws ih => rw [faultEntriesFrom, faultEntriesFrom, h n (Nat.le_refl n), ih (n + 1) fun k hk => h k (by omega)]

theorem faultTestsFrom_tested (raws : List Int) (n : Nat) (s : State) (hn : n + raws.length ≤ s.eng.faults.length) :
    FaultsTested s ((raws.zipIdx n).foldl (fun t x => t.faultTest x.2 x.1) s)
      (fun k => if n ≤ k ∧ k < n + raws.length then (s.faultsOf k).after k (raws.getD (k - n) 0) else s.faultsOf k)
      (faultEntriesFrom s.faultsOf n raws) := by
  induction raws generalizing n s with
  | nil => 
    refine { FaultsTested.refl s with flags := fun k => ?_ }
    simp [show ¬ (n ≤ k ∧ k < n) by omega]
  | cons raw raws ih =>
    have hn' : n + (raws.length + 1) ≤ s.eng.faults.length := hn
    have head := s.faultTest_tested n raw (by omega)
    have tail := ih (n + 1) (s.faultTest n raw) (by rw [head.length]; omega)
    have both := head.trans tail
    rw [faultEntriesFrom_congr (g := s.faultsOf) (n + 1) raws fun k hk => by rw [head.flags, if_neg (by omega)]] at both
    refine { both with flags := fun k => ?_ }
    refine (both.flags k).trans ?_
    simp only [List.length_cons]
    by_cases hk : k = n
    · subst hk
      rw [if_neg (by omega), if_pos (by omega), head.flags, if_pos rfl]
      simp
    · by_cases hin : n + 1 ≤ k ∧ k < n + 1 + raws.length
      · rw [if_pos hin, if_pos (by omega), head.flags, if_neg hk]
        obtain ⟨j, rfl⟩ : ∃ j, k = n + 1 + j := ⟨k - (n + 1), by omega⟩
        rw [show n + 1 + j - (n + 1) = j by omega, show n + 1 + j - n = j + 1 by omega]
        simp
      · rw [if_neg hin, if_neg (by omega), head.flags, if_neg hk]

theorem State.faultTests_tested (s : State) (raws : List Int) (hn : raws.length ≤ s.eng.faults.length) :
    FaultsTested s (s.faultTests raws)
      (fun k => if k < raws.length then (s.faultsOf k).after k (raws.getD k 0) else s.faultsOf k)
      (faultEntriesFrom s.faultsOf 0 raws) := by
  have h := faultTestsFrom_tested raws 0 s (by simpa using hn)
  simpa [State.faultTests] using h

/-! ## The sample before the brake run unit takes it (R1 to R5) -/

/-- The state with the sample counted and the inputs debounced (R5). -/
def State.debounced (s : State) (l : Levels) : State :=
  (s.setClk { s.clk with sampleNo := s.clk.sampleNo + 1 }).setEng
    { s.eng with inputs := (s.eng.inputs.zip (levelList l)).map (fun x => x.1.after x.2) }

/-- The state with the nine channels converted and their faults tested (R2 to R4, R9 to R11). -/
def State.sensed (s : State) (i : SampleInput) : State :=
  ((s.debounced i.levels).convert (rawList i.raws)).faultTests (rawList i.raws)

/-- The state in which the seating detector takes the sample (R20, R72). -/
def State.worked (s : State) (i : SampleInput) : State := (s.sensed i).runSample.captureSample (rawList i.raws)

theorem State.takeSample_started (s : State) (i : SampleInput) (h : s.eng.started = true) (hl : s.eng.loading = false) :
    s.takeSample i = (((s.worked i).detectorSample.weighSample).countSample i.pulses).trackerSample true := by
  have hdiscrete : (s.setClk { s.clk with sampleNo := s.clk.sampleNo + 1 }).discreteSample i.levels = s.debounced i.levels :=
    if_pos h
  rw [State.takeSample]
  simp only [hdiscrete]
  exact if_neg (by simpa [State.debounced] using hl)

theorem exec_sample (i : SampleInput) (s : State) (h : s.quiet = true) : exec (.sample i) s = .next (publish s (s.takeSample i)) := by
  have hsample : exec (.sample i) s = .next (publish s.caughtUp (s.caughtUp.takeSample i)) := rfl
  rw [hsample, s.caughtUp_of_quiet h]

/-- A channel after a sample (R2 to R4, R11). -/
def State.channelAfter (s : State) (k : Nat) (raw : Int) : Channel :=
  (s.eng.chans.getD k noChannel).after k (s.eng.cals.getD k noCal) (s.drv.reversed k) (s.faultsOf k).openWire raw

section
variable (s : State) (i : SampleInput)

theorem State.sensed_tested (h : s.eng.faults.length = 11) :
    FaultsTested ((s.debounced i.levels).convert (rawList i.raws)) (s.sensed i)
      (fun k => if k < 9 then (s.faultsOf k).after k ((rawList i.raws).getD k 0) else s.faultsOf k)
      (faultEntriesFrom s.faultsOf 0 (rawList i.raws)) :=
  State.faultTests_tested ((s.debounced i.levels).convert (rawList i.raws)) (rawList i.raws)
    (by show 9 ≤ s.eng.faults.length; omega)

theorem State.sensed_kept (h : s.eng.faults.length = 11) : KeepsAllBut [.clk, .mem, .jr, .att, .eng] s (s.sensed i) := by
  have hconvert : KeepsAllBut [.clk, .mem, .jr, .att, .eng] s ((s.debounced i.levels).convert (rawList i.raws)) := fun p hp => by
    cases p <;> simp_all [Part.same, State.debounced, State.convert]
  exact hconvert.trans ((s.sensed_tested i h).kept.mono (by simp))

theorem State.sensed_clk (h : s.eng.faults.length = 11) : (s.sensed i).clk = ⟨s.clk.sampleNo + 1, s.clk.ms⟩ :=
  (s.sensed_tested i h).kept .clk (by simp)

/-- The engine after the conversion: inputs, channels and flags (R1). -/
theorem State.sensed_eng (h : s.eng.faults.length = 11) : (s.sensed i).eng = { s.eng with
    inputs := (s.eng.inputs.zip (levelList i.levels)).map (fun x => x.1.after x.2)
    chans := (rawList i.raws).zipIdx.map (fun x => s.channelAfter x.2 x.1), faults := (s.sensed i).eng.faults } :=
  (s.sensed_tested i h).eng

theorem State.sensed_chan (h : s.eng.faults.length = 11) (k : Nat) (hk : k < 9) :
    (s.sensed i).eng.chans.getD k noChannel = s.channelAfter k ((rawList i.raws).getD k 0) := by
  rw [State.sensed_eng s i h]
  have hlen : k < (rawList i.raws).length := hk
  simp [List.getD_eq_getElem?_getD, hlen]

theorem State.sensed_faultsOf (h : s.eng.faults.length = 11) (k : Nat) : (s.sensed i).faultsOf k =
    if k < 9 then (s.faultsOf k).after k ((rawList i.raws).getD k 0) else s.faultsOf k := (s.sensed_tested i h).flags k

theorem State.sensed_logged (h : s.eng.faults.length = 11) {σ : State} {l : List JournalEntry} (hl : Logged σ s l) :
    Logged σ (s.sensed i) (l ++ faultEntriesFrom s.faultsOf 0 (rawList i.raws)) :=
  (s.sensed_tested i h).logged σ l (hl.same rfl rfl rfl)

/-- An input after a sample: its level stays, and its count runs on while the raw level differs (R5). -/
theorem State.sensed_input (h : s.eng.faults.length = 11) (hn : s.eng.inputs.length = 11) (j : Input) :
    (s.sensed i).input j = ⟨s.level j,
      if (levelList i.levels).getD (inputIndex j) false = s.level j then 0 else (s.input j).count + 1⟩ := by
  have hj : inputIndex j < 11 := by cases j <;> decide
  have hl : inputIndex j < (levelList i.levels).length := hj
  rw [State.input, State.sensed_eng s i h]
  simp [State.level, State.input, List.getD_eq_getElem?_getD, hn, hj, hl, DiscreteInput.after]

end

/-! ## What the rest of the sample leaves of the engine -/

/-- Only inputs, the capture, the window in progress and its pulses change of the engine after the conversion. -/
structure EngineKept (s t : State) : Prop where
  chans : t.eng.chans = s.eng.chans
  faults : t.eng.faults = s.eng.faults
  cals : t.eng.cals = s.eng.cals
  mode : t.eng.mode = s.eng.mode
  inputs : ∀ i, i ≠ .beamR → i ≠ .beamF → t.input i = s.input i
  window : t.eng.windowSamples = s.eng.windowSamples
  pulses : t.eng.pulses = s.eng.pulses

theorem EngineKept.of_eng {s t : State} (h : t.eng = s.eng) : EngineKept s t := by
  constructor <;> simp [h, State.input]

theorem EngineKept.trans {s t u : State} (h : EngineKept s t) (h' : EngineKept t u) : EngineKept s u where
  chans := h'.chans.trans h.chans
  faults := h'.faults.trans h.faults
  cals := h'.cals.trans h.cals
  mode := h'.mode.trans h.mode
  inputs i h1 h2 := (h'.inputs i h1 h2).trans (h.inputs i h1 h2)
  window := h'.window.trans h.window
  pulses := h'.pulses.trans h.pulses

theorem EngineKept.filtered {s t : State} (h : EngineKept s t) (k : Nat) : t.filtered k = s.filtered k := by
  simp [State.filtered, h.chans]

theorem EngineKept.faultsOf {s t : State} (h : EngineKept s t) (k : Nat) : t.faultsOf k = s.faultsOf k := by
  simp [State.faultsOf, h.faults]

theorem EngineKept.ite {s t u : State} {c : Prop} [Decidable c] (h : EngineKept s t) (h' : EngineKept s u) :
    EngineKept s (if c then t else u) := by
  split
  · exact h
  · exact h'

theorem settleBeam_kept (s : State) (i : Input) (h : i = .beamR ∨ i = .beamF) : EngineKept s (s.settleLevel i) := by
  refine ⟨rfl, rfl, rfl, rfl, fun j h1 h2 => ?_, rfl, rfl⟩
  have hne : inputIndex i ≠ inputIndex j := by
    rcases h with rfl | rfl <;> cases j <;> simp_all [inputIndex]
  simp [State.settleLevel, State.input, List.getD_eq_getElem?_getD, List.getElem?_set_ne hne]

theorem State.beamSettles_kept (s : State) (i : Input) (h : i = .beamR ∨ i = .beamF) : EngineKept s (s.beamSettles i) := by
  unfold State.beamSettles
  split
  · exact (settleBeam_kept s i h).trans (.of_eng (by simp))
  · split
    · exact ((settleBeam_kept s .beamR (.inl rfl)).trans (settleBeam_kept _ .beamF (.inr rfl))).trans (.of_eng (by simp))
    · exact (settleBeam_kept s i h).trans (.of_eng (by simp))

theorem State.lastBeamChanges_kept (s : State) : EngineKept s s.lastBeamChanges := by
  have rear : EngineKept s (if s.settles .beamR then s.beamSettles .beamR else s) :=
    .ite (s.beamSettles_kept .beamR (.inl rfl)) (.of_eng rfl)
  exact .ite (rear.trans (State.beamSettles_kept _ .beamF (.inr rfl))) rear

theorem State.unseat_engineKept (s : State) : EngineKept s s.unseat := by
  refine s.lastBeamChanges_kept.trans (.of_eng ?_)
  simp [State.unseat]

theorem State.detectorSample_engineKept (s : State) : EngineKept s s.detectorSample := by
  have hload : EngineKept s (s.trackLoad.setSeat { s.trackLoad.seat with exitWindow := s.trackLoad.seat.exitWindow.map (· + 1) }) :=
    .of_eng (by simp)
  unfold State.detectorSample
  dsimp only
  split
  · split
    · exact hload.trans (State.unseat_engineKept _)
    · exact hload
  · exact hload.trans (.of_eng rfl)

theorem State.captureSample_engineKept (s : State) (raws : List Int) : EngineKept s (s.captureSample raws) := by
  unfold State.captureSample
  split
  · exact .of_eng rfl
  · split
    · constructor <;> simp [State.input]
    · constructor <;> simp [State.input]

theorem State.trackerSample_engineKept (s : State) (analog : Bool) : EngineKept s (s.trackerSample analog) := by
  have begins : EngineKept s s.beginTracker := by
    have rear : EngineKept s (if s.settles .beamR then s.settleLevel .beamR else s) :=
      .ite (settleBeam_kept s .beamR (.inl rfl)) (.of_eng rfl)
    have both : EngineKept s s.settleBeams := .ite (rear.trans (settleBeam_kept _ .beamF (.inr rfl))) rear
    exact both.trans (.of_eng (by simp [State.beginTracker]))
  unfold State.trackerSample
  split
  · exact .of_eng rfl
  · split
    · exact begins
    · exact .of_eng rfl
  · split
    · exact .of_eng rfl
    · exact begins

/-- Channels, flags, records and mode stand as the conversion has left them when the sample is done (R1). -/
theorem State.takeSample_sensed (s : State) (i : SampleInput) (h : s.eng.started = true) (hl : s.eng.loading = false) :
    (∀ k, (s.takeSample i).filtered k = (s.sensed i).filtered k) ∧ (∀ k, (s.takeSample i).faultsOf k = (s.sensed i).faultsOf k) ∧
    (s.takeSample i).eng.chans = (s.sensed i).eng.chans ∧ (s.takeSample i).eng.faults = (s.sensed i).eng.faults ∧
    (s.takeSample i).eng.cals = (s.sensed i).eng.cals ∧ (s.takeSample i).eng.mode = (s.sensed i).eng.mode ∧
    (∀ j, j ≠ .beamR → j ≠ .beamF → (s.takeSample i).input j = (s.sensed i).input j) := by
  have hwork : EngineKept (s.sensed i) (s.worked i) :=
    (EngineKept.of_eng (by simp)).trans (State.captureSample_engineKept _ (rawList i.raws))
  have hdetect := hwork.trans (s.worked i).detectorSample_engineKept
  rw [State.takeSample_started s i h hl]
  set u := (s.worked i).detectorSample.weighSample.countSample i.pulses with hu
  have htrack := u.trackerSample_engineKept true
  have hchans : u.eng.chans = (s.sensed i).eng.chans := by simpa [hu, State.countSample] using hdetect.chans
  have hfaults : u.eng.faults = (s.sensed i).eng.faults := by simpa [hu, State.countSample] using hdetect.faults
  refine ⟨fun k => ?_, fun k => ?_, htrack.chans.trans hchans, htrack.faults.trans hfaults, htrack.cals.trans ?_,
    htrack.mode.trans ?_, fun j h1 h2 => (htrack.inputs j h1 h2).trans ?_⟩
  · rw [htrack.filtered, State.filtered, hchans, State.filtered]
  · rw [htrack.faultsOf, State.faultsOf, hfaults, State.faultsOf]
  · simpa [hu, State.countSample] using hdetect.cals
  · simpa [hu, State.countSample] using hdetect.mode
  · rw [← hdetect.inputs j h1 h2]
    simp [hu, State.countSample, State.input]

end Sys2Proof.Machine

/-! PROOFS. The brake run unit at a sample that leaves the axle seated (R72, R73, R77 to R79, R82). -/

namespace Sys2Proof.Machine

set_option Elab.async false

/-! ## A sample that leaves the axle seated -/

/-- The state in which the unit works its phase at a sample: the channels converted, the watch marks examined (R72). -/
def State.watched (s : State) (i : SampleInput) : State := (s.sensed i).watch

/-- The detector at a sample that leaves a seated axle seated, or finds none: the seating part alone changes (R25, R26). -/
theorem State.detectorSample_held (s : State) (h : s.seat.seated = true → 100 ≤ s.filtered 2 ∧ 100 ≤ s.filtered 3) :
    KeepsAllBut [.seat] s s.detectorSample := by
  set u := s.trackLoad.setSeat { s.trackLoad.seat with exitWindow := s.trackLoad.seat.exitWindow.map (· + 1) } with hu
  have hload : KeepsAllBut [.seat] s u := fun p hp => by cases p <;> simp_all [Part.same]
  have hdetect : s.detectorSample = if u.seat.seated then (if u.loadL < 100 || u.loadR < 100 then u.unseat else u)
      else u.setSeat { u.seat with qualify := if u.seatCondition then u.seat.qualify + 1 else 0 } := rfl
  have hseated : u.seat.seated = s.seat.seated := by
    change s.trackLoad.seat.seated = _
    unfold State.trackLoad
    split
    · split <;> rfl
    · rfl
  have hfiltered (k : Nat) : u.filtered k = s.filtered k := by simp [hu, State.filtered]
  rw [hdetect]
  by_cases hs : s.seat.seated = true
  · obtain ⟨h2, h3⟩ := h hs
    rw [if_pos (hseated.trans hs), if_neg (by simp [State.loadL, State.loadR, hfiltered, h2, h3])]
    exact hload
  · rw [if_neg (by rw [hseated]; exact hs)]
    exact hload.trans fun p hp => by cases p <;> simp_all [Part.same]

theorem Logged.captureSample {σ s : State} {l : List JournalEntry} (h : Logged σ s l) (raws : List Int) :
    ∃ tail : List JournalEntry, tail.length ≤ 1 ∧ Logged σ (s.captureSample raws) (l ++ tail) := by
  unfold State.captureSample
  split
  · exact ⟨[], by simp, by simpa using h⟩
  · split
    · exact ⟨_, by simp, (h.same (t := s.setEng { s.eng with capture := none }) rfl rfl rfl).complete _ _ _ _ _⟩
    · exact ⟨[], by simp, by simpa using h.same⟩

section
variable (s : State) (i : SampleInput)

theorem State.takeSample_filtered (h : s.eng.started = true) (hl : s.eng.loading = false) (k : Nat) :
    (publish s (s.takeSample i)).filtered k = (s.watched i).filtered k ∧
    (publish s (s.takeSample i)).faultsOf k = (s.watched i).faultsOf k := by
  obtain ⟨hf, hflags, -⟩ := s.takeSample_sensed i h hl
  refine ⟨(hf k).trans ?_, (hflags k).trans ?_⟩
  · simp [State.watched, State.filtered]
  · simp [State.watched, State.faultsOf]

/-- What a sample leaves that the detector does not answer with UNSEATED: the unit's own work, and around it seating, weighing, counts
and an ended capture. -/
theorem State.takeSample_held (h : s.eng.started = true) (hl : s.eng.loading = false) (hf : s.eng.faults.length = 11)
    (hheld : s.seat.seated = true → 100 ≤ (s.watched i).filtered 2 ∧ 100 ≤ (s.watched i).filtered 3) :
    KeepsAllBut [.mem, .slots, .jr, .att, .gauge, .eng, .seat, .weigh] (s.watched i).phaseSample (publish s (s.takeSample i)) ∧
    ∀ σ l, Logged σ (s.watched i).phaseSample l →
      ∃ tail : List JournalEntry, tail.length ≤ 1 ∧ Logged σ (publish s (s.takeSample i)) (l ++ tail) := by
  have hseat : (s.worked i).seat = s.seat := by
    have := s.sensed_kept i hf .seat (by simp)
    simpa [State.worked, Part.same] using this
  have hfiltered (k : Nat) : (s.worked i).filtered k = (s.watched i).filtered k := by
    refine (EngineKept.filtered (s := (s.sensed i).runSample) (State.captureSample_engineKept _ (rawList i.raws)) k).trans ?_
    simp [State.watched, State.filtered]
  have hdetect := (s.worked i).detectorSample_held (by rw [hseat, hfiltered, hfiltered]; exact hheld)
  have hwork : KeepsAllBut [.mem, .slots, .jr, .att, .eng] (s.watched i).phaseSample (s.worked i) := fun p hp => by
    have hrun : (s.sensed i).runSample = (s.watched i).phaseSample := rfl
    unfold State.worked
    rw [hrun]
    cases p <;> simp_all [Part.same]
  set u := (s.worked i).detectorSample with hu
  rw [State.takeSample_started s i h hl, ← hu]
  refine ⟨fun p hp => ?_, fun σ l hlog => ?_⟩
  · have h1 := hwork p
    have h2 := hdetect p
    cases p <;> simp_all [Part.same]
  · obtain ⟨tail, ht, made⟩ := hlog.captureSample (rawList i.raws)
    have detected : Logged σ u (l ++ tail) := made.same (hdetect .mem (by simp)) (hdetect .jr (by simp)) (hdetect .time (by simp))
    exact ⟨tail, ht, (detected.same (t := (u.weighSample.countSample i.pulses).trackerSample true)).publish s⟩

/-- The watch marks after a sample of the attempt part (R72). -/
theorem State.watched_run (hf : s.eng.faults.length = 11) (hp : inAttemptPart s.run.phase = true) : (s.watched i).run = { s.run with
    tqFaultSeen := s.run.tqFaultSeen || ((s.watched i).faultsOf 0).overRange || ((s.watched i).faultsOf 1).overRange
    openSeen := s.run.openSeen || s.run.arm.channel.any (fun c => ((s.watched i).faultsOf c).openWire) } := by
  have hrun : (s.sensed i).run = s.run := s.sensed_kept i hf .run (by simp)
  have hflags (k : Nat) : (s.watched i).faultsOf k = (s.sensed i).faultsOf k := by simp [State.watched, State.faultsOf]
  simp only [hflags]
  unfold State.watched State.watch
  rw [hrun, if_pos hp]
  cases s.run.arm.channel <;> rfl

theorem State.watched_kept (hf : s.eng.faults.length = 11) :
    KeepsAllBut [.clk, .mem, .jr, .att, .eng, .run] s (s.watched i) :=
  ((s.sensed_kept i hf).mono (by simp)).trans fun p hp => by cases p <;> simp_all [Part.same, State.watched]

theorem State.watched_sampleNo (hf : s.eng.faults.length = 11) : (s.watched i).clk.sampleNo = s.clk.sampleNo + 1 := by
  have := s.sensed_clk i hf
  simp [State.watched, this]

end

/-! ## Peaks (R82) -/

theorem raisePeak_eq (peak : Int) (press : Option Int) (force : Int) (pressure : Option Int) :
    raisePeak peak press force pressure = (max peak force, if peak < force then pressure else press) := by
  unfold raisePeak
  split
  · rw [max_eq_right (by omega)]
  · rw [max_eq_left (by omega)]

/-- The unit after the peaks of a sample (R82). -/
theorem State.trackPeaks_run (s : State) : s.trackPeaks.run = { s.run with
    tracking := true, peakL := max s.run.peakL (s.filtered 0), peakR := max s.run.peakR (s.filtered 1)
    pressL := if s.run.peakL < s.filtered 0 then s.run.arm.channel.map s.filtered else s.run.pressL
    pressR := if s.run.peakR < s.filtered 1 then s.run.arm.channel.map s.filtered else s.run.pressR } := by
  simp only [State.trackPeaks, State.setRun_run, raisePeak_eq, State.runPressure]

/-! ## OVALITY at a sample (R77 to R79) -/

theorem State.ovalitySample_onset (s : State) (hs : s.run.step = .onsetWait) (hm : s.run.releaseMark = true)
    (hr : s.released = false) : s.ovalitySample =
      (s.setRun { s.run with step := .settle, ovalityOnset := s.clk.sampleNo }).trackPeaks := by
  simp [State.ovalitySample, hs, State.onsetNow, hm, hr, State.ovalityOnsetNow]

theorem State.ovalitySample_waits (s : State) (hs : s.run.step = .onsetWait) (h : s.run.releaseMark = false ∨ s.released = true) :
    s.ovalitySample = s.markNow := by
  rcases h with h | h <;> simp [State.ovalitySample, hs, State.onsetNow, h]

theorem State.ovalitySample_held (s : State) (hs : s.run.step ≠ .onsetWait) (hr : s.released = false) : s.ovalitySample =
    if s.run.step = .hold then s.trackPeaks.trackExtremes else s.trackPeaks := by
  have hr' : s.trackPeaks.released = false := hr
  unfold State.ovalitySample
  split
  · exact absurd ‹_› hs
  all_goals simp [*]

/-- The unit as a release finds it in OVALITY: its peaks tracked, and a settle or a hold disturbed (R78, R82). -/
def State.ovalityReleased (s : State) : State :=
  s.setRun { s.trackPeaks.run with unsteady := s.run.unsteady || decide (s.run.step = .settle ∨ s.run.step = .hold) }

theorem State.ovalitySample_released (s : State) (hs : s.run.step ≠ .onsetWait) (hr : s.released = true) :
    s.ovalitySample = s.ovalityReleased.endHold := by
  have hr' : s.trackPeaks.released = true := hr
  unfold State.ovalitySample State.ovalityReleased State.disturb
  split
  · exact absurd ‹_› hs
  all_goals simp [*]
  all_goals rfl

theorem State.endHold_service (s : State) (h : s.run.runs.service = true) (hq : isRunState s.seq.state = true) :
    s.endHold.run = { s.run with phase := .serviceOnset, waitRef := s.clk.sampleNo, waitBegan := s.clk.sampleNo, releaseMark := true } ∧
    s.endHold.seq.state = .serviceOnset ∧ s.endHold.tab = s.tab := by
  set u := s.setRun (({ s.run with phase := .serviceOnset } : RunUnit).beginWait s.clk.sampleNo true) with hu
  have hend : s.endHold = frameAfter u (u.enterSeq .serviceOnset) := by
    rw [State.endHold, if_pos h]
    exact State.handPhase_of u .serviceOnset hq rfl
  rw [hend]
  exact ⟨by simp [hu, RunUnit.beginWait], by simp, by simp [hu]⟩

theorem State.endHold_last (s : State) (h : s.run.runs.service = false) : s.endHold = s.ownEnd .release false := by
  simp [State.endHold, h]

/-- The unit is IDLE after it has handed over the end of its spin (R88). -/
theorem State.ownEnd_idle (s : State) (reason : EndReason) (noOnset : Bool) (h : s.run.runs.parking = false) :
    (s.ownEnd reason noOnset).run = RunUnit.cleared := by
  have hown : s.ownEnd reason noOnset = (s.attemptPushed reason noOnset).handEndOfSpin false := by
    simp only [State.ownEnd, h, Bool.false_eq_true, if_false, State.attemptPushed]
  set u := s.attemptPushed reason noOnset with hu
  have hidle : u.run = RunUnit.cleared := rfl
  rw [hown, ← hidle]
  by_cases hq : isRunState u.seq.state = true
  · by_cases hd : u.drv.state = .run
    · obtain ⟨-, -, hrun, -⟩ := State.handEndOfSpin_event u false hq hd rfl
      exact hrun
    · simp [State.handEndOfSpin, hq, hd]
  · simp [State.handEndOfSpin, hq]

/-- The watch marks of the attempt part outlive what OVALITY does at a sample (R72). -/
theorem State.ovalitySample_marks (s : State) (hq : isRunState s.seq.state = true)
    (h : inAttemptPart s.ovalitySample.run.phase = true) :
    s.ovalitySample.run.tqFaultSeen = s.run.tqFaultSeen ∧ s.ovalitySample.run.openSeen = s.run.openSeen := by
  by_cases hs : s.run.step = .onsetWait
  · unfold State.ovalitySample
    rw [hs]
    dsimp only
    split <;> exact ⟨rfl, rfl⟩
  · cases hr : s.released with
    | false =>
      rw [State.ovalitySample_held s hs hr]
      split <;> exact ⟨rfl, rfl⟩
    | true =>
      rw [State.ovalitySample_released s hs hr] at h ⊢
      cases hsv : s.run.runs.service with
      | true =>
        obtain ⟨hrun, -⟩ := s.ovalityReleased.endHold_service hsv hq
        rw [hrun]
        exact ⟨rfl, rfl⟩
      | false =>
        rw [State.endHold_last s.ovalityReleased hsv] at h ⊢
        cases hpk : s.run.runs.parking with
        | true =>
          rw [State.ownEnd_parking s.ovalityReleased _ _ hpk hq] at h
          simp [State.parkWaitBegun, RunUnit.beginWait, inAttemptPart] at h
        | false =>
          rw [State.ownEnd_idle s.ovalityReleased _ _ hpk] at h
          simp [RunUnit.cleared, inAttemptPart] at h

end Sys2Proof.Machine

/-! PROOFS. The ovality hold (R77 to R79, R98, R99). -/

namespace Sys2Proof.Machine

set_option Elab.async false

theorem exec_ovalitySettleEnd (s : State) (hp : s.run.phase = .ovality) (hs : s.run.step = .settle)
    (h : 500 ≤ 5 * (s.clk.sampleNo - s.run.ovalityOnset)) :
    exec .ovalitySettleEnd s = .next (publish s s.settleEnds) :=
  congrArg (fun t => Host.Outcome.next (publish s t)) (if_pos (by simp [State.settleDue, hp, hs, settleTime, State.elapsed, h]))

theorem exec_holdComplete (s : State) (hp : s.run.phase = .ovality) (hs : s.run.step = .hold)
    (h : s.run.arm.holdTime ≤ 5 * (s.clk.sampleNo - s.run.holdRef)) :
    exec .holdComplete s = .next (publish s s.holdCompletes) :=
  congrArg (fun t => Host.Outcome.next (publish s t)) (if_pos (by simp [State.holdDue, hp, hs, State.elapsed, h]))

/-- The brake run unit stands behind no image (R196). -/
theorem publish_setRun (s : State) (r : RunUnit) : publish s (s.setRun r) = s.setRun r :=
  publish_same s (s.setRun r) rfl rfl rfl rfl rfl

theorem widenExtremes_eq (e : Option Extremes) (f : Int) :
    widenExtremes e f = some ((e.map (fun x => ⟨max x.fmax f, min x.fmin f⟩)).getD ⟨f, f⟩) := by
  cases e <;> rfl

/-- Settles O42: the settle and the hold end, and what a sample of OVALITY does in each step. -/
theorem ovalityHoldIsTimedAndJudged : Obligations.OvalityHoldIsTimedAndJudged := by
  unfold Obligations.OvalityHoldIsTimedAndJudged
  refine ⟨fun s hp hs h => ?settle, fun s hp hs h l r hl hr => ?hold, fun i s hquiet hst hload _ hfl hq hp hk => ?sample⟩
  case settle =>
    rw [exec_ovalitySettleEnd s hp hs h]
    exact congrArg Host.Outcome.next (publish_setRun s _)
  case hold =>
    intro oval
    have hov (e : Extremes) : ovalityOf e = oval e := rfl
    rw [exec_holdComplete s hp hs h]
    refine congrArg Host.Outcome.next ((publish_setRun s _).trans ?_)
    simp only [hl, hr, Option.bind_some, hov]
    cases oval l <;> cases oval r <;> rfl
  case sample =>
    refine ⟨_, exec_sample i s hquiet, ?_⟩
    have hfilt (k : Nat) := (s.takeSample_filtered i hst hload k).1
    have hflag (k : Nat) := (s.takeSample_filtered i hst hload k).2
    have hev := s.takeSample_held i hst hload hfl
    have hrun := s.watched_run i hfl (by rw [hp]; rfl)
    have hwk := s.watched_kept i hfl
    have hno := s.watched_sampleNo i hfl
    have hwseq : (s.watched i).seq = s.seq := hwk .seq (by simp)
    have hwtab : (s.watched i).tab = s.tab := hwk .tab (by simp)
    have hwdrv : (s.watched i).drv = s.drv := hwk .drv (by simp)
    generalize publish s (s.takeSample i) = t at *
    generalize s.watched i = u at *
    have hphase : u.run.phase = .ovality := by rw [hrun]; exact hp
    have hsample : u.phaseSample = u.ovalitySample := by simp [State.phaseSample, hphase]
    rw [hsample] at hev
    intro fl fr now held pressure peaks widened holding sensor
    have hfl' : fl = u.filtered 0 := hfilt 0
    have hfr' : fr = u.filtered 1 := hfilt 1
    have hsensor : sensor = u.run.tqFaultSeen := by rw [hrun]; simp only [sensor, hflag]
    have hpress : pressure = u.run.arm.channel.map u.filtered := by
      simp only [pressure, hrun]
      exact congrArg (fun f => Option.map f s.run.arm.channel) (funext hfilt)
    have hreleased : u.released = decide (fl + fr < 30) := by rw [hfl', hfr']; rfl
    have hevent (h : held) := hev (fun hs => by rw [← hfilt, ← hfilt]; exact h hs)
    have trun (h : held) : t.run = u.ovalitySample.run := (hevent h).1 .run (by simp)
    have tseq (h : held) : t.seq = u.ovalitySample.seq := (hevent h).1 .seq (by simp)
    have ttab (h : held) : t.tab = u.ovalitySample.tab := (hevent h).1 .tab (by simp)
    have tdrv (h : held) : t.drv = u.ovalitySample.drv := (hevent h).1 .drv (by simp)
    have huq : isRunState u.seq.state = true := by rw [hwseq]; exact hq
    have hstep : u.run.step = s.run.step := by rw [hrun]
    have noWait (h1 : s.run.step ≠ .onsetWait) : u.run.step ≠ .onsetWait := by rw [hstep]; exact h1
    have released (h1 : fl + fr < 30) : u.released = true := by rw [hreleased]; exact decide_eq_true h1
    have pressed (h1 : 30 ≤ fl + fr) : u.released = false := by rw [hreleased]; exact decide_eq_false (by omega)
    have tracked {x : RunUnit} (h1 : t.run = x) (h2 : x.peakL = u.trackPeaks.run.peakL) (h3 : x.peakR = u.trackPeaks.run.peakR)
        (h4 : x.pressL = u.trackPeaks.run.pressL) (h5 : x.pressR = u.trackPeaks.run.pressR) : peaks := by
      simp only [State.trackPeaks_run, ← hfl', ← hfr', ← hpress] at h2 h3 h4 h5
      simp only [hrun] at h2 h3 h4 h5
      simp only [peaks, h1]
      exact ⟨h2, h3, h4, h5⟩
    have hunsteady : u.ovalityReleased.run.unsteady = (s.run.unsteady || decide (s.run.step = .settle ∨ s.run.step = .hold)) := by
      simp only [State.ovalityReleased, State.setRun_run, hrun]
    have disturbed {b : Bool} (hb : b = u.ovalityReleased.run.unsteady) :
        (holding → b = true) ∧ (¬ holding → b = s.run.unsteady) := by
      rw [hb, hunsteady]
      refine ⟨fun h => ?_, fun h => ?_⟩
      · rw [decide_eq_true h, Bool.or_true]
      · rw [decide_eq_false h, Bool.or_false]
    have hvrun : u.ovalityReleased.run.runs = s.run.runs := by simp only [State.ovalityReleased, State.setRun_run, State.trackPeaks_run, hrun]
    have hvno : u.ovalityReleased.clk.sampleNo = now := hno
    have hvpeaks : u.ovalityReleased.run.peakL = max s.run.peakL fl ∧ u.ovalityReleased.run.peakR = max s.run.peakR fr := by
      simp only [State.ovalityReleased, State.setRun_run, State.trackPeaks_run, ← hfl', ← hfr', hrun, and_self]
    refine ⟨fun h hph => ?marks, fun h h1 h2 h3 => ?onset, fun h h1 h2 => ?waits, fun h h1 h2 => ?presses,
      fun h h1 h2 h3 => ?service, fun h h1 h2 h3 h4 h5 => ?last, fun h h1 h2 h3 h4 => ?parking⟩
    case marks =>
      rw [trun h] at hph ⊢
      obtain ⟨m1, m2⟩ := u.ovalitySample_marks huq hph
      rw [m1, m2, hsensor]
      refine ⟨rfl, ?_⟩
      rw [hrun]
      simp only [hflag]
    case onset =>
      have hs := u.ovalitySample_onset (hstep.trans h1) (by rw [hrun]; exact h2) (pressed h3)
      have hr := (trun h).trans (congrArg State.run hs)
      refine ⟨by rw [hr]; rfl, by rw [hr]; exact hno, tracked hr rfl rfl rfl rfl, by rw [hr, State.trackPeaks_run]; simp [hrun], ?_⟩
      rw [tseq h, hs]
      simpa using hwseq
    case waits =>
      have hs := u.ovalitySample_waits (hstep.trans h1) (h2.imp (fun h2 => by rw [hrun]; exact h2) released)
      have hr := (trun h).trans (congrArg State.run hs)
      refine ⟨by rw [hr]; exact hstep.trans h1, ?_, ?_, by rw [hr]; simp [State.markNow, hrun], by rw [hr]; simp [State.markNow, hrun]⟩
      · rw [hr]
        simp [State.markNow, hreleased, hrun]
      · rw [tseq h, hs]
        simpa using hwseq
    case presses =>
      have hs := u.ovalitySample_held (noWait h1) (pressed h2)
      have hr := (trun h).trans (congrArg State.run hs)
      have hseq : t.seq = s.seq := by
        rw [tseq h, hs, ← hwseq]
        split <;> simp
      rw [hstep] at hr
      by_cases hh : s.run.step = .hold
      · rw [if_pos hh] at hr
        refine ⟨by rw [hr]; exact hstep, tracked hr rfl rfl rfl rfl, by rw [hr]; simp [State.trackExtremes, State.trackPeaks_run, hrun],
          hseq, ?_, ?_⟩
        · have hext : u.trackPeaks.trackExtremes.run.extL = widenExtremes u.run.extL (u.filtered 0) := rfl
          rw [hr, if_pos hh, hext, widenExtremes_eq, hfl', hrun]
        · have hext : u.trackPeaks.trackExtremes.run.extR = widenExtremes u.run.extR (u.filtered 1) := rfl
          rw [hr, if_pos hh, hext, widenExtremes_eq, hfr', hrun]
      · rw [if_neg hh] at hr
        refine ⟨by rw [hr]; exact hstep, tracked hr rfl rfl rfl rfl, by rw [hr]; simp [State.trackPeaks_run, hrun], hseq, ?_, ?_⟩
        · rw [hr, if_neg hh]; simp [State.trackPeaks_run, hrun]
        · rw [hr, if_neg hh]; simp [State.trackPeaks_run, hrun]
    case service =>
      have hs := u.ovalitySample_released (noWait h1) (released h2)
      obtain ⟨e1, e2, e3⟩ := u.ovalityReleased.endHold_service (by rw [hvrun]; exact h3) huq
      have hr := (trun h).trans ((congrArg State.run hs).trans e1)
      refine ⟨by rw [hr], by rw [hr], by rw [hr]; exact hvno, by rw [tseq h, hs]; exact e2, tracked hr rfl rfl rfl rfl,
        (disturbed (by rw [hr])).1, (disturbed (by rw [hr])).2, ?_, ?_, ?_⟩
      · rw [hr]; simp [State.ovalityReleased, State.trackPeaks_run, hrun]
      · rw [hr]; simp [State.ovalityReleased, State.trackPeaks_run, hrun]
      · rw [ttab h, hs, e3]; exact hwtab
    case last =>
      have hs : u.ovalitySample = u.ovalityReleased.ownEnd .release false :=
        (u.ovalitySample_released (noWait h1) (released h2)).trans (State.endHold_last _ (by rw [hvrun]; exact h3))
      obtain ⟨e1, e2, e3, e4, -⟩ := u.ovalityReleased.ownEnd_last .release false (by rw [hvrun]; exact h4) huq
        (show u.drv.state = .run by rw [hwdrv]; exact h5)
      have hax : u.ovalityReleased.run.axle = s.run.axle := by simp only [State.ovalityReleased, State.setRun_run, State.trackPeaks_run, hrun]
      have htab : t.tab = (u.ovalityReleased.attemptPushed .release false).tab := by rw [ttab h, hs, e4]
      refine ⟨(trun h).trans ((congrArg State.run hs).trans e3), ?_, by rw [tseq h, hs, e2],
        { u.ovalityReleased.fixAttempt .release false with time := u.ovalityReleased.time }, ?_, rfl, rfl, ?_, hvpeaks.1, hvpeaks.2,
        (disturbed rfl).1, (disturbed rfl).2⟩
      · rw [Stopped, tdrv h, hs, show (u.ovalityReleased.ownEnd .release false).drv = _ from e1]
        simp only [State.ovalityReleased, State.setRun_drv, hwdrv]
      · have hlen : s.run.axle < u.ovalityReleased.tab.records.length := by
          show s.run.axle < u.tab.records.length
          rw [hwtab]; exact hk
        rw [State.record, htab, State.attemptPushed_tab, hax]
        simp [List.getD_eq_getElem?_getD, hlen, AxleRecord.pushed_top]
      · rw [hsensor]; rfl
    case parking =>
      have hpk : u.ovalityReleased.run.runs.parking = true := by rw [hvrun]; exact h4
      have hs : u.ovalitySample = _ := ((u.ovalitySample_released (noWait h1) (released h2)).trans
        (State.endHold_last _ (by rw [hvrun]; exact h3))).trans (State.ownEnd_parking _ .release false hpk huq)
      have hr : t.run = (u.ovalityReleased.parkWaitBegun .release false).run := by rw [trun h, hs]; simp
      refine ⟨by rw [hr]; rfl, by rw [hr]; rfl, by rw [hr]; exact hvno, by rw [hr]; exact hvno, ?_, by rw [tseq h, hs]; simp, ?_, ?_,
        u.ovalityReleased.fixAttempt .release false, by rw [hr]; rfl, rfl, rfl, by rw [hsensor]; rfl, hvpeaks.1, hvpeaks.2, ?_, ?_, ?_,
        (disturbed rfl).1, (disturbed rfl).2⟩
      · rw [hr]; exact released h2
      · rw [tdrv h, hs]; simpa [State.parkWaitBegun, State.ovalityReleased] using hwdrv
      · rw [ttab h, hs]; simpa [State.parkWaitBegun, State.ovalityReleased] using hwtab
      · simp [State.fixAttempt, State.ovalityReleased, State.trackPeaks_run, hrun]
      · simp [State.fixAttempt, State.ovalityReleased, State.trackPeaks_run, hrun]
      · simp [State.fixAttempt, State.ovalityReleased, State.trackPeaks_run, hrun]

end Sys2Proof.Machine

/-! PROOFS. The ramp and the service run (R72, R73, R75, R80 to R84, R96, R97). -/

namespace Sys2Proof.Machine

set_option Elab.async false

/-! ## The judgement of the ramp (R81) -/

theorem State.handPhase_kept (s : State) : KeepsAllBut [.mem, .jr, .att, .plate, .seq, .disp] s s.handPhase := fun p hp => by
  cases p <;> simp_all [Part.same]

theorem Logged.handPhase {σ s : State} {l : List JournalEntry} (h : Logged σ s l) (hq : isRunState s.seq.state = true)
    {n : SeqState} (hn : seqOfPhase s.run.phase = some n) :
    Logged σ s.handPhase (l ++ if s.seq.state = n then [] else [seqEntry s n]) := by
  rw [State.handPhase_of s n hq hn]
  split
  · rename_i he
    rw [State.enterSeq_of_eq s n he, List.append_nil]
    exact h.frameAfter _
  · rename_i he
    exact (h.enterSeq n he).frameAfter _

/-- The count of violations as the judgement leaves it (R75, R81). -/
def State.judgedCount (s : State) (o : RampOutcome) : State :=
  match o with
  | .fast => s.violation 1
  | .good => s.lowerViolation
  | .weak | .notAssessed => s

theorem State.judgedCount_kept (s : State) (o : RampOutcome) : KeepsAllBut [.mem, .jr, .att, .tab] s (s.judgedCount o) := fun p hp => by
  unfold State.judgedCount
  cases o <;> cases p <;> simp_all [Part.same, State.lowerViolation, State.setRecord]

/-- The run unit in SERVICE_RUN, with the first sample of the release counted (R81, R84). -/
def RunUnit.judged (r : RunUnit) (o : RampOutcome) (released : Bool) : RunUnit :=
  { r with phase := .serviceRun, ramp := o, releaseCount := if released then 1 else 0 }

theorem State.judgeRamp_eq (s : State) (o : RampOutcome) :
    s.judgeRamp o = ((s.judgedCount o).setRun (s.run.judged o s.released)).handPhase := by
  have hk := s.judgedCount_kept o
  have heng : (s.judgedCount o).eng = s.eng := hk .eng (by simp)
  have hrun : (s.judgedCount o).run = s.run := hk .run (by simp)
  have hrel : (s.judgedCount o).released = s.released := by simp [State.released, State.forceSum, State.filtered, heng]
  have hjudge : s.judgeRamp o = ((s.judgedCount o).setRun { (s.judgedCount o).run with
      phase := .serviceRun, ramp := o, releaseCount := (s.judgedCount o).countRelease 0 }).handPhase := rfl
  rw [hjudge, State.countRelease, hrel, hrun]
  rfl

/-- A judged ramp: SERVICE_RUN entered, and of the table the violation count alone (R81). -/
theorem State.judgeRamp_event (s : State) (o : RampOutcome) (hq : isRunState s.seq.state = true) :
    (s.judgeRamp o).run = s.run.judged o s.released ∧ (s.judgeRamp o).seq.state = .serviceRun ∧ (s.judgeRamp o).drv = s.drv ∧
    (s.judgeRamp o).tab = (s.judgedCount o).tab ∧ ∀ σ l, Logged σ (s.judgedCount o) l →
      ∃ tail : List JournalEntry, tail.length ≤ 1 ∧ Logged σ (s.judgeRamp o) (l ++ tail) := by
  have hk := s.judgedCount_kept o
  have hseq : (s.judgedCount o).seq = s.seq := hk .seq (by simp)
  have hdrv : (s.judgedCount o).drv = s.drv := hk .drv (by simp)
  set u := (s.judgedCount o).setRun (s.run.judged o s.released) with hu
  have huq : isRunState u.seq.state = true := by rw [show u.seq = s.seq from hseq]; exact hq
  have hphase : seqOfPhase u.run.phase = some .serviceRun := rfl
  rw [State.judgeRamp_eq, ← hu]
  refine ⟨u.handPhase_kept .run (by simp), ?_, (show _ = u.drv from u.handPhase_kept .drv (by simp)).trans hdrv,
    u.handPhase_kept .tab (by simp), fun σ l h => ⟨_, ?_, (h.same (t := u) rfl rfl rfl).handPhase huq hphase⟩⟩
  · rw [State.handPhase_of u _ huq hphase]
    simp
  · split <;> simp

theorem State.lowerViolation_tab (s : State) : s.lowerViolation.tab = { s.tab with
    records := s.tab.records.set s.run.axle { s.record s.run.axle with violations := (s.record s.run.axle).violations - 1 } } := rfl

/-- The mark test below the mark, before the close window has elapsed, and after it (R81). -/
theorem State.rampTest_below (s : State) (h : s.filtered 0 + s.filtered 1 < s.run.rampMark) : s.rampTest = s :=
  if_neg (Int.not_le.2 h)

theorem State.rampTest_reached (s : State) (h : s.run.rampMark ≤ s.filtered 0 + s.filtered 1) : s.rampTest =
    s.judgeRamp (if 5 * (s.clk.sampleNo - s.run.serviceOnset) < s.run.arm.closeWindow then .fast else .good) := if_pos h

/-- A FAST ramp makes its RAMP_VIOLATION entry, and at most one more after it (R75, R81). -/
theorem Logged.judgeFast {σ s : State} {l : List JournalEntry} (h : Logged σ s l) (hq : isRunState s.seq.state = true)
    (hv : (s.record s.run.axle).violations < s.run.arm.maxViolations) (hk : s.run.axle < s.tab.records.length) :
    ∃ tail : List JournalEntry, tail.length ≤ 1 ∧ Logged σ (s.judgeRamp .fast)
      (l ++ ⟨evRampViolation, s.run.axle + 1, 1, word ((s.record s.run.axle).violations + 1)⟩ :: tail) := by
  obtain ⟨-, -, -, -, hlog⟩ := s.judgeRamp_event .fast hq
  obtain ⟨tail, ht, made⟩ := hlog σ _ (h.violation 1 hv hk)
  rw [List.append_assoc] at made
  exact ⟨tail, ht, made⟩

/-! ## Imbalance (R96, R97) -/

theorem roundDiv_nonneg {a b : Int} (ha : 0 ≤ a) (hb : 0 < b) : 0 ≤ roundDiv a b := by
  rw [roundDiv, if_pos ha]
  exact Int.ediv_nonneg (by omega) (by omega)

/-- The worst imbalance after a sample, as R97 words it. -/
theorem worstOf_imbalance (worst : Option Int) (fl fr : Int) : worstOf worst (imbalanceOf fl fr) =
    if max fl fr < 50 then worst
    else some (max (worst.getD 0) (roundDiv (((fl - fr).natAbs : Int) * 100) (max fl fr))) := by
  unfold imbalanceOf
  by_cases h : max fl fr < 50
  · rw [if_pos h, if_neg (by omega)]
    cases worst <;> rfl
  · have hpos : 0 ≤ roundDiv (((fl - fr).natAbs : Int) * 100) (max fl fr) := roundDiv_nonneg (by omega) (by omega)
    rw [if_neg h, if_pos (by omega)]
    cases worst with
    | none => exact congrArg some (max_eq_right hpos).symm
    | some w => rfl

theorem rampMarkOf_record (planMark : Int) (r : AxleRecord) : rampMarkOf planMark r.weight =
    if planMark ≠ 0 then planMark
    else match r.weightL.bind (fun l => r.weightR.map (fun x => l + x)) with
      | some w => max 100 (Int.tdiv w 4)
      | none => 500 := by
  unfold rampMarkOf AxleRecord.weight
  cases r.weightL <;> cases r.weightR <;> rfl

end Sys2Proof.Machine

/-! PROOFS. A sample of the service run (R72, R73, R80 to R84). -/

namespace Sys2Proof.Machine

set_option Elab.async false

theorem exec_openWindowExpiry (s : State) (hp : s.run.phase = .serviceRamp)
    (h : s.run.arm.openWindow ≤ 5 * (s.clk.sampleNo - s.run.serviceOnset)) :
    exec .openWindowExpiry s = .next (publish s (s.judgeRamp .weak)) :=
  congrArg (fun t => Host.Outcome.next (publish s t)) (if_pos (by simp [State.openWindowDue, hp, State.elapsed, h]))

/-- The unit with peaks and imbalance of a sample taken (R82, R83). -/
def State.tracked (s : State) : State := s.trackPeaks.trackImbalance

theorem State.tracked_run (s : State) : s.tracked.run = { s.trackPeaks.run with
    worst := if max (s.filtered 0) (s.filtered 1) < 50 then s.run.worst
      else some (max (s.run.worst.getD 0) (roundDiv (((s.filtered 0 - s.filtered 1).natAbs : Int) * 100)
        (max (s.filtered 0) (s.filtered 1)))) } := by
  rw [← worstOf_imbalance]
  rfl

theorem State.tracked_eq (s : State) : s.tracked = s.setRun s.tracked.run := rfl

/-- The state in which the mark is tested at the service onset: SERVICE_RAMP entered and the first peaks taken (R80). -/
def State.rampBegun (s : State) : State :=
  (s.setRun { s.run with phase := .serviceRamp, serviceOnset := s.clk.sampleNo, rampMark := s.rampMark }).handPhase.tracked

theorem State.serviceOnsetNow_eq (s : State) : s.serviceOnsetNow = s.rampBegun.rampTest := rfl

theorem State.rampBegun_event (s : State) (hq : isRunState s.seq.state = true) :
    s.rampBegun.run = { s.tracked.run with phase := .serviceRamp, serviceOnset := s.clk.sampleNo, rampMark := s.rampMark } ∧
    s.rampBegun.seq.state = .serviceRamp ∧ KeepsAllBut [.mem, .jr, .att, .run, .plate, .seq, .disp] s s.rampBegun ∧
    ∀ σ l, Logged σ s l → Logged σ s.rampBegun (l ++ if s.seq.state = .serviceRamp then [] else [seqEntry s .serviceRamp]) := by
  set u := s.setRun { s.run with phase := .serviceRamp, serviceOnset := s.clk.sampleNo, rampMark := s.rampMark } with hu
  have hk := u.handPhase_kept
  have hrun : u.handPhase.run = u.run := hk .run (by simp)
  have hf (k : Nat) : u.handPhase.filtered k = s.filtered k := by simp [hu, State.filtered]
  have hff : u.handPhase.filtered = s.filtered := funext hf
  have hphase : seqOfPhase u.run.phase = some .serviceRamp := rfl
  have hbegun : s.rampBegun = u.handPhase.tracked := rfl
  refine ⟨?_, ?_, fun p hp => ?_, fun σ l h => ?_⟩
  · rw [hbegun, State.tracked_run, State.trackPeaks_run, State.tracked_run, State.trackPeaks_run, hrun, hff]
    rfl
  · rw [hbegun, State.tracked_eq, State.handPhase_of u .serviceRamp hq hphase]
    simp
  · have := hk p
    rw [hbegun, State.tracked_eq]
    cases p <;> simp_all [Part.same]
  · rw [hbegun]
    have hentry : seqEntry u .serviceRamp = seqEntry s .serviceRamp := rfl
    rw [← hentry]
    exact ((h.same (t := u) rfl rfl rfl).handPhase hq hphase).same rfl rfl rfl

/-- No flag is new at a sample that leaves the flags of the engine as they were, so it makes no FAULT_SET entry (R9). -/
theorem faultEntriesFrom_nil (flags : Nat → FaultFlags) (raws : List Int) (n : Nat)
    (h : ∀ k, k < raws.length → (flags (n + k)).after (n + k) (raws.getD k 0) = flags (n + k)) :
    faultEntriesFrom flags n raws = [] := by
  induction raws generalizing n with
  | nil => rfl
  | cons raw raws ih =>
    have h0 := h 0 (by simp)
    have hrest := ih (n + 1) fun k hk => by
      have := h (k + 1) (by simpa using hk)
      simpa [Nat.add_assoc, Nat.add_comm 1 k] using this
    have hnone : faultEntries (flags n) n raw = [] := by
      simp only [FaultFlags.after, Nat.add_zero, List.getD_cons_zero] at h0
      have h1 := congrArg FaultFlags.overRange h0
      have h2 := congrArg FaultFlags.openWire h0
      unfold faultEntries
      cases ha : atLimit raw <;> cases hb : wireOpen n raw <;> simp_all
    rw [faultEntriesFrom, hnone, hrest, List.nil_append]

theorem State.sensed_quiet (s : State) (i : SampleInput) (hf : s.eng.faults.length = 11)
    (h : (s.sensed i).eng.faults = s.eng.faults) : faultEntriesFrom s.faultsOf 0 (rawList i.raws) = [] := by
  refine faultEntriesFrom_nil _ _ 0 fun k hk => ?_
  have hk9 : k < 9 := hk
  have hflags := s.sensed_faultsOf i hf k
  rw [if_pos hk9] at hflags
  rw [Nat.zero_add, ← hflags, State.faultsOf, h, State.faultsOf]

/-- The mark test changes of the unit the phase, the judgement and the release count alone (R81). -/
theorem State.rampTest_run (s : State) (hq : isRunState s.seq.state = true) :
    ∃ ph o n, s.rampTest.run = { s.run with phase := ph, ramp := o, releaseCount := n } := by
  by_cases h : s.run.rampMark ≤ s.filtered 0 + s.filtered 1
  · rw [s.rampTest_reached h, (s.judgeRamp_event _ hq).1]
    exact ⟨_, _, _, rfl⟩
  · rw [s.rampTest_below (Int.not_le.1 h)]
    exact ⟨_, _, _, rfl⟩

/-- The state w in which the mark m is tested at a sample with number now, of a unit that entered its ramp at the sample onset, shows of
the state s the table and what a ramp does not change. -/
structure RampStands (s w : State) (m : Int) (onset now : Nat) : Prop where
  state : w.seq.state = .serviceRamp
  phase : w.run.phase = .serviceRamp
  mark : w.run.rampMark = m
  onset : w.run.serviceOnset = onset
  tab : w.tab = s.tab
  axle : w.run.axle = s.run.axle
  arm : w.run.arm = s.run.arm
  ramp : w.run.ramp = s.run.ramp
  now : w.clk.sampleNo = now

section
variable {s w t : State} {m : Int} {onset now : Nat} (h : RampStands s w m onset now)
include h

/-- Below the mark the ramp goes on. -/
theorem RampStands.below (hm : w.filtered 0 + w.filtered 1 < m) (hr : t.run = w.rampTest.run) (hq : t.seq = w.rampTest.seq)
    (ht : t.tab = w.rampTest.tab) :
    t.run.phase = .serviceRamp ∧ t.run.ramp = s.run.ramp ∧ t.seq.state = .serviceRamp ∧ t.tab = s.tab := by
  rw [w.rampTest_below (by rw [h.mark]; exact hm)] at hr hq ht
  rw [hr, hq, ht]
  exact ⟨h.phase, h.ramp, h.state, h.tab⟩

theorem RampStands.reached (hm : m ≤ w.filtered 0 + w.filtered 1) :
    w.rampTest = w.judgeRamp (if 5 * (now - onset) < s.run.arm.closeWindow then .fast else .good) := by
  rw [w.rampTest_reached (by rw [h.mark]; exact hm), h.now, h.onset, h.arm]

theorem RampStands.record : w.record w.run.axle = s.record s.run.axle := by
  rw [State.record_congr h.tab, h.axle]

/-- At the mark SERVICE_RUN is entered, with the release counted and the ramp judged by the time since its onset. -/
theorem RampStands.judged (hm : m ≤ w.filtered 0 + w.filtered 1) (hr : t.run = w.rampTest.run) (hq : t.seq = w.rampTest.seq) :
    t.run.phase = .serviceRun ∧ t.seq.state = .serviceRun ∧
    t.run.releaseCount = (if w.filtered 0 + w.filtered 1 < 30 then 1 else 0) ∧
    t.run.ramp = (if 5 * (now - onset) < s.run.arm.closeWindow then .fast else .good) := by
  have hwq : isRunState w.seq.state = true := by rw [h.state]; rfl
  obtain ⟨e1, e2, -⟩ := w.judgeRamp_event (if 5 * (now - onset) < s.run.arm.closeWindow then .fast else .good) hwq
  rw [h.reached hm] at hr hq
  rw [hr, hq, e1]
  refine ⟨rfl, e2, ?_, rfl⟩
  by_cases hs : w.filtered 0 + w.filtered 1 < 30 <;> simp [RunUnit.judged, State.released, State.forceSum, hs]

/-- A FAST ramp costs a violation (R75, R81). -/
theorem RampStands.fast (hm : m ≤ w.filtered 0 + w.filtered 1) (he : 5 * (now - onset) < s.run.arm.closeWindow)
    (hv : (s.record s.run.axle).violations < s.run.arm.maxViolations) (hk : s.run.axle < s.tab.records.length)
    (ht : t.tab = w.rampTest.tab) : (t.record s.run.axle).violations = (s.record s.run.axle).violations + 1 := by
  have hwq : isRunState w.seq.state = true := by rw [h.state]; rfl
  obtain ⟨-, -, -, e4, -⟩ := w.judgeRamp_event .fast hwq
  rw [h.reached hm, if_pos he, e4] at ht
  have hvt := w.violation_tab 1 (by rw [h.record, h.arm]; exact hv) (by rw [h.tab, h.axle]; exact hk)
  rw [State.record, ht, show (w.judgedCount .fast).tab = (w.violation 1).tab from rfl, hvt, h.record, h.tab, h.axle]
  simp [List.getD_eq_getElem?_getD, hk]

/-- A GOOD ramp gives a violation back (R75, R81). -/
theorem RampStands.good (hm : m ≤ w.filtered 0 + w.filtered 1) (he : s.run.arm.closeWindow ≤ 5 * (now - onset))
    (hk : s.run.axle < s.tab.records.length) (ht : t.tab = w.rampTest.tab) :
    (t.record s.run.axle).violations = (s.record s.run.axle).violations - 1 := by
  have hwq : isRunState w.seq.state = true := by rw [h.state]; rfl
  obtain ⟨-, -, -, e4, -⟩ := w.judgeRamp_event .good hwq
  rw [h.reached hm, if_neg (by omega), e4] at ht
  rw [State.record, ht, show (w.judgedCount .good).tab = w.lowerViolation.tab from rfl, w.lowerViolation_tab, h.record, h.tab, h.axle]
  simp [List.getD_eq_getElem?_getD, hk]

/-- The RAMP_VIOLATION entry of a FAST ramp stands behind the n entries made before it (R75, R202). -/
theorem RampStands.entry {σ : State} {l : List JournalEntry} (hm : m ≤ w.filtered 0 + w.filtered 1)
    (he : 5 * (now - onset) < s.run.arm.closeWindow)
    (hv : (s.record s.run.axle).violations < s.run.arm.maxViolations) (hk : s.run.axle < s.tab.records.length) (hl : Logged σ w l)
    (ht : ∀ l, Logged σ w.rampTest l → ∃ tail : List JournalEntry, tail.length ≤ 1 ∧ Logged σ t (l ++ tail))
    (hw : Memory.wf σ.mem) (hroom : σ.jr.count + l.length < 128) :
    Memory.readWords t.mem (entryBase (σ.jr.put + BitVec.ofNat 8 l.length).toNat) 8
      = entryWords (lowWord (σ.jr.produced + BitVec.ofNat 32 (l.length + 1))) evRampViolation (s.run.axle + 1)
        (if l.length = 0 then σ.jr.gap else 0) σ.time 1 (word ((s.record s.run.axle).violations + 1)) := by
  have hwq : isRunState w.seq.state = true := by rw [h.state]; rfl
  obtain ⟨tail, hlen, made⟩ := hl.judgeFast hwq (by rw [h.record, h.arm]; exact hv) (by rw [h.tab, h.axle]; exact hk)
  have hfast : w.rampTest = w.judgeRamp .fast := by rw [h.reached hm, if_pos he]
  rw [← hfast, h.record, h.axle] at made
  obtain ⟨tail', hlen', final⟩ := ht _ made
  have hword := final.words hw l.length (by simp) (fun _ => by omega) (by simp; omega)
  simpa using hword

end

/-- The judgement of a ramp, spelled as R81 gives it. -/
theorem ramp_judgement (s : State) (hp : s.run.phase = .serviceRamp) (hk : s.run.axle < s.tab.records.length)
    (hq : isRunState s.seq.state = true) :
    let v := (s.record s.run.axle).violations
    let first : Nat := if s.filtered 0 + s.filtered 1 < 30 then 1 else 0
    let e := 5 * (s.clk.sampleNo - s.run.serviceOnset)
    (s.filtered 0 + s.filtered 1 < s.run.rampMark → s.rampTest = s) ∧
    (s.run.rampMark ≤ s.filtered 0 + s.filtered 1 → e < s.run.arm.closeWindow → v < s.run.arm.maxViolations →
      s.rampTest.run = { s.run with phase := .serviceRun, ramp := .fast, releaseCount := first } ∧
      s.rampTest.tab = { s.tab with
        records := s.tab.records.set s.run.axle { s.record s.run.axle with violations := v + 1 } } ∧
      (Memory.wf s.mem → s.jr.blocks = false → Memory.readWords s.rampTest.mem (entryBase s.jr.put.toNat) 8
        = entryWords (lowWord (s.jr.produced + 1)) evRampViolation (s.run.axle + 1) s.jr.gap s.time 1 (word (v + 1))) ∧
      s.rampTest.seq.state = .serviceRun ∧ s.rampTest.drv = s.drv) ∧
    (s.run.rampMark ≤ s.filtered 0 + s.filtered 1 → s.run.arm.closeWindow ≤ e → e ≤ s.run.arm.openWindow →
      s.rampTest.run = { s.run with phase := .serviceRun, ramp := .good, releaseCount := first } ∧
      s.rampTest.tab = { s.tab with
        records := s.tab.records.set s.run.axle { s.record s.run.axle with violations := v - 1 } } ∧
      s.rampTest.seq.state = .serviceRun ∧ s.rampTest.drv = s.drv) ∧
    (s.filtered 0 + s.filtered 1 < s.run.rampMark → s.run.arm.openWindow ≤ e → ∃ t, exec .openWindowExpiry s = .next t ∧
      t.run = { s.run with phase := .serviceRun, ramp := .weak, releaseCount := first } ∧ t.tab = s.tab ∧
      t.seq.state = .serviceRun ∧ t.drv = s.drv) := by
  intro v first e
  have hjudged (o : RampOutcome) : s.run.judged o s.released = { s.run with phase := .serviceRun, ramp := o, releaseCount := first } := by
    have hfirst : (if s.released = true then 1 else 0) = first := by
      by_cases h : s.filtered 0 + s.filtered 1 < 30 <;> simp [first, State.released, State.forceSum, h]
    simp only [RunUnit.judged, hfirst]
  refine ⟨s.rampTest_below, fun hm he hv => ?fast, fun hm he _ => ?good, fun _ he => ⟨_, exec_openWindowExpiry s hp he, ?weak⟩⟩
  case fast =>
    obtain ⟨h1, h2, h3, h4, -⟩ := s.judgeRamp_event .fast hq
    obtain ⟨tail, ht, made⟩ := (Logged.refl s).judgeFast hq hv hk
    rw [s.rampTest_reached hm, if_pos he]
    exact ⟨h1.trans (hjudged _), h4.trans (s.violation_tab 1 hv hk), fun hw hb => made.first (by omega) hw hb, h2, h3⟩
  case good =>
    obtain ⟨h1, h2, h3, h4, -⟩ := s.judgeRamp_event .good hq
    rw [s.rampTest_reached hm, if_neg (by omega)]
    exact ⟨h1.trans (hjudged _), h4.trans s.lowerViolation_tab, h2, h3⟩
  case weak =>
    obtain ⟨h1, h2, h3, h4, -⟩ := s.judgeRamp_event .weak hq
    refine ⟨?_, by rw [publish_tab]; exact h4, by simpa using h2, by simp⟩
    rw [← hjudged, ← h1]
    simp

/-! ## What a sample leaves, seen from the unit that works it -/

theorem State.watched_logged (s : State) (i : SampleInput) (hf : s.eng.faults.length = 11) :
    Logged s (s.watched i) (faultEntriesFrom s.faultsOf 0 (rawList i.raws)) := by
  have h := s.sensed_logged i hf (Logged.refl s)
  rw [List.nil_append] at h
  unfold State.watched
  exact h.same

theorem State.sampled_quiet (s : State) (i : SampleInput) (hst : s.eng.started = true) (hl : s.eng.loading = false)
    (hf : s.eng.faults.length = 11) (h : (publish s (s.takeSample i)).eng.faults = s.eng.faults) :
    faultEntriesFrom s.faultsOf 0 (rawList i.raws) = [] := by
  obtain ⟨-, -, -, hfaults, -⟩ := s.takeSample_sensed i hst hl
  exact s.sensed_quiet i hf (hfaults.symm.trans h)

/-- The sample of a state s that the unit works in the state u, after the entries l, has left the state t. -/
structure SampleTaken (s u t : State) (l : List JournalEntry) : Prop where
  filtered : ∀ k, t.filtered k = u.filtered k
  flags : ∀ k, t.faultsOf k = u.faultsOf k
  seq : u.seq = s.seq
  tab : u.tab = s.tab
  drv : u.drv = s.drv
  now : u.clk.sampleNo = s.clk.sampleNo + 1
  marks : inAttemptPart s.run.phase = true → u.run = { s.run with
    tqFaultSeen := s.run.tqFaultSeen || (u.faultsOf 0).overRange || (u.faultsOf 1).overRange
    openSeen := s.run.openSeen || s.run.arm.channel.any (fun c => (u.faultsOf c).openWire) }
  unmarked : inAttemptPart s.run.phase = false → u.run = s.run
  logged : Logged s u l
  quiet : t.eng.faults = s.eng.faults → l = []
  held : (s.seat.seated = true → 100 ≤ t.filtered 2 ∧ 100 ≤ t.filtered 3) →
    KeepsAllBut [.mem, .slots, .jr, .att, .gauge, .eng, .seat, .weigh] u.phaseSample t ∧
    ∀ σ l, Logged σ u.phaseSample l → ∃ tail : List JournalEntry, tail.length ≤ 1 ∧ Logged σ t (l ++ tail)

theorem State.sampleTaken (s : State) (i : SampleInput) (hst : s.eng.started = true) (hl : s.eng.loading = false)
    (hf : s.eng.faults.length = 11) : SampleTaken s (s.watched i) (publish s (s.takeSample i))
      (faultEntriesFrom s.faultsOf 0 (rawList i.raws)) where
  filtered k := (s.takeSample_filtered i hst hl k).1
  flags k := (s.takeSample_filtered i hst hl k).2
  seq := s.watched_kept i hf .seq (by simp)
  tab := s.watched_kept i hf .tab (by simp)
  drv := s.watched_kept i hf .drv (by simp)
  now := s.watched_sampleNo i hf
  marks := s.watched_run i hf
  unmarked h := by
    have hrun : (s.sensed i).run = s.run := s.sensed_kept i hf .run (by simp)
    rw [State.watched, State.watch, hrun, h]
    exact hrun
  logged := s.watched_logged i hf
  quiet := s.sampled_quiet i hst hl hf
  held h := s.takeSample_held i hst hl hf fun hs => by
    rw [← (s.takeSample_filtered i hst hl 2).1, ← (s.takeSample_filtered i hst hl 3).1]
    exact h hs

/-- The peaks and the pressures at peak of a unit after a sample of forces f and g and pressure p (R82). -/
def PeaksTaken (r x : RunUnit) (f g : Int) (p : Option Int) : Prop :=
  x.peakL = max r.peakL f ∧ x.peakR = max r.peakR g ∧ x.pressL = (if r.peakL < f then p else r.pressL) ∧
  x.pressR = (if r.peakR < g then p else r.pressR)

section
variable {s u t : State} {l : List JournalEntry} (h : SampleTaken s u t l)
include h

theorem SampleTaken.left (hheld : s.seat.seated = true → 100 ≤ t.filtered 2 ∧ 100 ≤ t.filtered 3) :
    t.run = u.phaseSample.run ∧ t.seq = u.phaseSample.seq ∧ t.tab = u.phaseSample.tab ∧ t.drv = u.phaseSample.drv := by
  obtain ⟨hk, -⟩ := h.held hheld
  exact ⟨hk .run (by simp), hk .seq (by simp), hk .tab (by simp), hk .drv (by simp)⟩

theorem SampleTaken.released : u.released = decide (t.filtered 0 + t.filtered 1 < 30) := by
  rw [h.filtered, h.filtered]
  rfl

/-- In the attempt part the unit that works the sample differs from the one before by the watch marks alone. -/
theorem SampleTaken.marked (hp : inAttemptPart s.run.phase = true) :
    ∃ fault wire, u.run = { s.run with tqFaultSeen := fault, openSeen := wire } := ⟨_, _, h.marks hp⟩

theorem SampleTaken.peaks (hp : inAttemptPart s.run.phase = true) :
    PeaksTaken s.run u.trackPeaks.run (t.filtered 0) (t.filtered 1) (s.run.arm.channel.map t.filtered) := by
  obtain ⟨fault, wire, hr⟩ := h.marked hp
  have hf : t.filtered = u.filtered := funext h.filtered
  rw [State.trackPeaks_run, hr, hf]
  exact ⟨rfl, rfl, rfl, rfl⟩

theorem SampleTaken.worst (hp : inAttemptPart s.run.phase = true) : u.tracked.run.worst =
    if max (t.filtered 0) (t.filtered 1) < 50 then s.run.worst
    else some (max (s.run.worst.getD 0) (roundDiv (((t.filtered 0 - t.filtered 1).natAbs : Int) * 100)
      (max (t.filtered 0) (t.filtered 1)))) := by
  obtain ⟨fault, wire, hr⟩ := h.marked hp
  rw [State.tracked_run, h.filtered, h.filtered, hr]

/-- The service onset: the mark is tested in the ramp that begins at this sample (R80). -/
theorem SampleTaken.rampBegins (hq : isRunState s.seq.state = true) (hp : s.run.phase = .serviceOnset)
    (hm : s.run.releaseMark = true) (hsum : 30 ≤ t.filtered 0 + t.filtered 1) :
    u.phaseSample = u.rampBegun.rampTest ∧
    RampStands s u.rampBegun u.rampMark (s.clk.sampleNo + 1) (s.clk.sampleNo + 1) ∧
    (∀ k, u.rampBegun.filtered k = u.filtered k) ∧
    u.rampBegun.run = { u.tracked.run with phase := .serviceRamp, serviceOnset := s.clk.sampleNo + 1, rampMark := u.rampMark } ∧
    Logged s u.rampBegun (l ++ if s.seq.state = .serviceRamp then [] else [seqEntry u .serviceRamp]) := by
  obtain ⟨fault, wire, hr⟩ := h.marked (by rw [hp]; rfl)
  obtain ⟨b1, b2, b3, b4⟩ := u.rampBegun_event (by rw [h.seq]; exact hq)
  have hphase : u.run.phase = .serviceOnset := by rw [hr]; exact hp
  have honset : u.onsetNow = true := by
    rw [State.onsetNow, h.released, decide_eq_false (by omega), hr, hm]
    rfl
  have heng : u.rampBegun.eng = u.eng := b3 .eng (by simp)
  have hclk : u.rampBegun.clk = u.clk := b3 .clk (by simp)
  have htab : u.rampBegun.tab = u.tab := b3 .tab (by simp)
  rw [h.now] at b1
  refine ⟨by simp only [State.phaseSample, hphase, honset, if_true, State.serviceOnsetNow_eq], ?_,
    fun k => by rw [State.filtered, heng, State.filtered], b1, ?_⟩
  · have hkept : u.tracked.run.axle = s.run.axle ∧ u.tracked.run.arm = s.run.arm ∧ u.tracked.run.ramp = s.run.ramp := by
      rw [State.tracked_run, State.trackPeaks_run, hr]
      exact ⟨rfl, rfl, rfl⟩
    obtain ⟨k1, k2, k3⟩ := hkept
    exact ⟨b2, by rw [b1], by rw [b1], by rw [b1], htab.trans h.tab, by rw [b1]; exact k1, by rw [b1]; exact k2,
      by rw [b1]; exact k3, by rw [hclk, h.now]⟩
  · have := b4 s l h.logged
    rwa [h.seq] at this

/-- A sample of the ramp: the mark is tested with the peaks of the sample (R81, R82). -/
theorem SampleTaken.rampGoesOn (hp : s.run.phase = .serviceRamp) (hq : s.seq.state = .serviceRamp) :
    u.phaseSample = u.tracked.rampTest ∧
    RampStands s u.tracked s.run.rampMark s.run.serviceOnset (s.clk.sampleNo + 1) ∧ Logged s u.tracked l := by
  obtain ⟨fault, wire, hr⟩ := h.marked (by rw [hp]; rfl)
  have hphase : u.run.phase = .serviceRamp := by rw [hr]; exact hp
  have hsample : u.phaseSample = u.tracked.rampTest := by
    simp only [State.phaseSample, hphase]
    rfl
  refine ⟨hsample, ⟨?_, ?_, ?_, ?_, h.tab, ?_, ?_, ?_, h.now⟩, h.logged.same rfl rfl rfl⟩
  · show u.seq.state = _
    rw [h.seq, hq]
  all_goals rw [State.tracked_run, State.trackPeaks_run, hr]
  exact hp

/-- What the mark test of a sample leaves, by the forces of the sample and the time since the onset (R75, R81). -/
theorem SampleTaken.rampOutcome {w : State} {m : Int} {onset : Nat} {e : List JournalEntry}
    (hheld : s.seat.seated = true → 100 ≤ t.filtered 2 ∧ 100 ≤ t.filtered 3) (hs : u.phaseSample = w.rampTest)
    (hw : RampStands s w m onset (s.clk.sampleNo + 1)) (hf : ∀ k, w.filtered k = u.filtered k) (hlog : Logged s w (l ++ e))
    (he : e.length = if s.seq.state = .serviceRamp then 0 else 1) (hk : s.run.axle < s.tab.records.length) :
    (t.filtered 0 + t.filtered 1 < m →
      t.run.phase = .serviceRamp ∧ t.run.ramp = s.run.ramp ∧ t.seq.state = .serviceRamp ∧ t.tab = s.tab) ∧
    (m ≤ t.filtered 0 + t.filtered 1 → t.run.phase = .serviceRun ∧ t.seq.state = .serviceRun ∧
      t.run.releaseCount = (if t.filtered 0 + t.filtered 1 < 30 then 1 else 0) ∧
      (5 * (s.clk.sampleNo + 1 - onset) < s.run.arm.closeWindow → t.run.ramp = .fast ∧
        ((s.record s.run.axle).violations < s.run.arm.maxViolations →
          (t.record s.run.axle).violations = (s.record s.run.axle).violations + 1 ∧
          (Memory.wf s.mem → t.eng.faults = s.eng.faults → s.jr.count + (if s.seq.state = .serviceRamp then 0 else 1) < 128 →
            Memory.readWords t.mem (entryBase (s.jr.put + BitVec.ofNat 8 (if s.seq.state = .serviceRamp then 0 else 1)).toNat) 8
              = entryWords (lowWord (s.jr.produced + BitVec.ofNat 32 ((if s.seq.state = .serviceRamp then 0 else 1) + 1)))
                evRampViolation (s.run.axle + 1) (if (if s.seq.state = .serviceRamp then 0 else 1) = 0 then s.jr.gap else 0)
                s.time 1 (word ((s.record s.run.axle).violations + 1))))) ∧
      (s.run.arm.closeWindow ≤ 5 * (s.clk.sampleNo + 1 - onset) → 5 * (s.clk.sampleNo + 1 - onset) ≤ s.run.arm.openWindow →
        t.run.ramp = .good ∧ (t.record s.run.axle).violations = (s.record s.run.axle).violations - 1)) := by
  obtain ⟨hr, hq, ht, -⟩ := h.left hheld
  rw [hs] at hr hq ht
  have hsum : t.filtered 0 + t.filtered 1 = w.filtered 0 + w.filtered 1 := by rw [h.filtered, h.filtered, hf, hf]
  rw [hsum]
  refine ⟨fun hm => hw.below hm hr hq ht, fun hm => ?_⟩
  obtain ⟨j1, j2, j3, j4⟩ := hw.judged hm hr hq
  refine ⟨j1, j2, j3, fun hc => ⟨by rw [j4, if_pos hc], fun hv => ⟨hw.fast hm hc hv hk ht, fun hwf hfaults hroom => ?_⟩⟩,
    fun hc _ => ⟨by rw [j4, if_neg (by omega)], hw.good hm hc hk ht⟩⟩
  rw [h.quiet hfaults, List.nil_append] at hlog
  rw [← he] at hroom ⊢
  refine hw.entry hm hc hv hk hlog (fun l' hl' => ?_) hwf hroom
  rw [← hs] at hl'
  exact (h.held hheld).2 s l' hl'

/-- The watch marks outlive what the service run does at a sample (R72). -/
theorem SampleTaken.serviceMarks (hq : isRunState s.seq.state = true)
    (hp : s.run.phase = .serviceOnset ∨ s.run.phase = .serviceRamp ∨ s.run.phase = .serviceRun) :
    u.phaseSample.run.tqFaultSeen = u.run.tqFaultSeen ∧ u.phaseSample.run.openSeen = u.run.openSeen := by
  have hu : isRunState u.seq.state = true := by rw [h.seq]; exact hq
  rcases hp with hp | hp | hp
  · obtain ⟨fault, wire, hr⟩ := h.marked (by rw [hp]; rfl)
    have hphase : u.run.phase = .serviceOnset := by rw [hr]; exact hp
    cases hn : u.onsetNow with
    | true =>
      have hsample : u.phaseSample = u.rampBegun.rampTest := by
        simp only [State.phaseSample, hphase, hn, if_true, State.serviceOnsetNow_eq]
      obtain ⟨b1, b2, -, -⟩ := u.rampBegun_event hu
      obtain ⟨ph, o, n, hrt⟩ := u.rampBegun.rampTest_run (by rw [b2]; rfl)
      rw [hsample, hrt, b1]
      exact ⟨rfl, rfl⟩
    | false =>
      have hsample : u.phaseSample = (if u.run.tracking then u.trackPeaks else u).markNow := by
        simp only [State.phaseSample, hphase, hn, Bool.false_eq_true, if_false]
      rw [hsample]
      split <;> exact ⟨rfl, rfl⟩
  · obtain ⟨fault, wire, hr⟩ := h.marked (by rw [hp]; rfl)
    have hphase : u.run.phase = .serviceRamp := by rw [hr]; exact hp
    have hsample : u.phaseSample = u.tracked.rampTest := by
      simp only [State.phaseSample, hphase]
      rfl
    obtain ⟨ph, o, n, hrt⟩ := u.tracked.rampTest_run hu
    rw [hsample, hrt]
    exact ⟨rfl, rfl⟩
  · obtain ⟨fault, wire, hr⟩ := h.marked (by rw [hp]; rfl)
    have hphase : u.run.phase = .serviceRun := by rw [hr]; exact hp
    simp only [State.phaseSample, hphase]
    exact ⟨rfl, rfl⟩

end

/-- Settles O43: the judgement, and what a sample of each phase of the service run does. -/
theorem rampIsJudged : Obligations.RampIsJudged := by
  unfold Obligations.RampIsJudged
  refine ⟨fun s hp hk hq => ramp_judgement s hp hk hq, fun i s hquiet hst hload _ hfl hq hk => ⟨_, exec_sample i s hquiet, ?sample⟩⟩
  have hsample := s.sampleTaken i hst hload hfl
  generalize publish s (s.takeSample i) = t at *
  generalize s.watched i = u at *
  generalize faultEntriesFrom s.faultsOf 0 (rawList i.raws) = l at *
  intro fl fr now held pressure worst peaks weights mark v violation judged
  have huq : isRunState u.seq.state = true := by rw [hsample.seq]; exact hq
  refine ⟨fun h hp => ?marks, fun h hp hm h30 => ?onset, fun h hp hm => ?waits, fun h hp hq' => ?ramp, fun h hp => ?run⟩
  all_goals obtain ⟨trun, tseq, ttab, -⟩ := hsample.left h
  case marks =>
    have hp' : inAttemptPart s.run.phase = true := by rcases hp with h | h | h <;> rw [h] <;> rfl
    obtain ⟨m1, m2⟩ := hsample.serviceMarks hq hp
    rw [trun, m1, m2, hsample.marks hp']
    simp only [hsample.flags, and_self]
  case onset =>
    have hp' : inAttemptPart s.run.phase = true := by rw [hp]; rfl
    obtain ⟨b1, b2, b3, b4, b5⟩ := hsample.rampBegins hq hp hm h30
    obtain ⟨ph, o, n, hrt⟩ := u.rampBegun.rampTest_run (by rw [b2.state]; rfl)
    have hrun : t.run = _ := trun.trans ((congrArg State.run b1).trans hrt)
    rw [b4] at hrun
    have hmark : u.rampMark = mark := by
      obtain ⟨fault, wire, hr⟩ := hsample.marked hp'
      refine Eq.trans ?_ (rampMarkOf_record s.run.arm.planMark (s.record s.run.axle))
      simp only [State.rampMark, State.record_congr hsample.tab, hr]
    have hpeaks := hsample.peaks hp'
    refine ⟨congrArg RunUnit.serviceOnset hrun, (congrArg RunUnit.rampMark hrun).trans hmark, ?_, ?_, ?_⟩
    · show PeaksTaken s.run t.run fl fr pressure
      rw [hrun]
      exact hpeaks
    · rw [hrun]
      exact hsample.worst hp'
    · rw [← hmark]
      exact hsample.rampOutcome h b1 b2 b3 b5 (by split <;> rfl) hk
  case waits =>
    have hp' : inAttemptPart s.run.phase = true := by rw [hp]; rfl
    obtain ⟨fault, wire, hr⟩ := hsample.marked hp'
    have hphase : u.run.phase = .serviceOnset := by rw [hr]; exact hp
    have hreleased : u.released = decide (fl + fr < 30) := hsample.released
    have honset : u.onsetNow = false := by
      rw [State.onsetNow, hr]
      rcases hm with hm | hm
      · rw [hm, Bool.false_and]
      · rw [hreleased, decide_eq_true hm, Bool.not_true, Bool.and_false]
    have hwait : u.phaseSample = (if u.run.tracking then u.trackPeaks else u).markNow := by
      simp only [State.phaseSample, hphase, honset, Bool.false_eq_true, if_false]
    have hpeaks := hsample.peaks hp'
    rw [hwait] at trun tseq
    refine ⟨?_, ?_, ?_, ?_, fun htr => ?_⟩
    · rw [trun]
      split <;> exact hphase
    · have hmark : t.run.releaseMark = (u.run.releaseMark || u.released) := by
        rw [trun]
        split <;> rfl
      rw [hmark, hreleased, hr]
    · have hworst : t.run.worst = u.run.worst := by
        rw [trun]
        split <;> rfl
      rw [hworst, hr]
    · rw [tseq, ← hsample.seq]
      split <;> rfl
    · show PeaksTaken s.run t.run fl fr pressure
      rw [trun, if_pos (by rw [hr]; exact htr)]
      exact hpeaks
  case ramp =>
    have hp' : inAttemptPart s.run.phase = true := by rw [hp]; rfl
    obtain ⟨b1, b2, b3⟩ := hsample.rampGoesOn hp hq'
    obtain ⟨ph, o, n, hrt⟩ := u.tracked.rampTest_run (by rw [b2.state]; rfl)
    have hrun : t.run = _ := trun.trans ((congrArg State.run b1).trans hrt)
    have hpeaks := hsample.peaks hp'
    refine ⟨(congrArg RunUnit.rampMark hrun).trans b2.mark, ?_, ?_, ?_⟩
    · show PeaksTaken s.run t.run fl fr pressure
      rw [hrun]
      exact hpeaks
    · rw [hrun]
      exact hsample.worst hp'
    · exact hsample.rampOutcome (e := []) h b1 b2 (fun _ => rfl) (by rw [List.append_nil]; exact b3) (by rw [if_pos hq']; rfl) hk
  case run =>
    have hp' : inAttemptPart s.run.phase = true := by rw [hp]; rfl
    obtain ⟨fault, wire, hr⟩ := hsample.marked hp'
    have hphase : u.run.phase = .serviceRun := by rw [hr]; exact hp
    have hwork : u.phaseSample = u.tracked.setRun { u.tracked.run with releaseCount := u.countRelease u.run.releaseCount } := by
      simp only [State.phaseSample, hphase]
      rfl
    have hpeaks := hsample.peaks hp'
    rw [hwork] at trun tseq
    refine ⟨by rw [trun]; exact hphase, ?_, ?_, tseq.trans hsample.seq, ?_⟩
    · show PeaksTaken s.run t.run fl fr pressure
      rw [trun]
      exact hpeaks
    · rw [trun]
      exact hsample.worst hp'
    · have hcount : t.run.releaseCount = if u.released then u.run.releaseCount + 1 else 0 := by
        rw [trun]
        rfl
      rw [hcount, hsample.released, hr]
      by_cases hs : t.filtered 0 + t.filtered 1 < 30 <;> simp [hs, fl, fr]

end Sys2Proof.Machine

/-! PROOFS. The parking run: its expiries, its ends and its samples (R90, R91, R92). -/

namespace Sys2Proof.Machine

set_option Elab.async false

/-! ## The words of a parking result (R47, R54) -/

/-- Words of a record's image that all show the record read as that part of it. -/
theorem FieldShown.readWords {t : State} {k : Nat} : ∀ {n j : Nat}, (∀ i, j ≤ i → i < j + n → FieldShown t k i) →
    Memory.readWords t.mem (recordAddr k j) n = ((recordWords (t.record k)).drop j).take n
  | 0, _, _ => by simp [Memory.readWords]
  | n + 1, j, h => by
    obtain ⟨hj, hword⟩ := List.getElem?_eq_some_iff.1 (h j (Nat.le_refl j) (by omega))
    rw [List.drop_eq_getElem_cons hj, List.take_succ_cons, hword, ← FieldShown.readWords fun i hi hn => h i (by omega) (by omega)]
    rfl

theorem recordWords_parking (r : AxleRecord) : ((recordWords r).drop 10).take 5 = parkingWords r.parking := by
  refine List.ext_getElem? fun i => ?_
  rw [List.getElem?_take, List.getElem?_drop]
  split
  · rw [recordWords_head r (by omega), recordHead_parking r (by omega) (by omega)]
    congr 1
    omega
  · rw [List.getElem?_eq_none]
    rw [parkingWords_length]
    omega

/-! ## The parking run ends by the unit's own condition (R90 to R92) -/

/-- The state with the parking result replaced and written whole (R47, R54). -/
def State.parkingWritten (s : State) (reason : EndReason) : State :=
  (s.setRecord s.run.axle { s.record s.run.axle with parking := some (s.parkingResult reason) }).rewriteOptional s.run.axle 10 5

theorem State.writeParking_written (s : State) (reason : EndReason) : s.writeParking reason =
    (s.parkingWritten reason).produce evAttemptDone (s.run.axle + 1) (bytePair (codeOfEnd reason) 1) 0 := s.writeParking_eq reason

section
variable (s : State) (reason : EndReason) (hk : s.run.axle < s.tab.records.length)
include hk

/-- The axle record after the parking run: the result replaced, the attempt that waited pushed (R88, R92). -/
theorem State.endParking_record (k : Nat) : (s.endParking reason).record k = if k = s.run.axle then
    ((s.record s.run.axle).parked (s.parkingResult reason)).withHeld s.run.held s.time else s.record k := by
  rw [State.record, s.endParking_tab reason hk]
  split
  next h => simp [h, hk]
  next h => simp [State.record, Ne.symm h]

theorem State.ownParkEnd_event (hq : isRunState s.seq.state = true) (hd : s.drv.state = .run) :
    Stopped s (s.ownParkEnd reason) .commanded ∧
    (s.ownParkEnd reason).seq = { s.seq with state := .spindown, parkingOwed := false } ∧
    (s.ownParkEnd reason).run = RunUnit.cleared ∧
    ∀ k, (s.ownParkEnd reason).record k = if k = s.run.axle then
      ((s.record s.run.axle).parked (s.parkingResult reason)).withHeld s.run.held s.time else s.record k := by
  have hseq : (s.endParking reason).seq = s.seq := by simp
  have hdrv : (s.endParking reason).drv = s.drv := by simp
  obtain ⟨hstop, hsq, hrun, htab, -⟩ := (s.endParking reason).handEndOfSpin_event false (hseq ▸ hq) (hdrv ▸ hd)
    (by rw [State.endParking_run]; rfl)
  refine ⟨?_, hsq.trans (by rw [hseq]), hrun.trans (s.endParking_run reason), fun k => ?_⟩
  · rw [Stopped, hdrv] at hstop
    exact hstop
  · exact (State.record_congr htab k).trans (s.endParking_record reason hk k)

/-- The parking result stands in the table area as it was replaced (R47, R54). -/
theorem State.ownParkEnd_words (hq : isRunState s.seq.state = true) (hd : s.drv.state = .run) (hk8 : s.run.axle < 8)
    (hw : Memory.wf s.mem) : Memory.readWords (publish s (s.ownParkEnd reason)).mem (0x0A14 + 256 * s.run.axle) 5 =
      parkingWords (some (s.parkingResult reason)) := by
  set σ := s.parkingWritten reason with hσ
  have hR := tableKept_edit σ
  have hwf : Memory.wf σ.mem := State.rewriteFields_wf _ _ _ _ (State.rewriteFields_wf _ _ _ _ hw)
  have hkept : TableKept pastThree σ (s.ownParkEnd reason) := by
    rw [State.ownParkEnd, State.endParking, State.writeParking_written]
    exact State.handEndOfSpin_holds false hR (State.idleUnit_holds hR.freeClosed (State.pushHeld_holds hR
      (State.produce_holds _ _ _ _ hR.free (tableKept_refl pastThree hwf))))
  have hrec : σ.record s.run.axle = (s.record s.run.axle).parked (s.parkingResult reason) := by
    simp [hσ, State.parkingWritten, State.record, State.setRecord, hk, AxleRecord.parked]
  obtain ⟨-, -, -, htrec⟩ := s.ownParkEnd_event reason hk hq hd
  have hpark : ((s.ownParkEnd reason).record s.run.axle).parking = some (s.parkingResult reason) := by
    rw [htrec, if_pos rfl]
    exact (AxleRecord.withHeld_kept _ _ _).1
  have hshown (i : Nat) (hi : 10 ≤ i) (hi' : i < 10 + 5) : FieldShown (publish s (s.ownParkEnd reason)) s.run.axle i := by
    refine (FieldShown.kept (σ := σ) ?_ hkept hk8 (by omega) ?_).publish hkept.wf hk8 (by omega) s
    · exact State.rewriteFields_shown _ _ _ _ (State.rewriteFields_wf _ _ _ _ hw) hk8 (by omega) ⟨hi, hi'⟩
    · rw [recordWords_head _ (by omega), recordWords_head _ (by omega), recordHead_parking _ hi hi', recordHead_parking _ hi hi',
        hpark, hrec]
      rfl
  have haddr : 0x0A14 + 256 * s.run.axle = recordAddr s.run.axle 10 := by
    unfold recordAddr
    omega
  rw [haddr, FieldShown.readWords hshown, recordWords_parking, State.record_congr (s := s.ownParkEnd reason) (by simp), hpark]

end

theorem exec_parkWindowExpiry (s : State) (hp : s.run.phase = .parkOnset)
    (hl : s.run.arm.startWindow ≤ 5 * (s.clk.sampleNo - s.run.waitRef)) :
    exec .parkWindowExpiry s = .next (publish s s.parkWindowExpires) :=
  congrArg (fun t => Host.Outcome.next (publish s t)) (if_pos (by simp [State.parkWindowDue, State.elapsed, hp, hl]))

theorem exec_parkRelease (s : State) (hp : s.run.phase = .parkRun) (hc : 41 ≤ s.run.parkRelease) :
    exec .parkRelease s = .next (publish s (s.ownParkEnd .release)) :=
  congrArg (fun t => Host.Outcome.next (publish s t)) (if_pos (by simp [State.parkReleaseDue, hp, releaseSamples, hc]))

theorem exec_parkRunLimit (s : State) (hp : s.run.phase = .parkRun) (hc : s.run.parkRelease < 41)
    (hl : 30000 ≤ 5 * (s.clk.sampleNo - s.run.parkOnset)) : exec .parkRunLimit s = .next (publish s (s.ownParkEnd .runLimit)) :=
  congrArg (fun t => Host.Outcome.next (publish s t)) (if_pos (by
    simp [State.parkLimitDue, State.parkReleaseDue, hp, releaseSamples, Nat.not_le.2 hc, runLimit, State.elapsed, hl]))

/-! ## The two expiries of the start window (R90) -/

theorem parkWindow_repeats (s : State) (h : s.run.parkExpiries = 0) :
    let t := publish s s.parkWindowExpires
    t.run = { s.run with parkExpiries := 1, waitRef := s.clk.sampleNo } ∧ t.disp.repeatMark = some (s.clk.ms + 2000) ∧
      FrameFell s t ∧ KeepsAllBut [.run, .disp, .mem] s t := by
  set u := s.setRun { s.run with parkExpiries := 1, waitRef := s.clk.sampleNo } with hu
  rw [show s.parkWindowExpires = u.promptRepeat from if_pos h]
  obtain ⟨hfell, hmark⟩ := u.promptRepeat_fell
  refine ⟨by simp [hu], by simpa [hu] using hmark, FrameFell.publish (hfell.from rfl rfl rfl) s, fun p hp => ?_⟩
  cases p <;> simp_all [Part.same]

theorem parkWindow_ends (s : State) (hp : s.run.phase = .parkOnset) (hk : s.run.axle < s.tab.records.length) (h : s.run.parkExpiries ≠ 0)
    (hd : s.drv.state = .run) (hq : isRunState s.seq.state = true) :
    let t := publish s s.parkWindowExpires
    (s.run.held = none → (t.record s.run.axle).attempts = (s.record s.run.axle).attempts) ∧
    (∀ a, s.run.held = some a → (t.record s.run.axle).top = some { a with time := s.time } ∧
      (t.record s.run.axle).attempts.length = min 3 ((s.record s.run.axle).attempts.length + 1)) ∧
    (t.record s.run.axle).parking = some ⟨0, 0, .runLimit, s.time⟩ ∧
    (t.record s.run.axle).violations = (s.record s.run.axle).violations ∧
    t.run = RunUnit.cleared ∧ Stopped s t .commanded ∧ t.seq.state = .spindown := by
  intro t
  have ht : t = publish s (s.ownParkEnd .runLimit) := congrArg (publish s) (if_neg h)
  obtain ⟨hstop, hseq, hrun, hrec⟩ := s.ownParkEnd_event .runLimit hk hq hd
  have hresult : s.parkingResult .runLimit = ⟨0, 0, .runLimit, s.time⟩ := by simp [State.parkingResult, hp]
  have hr : t.record s.run.axle = ((s.record s.run.axle).parked ⟨0, 0, .runLimit, s.time⟩).withHeld s.run.held s.time := by
    rw [ht, State.record_congr (s := s.ownParkEnd .runLimit) (by simp), hrec, if_pos rfl, hresult]
  obtain ⟨k1, k2, k3, k4⟩ := ((s.record s.run.axle).parked ⟨0, 0, .runLimit, s.time⟩).withHeld_kept s.run.held s.time
  rw [hr]
  exact ⟨k3, k4, k1, k2, by rw [ht]; simpa using hrun, by rw [ht]; simpa [Stopped] using hstop, by simp [ht, hseq]⟩

/-! ## Samples of the parking run (R73, R91) -/

section
variable {s u t : State} {l : List JournalEntry} (h : SampleTaken s u t l)
include h

theorem SampleTaken.parkBegins (hq : isRunState s.seq.state = true) (hp : s.run.phase = .parkOnset) (hm : s.run.releaseMark = true)
    (hsum : 30 ≤ t.filtered 0 + t.filtered 1) : u.phaseSample.run = { s.run with
      phase := .parkRun, parkOnset := s.clk.sampleNo + 1, parkPeakL := max 0 (t.filtered 0), parkPeakR := max 0 (t.filtered 1)
      parkRelease := 0 } ∧ u.phaseSample.seq.state = .parkRun := by
  have hrun : u.run = s.run := h.unmarked (by rw [hp]; rfl)
  have hphase : u.run.phase = .parkOnset := hrun ▸ hp
  have hreleased : u.released = false := by rw [h.released, decide_eq_false (by omega)]
  have honset : u.onsetNow = true := by rw [State.onsetNow, hrun, hm, hreleased]; rfl
  set v := u.setRun { u.run with
    phase := .parkRun, parkOnset := u.clk.sampleNo, parkPeakL := 0, parkPeakR := 0, parkRelease := u.countRelease 0 } with hv
  have hsample : u.phaseSample = v.handPhase.trackParking := by
    simp only [State.phaseSample, hphase, honset, if_true, State.parkOnsetNow, hv]
  have hkept := v.handPhase_kept
  have heng : v.handPhase.eng = u.eng := hkept .eng (by simp)
  have hvrun : v.handPhase.run = v.run := hkept .run (by simp)
  have hfilter (k : Nat) : v.handPhase.filtered k = t.filtered k := by rw [h.filtered, State.filtered, heng, State.filtered]
  rw [hsample]
  refine ⟨?_, ?_⟩
  · simp only [State.trackParking, State.setRun_run, hvrun, hfilter]
    simp [hv, h.now, hrun, State.countRelease, hreleased]
  · show v.handPhase.seq.state = _
    rw [v.handPhase_of .parkRun (by simpa [hv, h.seq] using hq) rfl]
    simp

theorem SampleTaken.parkWaits (hp : s.run.phase = .parkOnset) (hn : s.run.releaseMark = false ∨ t.filtered 0 + t.filtered 1 < 30) :
    u.phaseSample.seq = s.seq ∧ u.phaseSample.run =
      { s.run with releaseMark := s.run.releaseMark || decide (t.filtered 0 + t.filtered 1 < 30) } := by
  have hrun : u.run = s.run := h.unmarked (by rw [hp]; rfl)
  have honset : u.onsetNow = false := by
    rw [State.onsetNow, hrun, h.released]
    rcases hn with hn | hn <;> simp [hn]
  have hsample : u.phaseSample = u.markNow := by
    simp only [State.phaseSample, hrun, hp, honset, Bool.false_eq_true, if_false]
  rw [hsample]
  exact ⟨h.seq, by rw [State.markNow, State.setRun_run, h.released, hrun]⟩

theorem SampleTaken.parkGoesOn (hp : s.run.phase = .parkRun) : u.phaseSample.seq = s.seq ∧ u.phaseSample.run = { s.run with
    parkPeakL := max s.run.parkPeakL (t.filtered 0), parkPeakR := max s.run.parkPeakR (t.filtered 1)
    parkRelease := if t.filtered 0 + t.filtered 1 < 30 then s.run.parkRelease + 1 else 0 } := by
  have hrun : u.run = s.run := h.unmarked (by rw [hp]; rfl)
  have hcount : u.trackParking.countRelease s.run.parkRelease =
      if t.filtered 0 + t.filtered 1 < 30 then s.run.parkRelease + 1 else 0 := by
    rw [State.countRelease, show u.trackParking.released = u.released from rfl, h.released]
    simp only [decide_eq_true_eq]
  have hsample : u.phaseSample = u.trackParking.setRun { u.trackParking.run with
      parkRelease := u.trackParking.countRelease u.trackParking.run.parkRelease } := by
    simp only [State.phaseSample, hrun, hp]
  rw [hsample]
  refine ⟨h.seq, ?_⟩
  rw [← hcount, h.filtered, h.filtered, ← hrun]
  rfl

end

/-- Settles O44: the start window, the two ends of the run, and its samples. -/
theorem parkingRun : Obligations.ParkingRun := by
  unfold Obligations.ParkingRun
  refine ⟨fun s hp hl hk => ⟨fun h => ⟨_, exec_parkWindowExpiry s hp hl, parkWindow_repeats s h⟩, fun h hd hq =>
    ⟨_, exec_parkWindowExpiry s hp hl, parkWindow_ends s hp hk h hd hq⟩⟩, fun s hp hk hd hq hw => ?ends,
    fun i s hquiet hst hload _ hfl hq => ⟨_, exec_sample i s hquiet, ?sample⟩⟩
  case ends =>
    intro ended
    have hended (reason : EndReason) : ended (publish s (s.ownParkEnd reason)) reason := by
      obtain ⟨hstop, hseq, hrun, hrec⟩ := s.ownParkEnd_event reason hk hq hd
      have hresult : s.parkingResult reason = ⟨s.run.parkPeakL, s.run.parkPeakR, reason, s.time⟩ := by simp [State.parkingResult, hp]
      rw [hresult] at hrec
      obtain ⟨k1, -, k3, k4⟩ := ((s.record s.run.axle).parked ⟨s.run.parkPeakL, s.run.parkPeakR, reason, s.time⟩).withHeld_kept
        s.run.held s.time
      have hown : (publish s (s.ownParkEnd reason)).record s.run.axle = _ := (hrec s.run.axle).trans (if_pos rfl)
      refine ⟨fun hk8 => ?_, by rw [hown]; exact k1, by rw [hown]; exact k3, by rw [hown]; exact k4,
        fun k hne => (hrec k).trans (if_neg hne), by simpa using hrun, by simpa [Stopped] using hstop, by simp [hseq],
        by simp [hseq]⟩
      rw [s.ownParkEnd_words reason hk hq hd hk8 hw, hresult]
      rfl
    exact ⟨fun hc => ⟨_, exec_parkRelease s hp hc, hended .release⟩, fun hc hl => ⟨_, exec_parkRunLimit s hp hc hl, hended .runLimit⟩⟩
  case sample =>
    have hsample := s.sampleTaken i hst hload hfl
    generalize publish s (s.takeSample i) = t at *
    generalize s.watched i = u at *
    intro fl fr held
    refine ⟨fun h hp hm h30 => ?_, fun h hp hn => ?_, fun h hp => ?_⟩
    all_goals obtain ⟨trun, tseq, -, -⟩ := hsample.left h
    all_goals rw [trun, tseq]
    · exact hsample.parkBegins hq hp hm h30
    · exact hsample.parkWaits hp hn
    · exact hsample.parkGoesOn hp

end Sys2Proof.Machine

/-! PROOFS. The sample before the calibration load has ended, and the first sample (R1, R5, R45, R162, R193). -/

namespace Sys2Proof.Machine

set_option Elab.async false

/-! ## The tracker at a sample (R27, R31) -/

/-- The start of a tracker takes of the engine the inputs alone. -/
theorem State.trackerSample_eng (s : State) (analog : Bool) :
    (s.trackerSample analog).eng = { s.eng with inputs := (s.trackerSample analog).eng.inputs } := by
  have settles : s.beginTracker.eng = { s.eng with inputs := s.beginTracker.eng.inputs } := by
    simp only [State.beginTracker, State.settleBeams, State.startTracker]
    split <;> split <;> rfl
  unfold State.trackerSample
  split
  · rfl
  · split
    · exact settles
    · rfl
  · split
    · rfl
    · exact settles

/-- Without a beam change that settles at this sample the tracker's start leaves every input (R5). -/
theorem State.trackerSample_inputs (s : State) (analog : Bool) (hr : s.settles .beamR = false) (hf : s.settles .beamF = false)
    (i : Input) : (s.trackerSample analog).input i = s.input i := by
  have hbegin : s.beginTracker = s.startTracker false false := by simp [State.beginTracker, State.settleBeams, hr, hf]
  unfold State.trackerSample
  rw [hbegin]
  split
  · rfl
  · split <;> rfl
  · split <;> rfl

/-! ## The first sample (R5, R45, R162, R193) -/

/-- In LOCKOUT the sequencer hears of a start that was refused alone (R135). -/
theorem State.seqDriveEnds_lockout (s : State) (h : s.drv.state = .lockout) : ∃ q, s.seqDriveEnds = s.setSeq q := by
  have hleave : s.leaveSpindown = s.setSeq s.seq := by
    rw [State.leaveSpindown, if_neg (by simp [h])]
    rfl
  have hrefusal : s.startRefusal ≠ none := by simp [State.startRefusal, h]
  unfold State.seqDriveEnds State.repeatStart
  split
  · exact ⟨_, hleave⟩
  · split
    · exact ⟨_, s.issueStart_refused hrefusal⟩
    · exact ⟨s.seq, rfl⟩

theorem State.driveLockout_event (s : State) (c : LockCause) :
    (s.driveLockout c).drv = s.drv.locked c ∧ (s.dtest = none → ∃ e, Logged s (s.driveLockout c) [e]) := by
  obtain ⟨q, hq⟩ := (s.ended (s.drv.locked c) (word (codeOfLock c)) (c == .driveFault)).seqDriveEnds_lockout
    (by rw [State.ended_drv]; rfl)
  rw [State.driveLockout_eq, hq]
  exact ⟨by simp [State.ended_drv], fun h => ⟨_, ((s.ended_logged (s.drv.locked c) (word (codeOfLock c)) (c == .driveFault) h).same
    (t := (s.ended (s.drv.locked c) (word (codeOfLock c)) (c == .driveFault)).setSeq q)).frameAfter _⟩⟩

theorem State.frameDue_sending (s : State) : s.frameDue.disp.sending.isSome = true ∧ s.frameDue.disp.refresh.isSome = true := by
  cases h : s.disp.sending <;> simp [State.frameDue, State.loadRefresh, State.timerIn, h]

/-- The raw levels as debounced levels of the first sample (R5). -/
def State.levelled (s : State) (l : Levels) : State :=
  s.setEng { s.eng with started := true, inputs := (levelList l).map (fun b => ⟨b, 0⟩) }

theorem State.levelled_input (s : State) (l : Levels) (i : Input) : (s.levelled l).input i = ⟨(levelList l).getD (inputIndex i) false, 0⟩ := by
  cases i <;> rfl

/-- The drive at the first sample: locked out by an ACTIVE ESTOP (R45). -/
def State.lockedAtFirst (s : State) (l : Levels) : State :=
  if l.estop then (s.levelled l).driveLockout .estop else s.levelled l

theorem State.firstSample_eq (s : State) (l : Levels) : s.firstSample l =
    (if (s.lockedAtFirst l).firstPollDue then (s.lockedAtFirst l).sendPoll else s.lockedAtFirst l).frameDue := by
  have hlevel : (s.levelled l).level .estop = l.estop := by rw [State.level, State.levelled_input]; rfl
  rw [State.lockedAtFirst, ← hlevel]
  rfl

theorem State.lockedAtFirst_kept (s : State) (l : Levels) : (s.lockedAtFirst l).eng = (s.levelled l).eng ∧
    (s.lockedAtFirst l).prn = s.prn ∧ (s.lockedAtFirst l).clk = s.clk ∧ (s.lockedAtFirst l).gauge = s.gauge := by
  unfold State.lockedAtFirst
  split <;> simp [State.levelled]

theorem State.firstSample_kept (s : State) (l : Levels) : (s.firstSample l).eng = (s.levelled l).eng ∧
    (s.firstSample l).clk = s.clk ∧ (s.firstSample l).gauge = s.gauge := by
  obtain ⟨heng, -, hclk, hgauge⟩ := s.lockedAtFirst_kept l
  rw [State.firstSample_eq]
  split <;> simp [heng, hclk, hgauge]

theorem State.firstSample_drv (s : State) (l : Levels) :
    (s.firstSample l).drv = if l.estop then { s.drv with state := .lockout, lockCause := some .estop } else s.drv := by
  have hdrv : (s.firstSample l).drv = (s.lockedAtFirst l).drv := by
    rw [State.firstSample_eq]
    split <;> simp
  rw [hdrv, State.lockedAtFirst]
  split
  · exact ((s.levelled l).driveLockout_event .estop).1
  · rfl

theorem State.firstSample_logged (s : State) (l : Levels) (h : l.estop = true) (hd : s.dtest = none) :
    ∃ e, Logged s (s.firstSample l) [e] := by
  obtain ⟨e, made⟩ := ((s.levelled l).driveLockout_event .estop).2 hd
  have hlock : s.lockedAtFirst l = (s.levelled l).driveLockout .estop := if_pos h
  have started : Logged s (s.lockedAtFirst l) [e] := by
    rw [hlock]
    exact ⟨made.wf, made.time, made.mode, made.produced, made.stored, made.put, made.gap, made.count, made.full, made.words⟩
  refine ⟨e, ?_⟩
  rw [State.firstSample_eq]
  split
  · exact started.same
  · exact started.same

theorem State.firstSample_prn (s : State) (l : Levels) : (s.firstSample l).prn =
    if s.prn.link = .offline ∧ s.prn.pollTimer = none then { s.prn with
      wire := some (.poll (printerFrame s.prn.sequence [])), pollTimer := some (s.clk.ms + 2000) } else s.prn := by
  obtain ⟨-, hprn, hclk, -⟩ := s.lockedAtFirst_kept l
  have hdue : (s.lockedAtFirst l).firstPollDue = true ↔ s.prn.link = .offline ∧ s.prn.pollTimer = none := by
    simp [State.firstPollDue, hprn]
  rw [State.firstSample_eq]
  simp only [hdue]
  split
  next h => simp [State.sendPoll, State.sendWire, State.timerIn, pollPeriod, hprn, hclk, h.1]
  next => simp [hprn]

/-- Settles O26: the discrete part of the sample, later and first, and the tracker that may start behind it. -/
theorem sampleBeforeTheLoadEnds : Obligations.SampleBeforeTheLoadEnds := by
  unfold Obligations.SampleBeforeTheLoadEnds
  intro inp s hquiet hload hinputs
  set c := s.setClk { s.clk with sampleNo := s.clk.sampleNo + 1 } with hc
  set u := c.discreteSample inp.levels with hu
  have hdisc : u = if s.eng.started then s.debounced inp.levels else c.firstSample inp.levels := rfl
  obtain ⟨feng, fclk, fgauge⟩ := c.firstSample_kept inp.levels
  have hkept : u.eng = { s.eng with started := true, inputs := u.eng.inputs } ∧ u.clk = c.clk ∧ u.gauge = s.gauge := by
    rw [hdisc]
    cases hst : s.eng.started with
    | true => exact ⟨by simp [State.debounced, ← hst], rfl, rfl⟩
    | false => exact ⟨by rw [if_neg (by simp), feng]; rfl, by rw [if_neg (by simp), fclk], by rw [if_neg (by simp), fgauge]; rfl⟩
  obtain ⟨heng, hclk, hgauge⟩ := hkept
  have htake : s.takeSample inp = u.trackerSample false := by
    rw [State.takeSample]
    exact if_pos (by rw [heng]; exact hload)
  have htrack : (u.trackerSample false).eng = { s.eng with started := true, inputs := (u.trackerSample false).eng.inputs } := by
    rw [u.trackerSample_eng false, heng]
  refine ⟨_, exec_sample inp s hquiet, ?_⟩
  rw [htake]
  refine ⟨by simp [hclk, hc], (congrArg Engine.chans htrack).trans rfl, (congrArg Engine.faults htrack).trans rfl,
    (congrArg Engine.windowSamples htrack).trans rfl,
    by simp [hgauge], (congrArg Engine.cals htrack).trans rfl, (congrArg Engine.started htrack).trans rfl, fun hst => ?later, fun hst => ?first⟩
  case later =>
    rw [if_pos hst] at hdisc
    refine ⟨by simp [hdisc, State.debounced], by simp [hdisc, State.debounced], by simp [hdisc, State.debounced], fun i hi => ?_⟩
    have hdebounced : u.input i = ⟨s.level i,
        if (levelList inp.levels).getD (inputIndex i) false = s.level i then 0 else (s.input i).count + 1⟩ := by
      have hj : inputIndex i < 11 := by cases i <;> decide
      have hl : inputIndex i < (levelList inp.levels).length := hj
      simp [hdisc, State.debounced, State.level, State.input, List.getD_eq_getElem?_getD, hinputs, hj, hl, DiscreteInput.after]
    rw [← hdebounced]
    show (u.trackerSample false).input i = u.input i
    have hseat : u.seat = s.seat := by rw [hdisc]; rfl
    rcases hi with hi | hi | ⟨h1, h2⟩
    · unfold State.trackerSample
      rw [hseat, hi]
      cases s.seat.restart <;> rfl
    · unfold State.trackerSample
      rw [hseat]
      cases hr : s.seat.restart with
      | atSample => exact absurd hr hi
      | none => rfl
      | atAnalogSample => rfl
    · exact (u.trackerSample_engineKept false).inputs i h1 h2
  case first =>
    rw [if_neg (by simp [hst])] at hdisc
    have hinput (i : Input) : u.input i = ⟨(levelList inp.levels).getD (inputIndex i) false, 0⟩ := by
      rw [← c.levelled_input, State.input, hdisc, feng, State.input]
    have hsettles (i : Input) : u.settles i = false := by simp [State.settles, hinput]
    have hdrv := c.firstSample_drv inp.levels
    have hprn := c.firstSample_prn inp.levels
    rw [← hdisc] at hdrv hprn
    have hsending : u.disp.sending.isSome = true ∧ u.disp.refresh.isSome = true := by
      rw [hdisc, State.firstSample_eq]
      exact State.frameDue_sending _
    refine ⟨fun i => (u.trackerSample_inputs false (hsettles _) (hsettles _) i).trans (hinput i), fun he => ?_, fun he => ?_,
      fun he hd => ?_, fun hl hp => ?_, fun h => ?_, fun _ => by simp [hsending], by simp [hsending]⟩
    · simp [hdrv, he, hc]
    · simp [hdrv, he, hc]
    · obtain ⟨e, made⟩ := c.firstSample_logged inp.levels he hd
      rw [← hdisc] at made
      simpa [hc] using made.produced
    · simp [hprn, hl, hp, hc]
    · have hnot : ¬ (s.prn.link = .offline ∧ s.prn.pollTimer = none) := by
        rintro ⟨h1, h2⟩
        exact h.elim (absurd h1) (absurd h2)
      simp [hprn, hnot, hc]

end Sys2Proof.Machine

/-! PROOFS. How many entries an act produces at the most, and that the bits of ATTN it finds stand: one lemma per act (R202, R207). -/

namespace Sys2Proof.Machine

set_option Elab.async false

/-- From s to t at most n entries are produced, and every bit of ATTN that stood stands (R202, R207). -/
structure Entries (n : Nat) (s t : State) : Prop where
  logged : ∀ {σ : State} {l : List JournalEntry}, Logged σ s l → ∃ tail : List JournalEntry, tail.length ≤ n ∧ Logged σ t (l ++ tail)
  attn : ∀ b, s.att.bits.getLsbD b = true → t.att.bits.getLsbD b = true

theorem Entries.trans {n m : Nat} {s t u : State} (h : Entries n s t) (h' : Entries m t u) : Entries (n + m) s u where
  logged hl := by
    obtain ⟨a, ha, made⟩ := h.logged hl
    obtain ⟨b, hb, made'⟩ := h'.logged made
    rw [List.append_assoc] at made'
    exact ⟨a ++ b, by rw [List.length_append]; omega, made'⟩
  attn b hb := h'.attn b (h.attn b hb)

theorem Entries.mono {n m : Nat} {s t : State} (h : Entries n s t) (hm : n ≤ m) : Entries m s t where
  logged hl := by
    obtain ⟨a, ha, made⟩ := h.logged hl
    exact ⟨a, ha.trans hm, made⟩
  attn := h.attn

/-- One entry is produced. -/
theorem Entries.one {s t : State} {e : State → JournalEntry} (h : ∀ {σ l}, Logged σ s l → Logged σ t (l ++ [e s]))
    (ha : ∀ b, s.att.bits.getLsbD b = true → t.att.bits.getLsbD b = true) : Entries 1 s t :=
  ⟨fun hl => ⟨[e s], Nat.le_refl 1, h hl⟩, ha⟩

/-- No entry is produced and ATTN is left alone. -/
theorem Entries.none {s t : State} (hl : ∀ {σ l}, Logged σ s l → Logged σ t l) (ha : t.att = s.att) : Entries 0 s t :=
  ⟨fun h => ⟨[], Nat.le_refl 0, by simpa using hl h⟩, fun _ hb => ha ▸ hb⟩

theorem Entries.complete (s : State) (n k : Nat) (o : ReqOutcome) (d : Detail) (r : List Word) :
    Entries 1 s (s.complete n k o d r) :=
  .one (e := fun _ => ⟨evRequestDone, 0, bytePair n k, bytePair (codeOfDetail d) (codeOfOutcome o)⟩) (fun h => h.complete n k o d r)
    (s.complete_att_mono n k o d r)

/-- An act that, beside the entries it produces, leaves every slot alone that the request unit does not hold. -/
structure Adds (n : Nat) (s t : State) : Prop where
  entries : Entries n s t
  slots : s.slots.length = 16 → t.slots.length = 16 ∧ ∀ m, m < 16 → s.held m = .free → SlotSame s t m

namespace Adds

theorem logged {n : Nat} {s t : State} (h : Adds n s t) {σ : State} {l : List JournalEntry} (hl : Logged σ s l) :
    ∃ tail : List JournalEntry, tail.length ≤ n ∧ Logged σ t (l ++ tail) := h.entries.logged hl

theorem trans {n m : Nat} {s t u : State} (h : Adds n s t) (h' : Adds m t u) : Adds (n + m) s u := by
  refine ⟨h.entries.trans h'.entries, fun hs => ?_⟩
  obtain ⟨ht, hsame⟩ := h.slots hs
  obtain ⟨hu, hsame'⟩ := h'.slots ht
  exact ⟨hu, fun k hk hf => (hsame k hk hf).trans (hsame' k hk ((hsame k hk hf).1.trans hf))⟩

theorem mono {n m : Nat} {s t : State} (h : Adds n s t) (hm : n ≤ m) : Adds m s t := ⟨h.entries.mono hm, h.slots⟩

/-- An act that writes no byte of a slot. -/
theorem apart {n : Nat} {s t : State} (h : Entries n s t) (hs : t.slots = s.slots)
    (hm : ∀ a, (∃ m, slotByte m a) → Memory.readByte t.mem a = Memory.readByte s.mem a) : Adds n s t :=
  ⟨h, fun hl => ⟨by rw [hs]; exact hl, fun m _ _ => ⟨by rw [State.held, hs, State.held], fun a ha => hm a ⟨m, ha⟩⟩⟩⟩

/-- An act that leaves lane memory, the journal, ATTN and the request unit alone. -/
theorem same {s t : State} (hm : t.mem = s.mem := by simp) (hj : t.jr = s.jr := by simp) (ht : t.time = s.time := by simp)
    (ha : t.att = s.att := by simp) (hs : t.slots = s.slots := by simp) : Adds 0 s t :=
  apart (.none (fun h => h.same hm hj ht) ha) hs fun _ _ => by rw [hm]

theorem refl (s : State) : Adds 0 s s := same rfl rfl rfl rfl rfl

theorem after {n : Nat} {s t u : State} (h : Adds n s t) (h' : Adds 0 t u) : Adds n s u := h.trans h'

theorem before {n : Nat} {s t u : State} (h : Adds n t u) (h' : Adds 0 s t) : Adds n s u := (h'.trans h).mono (Nat.zero_add n).le

theorem ite {n m : Nat} {s t u : State} {c : Prop} [Decidable c] (h : Adds n s t) (h' : Adds m s u) :
    Adds (max n m) s (if c then t else u) := by
  split
  · exact h.mono (Nat.le_max_left n m)
  · exact h'.mono (Nat.le_max_right n m)

/-! ## Parts that no entry and no bit of ATTN lies in -/

section
variable (s : State)

theorem setDrv (x : Drive) : Adds 0 s (s.setDrv x) := same rfl rfl rfl rfl rfl
theorem setRun (x : RunUnit) : Adds 0 s (s.setRun x) := same rfl rfl rfl rfl rfl
theorem setSeq (x : Sequencer) : Adds 0 s (s.setSeq x) := same rfl rfl rfl rfl rfl
theorem setSeat (x : Seating) : Adds 0 s (s.setSeat x) := same rfl rfl rfl rfl rfl
theorem setEng (x : Engine) : Adds 0 s (s.setEng x) := same rfl rfl rfl rfl rfl
theorem setWeigh (x : Option Weighing) : Adds 0 s (s.setWeigh x) := same rfl rfl rfl rfl rfl
theorem setRecord (k : Nat) (r : AxleRecord) : Adds 0 s (s.setRecord k r) := same rfl rfl rfl rfl rfl
theorem setCursor (k : Nat) : Adds 0 s (s.setCursor k) := same rfl rfl rfl rfl rfl
theorem idleUnit : Adds 0 s s.idleUnit := same rfl rfl rfl rfl rfl
theorem reloadRefresh : Adds 0 s s.reloadRefresh := same
theorem settleLevel (i : Input) : Adds 0 s (s.settleLevel i) := same rfl rfl rfl rfl rfl

end

/-! ## Entries, slots and the table -/

theorem produce (s : State) (code axle : Nat) (p1 p2 : Word) : Adds 1 s (s.produce code axle p1 p2) := by
  refine apart (.one (e := fun _ => ⟨code, axle, p1, p2⟩) (fun h => h.produce code axle p1 p2) (s.produce_att_mono code axle p1 p2))
    (by simp) fun a ⟨m, ha⟩ => ?_
  exact s.produce_readByte code axle p1 p2 a fun hb => slotByte_not_ring m a ha (nextEntryByte_ring _ a hb)

theorem produceHere (s : State) (code : Nat) (p1 p2 : Word) : Adds 1 s (s.produceHere code p1 p2) := produce s code _ p1 p2

theorem frameAfter {n : Nat} {s t : State} (h : Adds n s t) (old : State) : Adds n s (frameAfter old t) := h.after same

theorem rewriteFields (s : State) (k i m : Nat) : Adds 0 s (s.rewriteFields k i m) :=
  apart (.none (fun h => h.rewriteFields k i m) (by simp)) (by simp) fun a ⟨n, ha⟩ =>
    s.rewriteFields_readByte_outside k i m a fun ht => slotByte_not_image n a ha (.inr (.inl ht))

theorem setStatus (s : State) (k : Nat) (st : AxleStatus) (x : Option SkipReason) : Adds 0 s (s.setStatus k st x) :=
  (setRecord s k _).trans (rewriteFields _ k 0 3)

theorem publish {n : Nat} {s t : State} (h : Adds n s t) (old : State) : Adds n s (publish old t) :=
  h.after (apart (.none (fun h => h.publish old) (by simp)) (by simp) fun a ⟨n, ha⟩ =>
    publish_readByte old t a (slotByte_not_image n a ha))

/-! ## The sequencer's states -/

theorem enterSeq (s : State) (n : SeqState) : Adds 1 s (s.enterSeq n) := by
  by_cases hn : s.seq.state = n
  · rw [s.enterSeq_of_eq n hn]
    exact (refl s).mono (Nat.zero_le 1)
  · refine apart (.one (e := fun s => seqEntry s n) (fun h => h.enterSeq n hn) fun b hb => ?_) (by simp) fun a ⟨m, ha⟩ =>
      s.enterSeq_readByte n a (slotByte_not_seq m a ha) (slotByte_not_ring m a ha)
    have hatt : (s.changeSeq n).att = s.att := State.changeSeq_kept s n .att (by simp)
    have hp := (s.changeSeq n).produce_att_mono evSeqState (s.changeSeq n).planAxleNumber (word (codeOfSeq n))
      (word (codeOfSeq s.seq.state)) b (by rw [hatt]; exact hb)
    rw [State.enterSeq_eq s n hn]
    simp only
    split
    · simp only [State.raiseAttn, State.setAttn, State.setAtt_att, BitVec.getLsbD_or, Bool.or_eq_true]
      exact .inl hp
    · exact hp

theorem handPhase (s : State) : Adds 1 s s.handPhase := by
  unfold State.handPhase
  split
  · split
    · exact (enterSeq s _).frameAfter s
    · exact (refl s).mono (Nat.zero_le 1)
  · exact (refl s).mono (Nat.zero_le 1)

theorem takeEndOfSpin (s : State) (owed : Bool) : Adds 1 s (s.takeEndOfSpin owed) :=
  ite ((setSeq s _).trans (enterSeq _ .spindown)) (ite (setSeq s _) (refl s))

/-! ## The attempt, the parking result, and a stop (R38, R85, R91) -/

theorem pushAttempt (s : State) (k : Nat) (a : Attempt) : Adds 1 s (s.pushAttempt k a) := by
  unfold State.pushAttempt
  exact (((setRecord s k _).after (rewriteFields _ _ _ _)).after (rewriteFields _ _ _ _)).trans (produce _ _ _ _ _)

theorem writeParking (s : State) (r : EndReason) : Adds 1 s (s.writeParking r) := by
  rw [State.writeParking_eq]
  exact (((setRecord s _ _).after (rewriteFields _ _ _ _)).after (rewriteFields _ _ _ _)).trans (produce _ _ _ _ _)

theorem pushHeld (s : State) : Adds 1 s s.pushHeld := by
  unfold State.pushHeld
  split
  · exact pushAttempt s _ _
  · exact (refl s).mono (Nat.zero_le 1)

theorem endAttempt (s : State) (r : EndReason) : Adds 1 s (s.endAttempt r) := (pushAttempt s _ _).after (idleUnit _)

theorem endParking (s : State) (r : EndReason) : Adds 2 s (s.endParking r) :=
  ((writeParking s r).trans (pushHeld _)).after (idleUnit _)

theorem runStop (s : State) (r : StopReason) : Adds 3 s (s.runStop r) := by
  have parking : Adds 3 s ((s.endParking (endOfStop r)).takeEndOfSpin false) := (endParking s _).trans (takeEndOfSpin _ _)
  by_cases ha : inAttemptPart s.run.phase = true
  · rw [s.runStop_attempt r ha]
    exact ((((setRun s _).trans (endAttempt _ _)).trans (takeEndOfSpin _ _))).mono (by decide)
  · unfold State.runStop
    cases hp : s.run.phase with
    | idle => exact (refl s).mono (Nat.zero_le 3)
    | armed => exact (idleUnit s).mono (Nat.zero_le 3)
    | parkOnset => exact ite ((((pushHeld s).after (idleUnit _)).trans (takeEndOfSpin _ true))) parking
    | parkRun => exact parking
    | ovality | serviceOnset | serviceRamp | serviceRun => exact absurd (congrArg inAttemptPart hp) ha

theorem runEnd (s : State) (r : EndReason) : Adds 2 s (s.runEnd r) := by
  unfold State.runEnd
  cases s.run.phase with
  | idle => exact (refl s).mono (Nat.zero_le 2)
  | armed => exact (idleUnit s).mono (Nat.zero_le 2)
  | parkOnset | parkRun => exact endParking s r
  | ovality | serviceOnset | serviceRamp | serviceRun => exact (endAttempt s r).mono (by decide)

theorem driveEntry (s : State) (p2 : Word) : Adds 1 s (s.driveEntry p2) := produceHere s _ _ _

theorem enterStopping (s : State) (r : StopReason) : Adds 1 s (s.enterStopping r) :=
  ((setDrv s _).after (reloadRefresh _)).trans (driveEntry _ _)

theorem takeDriveStop (s : State) : Adds 1 s s.takeDriveStop := ite (enterSeq s .spindown) (refl s)

theorem testStop (s : State) (r : StopReason) : Adds 0 s (s.testStop r) := by
  unfold State.testStop
  split
  · exact refl s
  · exact same

theorem ownerStop (s : State) (r : StopReason) : Adds 1 s (s.ownerStop r) := by
  unfold State.ownerStop
  split
  · exact takeDriveStop s
  · exact (testStop s r).mono (Nat.zero_le 1)
  · exact (refl s).mono (Nat.zero_le 1)

theorem stopDrive (s : State) (r : StopReason) : Adds 5 s (s.stopDrive r) :=
  ite (((enterStopping s _).trans (runStop _ _)).trans (ownerStop _ _)) (refl s)

theorem stopEvent (s : State) (r : StopReason) : Adds 5 s (s.stopEvent r) := (stopDrive s r).frameAfter s

theorem haltDrive (s : State) : Adds 4 s s.haltDrive := ite ((enterStopping s _).trans (runStop _ _)) (refl s)

theorem handEndOfSpin (s : State) (owed : Bool) : Adds 6 s (s.handEndOfSpin owed) := by
  have stopped (u : State) : Adds 5 u (if u.drv.state = .run then u.stopDrive .commanded else u) := ite (stopDrive u _) (refl u)
  exact ite (((setSeq s { s.seq with parkingOwed := owed }).trans ((stopped _).trans (enterSeq _ .spindown))).frameAfter s)
    (takeEndOfSpin s owed)

theorem ownEnd (s : State) (r : EndReason) (b : Bool) : Adds 7 s (s.ownEnd r b) :=
  ite ((setRun s _).trans (handPhase _)) (((pushAttempt s _ _).after (idleUnit _)).trans (handEndOfSpin _ false))

theorem ownParkEnd (s : State) (r : EndReason) : Adds 8 s (s.ownParkEnd r) := (endParking s r).trans (handEndOfSpin _ false)

/-! ## The course of a plan (R131 to R147) -/

theorem startDrive (s : State) (o : Owner) (m : DirMode) (k : Nat) : Adds 1 s (s.startDrive o m k) :=
  ((setDrv s _).after (reloadRefresh _)).trans (driveEntry _ _)

theorem issueStart (s : State) : Adds 1 s s.issueStart := by
  unfold State.issueStart
  split
  · exact (setSeq s _).mono (Nat.zero_le 1)
  · exact (setSeq s _).trans (startDrive _ _ _ _)

theorem repeatStart (s : State) : Adds 1 s s.repeatStart := ite (issueStart s) (refl s)

theorem enterReview (s : State) : Adds 1 s s.enterReview := ((enterSeq s .review).after (setSeq _ _)).after (setSeq _ _)

theorem enterSpinup (s : State) (r : Runs) : Adds 2 s (s.enterSpinup r) := by
  unfold State.enterSpinup
  dsimp only
  split
  · exact (enterSeq s .spinup).trans (enterReview _)
  · exact (enterSeq s .spinup).trans ((setRun _ _).trans (issueStart _))

theorem completePlan (s : State) (o : ReqOutcome) (d : Detail) : Adds 1 s (s.completePlan o d) := by
  unfold State.completePlan
  split
  next n h =>
    obtain ⟨hlt, hactive⟩ : ∃ hlt : n < s.slots.length, s.slots[n] = .active .runPlan := by
      obtain ⟨hlt, hp, -⟩ := List.findIdx?_eq_some_iff_getElem.1 h
      exact ⟨hlt, by simpa using hp⟩
    refine ⟨.complete s n (codeOfKind .runPlan) o d [], fun hs => ⟨?_, fun m hm hf => ?_⟩⟩
    · simpa [State.completeKind, State.complete, State.finishSlot, State.setHeld] using hs
    · have hne : m ≠ n := by
        rintro rfl
        simp [State.held, List.getD_eq_getElem?_getD, hlt, hactive] at hf
      refine ⟨State.complete_held s n _ o d [] m hne, fun a ha => State.complete_readByte s n _ o d [] a
        (slotByte_disjoint hm (hs ▸ hlt) hne ha) fun hb => slotByte_not_ring m a ha (nextEntryByte_ring _ a hb)⟩
  next => exact (refl s).mono (Nat.zero_le 1)

theorem enterComplete (s : State) : Adds 2 s s.enterComplete := (enterSeq s .complete).trans (completePlan _ _ _)

theorem advanceCursor (s : State) (n : SeqState) : Adds 2 s (s.advanceCursor n) := by
  unfold State.advanceCursor
  dsimp only
  split
  · exact (setCursor s _).trans (enterComplete _)
  · exact ((setCursor s _).trans (enterSeq _ n)).mono (by decide)

theorem exitForward (s : State) : Adds 2 s s.exitForward := by
  unfold State.exitForward
  dsimp only
  split
  · exact advanceCursor s .approach
  · exact (setStatus s _ _ _).trans (advanceCursor _ .approach)

theorem exitBackward (s : State) : Adds 1 s s.exitBackward := enterSeq s .approach

theorem enterExitWait (s : State) : Adds 3 s s.enterExitWait := by
  unfold State.enterExitWait
  dsimp only
  split
  · exact (enterSeq s .exitWait).mono (by decide)
  · split
    · exact (enterSeq s .exitWait).mono (by decide)
    · exact (enterSeq s .exitWait).trans (exitForward _)
    · exact ((enterSeq s .exitWait).trans (exitBackward _)).mono (by decide)

theorem leaveSpindown (s : State) : Adds 3 s s.leaveSpindown := by
  unfold State.leaveSpindown
  dsimp only
  split
  · split
    · exact (setSeq s _).trans (enterExitWait _)
    · split
      · exact ((setSeq s _).trans (enterSpinup _ _)).mono (by decide)
      · exact (enterReview s).mono (by decide)
  · exact (refl s).mono (Nat.zero_le 3)

theorem seqUnseated (s : State) : Adds 4 s s.seqUnseated := by
  unfold State.seqUnseated
  split
  · exact (enterExitWait s).mono (by decide)
  · exact (enterExitWait s).mono (by decide)
  · split
    · exact (refl s).mono (Nat.zero_le 4)
    · have idled : Adds 0 s (if s.run.phase = .armed then s.idleUnit else s) := ite (idleUnit s) (refl s)
      exact (idled.trans (enterSeq _ .spindown)).trans (leaveSpindown _)
  all_goals exact (refl s).mono (Nat.zero_le 4)

theorem seqExit (s : State) (forward : Bool) : Adds 2 s (s.seqExit forward) :=
  ite (ite (exitForward s) (exitBackward s)) (ite (setSeq s _) (refl s))

theorem reportExit (s : State) (e : ExitReport) (a b : Bool) : Adds 3 s (s.reportExit e a b) :=
  ((setSeat s _).trans (produceHere _ _ _ _)).trans ((seqExit _ _).frameAfter _)

theorem seqPass (s : State) (forward : Bool) : Adds 2 s (s.seqPass forward) := by
  unfold State.seqPass
  dsimp only
  split
  · split
    · split
      · exact advanceCursor s .approach
      · exact (setStatus s _ _ _).trans (advanceCursor _ .approach)
    · split
      · exact (refl s).mono (Nat.zero_le 2)
      · exact (setCursor s _).mono (Nat.zero_le 2)
  · exact (refl s).mono (Nat.zero_le 2)

theorem giveUpWork (s : State) (r : EndReason) : Adds 6 s (s.giveUpWork r) :=
  ((runEnd s r).trans (haltDrive _)).after (setWeigh _ none)

theorem pauseWork (s : State) : Adds 7 s s.pauseWork := ((giveUpWork s .pause).after (setSeq _ _)).trans (enterSeq _ .paused)

theorem skipAxle (s : State) : Adds 9 s s.skipAxle :=
  (((giveUpWork s .abort).after (setSeq _ _)).after (setStatus _ _ _ _)).trans (enterExitWait _)

theorem resume (s : State) : Adds 2 s s.resume :=
  ite ((setSeq s _).trans (enterReview _)) (ite (exitForward s) (enterSeq s .approach))

theorem seqKey (s : State) (k : Input) : Adds 9 s (s.seqKey k) := by
  unfold State.seqKey
  split
  · exact (ite (enterExitWait s) (refl s)).mono (by decide)
  · exact (ite (enterSpinup s _) (refl s)).mono (by decide)
  · exact ite (skipAxle s) (refl s)
  · exact (ite (pauseWork s) (ite (resume s) (refl s))).mono (by decide)
  all_goals exact (refl s).mono (Nat.zero_le 9)

theorem abortRecords (s : State) : Adds 0 s s.abortRecords := by
  have step (l : List Nat) : ∀ u : State, Adds 0 u (l.foldl State.abortRecord u) := by
    induction l with
    | nil => exact fun u => refl u
    | cons k l ih =>
      intro u
      have first : Adds 0 u (u.abortRecord k) := ite (setStatus u _ _ _) (refl u)
      exact first.trans (ih _)
  exact step _ s

theorem abortPlan (s : State) (o : ReqOutcome) (d : Detail) : Adds 8 s (s.abortPlan o d) :=
  ite ((((giveUpWork s .abort).after (abortRecords _)).trans (enterSeq _ .aborted)).trans (completePlan _ o d)) (refl s)

theorem modeTaken (s : State) (old : LaneMode) : Adds 13 s (s.modeTaken old) := by
  unfold State.modeTaken
  split
  · exact (stopEvent s .mode).trans ((abortPlan _ .failed .mode).frameAfter _)
  · exact ((repeatStart s).frameAfter s).mono (by decide)

theorem deriveMode (s : State) : Adds 14 s s.deriveMode := by
  unfold State.deriveMode
  dsimp only
  split
  · exact (refl s).mono (Nat.zero_le 14)
  · exact ((setEng s _).trans (produce _ _ _ _ _)).trans (modeTaken _ _)

/-! ## The detector at an analog sample (R25 to R29) -/

theorem beamSettles (s : State) (i : Input) (h : s.seat.seated = true) :
    Adds 0 s (s.beamSettles i) ∧ (s.beamSettles i).seat.seated = true := by
  rw [State.beamSettles, if_pos h, State.seatedBeam]
  split
  · exact ⟨(settleLevel s i).after (setSeat _ _), h⟩
  · exact ⟨settleLevel s i, h⟩

theorem lastBeamChanges (s : State) (h : s.seat.seated = true) : Adds 0 s s.lastBeamChanges := by
  have rear : Adds 0 s (if s.settles .beamR then s.beamSettles .beamR else s) ∧
      (if s.settles .beamR then s.beamSettles .beamR else s).seat.seated = true := by
    split
    · exact beamSettles s .beamR h
    · exact ⟨refl s, h⟩
  exact ite (rear.1.trans (beamSettles _ .beamF rear.2).1) rear.1

theorem decideExit (s : State) (last : Option Beam) : Adds 3 s (s.decideExit last) := by
  unfold State.decideExit
  split
  · exact reportExit s _ _ _
  · exact reportExit s _ _ _
  · exact (setSeat s _).mono (Nat.zero_le 3)

/-- The state in which the drive takes the UNSEATED report (R26, R30, R63). -/
theorem unseated (s : State) (h : s.seat.seated = true) : Adds 1 s (((s.lastBeamChanges.setSeat { s.lastBeamChanges.seat with
    seated := false, lastBeam := none, qualify := 0 }).loadEntry evUnseated).setWeigh none) :=
  (((lastBeamChanges s h).after (setSeat _ _)).trans (produceHere _ _ _ _)).after (setWeigh _ none)

theorem unseat (s : State) (h : s.seat.seated = true) : Adds 13 s s.unseat :=
  (((unseated s h).trans (stopEvent _ .unseat)).trans ((seqUnseated _).frameAfter _)).trans (decideExit _ _)

theorem trackLoad (s : State) : Adds 0 s s.trackLoad := by
  unfold State.trackLoad
  split
  · exact ite (setSeat s _) (refl s)
  · exact refl s

theorem detectorSample (s : State) : Adds 13 s s.detectorSample := by
  unfold State.detectorSample
  dsimp only
  split
  next h =>
    split
    · exact ((trackLoad s).after (setSeat _ _)).trans (unseat _ h)
    · exact ((trackLoad s).after (setSeat _ _)).mono (Nat.zero_le 13)
  next => exact (((trackLoad s).after (setSeat _ _)).after (setSeat _ _)).mono (Nat.zero_le 13)

/-! ## The brake run unit and the capture at a sample (R20, R72 to R84, R91) -/

theorem violation (s : State) (cause : Nat) : Adds 1 s (s.violation cause) := by
  have raised : Adds 0 s s.raiseViolation := ite (refl s) (setRecord s _ _)
  exact raised.trans (produce _ _ _ _ _)

theorem judgeRamp (s : State) (o : RampOutcome) : Adds 2 s (s.judgeRamp o) := by
  cases o with
  | fast => exact ((violation s 1).after (setRun _ _)).trans (handPhase _)
  | good => exact (((setRecord s _ _).after (setRun _ _)).trans (handPhase _)).mono (by decide)
  | weak => exact ((setRun s _).trans (handPhase _)).mono (by decide)
  | notAssessed => exact ((setRun s _).trans (handPhase _)).mono (by decide)

theorem rampTest (s : State) : Adds 2 s s.rampTest := ite (judgeRamp s _) (refl s)

theorem endHold (s : State) : Adds 7 s s.endHold := ite ((setRun s _).trans (handPhase _)) (ownEnd s _ _)

theorem trackPeaks (s : State) : Adds 0 s s.trackPeaks := setRun s _

theorem ovalitySample (s : State) : Adds 7 s s.ovalitySample := by
  have disturbed : Adds 7 s s.trackPeaks.disturb.endHold := ((trackPeaks s).after (setRun _ _)).trans (endHold _)
  have peaks : Adds 7 s s.trackPeaks := (trackPeaks s).mono (Nat.zero_le 7)
  unfold State.ovalitySample
  cases s.run.step with
  | onsetWait => exact (ite ((setRun s _).after (trackPeaks _)) (setRun s _)).mono (Nat.zero_le 7)
  | settle => exact ite disturbed peaks
  | hold => exact ite disturbed (peaks.after (setRun _ _))
  | releaseWait => exact ite ((trackPeaks s).trans (endHold _)) peaks

theorem phaseSample (s : State) : Adds 7 s s.phaseSample := by
  unfold State.phaseSample
  cases s.run.phase with
  | idle | armed => exact (refl s).mono (Nat.zero_le 7)
  | ovality => exact ovalitySample s
  | serviceOnset =>
    have tracked : Adds 0 s (if s.run.tracking then s.trackPeaks else s) := ite (trackPeaks s) (refl s)
    exact (ite (((((setRun s _).trans (handPhase _)).after (trackPeaks _)).after (setRun _ _)).trans (rampTest _))
      (tracked.after (setRun _ _))).mono (by decide)
  | serviceRamp => exact (((trackPeaks s).after (setRun _ _)).trans (rampTest _)).mono (by decide)
  | serviceRun => exact (((trackPeaks s).after (setRun _ _)).after (setRun _ _)).mono (Nat.zero_le 7)
  | parkOnset => exact (ite (((setRun s _).trans (handPhase _)).after (setRun _ _)) (setRun s _)).mono (by decide)
  | parkRun => exact ((setRun s _).after (setRun _ _)).mono (Nat.zero_le 7)

theorem runSample (s : State) : Adds 7 s s.runSample := by
  have watched : Adds 0 s s.watch := ite (setRun s _) (refl s)
  exact watched.trans (phaseSample _)

end Adds

theorem Entries.captureSample (s : State) (raws : List Int) : Entries 1 s (s.captureSample raws) := by
  unfold State.captureSample
  split
  · exact (Adds.refl s).entries.mono (Nat.zero_le 1)
  · split
    · exact (Adds.setEng s _).entries.trans (.complete _ _ _ _ _ _)
    · exact (Adds.setEng s _).entries.mono (Nat.zero_le 1)

end Sys2Proof.Machine

/-! PROOFS. What an analog sample leaves of the sample engine, of the seating, of a capture and of a weighing (R1 to R11, R20, R25, R60). -/

namespace Sys2Proof.Machine

set_option Elab.async false

/-! ## The engine after an analog sample -/

/-- The beams after their settling: the levels of the sample, with nothing left to settle (R5, R27). -/
theorem State.settleBeams_beams (s : State) (h : s.eng.inputs.length = 11) (j : Input) (hj : j = .beamR ∨ j = .beamF) :
    s.settleBeams.level j = s.levelNow j ∧ s.settleBeams.levelNow j = s.levelNow j := by
  set u := if s.settles .beamR then s.settleLevel .beamR else s with hu
  have hsettle : s.settleBeams = if u.settles .beamF then u.settleLevel .beamF else u := rfl
  have hulen : u.eng.inputs.length = 11 := by
    rw [hu]
    split <;> simp [State.settleLevel, h]
  have hufront : u.input .beamF = s.input .beamF := by
    rw [hu]
    split
    · rw [input_settle s h .beamR .beamF, if_neg (by simp)]
    · rfl
  have hurear : u.input .beamR = if s.settles .beamR then ⟨!s.level .beamR, 0⟩ else s.input .beamR := by
    rw [hu]
    split
    · rw [input_settle s h .beamR .beamR, if_pos rfl]
    · rfl
  have hinput : s.settleBeams.input j = if s.settles j then ⟨!s.level j, 0⟩ else s.input j := by
    have hfront : u.settles .beamF = s.settles .beamF := by rw [State.settles, hufront, State.settles]
    rw [hsettle, hfront]
    rcases hj with rfl | rfl
    · rw [← hurear]
      split
      · rw [input_settle u hulen .beamF .beamR, if_neg (by simp)]
      · rfl
    · split
      · rw [input_settle u hulen .beamF .beamF, if_pos rfl, State.level, hufront, State.level]
      · exact hufront
  by_cases hs : s.settles j = true
  · have hin := hinput.trans (if_pos hs)
    have hlevel : s.settleBeams.level j = !s.level j := by rw [State.level, hin]
    have hset : s.settleBeams.settles j = false := by simp [State.settles, hin]
    simp [State.levelNow, hs, hlevel, hset]
  · have hin := hinput.trans (if_neg hs)
    have hlevel : s.settleBeams.level j = s.level j := by rw [State.level, hin, State.level]
    have hset : s.settleBeams.settles j = false := by
      rw [State.settles, hin]
      simpa [State.settles] using hs
    simp [State.levelNow, hs, hlevel, hset]

/-- Of the engine the inputs alone have changed. -/
def InputsChanged (s t : State) : Prop := t.eng = { s.eng with inputs := t.eng.inputs }

theorem InputsChanged.trans {s t u : State} (h : InputsChanged s t) (h' : InputsChanged t u) : InputsChanged s u := by
  unfold InputsChanged at *
  rw [h', h]

theorem InputsChanged.of_eng {s t : State} (h : t.eng = s.eng) : InputsChanged s t := by rw [InputsChanged, h]

theorem InputsChanged.ite {s t u : State} {c : Prop} [Decidable c] (h : InputsChanged s t) (h' : InputsChanged s u) :
    InputsChanged s (if c then t else u) := by
  split
  · exact h
  · exact h'

theorem InputsChanged.beamSettles (s : State) (i : Input) : InputsChanged s (s.beamSettles i) := by
  have settled (u : State) (j : Input) : InputsChanged u (u.settleLevel j) := rfl
  have free (u : State) (r f : Bool) : InputsChanged u (u.freeBeam r f) := .of_eng (by simp)
  unfold State.beamSettles
  split
  · exact (settled s i).trans (.of_eng (by simp))
  · split
    · exact ((settled s .beamR).trans (settled _ .beamF)).trans (free _ true true)
    · exact (settled s i).trans (free _ _ _)

theorem InputsChanged.lastBeamChanges (s : State) : InputsChanged s s.lastBeamChanges := by
  have rear : InputsChanged s (if s.settles .beamR then s.beamSettles .beamR else s) := .ite (.beamSettles s _) (.of_eng rfl)
  exact .ite (rear.trans (.beamSettles _ _)) rear

theorem InputsChanged.detectorSample (s : State) : InputsChanged s s.detectorSample := by
  have hload : InputsChanged s (s.trackLoad.setSeat { s.trackLoad.seat with exitWindow := s.trackLoad.seat.exitWindow.map (· + 1) }) :=
    .of_eng (by simp)
  have unseated (u : State) : InputsChanged u u.unseat := (InputsChanged.lastBeamChanges u).trans (.of_eng (by simp [State.unseat]))
  unfold State.detectorSample
  dsimp only
  exact .ite (.ite (hload.trans (unseated _)) hload) (hload.trans (.of_eng rfl))

/-- The engine after an analog sample: inputs, the capture, and the counts of the window in progress beside what the conversion left. -/
theorem State.takeSample_eng (s : State) (i : SampleInput) (h : s.eng.started = true) (hl : s.eng.loading = false) :
    (s.takeSample i).eng = { (s.sensed i).eng with
      inputs := (s.takeSample i).eng.inputs, capture := (s.worked i).eng.capture, windowSamples := (s.sensed i).eng.windowSamples + 1
      pulses := ⟨(s.sensed i).eng.pulses.spdL + i.pulses.spdL, (s.sensed i).eng.pulses.spdR + i.pulses.spdR,
        (s.sensed i).eng.pulses.slpL + i.pulses.slpL, (s.sensed i).eng.pulses.slpR + i.pulses.slpR⟩ } := by
  have hwork : (s.worked i).eng = { (s.sensed i).eng with capture := (s.worked i).eng.capture } := by
    have captured (u : State) : (u.captureSample (rawList i.raws)).eng =
        { u.eng with capture := (u.captureSample (rawList i.raws)).eng.capture } := by
      unfold State.captureSample
      split
      · rfl
      · split <;> simp
    have hrun : (s.sensed i).runSample.eng = (s.sensed i).eng := by simp
    rw [State.worked, captured, hrun]
  rw [State.takeSample_started s i h hl, State.trackerSample_eng]
  simp only [State.countSample, State.setGauge_eng, State.setEng_eng, State.weighSample_frame]
  rw [InputsChanged.detectorSample, hwork]

section
variable {s : State} {i : SampleInput} (hst : s.eng.started = true) (hl : s.eng.loading = false) (hf : s.eng.faults.length = 11)
include hst hl hf

omit hf in
/-- The entries of a sample: those of its faults, then at most twenty-one. -/
theorem State.takeSample_entries : Entries 21 (s.sensed i) (publish s (s.takeSample i)) := by
  have left : Adds 13 (s.worked i) (publish s (s.takeSample i)) := by
    rw [State.takeSample_started s i hst hl]
    exact ((Adds.detectorSample (s.worked i)).after .same).publish s
  exact ((Adds.runSample (s.sensed i)).entries.trans (.captureSample _ (rawList i.raws))).trans left.entries

/-- An act of the sample behind the capture leaves a completed slot as it is (R200). -/
theorem State.takeSample_slotDone {n : Nat} {o : ReqOutcome} {d : Detail} {r : List Word} (hs : s.slots.length = 16)
    (hn : n < 16) (h : SlotDone (s.worked i) n o d r) : SlotDone (publish s (s.takeSample i)) n o d r := by
  have left : Adds 13 (s.worked i) (publish s (s.takeSample i)) := by
    rw [State.takeSample_started s i hst hl]
    exact ((Adds.detectorSample (s.worked i)).after .same).publish s
  have hslots : (s.worked i).slots.length = 16 := by
    have hsensed : (s.sensed i).slots = s.slots := s.sensed_kept i hf .slots (by simp)
    unfold State.worked State.captureSample
    split
    · simp [hsensed, hs]
    · split <;> simp [State.completeKind, State.complete, State.finishSlot, State.setHeld, hsensed, hs]
  obtain ⟨hheld, hbytes⟩ := (left.slots hslots).2 n hn h.1
  unfold SlotDone State.slotState at h ⊢
  unfold slotByte at hbytes
  rw [hheld, Memory.readWord_congr (s.worked i).mem _ _ fun b h1 h2 => hbytes b (by omega),
    Memory.readWord_congr (s.worked i).mem _ (slotBase n + 0x08) fun b h1 h2 => hbytes b (by omega),
    Memory.readWord_congr (s.worked i).mem _ (slotBase n + 0x0A) fun b h1 h2 => hbytes b (by omega),
    Memory.readWords_congr (s.worked i).mem _ _ _ fun b h1 h2 => hbytes b (by omega)]
  exact h

end

/-! ## The channels (R2 to R4, R11) -/

theorem wireOpen_eq (k : Nat) (raw : Int) : wireOpen k raw = decide (4 ≤ k ∧ k ≤ 7 ∧ raw < -1000) := by
  simp [wireOpen, isPressure, Bool.and_assoc]

theorem atLimit_eq (raw : Int) : atLimit raw = decide (raw = -32768 ∨ raw = 32767) := by
  rw [Bool.decide_or]
  rfl

/-- A channel after a sample, spelled out. -/
theorem State.channelAfter_eq (s : State) (k : Nat) (raw : Int) : s.channelAfter k raw =
    (if 4 ≤ k ∧ k ≤ 7 ∧ raw < -1000 then
      ⟨raw, (s.eng.chans.getD k noChannel).history, (s.eng.chans.getD k noChannel).filtered⟩
    else ⟨raw, ((s.eng.chans.getD k noChannel).history ++ [clamp (channelRange k).1 (channelRange k).2
        (if k = 0 ∧ s.drv.dirL = .reverse ∨ k = 1 ∧ s.drv.dirR = .reverse then
          -roundDiv ((raw - (s.eng.cals.getD k noCal).zero) * (s.eng.cals.getD k noCal).gain) 4096
        else roundDiv ((raw - (s.eng.cals.getD k noCal).zero) * (s.eng.cals.getD k noCal).gain) 4096)]).drop
          ((s.eng.chans.getD k noChannel).history.length - 3),
      if (s.faultsOf k).openWire then (s.eng.chans.getD k noChannel).filtered
      else meanOf (((s.eng.chans.getD k noChannel).history ++ [clamp (channelRange k).1 (channelRange k).2
        (if k = 0 ∧ s.drv.dirL = .reverse ∨ k = 1 ∧ s.drv.dirR = .reverse then
          -roundDiv ((raw - (s.eng.cals.getD k noCal).zero) * (s.eng.cals.getD k noCal).gain) 4096
        else roundDiv ((raw - (s.eng.cals.getD k noCal).zero) * (s.eng.cals.getD k noCal).gain) 4096)]).drop
          ((s.eng.chans.getD k noChannel).history.length - 3))⟩) := by
  set c := s.eng.chans.getD k noChannel with hc
  set cal := s.eng.cals.getD k noCal with hcal
  have hscaled : scaledValue k cal (s.drv.reversed k) raw = clamp (channelRange k).1 (channelRange k).2
      (if k = 0 ∧ s.drv.dirL = .reverse ∨ k = 1 ∧ s.drv.dirR = .reverse then -roundDiv ((raw - cal.zero) * cal.gain) 4096
        else roundDiv ((raw - cal.zero) * cal.gain) 4096) := by
    simp [scaledValue, Drive.reversed]
  have hpush : pushSample c.history (scaledValue k cal (s.drv.reversed k) raw) =
      (c.history ++ [scaledValue k cal (s.drv.reversed k) raw]).drop (c.history.length - 3) := by
    rw [pushSample, show c.history.length + 1 - 4 = c.history.length - 3 by omega]
  have hne (v : Int) : ((c.history ++ [v]).drop (c.history.length - 3)).isEmpty = false := by
    rw [List.isEmpty_eq_false_iff, ← List.length_pos_iff]
    simp only [List.length_drop, List.length_append, List.length_singleton]
    omega
  rw [State.channelAfter, ← hc, ← hcal, ← hscaled, Channel.after, wireOpen_eq, hpush]
  by_cases hcut : 4 ≤ k ∧ k ≤ 7 ∧ raw < -1000
  · simp [hcut]
  · simp only [hcut, decide_false, Bool.false_eq_true, if_false, Bool.false_or, meanOr, hne]

/-! ## The entries of the faults (R9) -/

/-- Whether a sample with a raw value sets a flag of a channel: 0 OVER_RANGE, 1 OPEN (R9). -/
def newFlag (f : FaultFlags) (k : Nat) (raw : Int) (m : Nat) : Bool :=
  if m = 0 then !f.overRange && decide (raw = -32768 ∨ raw = 32767) else !f.openWire && decide (4 ≤ k ∧ k ≤ 7 ∧ raw < -1000)

/-- The entry of flag m of channel k (R9). -/
def flagEntry (k m : Nat) : JournalEntry := ⟨evFaultSet, 0, word k, word m⟩

theorem faultEntries_eq (f : FaultFlags) (k : Nat) (raw : Int) :
    faultEntries f k raw = ((List.range 2).filter (newFlag f k raw)).map (flagEntry k) := by
  have h0 : newFlag f k raw 0 = (atLimit raw && !f.overRange) := by
    rw [Bool.and_comm, atLimit_eq]
    rfl
  have h1 : newFlag f k raw 1 = (wireOpen k raw && !f.openWire) := by
    rw [Bool.and_comm, wireOpen_eq]
    rfl
  have hrange : List.range 2 = [0, 1] := rfl
  rw [faultEntries, ← h0, ← h1, hrange, List.filter_cons, List.filter_cons, List.filter_nil]
  cases newFlag f k raw 0 <;> cases newFlag f k raw 1 <;> rfl

/-- The entries of the fault tests of one sample, in channel order (R9). -/
theorem faultEntries_sample (flags : Nat → FaultFlags) (r : Raws) : faultEntriesFrom flags 0 (rawList r) =
    (List.range 9).flatMap (fun k => ((List.range 2).filter (newFlag (flags k) k ((rawList r).getD k 0))).map (flagEntry k)) := by
  simp only [← faultEntries_eq]
  simp [rawList, faultEntriesFrom, List.range_succ]

theorem faultEntries_length (flags : Nat → FaultFlags) (r : Raws) : (faultEntriesFrom flags 0 (rawList r)).length =
    ((List.range 9).map (fun k => (List.range 2).countP (newFlag (flags k) k ((rawList r).getD k 0)))).sum := by
  rw [faultEntries_sample, List.length_flatMap]
  simp only [List.length_map, List.countP_eq_length_filter]

theorem mem_faultEntries (flags : Nat → FaultFlags) (r : Raws) {k m : Nat} (hk : k < 9) (hm : m < 2)
    (h : newFlag (flags k) k ((rawList r).getD k 0) m = true) : flagEntry k m ∈ faultEntriesFrom flags 0 (rawList r) := by
  rw [faultEntries_sample, List.mem_flatMap]
  exact ⟨k, by simpa using hk, List.mem_map.2 ⟨m, List.mem_filter.2 ⟨by simpa using hm, h⟩, rfl⟩⟩

/-- A sample that sets one flag makes one entry (R9). -/
theorem faultEntries_single (flags : Nat → FaultFlags) (r : Raws) {k m : Nat} (hk : k < 9) (hm : m < 2)
    (h : ∀ j, j < 9 → ∀ i, i < 2 → (newFlag (flags j) j ((rawList r).getD j 0) i = true ↔ j = k ∧ i = m)) :
    faultEntriesFrom flags 0 (rawList r) = [flagEntry k m] := by
  have hcount (j : Nat) (hj : j ∈ List.range 9) :
      (List.range 2).countP (newFlag (flags j) j ((rawList r).getD j 0)) = if j = k then 1 else 0 := by
    have hj9 : j < 9 := by simpa using hj
    split
    next he =>
      have hone : (List.range 2).countP (newFlag (flags j) j ((rawList r).getD j 0)) = (List.range 2).count m := by
        rw [List.count]
        refine List.countP_congr fun i hi => ?_
        rw [h j hj9 i (by simpa using hi)]
        simp [he]
      rw [hone]
      have hm2 : m = 0 ∨ m = 1 := by omega
      rcases hm2 with rfl | rfl <;> rfl
    next he =>
      refine List.countP_eq_zero.2 fun i hi hi' => he ?_
      exact ((h j hj9 i (by simpa using hi)).1 hi').1
  have hsum : ∀ k, k < 9 → ((List.range 9).map (fun j => if j = k then 1 else 0)).sum = 1 := by decide
  have hlen : (faultEntriesFrom flags 0 (rawList r)).length = 1 := by
    rw [faultEntries_length, List.map_congr_left hcount]
    exact hsum k hk
  obtain ⟨e, he⟩ := List.length_eq_one_iff.1 hlen
  have hmem := mem_faultEntries flags r hk hm ((h k hk m hm).2 ⟨rfl, rfl⟩)
  rw [he, List.mem_singleton] at hmem
  rw [he, hmem]

end Sys2Proof.Machine

/-! PROOFS. One analog sample: conversion, debouncing, faults, seating, capture, weighing, and the UNSEATED report (R1 to R11, R20, R21,
R25, R26, R29, R60). -/

namespace Sys2Proof.Machine

set_option Elab.async false

theorem State.levelNow_of_inputs {s t : State} (h : t.eng.inputs = s.eng.inputs) (j : Input) : t.levelNow j = s.levelNow j := by
  have hin : t.input j = s.input j := by rw [State.input, h, State.input]
  have hlevel : t.level j = s.level j := by rw [State.level, hin, State.level]
  have hsettles : t.settles j = s.settles j := by rw [State.settles, hin, State.settles]
  rw [State.levelNow, hlevel, hsettles, State.levelNow]

section
variable (s : State) (i : SampleInput) (hst : s.eng.started = true) (hl : s.eng.loading = false)
  (hn : s.eng.inputs.length = 11) (hf : s.eng.faults.length = 11)

include hf in
theorem State.worked_kept : (s.worked i).seat = s.seat ∧ (s.worked i).weigh = s.weigh ∧ (s.worked i).gauge = s.gauge := by
  have hseat : (s.sensed i).seat = s.seat := s.sensed_kept i hf .seat (by simp)
  have hweigh : (s.sensed i).weigh = s.weigh := s.sensed_kept i hf .weigh (by simp)
  have hgauge : (s.sensed i).gauge = s.gauge := s.sensed_kept i hf .gauge (by simp)
  simp [State.worked, hseat, hweigh, hgauge]

theorem State.worked_engine : EngineKept (s.sensed i) (s.worked i) ∧ (s.worked i).eng.inputs = (s.sensed i).eng.inputs := by
  refine ⟨(EngineKept.of_eng (by simp)).trans (State.captureSample_engineKept _ (rawList i.raws)), ?_⟩
  unfold State.worked State.captureSample
  split
  · simp
  · split <;> simp

/-- The detector while no axle is seated: the qualifying count and the exit window's count alone (R25, R29). -/
theorem State.detectorSample_unseated (h : s.seat.seated = false) : s.detectorSample.seat.qualify =
      (if 150 ≤ s.loadL ∧ 150 ≤ s.loadR ∧ s.levelNow .beamR = false ∧ s.levelNow .beamF = false then s.seat.qualify + 1 else 0) ∧
    s.detectorSample.seat.seated = false ∧ s.detectorSample.seat.restart = s.seat.restart ∧ KeepsAllBut [.seat] s s.detectorSample := by
  have hload : s.trackLoad.seat.seated = s.seat.seated ∧ s.trackLoad.seat.qualify = s.seat.qualify ∧
      s.trackLoad.seat.restart = s.seat.restart ∧ s.trackLoad.eng = s.eng := by
    unfold State.trackLoad
    split
    · split <;> exact ⟨rfl, rfl, rfl, rfl⟩
    · exact ⟨rfl, rfl, rfl, rfl⟩
  obtain ⟨hseated, hqualify, hrestart, heng⟩ := hload
  have hcondition : ∀ d, ((s.trackLoad.setSeat d).seatCondition = true ↔
      150 ≤ s.loadL ∧ 150 ≤ s.loadR ∧ s.levelNow .beamR = false ∧ s.levelNow .beamF = false) := by
    intro d
    simp [State.seatCondition, State.loadL, State.loadR, State.filtered, State.levelNow, State.settles, State.level, State.input,
      and_assoc]
  refine ⟨?_, ?_, ?_, s.detectorSample_held fun h' => absurd h' (by simp [h])⟩ <;>
    rw [State.detectorSample] <;> simp [hseated, h, hcondition, hqualify, hrestart]

/-- A tracker that starts leaves seating and qualifying alone (R27, R31). -/
theorem State.trackerSample_seat (s : State) (analog : Bool) : (s.trackerSample analog).seat.qualify = s.seat.qualify ∧
    (s.trackerSample analog).seat.seated = s.seat.seated := by
  have begins : s.beginTracker.seat.qualify = s.seat.qualify ∧ s.beginTracker.seat.seated = s.seat.seated := by
    simp [State.beginTracker, State.startTracker]
  unfold State.trackerSample
  split
  · exact ⟨rfl, rfl⟩
  · split
    · exact begins
    · exact ⟨rfl, rfl⟩
  · split
    · exact ⟨rfl, rfl⟩
    · exact begins

theorem State.trackerSample_starts (s : State) (h : s.seat.seated = false) (hr : s.seat.restart ≠ .none) :
    s.trackerSample true = s.beginTracker := by
  unfold State.trackerSample
  cases hc : s.seat.restart with
  | none => exact absurd hc hr
  | atAnalogSample => simp [h]
  | atSample => simp [h]

theorem State.trackerSample_none (s : State) (analog : Bool) (hr : s.seat.restart = .none) : s.trackerSample analog = s := by
  unfold State.trackerSample
  rw [hr]

/-- The beams of the sample are the same before and after the tracker's start (R5). -/
theorem State.trackerSample_levelNow (s : State) (analog : Bool) (h : s.eng.inputs.length = 11) (j : Input)
    (hj : j = .beamR ∨ j = .beamF) : (s.trackerSample analog).levelNow j = s.levelNow j := by
  have begins : s.beginTracker.levelNow j = s.levelNow j := (s.settleBeams_beams h j hj).2
  unfold State.trackerSample
  split
  · rfl
  · split
    · exact begins
    · rfl
  · split
    · rfl
    · exact begins

/-- The record that the tracker opens at its start, by the levels that its beams have then (R27, R31). -/
theorem State.beginTracker_seat (s : State) (h : s.eng.inputs.length = 11) : s.beginTracker.seat.active = true ∧
    s.beginTracker.seat.exitWindow = none ∧ s.beginTracker.seat.restart = .none ∧
    s.beginTracker.seat.record = (if s.beginTracker.level .beamR = s.beginTracker.level .beamF then .empty
      else if s.beginTracker.level .beamR then .rearOpen false false else .frontOpen false) := by
  refine ⟨rfl, rfl, rfl, ?_⟩
  have hlevel (j : Input) (hj : j = .beamR ∨ j = .beamF) : s.beginTracker.level j = s.settleBeams.levelNow j := by
    obtain ⟨h1, h2⟩ := s.settleBeams_beams h j hj
    exact h1.trans h2.symm
  rw [hlevel .beamR (.inl rfl), hlevel .beamF (.inr rfl)]
  exact s.settleBeams.openRecord_none

/-! ## The state behind the detector -/

/-- The state in which the tracker may start: weighing and counts taken (R7, R60, R208). -/
def State.counted (s : State) (i : SampleInput) : State := (s.worked i).detectorSample.weighSample.countSample i.pulses

theorem State.takeSample_counted (hst : s.eng.started = true) (hl : s.eng.loading = false) :
    s.takeSample i = (s.counted i).trackerSample true := s.takeSample_started i hst hl

theorem State.counted_kept : (s.counted i).seat = (s.worked i).detectorSample.seat ∧
    (s.counted i).eng.inputs = (s.worked i).detectorSample.eng.inputs ∧
    (s.counted i).gauge.samples = (s.worked i).gauge.samples + 1 ∧
    KeepsAllBut [.eng, .gauge, .weigh] (s.worked i).detectorSample (s.counted i) := by
  refine ⟨by simp [State.counted, State.countSample], by simp [State.counted, State.countSample],
    by simp [State.counted, State.countSample], fun p hp => ?_⟩
  cases p <;> simp_all [Part.same, State.counted, State.countSample]

include hst hl hf

theorem State.takeSample_converts (k : Nat) (hk : k < 9) :
    (s.takeSample i).eng.chans.getD k noChannel = s.channelAfter k ((rawList i.raws).getD k 0) ∧
    (s.takeSample i).faultsOf k = (s.faultsOf k).after k ((rawList i.raws).getD k 0) := by
  obtain ⟨-, hflags, hchans, -⟩ := s.takeSample_sensed i hst hl
  exact ⟨by rw [hchans, s.sensed_chan i hf k hk], by rw [hflags, s.sensed_faultsOf i hf, if_pos hk]⟩

theorem State.takeSample_counts : (s.takeSample i).eng.windowSamples = s.eng.windowSamples + 1 ∧
    (s.takeSample i).eng.pulses = ⟨s.eng.pulses.spdL + i.pulses.spdL, s.eng.pulses.spdR + i.pulses.spdR,
      s.eng.pulses.slpL + i.pulses.slpL, s.eng.pulses.slpR + i.pulses.slpR⟩ ∧
    (s.takeSample i).eng.cals = s.eng.cals ∧ (s.takeSample i).eng.mode = s.eng.mode ∧
    (s.takeSample i).eng.capture = (s.worked i).eng.capture := by
  rw [s.takeSample_eng i hst hl, s.sensed_eng i hf]
  exact ⟨rfl, rfl, rfl, rfl, rfl⟩

theorem State.takeSample_clock : (s.takeSample i).clk = ⟨s.clk.sampleNo + 1, s.clk.ms⟩ ∧ (s.takeSample i).time = s.time ∧
    (s.takeSample i).gauge.samples = s.gauge.samples + 1 := by
  obtain ⟨-, -, hgauge, hkept⟩ := s.counted_kept i
  have hclk : (s.counted i).clk = (s.worked i).detectorSample.clk := hkept .clk (by simp)
  have htime : (s.counted i).time = (s.worked i).detectorSample.time := hkept .time (by simp)
  have hsensed : (s.sensed i).time = s.time := s.sensed_kept i hf .time (by simp)
  rw [s.takeSample_counted i hst hl]
  refine ⟨?_, ?_, ?_⟩
  · simp [hclk, State.worked, s.sensed_clk i hf]
  · simp [htime, State.worked, hsensed]
  · simp [hgauge, (s.worked_kept i hf).2.2]

/-- Every input but a beam that settles at an UNSEATED report or at the start of the tracker is debounced by R5 alone. -/
theorem State.takeSample_input (hn : s.eng.inputs.length = 11) (j : Input)
    (hj : s.seat.seated = false ∧ s.seat.restart = .none ∨ (j ≠ .beamR ∧ j ≠ .beamF)) :
    (s.takeSample i).input j = ⟨s.level j,
      if (levelList i.levels).getD (inputIndex j) false = s.level j then 0 else (s.input j).count + 1⟩ := by
  rw [← s.sensed_input i hf hn j]
  rcases hj with ⟨hseat, hrestart⟩ | ⟨h1, h2⟩
  · obtain ⟨hws, -, -⟩ := s.worked_kept i hf
    obtain ⟨-, -, hr, hdetect⟩ := (s.worked i).detectorSample_unseated (by rw [hws]; exact hseat)
    obtain ⟨hcs, hci, -, -⟩ := s.counted_kept i
    have hde : (s.worked i).detectorSample.eng = (s.worked i).eng := hdetect .eng (by simp)
    rw [s.takeSample_counted i hst hl, State.trackerSample_none _ true (by rw [hcs, hr, hws]; exact hrestart), State.input, hci, hde,
      (s.worked_engine i).2, State.input]
  · exact (s.takeSample_sensed i hst hl).2.2.2.2.2.2 j h1 h2

/-- A tracker that is to start opens its record at the sample (R27, R31). -/
theorem State.takeSample_tracks (hn : s.eng.inputs.length = 11) (hs : s.seat.seated = false) (hr : s.seat.restart ≠ .none) :
    (s.takeSample i).seat.active = true ∧ (s.takeSample i).seat.exitWindow = none ∧ (s.takeSample i).seat.restart = .none ∧
    (s.takeSample i).seat.record = (if (s.takeSample i).level .beamR = (s.takeSample i).level .beamF then .empty
      else if (s.takeSample i).level .beamR then .rearOpen false false else .frontOpen false) := by
  obtain ⟨hws, -, -⟩ := s.worked_kept i hf
  obtain ⟨-, hseated, hrestart, hdetect⟩ := (s.worked i).detectorSample_unseated (by rw [hws]; exact hs)
  obtain ⟨hcs, hci, -, -⟩ := s.counted_kept i
  have hde : (s.worked i).detectorSample.eng = (s.worked i).eng := hdetect .eng (by simp)
  rw [s.takeSample_counted i hst hl, State.trackerSample_starts _ (by rw [hcs]; exact hseated)
    (by rw [hcs, hrestart, hws]; exact hr)]
  refine State.beginTracker_seat _ ?_
  rw [hci, hde, (s.worked_engine i).2, s.sensed_eng i hf]
  simp [hn]
  rfl

/-- The qualifying count after a sample at which no axle is seated (R25). -/
theorem State.takeSample_qualifies (hn : s.eng.inputs.length = 11) (hs : s.seat.seated = false) :
    (s.takeSample i).seat.qualify = if 150 ≤ (s.takeSample i).filtered 2 ∧ 150 ≤ (s.takeSample i).filtered 3 ∧
      (s.takeSample i).levelNow .beamR = false ∧ (s.takeSample i).levelNow .beamF = false then s.seat.qualify + 1 else 0 := by
  obtain ⟨hws, -, -⟩ := s.worked_kept i hf
  obtain ⟨hq, -, -, hdetect⟩ := (s.worked i).detectorSample_unseated (by rw [hws]; exact hs)
  obtain ⟨hcs, hci, -, -⟩ := s.counted_kept i
  have hde : (s.worked i).detectorSample.eng = (s.worked i).eng := hdetect .eng (by simp)
  have hfiltered (k : Nat) : (s.takeSample i).filtered k = (s.worked i).filtered k :=
    ((s.takeSample_sensed i hst hl).1 k).trans ((s.worked_engine i).1.filtered k).symm
  have hlen : (s.counted i).eng.inputs.length = 11 := by
    rw [hci, hde, (s.worked_engine i).2, s.sensed_eng i hf]
    simp [hn]
    rfl
  have hlevel (j : Input) (hj : j = .beamR ∨ j = .beamF) : (s.takeSample i).levelNow j = (s.worked i).levelNow j := by
    rw [s.takeSample_counted i hst hl, State.trackerSample_levelNow _ true hlen j hj]
    exact State.levelNow_of_inputs (by rw [hci, hde]) j
  rw [hfiltered, hfiltered, hlevel .beamR (.inl rfl), hlevel .beamF (.inr rfl), s.takeSample_counted i hst hl,
    ((s.counted i).trackerSample_seat true).1, hcs, hq, hws]
  rfl

/-- A sample that leaves the weighing's axle seated, or finds none: the weighing takes it (R60). -/
theorem State.takeSample_weighs (w : Weighing) (hw : s.weigh = some w)
    (hheld : s.seat.seated = true → 100 ≤ (s.takeSample i).filtered 2 ∧ 100 ≤ (s.takeSample i).filtered 3) :
    (s.takeSample i).weigh = some (w.after ((s.takeSample i).filtered 2) ((s.takeSample i).filtered 3)
      ((s.takeSample i).faultsOf 2).overRange ((s.takeSample i).faultsOf 3).overRange) := by
  obtain ⟨hfil, hflags, -⟩ := s.takeSample_sensed i hst hl
  have hfiltered (k : Nat) : (s.takeSample i).filtered k = (s.worked i).filtered k :=
    (hfil k).trans ((s.worked_engine i).1.filtered k).symm
  have hfaults (k : Nat) : (s.takeSample i).faultsOf k = (s.worked i).faultsOf k :=
    (hflags k).trans ((s.worked_engine i).1.faultsOf k).symm
  obtain ⟨hws, hww, -⟩ := s.worked_kept i hf
  have hdetect := (s.worked i).detectorSample_held (by rw [hws, ← hfiltered, ← hfiltered]; exact hheld)
  have hde : (s.worked i).detectorSample.eng = (s.worked i).eng := hdetect .eng (by simp)
  have hdw : (s.worked i).detectorSample.weigh = some w := (hdetect .weigh (by simp)).trans (hww.trans hw)
  rw [hfiltered, hfiltered, hfaults, hfaults, s.takeSample_counted i hst hl]
  have hweigh : ((s.counted i).trackerSample true).weigh = (s.worked i).detectorSample.weighSample.weigh := by
    simp [State.counted, State.countSample]
  rw [hweigh, State.weighSample, hdw]
  simp [State.filtered, State.faultsOf, hde]

end

/-- A weighing after a sample, spelled out (R60). -/
theorem Weighing.after_eq (w : Weighing) (l r : Int) (a b : Bool) : w.after l r a b =
    if w.count < 200 then { w with count := w.count + 1 }
    else if w.gathering then { w with
      count := w.count + 1, left := ⟨w.left.sum + l, max w.left.greatest l, min w.left.least l, w.left.overRange || a⟩
      right := ⟨w.right.sum + r, max w.right.greatest r, min w.right.least r, w.right.overRange || b⟩ }
    else { w with count := w.count + 1, gathering := true, left := ⟨l, l, l, a⟩, right := ⟨r, r, r, b⟩ } := by
  simp only [Weighing.after, weighSamples, Nat.succ_le_iff]
  rfl

end Sys2Proof.Machine

/-! PROOFS. The UNSEATED report of an axle that no run stands on (R26, R29, R30, R38, R63, R133, R139). -/

namespace Sys2Proof.Machine

set_option Elab.async false

/-! ## The report, up to the exit decision (R26, R30) -/

/-- The state in which the drive takes an UNSEATED report: the axle off, its entry made, the weighing abandoned (R26, R30, R63). -/
def State.offRollers (s : State) : State :=
  ((s.setSeat { s.seat with seated := false, lastBeam := none, qualify := 0 }).loadEntry evUnseated).setWeigh none

/-- The entry of an UNSEATED report (R30). -/
def unseatedEntry (s : State) : JournalEntry := ⟨evUnseated, s.planAxleNumber, signedWord (s.filtered 2), signedWord (s.filtered 3)⟩

theorem State.offRollers_kept (s : State) : KeepsAllBut [.mem, .jr, .att, .seat, .weigh] s s.offRollers := fun p hp => by
  cases p <;> simp_all [Part.same, State.offRollers]

theorem State.offRollers_seat (s : State) : s.offRollers.seat = { s.seat with seated := false, lastBeam := none, qualify := 0 } := by
  simp [State.offRollers]

theorem Logged.offRollers {σ s : State} {l : List JournalEntry} (h : Logged σ s l) : Logged σ s.offRollers (l ++ [unseatedEntry s]) :=
  ((h.same (t := s.setSeat { s.seat with seated := false, lastBeam := none, qualify := 0 }) rfl rfl rfl).produceHere evUnseated
    (signedWord (s.filtered 2)) (signedWord (s.filtered 3))).same rfl rfl rfl

/-- The state in which the exit is decided: the drive and the sequencer have taken the report (R136, R139). -/
def State.reportTaken (s : State) : State :=
  frameAfter (s.offRollers.stopEvent .unseat) (s.offRollers.stopEvent .unseat).seqUnseated

theorem State.unseat_eq (s : State) (hr : s.settles .beamR = false) (hf : s.settles .beamF = false) :
    s.unseat = s.reportTaken.decideExit s.seat.lastBeam := by
  have hlast : s.lastBeamChanges = s := by simp [State.lastBeamChanges, hr, hf]
  rw [State.unseat, hlast]
  rfl

theorem State.seqUnseated_drv (s : State) (h : s.seat.seated = false) : s.seqUnseated.drv = s.drv := by
  have leaves (u : State) (hu : u.seat.seated = false) : u.leaveSpindown.drv = u.drv := by
    unfold State.leaveSpindown
    split
    · simp [hu]
    · rfl
  unfold State.seqUnseated
  split
  · simp
  · simp
  · split
    · rfl
    · split <;> rw [leaves] <;> simp [State.idleUnit, h]
  all_goals rfl

theorem State.reportTaken_kept (s : State) : s.reportTaken.seat = s.offRollers.seat ∧ s.reportTaken.weigh = none ∧
    s.reportTaken.eng = s.eng ∧ s.reportTaken.drv = (s.offRollers.stopEvent .unseat).drv := by
  have hseat : (s.offRollers.stopEvent .unseat).seat.seated = false := by simp [State.offRollers_seat]
  have hdrv := State.seqUnseated_drv (s.offRollers.stopEvent .unseat) hseat
  refine ⟨by simp [State.reportTaken], ?_, ?_, by simp [State.reportTaken, hdrv]⟩
  · simp [State.reportTaken]
    rfl
  · have heng : s.offRollers.eng = s.eng := s.offRollers_kept .eng (by simp)
    simp [State.reportTaken, heng]

/-! ## The exit decision (R29) -/

theorem State.decideExit_seat (s : State) (last : Option Beam) : (s.decideExit last).seat = match last with
    | none => { s.seat with exitWindow := some 0 }
    | some .front => { s.seat with
        exitWindow := none, active := true, record := if s.levelNow .beamR then .rearOpen false false else .empty, restart := .none }
    | some .rear => { s.seat with
        exitWindow := none, active := true, record := if s.levelNow .beamF then .frontOpen false else .empty, restart := .none } := by
  cases last with
  | none => rfl
  | some b =>
    cases b with
    | front => simp [State.decideExit, State.reportExit_eq, State.exitReported_seat, State.openRecord_front]
    | rear => simp [State.decideExit, State.reportExit_eq, State.exitReported_seat, State.openRecord_rear]

/-- An exit that the sequencer does not wait for leaves its state (R139). -/
theorem State.decideExit_held (s : State) (last : Option Beam) (h : s.seq.state ≠ .exitWait) :
    (s.decideExit last).seq.state = s.seq.state := by
  have held (e : ExitReport) (r f : Bool) : (s.reportExit e r f).seq.state = s.seq.state := by
    rw [State.reportExit_held s e r f h]
    simp only [State.setSeq_seq]
    split <;> rfl
  cases last with
  | none => rfl
  | some b => cases b <;> exact held _ _ _

/-- Without a plan a decided exit makes its one entry (R29, R30). -/
theorem Logged.decideExit {σ s : State} {l : List JournalEntry} (h : Logged σ s l) (last : Option Beam)
    (hp : isPlanState s.seq.state = false) : ∃ tail : List JournalEntry, tail.length = (if last = none then 0 else 1) ∧
      Logged σ (s.decideExit last) (l ++ tail) := by
  have hne : s.seq.state ≠ .exitWait := fun he => by simp [he, isPlanState] at hp
  have reported (e : ExitReport) (r f : Bool) : ∃ tail : List JournalEntry, tail.length = 1 ∧
      Logged σ (s.reportExit e r f) (l ++ tail) := by
    rw [State.reportExit_held s e r f hne]
    exact ⟨_, rfl, ((h.same (t := s.startTracker r f)).produceHere (exitCode e) (word s.seat.sinceUnseated) 0).same rfl rfl rfl⟩
  cases last with
  | none => exact ⟨[], rfl, by simpa using h.same (t := s.decideExit none) rfl rfl rfl⟩
  | some b => cases b <;> exact reported _ _ _

/-! ## The drive and the sequencer at the report (R38, R133, R136, R139) -/

section
variable (s : State) (hspin : isSpinning s.drv.state = false)
include hspin

theorem State.reportTaken_resting : s.reportTaken = frameAfter s.offRollers s.offRollers.seqUnseated := by
  have hdrv : s.offRollers.drv = s.drv := s.offRollers_kept .drv (by simp)
  have hstop : s.offRollers.stopEvent .unseat = s.offRollers := by
    rw [State.stopEvent, State.stopDrive, if_neg (by simp [hdrv, hspin]), frameAfter_of_seq rfl]
  rw [State.reportTaken, hstop]

theorem State.reportTaken_leaves (hq : s.seq.state = .weigh ∨ s.seq.state = .review) (hh : s.seq.heldExit = .none) :
    s.reportTaken.seq.state = .exitWait ∧ s.reportTaken.tab = s.tab := by
  have hseq : s.offRollers.seq = s.seq := s.offRollers_kept .seq (by simp)
  have htab : s.offRollers.tab = s.tab := s.offRollers_kept .tab (by simp)
  have htake : s.offRollers.seqUnseated = s.offRollers.enterSeq .exitWait := by
    rw [← State.enterExitWait_of_none s.offRollers (.inr (by rw [hseq, hh]))]
    rcases hq with hq | hq <;> simp [State.seqUnseated, hseq, hq]
  rw [s.reportTaken_resting hspin, htake]
  simp [htab]

theorem Logged.reportTaken {σ : State} {l : List JournalEntry} (h : Logged σ s l) (hp : isPlanState s.seq.state = false) :
    Logged σ s.reportTaken (l ++ [unseatedEntry s]) ∧ s.reportTaken.seq = s.seq := by
  have hseq : s.offRollers.seq = s.seq := s.offRollers_kept .seq (by simp)
  have htake : s.offRollers.seqUnseated = s.offRollers := by
    unfold State.seqUnseated
    rw [hseq]
    split
    next hq => simp [hq, isPlanState] at hp
    next hq => simp [hq, isPlanState] at hp
    next hq => simp [hq, isPlanState] at hp
    all_goals rfl
  rw [s.reportTaken_resting hspin, htake, frameAfter_of_seq rfl]
  exact ⟨h.offRollers, hseq⟩

end

/-- The sequencer's spin of an axle whose runs have not begun ends in SPINDOWN (R136). -/
theorem State.reportTaken_spindown (s : State) (hspin : isSpinning s.drv.state = true) (hrun : s.run.phase = .idle)
    (ho : s.drv.owner = some .sequencer) (hq : s.seq.state = .spinup) : s.reportTaken.seq.state = .spindown := by
  have hdrv : s.offRollers.drv = s.drv := s.offRollers_kept .drv (by simp)
  have hseq : s.offRollers.seq = s.seq := s.offRollers_kept .seq (by simp)
  have hr : s.offRollers.run = s.run := s.offRollers_kept .run (by simp)
  set r := s.offRollers.stopCause .unseat with hcause
  have hstop : (s.offRollers.stopEvent .unseat).seq.state = .spindown := by
    rw [State.stopEvent, State.stopDrive_eq _ _ (by rw [hdrv]; exact hspin), State.runStop_idle _ _ (by simp [hr, hrun])]
    simp [State.ownerStop, State.enterStopping_drv, hdrv, ho, State.takeDriveStop, hseq, hq]
  have htake : (s.offRollers.stopEvent .unseat).seqUnseated = s.offRollers.stopEvent .unseat := by
    unfold State.seqUnseated
    rw [hstop]
  rw [State.reportTaken, htake, frameAfter_of_seq rfl]
  exact hstop

end Sys2Proof.Machine

/-! PROOFS. The three statements on an analog sample: conversion and debouncing, the UNSEATED report, and the rest of its work. -/

namespace Sys2Proof.Machine

set_option Elab.async false

/-! ## Conversion and debouncing -/

theorem sample_converts (i : SampleInput) (s : State) (hst : s.eng.started = true) (hl : s.eng.loading = false)
    (hn : s.eng.inputs.length = 11) (hf : s.eng.faults.length = 11) :
    let t := publish s (s.takeSample i)
    t.clk = ⟨s.clk.sampleNo + 1, s.clk.ms⟩ ∧ t.time = s.time ∧ t.eng.cals = s.eng.cals ∧ t.eng.mode = s.eng.mode ∧
    (∀ k, k < 9 → t.eng.chans.getD k noChannel = s.channelAfter k ((rawList i.raws).getD k 0) ∧
      t.faultsOf k = (s.faultsOf k).after k ((rawList i.raws).getD k 0)) ∧
    t.eng.windowSamples = s.eng.windowSamples + 1 ∧
    t.eng.pulses = ⟨s.eng.pulses.spdL + i.pulses.spdL, s.eng.pulses.spdR + i.pulses.spdR,
      s.eng.pulses.slpL + i.pulses.slpL, s.eng.pulses.slpR + i.pulses.slpR⟩ ∧
    t.gauge.samples = s.gauge.samples + 1 ∧
    (∀ j, s.seat.seated = false ∧ s.seat.restart = .none ∨ (j ≠ .beamR ∧ j ≠ .beamF) → t.input j = ⟨s.level j,
      if (levelList i.levels).getD (inputIndex j) false = s.level j then 0 else (s.input j).count + 1⟩) ∧
    (s.seat.seated = false → s.seat.restart ≠ .none →
      t.seat.active = true ∧ t.seat.exitWindow = none ∧ t.seat.restart = .none ∧
      t.seat.record = (if t.level .beamR = t.level .beamF then .empty
        else if t.level .beamR then .rearOpen false false else .frontOpen false)) := by
  obtain ⟨hclk, htime, hgauge⟩ := s.takeSample_clock i hst hl hf
  obtain ⟨hwindow, hpulses, hcals, hmode, -⟩ := s.takeSample_counts i hst hl hf
  exact ⟨hclk, htime, hcals, hmode, s.takeSample_converts i hst hl hf, hwindow, hpulses, hgauge,
    s.takeSample_input i hst hl hf hn, s.takeSample_tracks i hst hl hf hn⟩

/-! ## The UNSEATED report -/

/-- Without a capture and with an idle run unit the detector takes the sample as the conversion left it (R20, R72). -/
theorem State.worked_idle (s : State) (i : SampleInput) (hf : s.eng.faults.length = 11) (hc : s.eng.capture = none)
    (hr : s.run.phase = .idle) : s.worked i = s.sensed i := by
  have hrun : (s.sensed i).run = s.run := s.sensed_kept i hf .run (by simp)
  have hcapture : (s.sensed i).eng.capture = none := by rw [s.sensed_eng i hf]; exact hc
  have hidle : (s.sensed i).runSample = s.sensed i := by
    simp [State.runSample, State.watch, State.phaseSample, hrun, hr, inAttemptPart]
  rw [State.worked, hidle, State.captureSample, hcapture]

/-- An input whose raw level is the debounced one, or has differed for fewer than four samples, does not settle at a sample (R5). -/
theorem State.sensed_unsettled (s : State) (i : SampleInput) (hf : s.eng.faults.length = 11) (hn : s.eng.inputs.length = 11) (j : Input)
    (h : (levelList i.levels).getD (inputIndex j) false = s.level j ∨ (s.input j).count < 4) : (s.sensed i).settles j = false := by
  rw [State.settles, s.sensed_input i hf hn j]
  split
  · rfl
  next hne =>
    have hc : (s.input j).count < 4 := h.resolve_left hne
    simp only [decide_eq_false_iff_not]
    omega

theorem Stopped.congr {s s' t t' : State} {r : StopReason} (h : Stopped s t r) (hs : s'.drv = s.drv) (ht : t'.drv = t.drv) :
    Stopped s' t' r := by
  unfold Stopped at *
  rw [hs, ht, h]

/-- No beam settles, and no cause of a stop that is stronger than an UNSEATED report (R38). -/
def State.calm (s : State) : Prop :=
  ∀ j, j = .beamR ∨ j = .beamF ∨ j = .estop ∨ j = .presence ∨ j = .key → s.settles j = false

section
variable {v : State} (hcalm : v.calm)
include hcalm

theorem State.unseat_calm : v.unseat = v.reportTaken.decideExit v.seat.lastBeam :=
  v.unseat_eq (hcalm .beamR (by simp)) (hcalm .beamF (by simp))

/-- The seating after an UNSEATED report, by the last beam seen (R26, R29). -/
theorem State.unseat_seat (hre : v.seat.restart = .none) : v.unseat.seat.restart = .none ∧
    (v.seat.lastBeam = none → v.unseat.seat = { v.seat with seated := false, qualify := 0, exitWindow := some 0 }) ∧
    (v.seat.lastBeam = some .front → v.unseat.seat = { v.seat with
      seated := false, qualify := 0, lastBeam := none, exitWindow := none, active := true
      record := if v.level .beamR then .rearOpen false false else .empty }) ∧
    (v.seat.lastBeam = some .rear → v.unseat.seat = { v.seat with
      seated := false, qualify := 0, lastBeam := none, exitWindow := none, active := true
      record := if v.level .beamF then .frontOpen false else .empty }) := by
  obtain ⟨rseat, -, reng, -⟩ := v.reportTaken_kept
  rw [v.offRollers_seat] at rseat
  have rlevel (j : Input) (hj : v.settles j = false) : v.reportTaken.levelNow j = v.level j := by
    rw [State.levelNow_of_inputs (s := v) (by rw [reng]), State.levelNow, if_neg (by simp [hj])]
  have hr := rlevel .beamR (hcalm _ (by simp))
  have hf := rlevel .beamF (hcalm _ (by simp))
  rw [State.unseat_calm hcalm, State.decideExit_seat, rseat, hr, hf]
  refine ⟨?_, fun hb => ?_, fun hb => ?_, fun hb => ?_⟩
  · split
    · exact hre
    · rfl
    · rfl
  · simp only [hb]
  · simp only [hb, hre]
  · simp only [hb, hre]

theorem State.unseat_drv : v.unseat.drv = (v.offRollers.stopEvent .unseat).drv ∧ v.unseat.weigh = none := by
  obtain ⟨-, hweigh, -, hdrv⟩ := v.reportTaken_kept
  rw [State.unseat_calm hcalm]
  exact ⟨by simpa using hdrv, by simpa using hweigh⟩

/-- The spin that the report stops (R38, R136). -/
theorem State.unseat_stops (hspin : isSpinning v.drv.state = true) : Stopped v v.unseat .unseat := by
  have odrv : v.offRollers.drv = v.drv := v.offRollers_kept .drv (by simp)
  have oeng : v.offRollers.eng = v.eng := v.offRollers_kept .eng (by simp)
  have off (j : Input) (hj : v.settles j = false) : v.offRollers.settlesOn j = false := by
    have hset : v.offRollers.settles j = v.settles j := by rw [State.settles, State.input, oeng, State.settles, State.input]
    rw [State.settlesOn, hset, hj]
    rfl
  have hcause : v.offRollers.stopCause .unseat = .unseat := by
    rw [State.stopCause_sampled _ _ (.inl rfl), off .estop (hcalm _ (by simp)), off .presence (hcalm _ (by simp)),
      off .key (hcalm _ (by simp))]
    simp
  have hstop := stopEvent_stopped v.offRollers .unseat (by rw [odrv]; exact hspin)
  rw [hcause] at hstop
  exact hstop.congr odrv.symm (State.unseat_drv hcalm).1

theorem State.unseat_spindown (hspin : isSpinning v.drv.state = true) (hrun : v.run.phase = .idle)
    (ho : v.drv.owner = some .sequencer) (hq : v.seq.state = .spinup) : v.unseat.seq.state = .spindown := by
  have hdown := v.reportTaken_spindown hspin hrun ho hq
  rw [State.unseat_calm hcalm, State.decideExit_held _ _ (by rw [hdown]; simp), hdown]

theorem State.unseat_resting (hspin : isSpinning v.drv.state = false) : v.unseat.drv = v.drv := by
  have odrv : v.offRollers.drv = v.drv := v.offRollers_kept .drv (by simp)
  have hstop : v.offRollers.stopEvent .unseat = v.offRollers := by
    rw [State.stopEvent, State.stopDrive, if_neg (by simp [odrv, hspin]), frameAfter_of_seq rfl]
  rw [(State.unseat_drv hcalm).1, hstop, odrv]

theorem State.unseat_leaves (hspin : isSpinning v.drv.state = false) (hq : v.seq.state = .weigh ∨ v.seq.state = .review)
    (hb : v.seat.lastBeam = none) (hh : v.seq.heldExit = .none) : v.unseat.seq.state = .exitWait ∧ v.unseat.tab = v.tab := by
  rw [State.unseat_calm hcalm, hb]
  exact v.reportTaken_leaves hspin hq hh

theorem Logged.unseat {σ : State} {l : List JournalEntry} (h : Logged σ v l) (hspin : isSpinning v.drv.state = false)
    (hp : isPlanState v.seq.state = false) : ∃ tail : List JournalEntry,
      tail.length = (if v.seat.lastBeam = none then 0 else 1) ∧ Logged σ v.unseat (l ++ unseatedEntry v :: tail) := by
  obtain ⟨taken, rseq⟩ := Logged.reportTaken v hspin h hp
  obtain ⟨tail, htail, made⟩ := taken.decideExit v.seat.lastBeam (by rw [rseq]; exact hp)
  rw [List.append_assoc, ← State.unseat_calm hcalm] at made
  exact ⟨tail, htail, made⟩

end

/-- The detector of an axle that is seated, with no tracker and no window open (R26, R27, R29). -/
theorem State.detectorSample_seated (v : State) (hs : v.seat.seated = true) (ha : v.seat.active = false) (hx : v.seat.exitWindow = none) :
    v.detectorSample = if v.filtered 2 < 100 ∨ v.filtered 3 < 100 then v.unseat else v := by
  have hsame : v.trackLoad = v := by simp [State.trackLoad, ha]
  have hload : v.trackLoad.setSeat { v.trackLoad.seat with exitWindow := v.trackLoad.seat.exitWindow.map (· + 1) } = v := by
    rw [hsame, hx]
    simp only [Option.map_none]
    rw [show ({ v.seat with exitWindow := none } : Seating) = v.seat by rw [← hx]]
    rfl
  simp only [State.detectorSample, hload, hs, if_true, Bool.or_eq_true, decide_eq_true_eq]
  rfl

/-- What stands behind the detector stands behind the sample, where no tracker is to start (R60, R208). -/
theorem State.takeSample_detected (s u : State) (i : SampleInput) (hst : s.eng.started = true) (hl : s.eng.loading = false)
    (hu : (s.worked i).detectorSample = u) (hrestart : u.seat.restart = .none) :
    (s.takeSample i).seat = u.seat ∧ (s.takeSample i).drv = u.drv ∧ (s.takeSample i).seq = u.seq ∧ (s.takeSample i).tab = u.tab ∧
    (u.weigh = none → (s.takeSample i).weigh = none) ∧ ∀ l, Logged s u l → Logged s (publish s (s.takeSample i)) l := by
  have ht : s.takeSample i = u.weighSample.countSample i.pulses := by
    rw [s.takeSample_started i hst hl, hu, State.trackerSample_none _ true (by simpa [State.countSample] using hrestart)]
  rw [ht]
  refine ⟨by simp [State.countSample], by simp [State.countSample], by simp [State.countSample], by simp [State.countSample],
    fun hnone => by simp [State.countSample, State.weighSample, hnone], fun l hlog => ?_⟩
  exact (hlog.same (t := u.weighSample.countSample i.pulses) (by simp [State.countSample]) (by simp [State.countSample])
    (by simp [State.countSample])).publish s

theorem sample_unseats (i : SampleInput) (s : State) (hst : s.eng.started = true) (hl : s.eng.loading = false)
    (hn : s.eng.inputs.length = 11) (hf : s.eng.faults.length = 11) (hs : s.seat.seated = true) (ha : s.seat.active = false)
    (hre : s.seat.restart = .none) (hx : s.seat.exitWindow = none) (hcap : s.eng.capture = none) (hrun : s.run.phase = .idle)
    (hw : Memory.wf s.mem) (hquiet : ∀ i', i' = .beamR ∨ i' = .beamF ∨ i' = .estop ∨ i' = .presence ∨ i' = .key →
      (levelList i.levels).getD (inputIndex i') false = s.level i' ∨ (s.input i').count < 4) :
    let t := publish s (s.takeSample i)
    (100 ≤ t.filtered 2 → 100 ≤ t.filtered 3 → t.seat = s.seat ∧ t.drv = s.drv ∧ t.seq = s.seq) ∧
    (t.filtered 2 < 100 ∨ t.filtered 3 < 100 →
      t.weigh = none ∧
      (s.seat.lastBeam = none → t.seat = { s.seat with seated := false, qualify := 0, exitWindow := some 0 }) ∧
      (s.seat.lastBeam = some .front → t.seat = { s.seat with
        seated := false, qualify := 0, lastBeam := none, exitWindow := none, active := true
        record := if s.level .beamR then .rearOpen false false else .empty }) ∧
      (s.seat.lastBeam = some .rear → t.seat = { s.seat with
        seated := false, qualify := 0, lastBeam := none, exitWindow := none, active := true
        record := if s.level .beamF then .frontOpen false else .empty }) ∧
      (isSpinning s.drv.state = true → Stopped s t .unseat ∧
        (s.drv.owner = some .sequencer → s.seq.state = .spinup → t.seq.state = .spindown)) ∧
      (isSpinning s.drv.state = false → s.seq.state ≠ .spinup → t.drv = s.drv) ∧
      (s.seq.state = .weigh ∨ s.seq.state = .review → isSpinning s.drv.state = false → s.seat.lastBeam = none →
        s.seq.heldExit = .none → t.seq.state = .exitWait ∧ t.tab = s.tab) ∧
      (t.eng.faults = s.eng.faults → isPlanState s.seq.state = false → isSpinning s.drv.state = false →
        (s.jr.blocks = false → Memory.readWords t.mem (entryBase s.jr.put.toNat) 8
          = entryWords (lowWord (s.jr.produced + 1)) evUnseated s.planAxleNumber s.jr.gap s.time
            (signedWord (t.filtered 2)) (signedWord (t.filtered 3))) ∧
        t.jr.produced = s.jr.produced + if s.seat.lastBeam = none then 1 else 2)) := by
  intro t
  have hcalm : (s.sensed i).calm := fun j hj => s.sensed_unsettled i hf hn j (hquiet j hj)
  have tfil (k : Nat) : t.filtered k = (s.sensed i).filtered k := (s.takeSample_sensed i hst hl).1 k
  have kept := s.sensed_kept i hf
  have level (j : Input) : (s.sensed i).level j = s.level j := by rw [State.level, s.sensed_input i hf hn j]
  have hdetect (u : State) (hu : (s.sensed i).detectorSample = u) (hr : u.seat.restart = .none) :
      t.seat = u.seat ∧ t.drv = u.drv ∧ t.seq = u.seq ∧ t.tab = u.tab ∧ (u.weigh = none → t.weigh = none) ∧
        ∀ l, Logged s u l → Logged s t l :=
    s.takeSample_detected u i hst hl (by rw [s.worked_idle i hf hcap hrun, hu]) hr
  have hquietLog : t.eng.faults = s.eng.faults → Logged s (s.sensed i) [] := fun hfaults => by
    have hlog := s.sensed_logged i hf (Logged.refl s)
    rwa [s.sampled_quiet i hst hl hf hfaults] at hlog
  rw [tfil, tfil]
  have vseat : (s.sensed i).seat = s.seat := kept .seat (by simp)
  have vdrv : (s.sensed i).drv = s.drv := kept .drv (by simp)
  have vseq : (s.sensed i).seq = s.seq := kept .seq (by simp)
  have vtab : (s.sensed i).tab = s.tab := kept .tab (by simp)
  have vrun : (s.sensed i).run = s.run := kept .run (by simp)
  have vslots : (s.sensed i).slots = s.slots := kept .slots (by simp)
  clear_value t
  generalize s.sensed i = v at *
  rw [← vseat] at hs ha hx hre
  have hseated := v.detectorSample_seated hs ha hx
  refine ⟨fun h2 h3 => ?held, fun hload => ?unseated⟩
  case held =>
    obtain ⟨hseat, hdrv, hseq, -⟩ := hdetect v (by rw [hseated, if_neg (by omega)]) hre
    exact ⟨hseat.trans vseat, hdrv.trans vdrv, hseq.trans vseq⟩
  case unseated =>
    obtain ⟨hrestart, hopen, hfront, hrear⟩ := State.unseat_seat hcalm hre
    obtain ⟨hseat, hdrv, hseq, htab, hweigh, hlog⟩ := hdetect v.unseat (by rw [hseated, if_pos hload]) hrestart
    rw [vseat] at hopen
    rw [vseat, level] at hfront hrear
    refine ⟨hweigh (State.unseat_drv hcalm).2, fun hb => hseat.trans (hopen hb), fun hb => hseat.trans (hfront hb),
      fun hb => hseat.trans (hrear hb), fun hspin => ?_, fun hspin _ => ?_, fun hq hspin hb hh => ?_, fun hfaults hp hspin => ?_⟩
    · rw [← vdrv] at hspin
      refine ⟨(State.unseat_stops hcalm hspin).congr vdrv.symm hdrv, fun ho hq => ?_⟩
      rw [← vdrv] at ho
      rw [← vseq] at hq
      rw [← vrun] at hrun
      rw [hseq, State.unseat_spindown hcalm hspin hrun ho hq]
    · rw [← vdrv] at hspin ⊢
      rw [hdrv, State.unseat_resting hcalm hspin]
    · rw [← vdrv] at hspin
      rw [← vseq] at hq hh
      rw [← vseat] at hb
      rw [hseq, htab, ← vtab]
      exact State.unseat_leaves hcalm hspin hq hb hh
    · rw [← vdrv] at hspin
      rw [← vseq] at hp
      obtain ⟨tail, htail, made⟩ := Logged.unseat hcalm (hquietLog hfaults) hspin hp
      have final := hlog _ made
      rw [List.nil_append, unseatedEntry, State.planAxleNumber_congr vslots vtab] at final
      rw [vseat] at htail
      refine ⟨fun hb => final.first (by rw [htail]; split <;> omega) hw hb, ?_⟩
      rw [final.produced, List.length_cons, htail]
      split <;> rfl

/-! ## Qualifying, faults, capture and weighing -/

/-- A capture at a sample: ended by a load, or carried on with the raw values added (R20, R21). -/
theorem State.worked_capture (s : State) (i : SampleInput) (hf : s.eng.faults.length = 11) (c : ZeroCapture)
    (h : s.eng.capture = some c) :
    (150 ≤ (s.sensed i).filtered 2 ∨ 150 ≤ (s.sensed i).filtered 3 → (s.worked i).eng.capture = none ∧
      (Memory.wf s.mem → SlotDone (s.worked i) c.slot .failed .vehiclePresent [])) ∧
    ((s.sensed i).filtered 2 < 150 → (s.sensed i).filtered 3 < 150 → (s.worked i).eng.capture = some { c with
      count := c.count + 1, sums := (c.sums.zip zeroChannels).map (fun x => x.1 + (rawList i.raws).getD x.2 0) }) := by
  have hcapture : (s.sensed i).runSample.eng.capture = some c := by
    rw [show (s.sensed i).runSample.eng = (s.sensed i).eng by simp, s.sensed_eng i hf]
    exact h
  have hloads : (s.sensed i).runSample.loadFrom 150 = true ↔ 150 ≤ (s.sensed i).filtered 2 ∨ 150 ≤ (s.sensed i).filtered 3 := by
    simp [State.loadFrom, State.loadL, State.loadR, State.filtered]
  rw [State.worked, State.captureSample, hcapture]
  refine ⟨fun hl => ?_, fun h2 h3 => ?_⟩
  · simp only [hloads.2 hl, if_true]
    refine ⟨by simp, fun hw => State.complete_done _ _ _ _ _ _ ?_⟩
    obtain ⟨tail, -, made⟩ := (Adds.runSample (s.sensed i)).logged (s.sensed_logged i hf (Logged.refl s))
    exact made.wf hw
  · have hnot : ¬ ((s.sensed i).runSample.loadFrom 150 = true) := fun hl => by
      have := hloads.1 hl
      omega
    simp only [hnot]
    rfl

theorem sample_works (i : SampleInput) (s : State) (hst : s.eng.started = true) (hl : s.eng.loading = false)
    (hn : s.eng.inputs.length = 11) (hf : s.eng.faults.length = 11) (hslots : s.slots.length = 16) (hw : Memory.wf s.mem) :
    let t := publish s (s.takeSample i)
    let raw (k : Nat) : Int := (rawList i.raws).getD k 0
    (s.seat.seated = false → t.seat.qualify = if 150 ≤ t.filtered 2 ∧ 150 ≤ t.filtered 3 ∧ t.levelNow .beamR = false ∧
      t.levelNow .beamF = false then s.seat.qualify + 1 else 0) ∧
    ((∃ k, k < 9 ∧ ∃ m, m < 2 ∧ newFlag (s.faultsOf k) k (raw k) m = true) → t.att.bits.getLsbD 4 = true) ∧
    (s.seat.seated = false → s.eng.capture = none → s.run.phase = .idle → t.jr.produced = s.jr.produced
      + BitVec.ofNat 32 ((List.range 9).map (fun k => (List.range 2).countP (newFlag (s.faultsOf k) k (raw k)))).sum) ∧
    (s.jr.blocks = false → ∀ k, k < 9 → ∀ m, m < 2 →
      (∀ j, j < 9 → ∀ n, n < 2 → (newFlag (s.faultsOf j) j (raw j) n = true ↔ j = k ∧ n = m)) →
      Memory.readWords t.mem (entryBase s.jr.put.toNat) 8
        = entryWords (lowWord (s.jr.produced + 1)) evFaultSet 0 s.jr.gap s.time (word k) (word m)) ∧
    (∀ c, s.eng.capture = some c → 150 ≤ t.filtered 2 ∨ 150 ≤ t.filtered 3 → c.slot < 16 →
      t.eng.capture = none ∧ SlotDone t c.slot .failed .vehiclePresent []) ∧
    (∀ c, s.eng.capture = some c → t.filtered 2 < 150 → t.filtered 3 < 150 → ∀ a b d e f, c.sums = [a, b, d, e, f] →
      t.eng.capture = some ⟨c.slot, c.count + 1, [a + i.raws.tqL.toInt, b + i.raws.tqR.toInt, d + i.raws.ldL.toInt,
        e + i.raws.ldR.toInt, f + i.raws.ss.toInt]⟩) ∧
    (∀ w, s.weigh = some w → (s.seat.seated = true → 100 ≤ t.filtered 2 ∧ 100 ≤ t.filtered 3) →
      t.weigh = some (w.after (t.filtered 2) (t.filtered 3) (t.faultsOf 2).overRange (t.faultsOf 3).overRange)) := by
  intro t raw
  have hentries := State.takeSample_entries (s := s) (i := i) hst hl
  have hlogged := s.sensed_logged i hf (Logged.refl s)
  have tfil (k : Nat) : t.filtered k = (s.sensed i).filtered k := (s.takeSample_sensed i hst hl).1 k
  have tcapture : t.eng.capture = (s.worked i).eng.capture := (s.takeSample_counts i hst hl hf).2.2.2.2
  refine ⟨s.takeSample_qualifies i hst hl hf hn, fun ⟨k, hk, m, hm, hflag⟩ => ?attn, fun hs hc hr => ?produced,
    fun hb k hk m hm h => ?single, fun c hc hload hslot => ?fails, fun c hc h2 h3 a b d e f hsums => ?sums,
    s.takeSample_weighs i hst hl hf⟩
  case attn =>
    refine hentries.attn 4 ((s.sensed_tested i hf).attn (.inr fun hnil => ?_))
    have hmem := mem_faultEntries s.faultsOf i.raws hk hm hflag
    rw [hnil] at hmem
    exact absurd hmem List.not_mem_nil
  case produced =>
    have hwork := s.worked_idle i hf hc hr
    have hseat : (s.sensed i).seat = s.seat := s.sensed_kept i hf .seat (by simp)
    obtain ⟨-, -, -, hdetect⟩ := (s.sensed i).detectorSample_unseated (by rw [hseat]; exact hs)
    have hdetected : Logged s (s.sensed i).detectorSample _ := hlogged.same (hdetect .mem (by simp)) (hdetect .jr (by simp))
      (hdetect .time (by simp))
    have htake : s.takeSample i = (((s.sensed i).detectorSample.weighSample).countSample i.pulses).trackerSample true := by
      rw [s.takeSample_started i hst hl, hwork]
    have final : Logged s t ([] ++ faultEntriesFrom s.faultsOf 0 (rawList i.raws)) := by
      show Logged s (publish s (s.takeSample i)) _
      rw [htake]
      exact (hdetected.same (t := (((s.sensed i).detectorSample.weighSample).countSample i.pulses).trackerSample true)
        (by simp [State.countSample]) (by simp [State.countSample]) (by simp [State.countSample])).publish s
    rw [final.produced, List.nil_append, faultEntries_length]
  case single =>
    obtain ⟨tail, htail, final⟩ := hentries.logged hlogged
    rw [List.nil_append, faultEntries_single s.faultsOf i.raws hk hm h, List.singleton_append, flagEntry] at final
    exact final.first (by omega) hw hb
  case fails =>
    rw [tfil, tfil] at hload
    obtain ⟨hnone, hdone⟩ := (s.worked_capture i hf c hc).1 hload
    exact ⟨tcapture.trans hnone, State.takeSample_slotDone hst hl hf hslots hslot (hdone hw)⟩
  case sums =>
    rw [tfil] at h2 h3
    rw [tcapture, (s.worked_capture i hf c hc).2 h2 h3, hsums]
    rfl

/-- Settles O25: what an analog sample converts, what an axle off the rollers leads to, and the rest of its work. -/
theorem sampleConvertsAndDebounces : Obligations.SampleConvertsAndDebounces := by
  unfold Obligations.SampleConvertsAndDebounces
  refine ⟨fun i s hquiet hst hl hn hf => ⟨_, exec_sample i s hquiet, ?converts⟩,
    fun i s hquiet hst hl hn hf hs ha hre hx hc hr hw hin => ⟨_, exec_sample i s hquiet,
      sample_unseats i s hst hl hn hf hs ha hre hx hc hr hw hin⟩,
    fun i s hquiet hst hl hn hf hslots hw => ⟨_, exec_sample i s hquiet, ?works⟩⟩
  case converts =>
    obtain ⟨h1, h2, h3, h4, hchan, h5⟩ := sample_converts i s hst hl hn hf
    refine ⟨h1, h2, h3, h4, fun k hk => ?_, h5⟩
    obtain ⟨hc, hfl⟩ := hchan k hk
    intro c cal raw v negated scaled cut h
    refine ⟨hc.trans (s.channelAfter_eq k raw), hfl.trans ?_⟩
    rw [FaultFlags.after, atLimit_eq, wireOpen_eq]
  case works =>
    intro l r raw newFlag' side
    obtain ⟨h1, h2, h3, h4, h5, h6, h7⟩ := sample_works i s hst hl hn hf hslots hw
    refine ⟨h1, h2, h3, h4, h5, h6, fun w hweigh hheld => ?_⟩
    rw [h7 w hweigh hheld, Weighing.after_eq]

end Sys2Proof.Machine

/-! PROOFS. The crossings of the side-slip plate (R115 to R121). -/

namespace Sys2Proof.Machine

set_option Elab.async false

/-! ## The words of a side-slip result (R47, R51) -/

theorem recordWords_sideSlip (r : AxleRecord) : ((recordWords r).drop 5).take 2 =
    [signedWord (r.sideSlip.value.getD 0), plateFlagWord r.sideSlip] := by
  have hword (j : Nat) (hj : j < 10) : (recordWords r)[j]? = (fieldWords r)[j]? := by
    rw [recordWords_head r (by omega), recordHead_fields r hj]
  refine List.ext_getElem? fun i => ?_
  rw [List.getElem?_take, List.getElem?_drop]
  match i with
  | 0 => exact hword 5 (by omega)
  | 1 => exact hword 6 (by omega)
  | i + 2 => simp

/-- A side-slip field that was written whole stands in the table area (R47). -/
theorem State.setSideSlip_words (s : State) (k : Nat) (x : SideSlip) (hk : k < s.tab.records.length) (hk8 : k < 8)
    (hw : Memory.wf s.mem) {t : State} (ht : TableKept pastThree (s.setSideSlip k x) t)
    (hr : (t.record k).sideSlip = x) (old : State) :
    Memory.readWords (publish old t).mem (0x0A00 + 256 * k + 10) 2 = [signedWord (x.value.getD 0), plateFlagWord x] := by
  have hrec : ((s.setSideSlip k x).record k).sideSlip = x := by simp [State.record, State.setSideSlip_tab, hk]
  have hpart (i : Nat) (hi : 5 ≤ i) (hi' : i < 5 + 2) :
      (recordWords (t.record k))[i]? = (recordWords ((s.setSideSlip k x).record k))[i]? := by
    obtain ⟨j, rfl⟩ : ∃ j, i = 5 + j := ⟨i - 5, by omega⟩
    have h1 := congrArg (·[j]?) (recordWords_sideSlip (t.record k))
    have h2 := congrArg (·[j]?) (recordWords_sideSlip ((s.setSideSlip k x).record k))
    rw [hr] at h1
    rw [hrec] at h2
    have h := h1.trans h2.symm
    simpa only [List.getElem?_take, List.getElem?_drop, if_pos (show j < 2 by omega)] using h
  have hshown (i : Nat) (hi : 5 ≤ i) (hi' : i < 5 + 2) : FieldShown (publish old t) k i := by
    refine (FieldShown.kept (σ := s.setSideSlip k x) ?_ ht hk8 (by omega) (hpart i hi hi')).publish ht.wf hk8 (by omega) old
    exact State.rewriteFields_shown _ _ _ _ (State.rewriteFields_wf (s.setRecord k { s.record k with sideSlip := x }) k 1 1 hw) hk8
      (by omega) ⟨hi, hi'⟩
  rw [show 0x0A00 + 256 * k + 10 = recordAddr k 5 from rfl, FieldShown.readWords hshown, recordWords_sideSlip,
    State.record_congr (s := t) (by simp), hr]

/-! ## Two plate switches at a sample (R115) -/

theorem exec_plateSettles (s : State) (i : Input) (hi : i = .plateIn ∨ i = .plateOut) (h : s.settlesOn i = true) :
    exec (.settledChange i) s = .next (publish s (s.plateSettles i)) := by
  rw [exec_settledChange s i (State.settles_of_settlesOn h)]
  rcases hi with rfl | rfl <;> rfl

/-- The state with other debounced inputs (R5). -/
def State.withInputs (s : State) (l : List DiscreteInput) : State := s.setEng { s.eng with inputs := l }

theorem State.withInputs_kept (s : State) (l : List DiscreteInput) : KeepsAllBut [.eng] s (s.withInputs l) := fun p hp => by
  cases p <;> simp_all [Part.same, State.withInputs]

/-- The switches of a sample that have settled to ACTIVE are taken with the levels of the sample (R5, R115). -/
theorem State.plateSettles_eq (s : State) (i : Input) (hi : i = .plateIn ∨ i = .plateOut) (h : s.settlesOn i = true) :
    ∃ l, s.plateSettles i = (s.withInputs l).plateChange (s.settlesOn .plateIn) (s.settlesOn .plateOut) := by
  by_cases hb : s.settlesOn .plateIn = true ∧ s.settlesOn .plateOut = true
  · refine ⟨(s.eng.inputs.set (inputIndex .plateIn) ⟨!s.level .plateIn, 0⟩).set (inputIndex .plateOut)
      ⟨!(s.settleLevel .plateIn).level .plateOut, 0⟩, ?_⟩
    rw [State.plateSettles, if_pos (by simp [hb.1, hb.2]), hb.1, hb.2]
    rfl
  · have hne : (s.settlesOn .plateIn && s.settlesOn .plateOut) = false := by
      cases h1 : s.settlesOn .plateIn <;> cases h2 : s.settlesOn .plateOut <;> simp_all
    refine ⟨s.eng.inputs.set (inputIndex i) ⟨!s.level i, 0⟩, ?_⟩
    rw [State.plateSettles, if_neg (by simp [hne])]
    rcases hi with rfl | rfl
    · have hout : s.settlesOn .plateOut = false := by simpa [h] using hne
      rw [h, hout]
      rfl
    · have hin : s.settlesOn .plateIn = false := by simpa [h] using hne
      rw [h, hin]
      rfl

/-! ## The end of a crossing (R116 to R121) -/

/-- The plate unit after the end of a crossing: idle, or on the follower's crossing (R121). -/
theorem State.afterCrossing_eq (s : State) (c : Crossing) : s.afterCrossing c = s.setPlate (if s.plate.follower
    then ⟨c, if c = .forwardOn then s.filtered 8 else s.plate.d0, false, s.clk.sampleNo, s.plate.length⟩
    else ⟨.idle, s.plate.d0, false, s.plate.ref, s.plate.length⟩) := by
  unfold State.afterCrossing
  split <;> rfl

/-- The state with a forward crossing judged (R116 to R118, R120). -/
def State.forwardJudged (s : State) : State :=
  if s.tab.plateCount < s.tab.axleCount then
    match s.plate.length with
    | some l => ((s.setSideSlip s.tab.plateCount ⟨some (sideSlipOf s.plate.d0 s.displacement l), decide (30 < s.plate.d0.natAbs), false,
        false⟩).setPlateCount (s.tab.plateCount + 1)).produce evPlateResult (s.tab.plateCount + 1)
          (signedWord (sideSlipOf s.plate.d0 s.displacement l)) (signedWord s.plate.d0)
    | none => (s.setPlateCount (s.tab.plateCount + 1)).produce evPlateResult (s.tab.plateCount + 1) noResultWord (signedWord s.plate.d0)
  else (s.setPlateCount (min 15 (s.tab.plateCount + 1))).plateExtra true

theorem State.endForward_eq (s : State) : s.endForward = s.forwardJudged.afterCrossing .forwardOn := rfl

/-- The state with a reverse crossing judged (R119). -/
def State.reverseJudged (s : State) : State :=
  if s.crossingHeld || s.tab.plateCount = 0 then s.plateExtra false
  else if s.tab.plateCount ≤ s.tab.axleCount then
    ((s.setSideSlip (s.tab.plateCount - 1) { (s.record (s.tab.plateCount - 1)).sideSlip with
      missed := false, void := true }).setPlateCount (s.tab.plateCount - 1)).produce evPlateVoid s.tab.plateCount
        (word (s.tab.plateCount - 1)) 0
  else (s.setPlateCount (s.tab.plateCount - 1)).plateExtra false

theorem State.endReverse_eq (s : State) : s.endReverse = s.reverseJudged.afterCrossing .reverseOn := rfl

theorem State.forwardJudged_kept (s : State) : KeepsAllBut [.mem, .jr, .att, .tab] s s.forwardJudged := fun p hp => by
  unfold State.forwardJudged
  split
  · split <;> cases p <;> simp_all [Part.same, State.setPlateCount]
  · cases p <;> simp_all [Part.same, State.setPlateCount]

theorem State.reverseJudged_kept (s : State) : KeepsAllBut [.mem, .jr, .att, .tab] s s.reverseJudged := fun p hp => by
  unfold State.reverseJudged
  split
  · cases p <;> simp_all [Part.same]
  · split <;> cases p <;> simp_all [Part.same, State.setPlateCount]

/-- A side-slip field written with the count and its entry made: what the table, the words and the journal hold (R47, R51, R117, R119). -/
theorem State.slipWritten_event (s : State) (k count : Nat) (x : SideSlip) (code axle : Nat) (p1 p2 : Word) :
    (((s.setSideSlip k x).setPlateCount count).produce code axle p1 p2).tab = { s.tab with
      plateCount := count, records := s.tab.records.set k { s.record k with sideSlip := x } } ∧
    (∀ {σ l}, Logged σ s l → Logged σ (((s.setSideSlip k x).setPlateCount count).produce code axle p1 p2)
      (l ++ [⟨code, axle, p1, p2⟩])) ∧
    (∀ (plate : Plate) (old : State), k < 8 → k < s.tab.records.length → Memory.wf s.mem →
      Memory.readWords (publish old ((((s.setSideSlip k x).setPlateCount count).produce code axle p1 p2).setPlate plate)).mem
        (0x0A00 + 256 * k + 10) 2 = [signedWord (x.value.getD 0), plateFlagWord x]) := by
  have htab : (((s.setSideSlip k x).setPlateCount count).produce code axle p1 p2).tab = { s.tab with
      plateCount := count, records := s.tab.records.set k { s.record k with sideSlip := x } } := by
    simp [State.setPlateCount, State.setSideSlip_tab]
  refine ⟨htab, fun h => ((h.setSideSlip k x).same (t := (s.setSideSlip k x).setPlateCount count) rfl rfl rfl).produce code axle p1 p2,
    fun plate old hk8 hk hw => ?_⟩
  have hR := tableKept_edit (s.setSideSlip k x)
  have hwf : Memory.wf (s.setSideSlip k x).mem := (((Logged.refl s).setSideSlip k x).wf hw)
  have hcount : TableKept pastThree (s.setSideSlip k x) ((s.setSideSlip k x).setPlateCount count) :=
    hR.header _ rfl (tableKept_refl pastThree hwf)
  refine State.setSideSlip_words s k x hk hk8 hw ?_ ?_ old
  · exact hR.free.same (State.produce_holds code axle p1 p2 hR.free hcount) rfl rfl rfl rfl rfl rfl rfl rfl rfl rfl
  · rw [State.record, State.setPlate_tab, htab]
    simp [hk]

/-! ## The crossings -/

section
variable (s : State) (hplan : s.planRuns = true) (l : List DiscreteInput)

/-- A change of the plate unit alone, as the host sees it (R115). -/
theorem publish_withPlate (x : Plate) : (publish s ((s.withInputs l).setPlate x)).plate = x ∧
    KeepsAllBut [.eng, .plate] s (publish s ((s.withInputs l).setPlate x)) := by
  have hsame : publish s ((s.withInputs l).setPlate x) = (s.withInputs l).setPlate x :=
    publish_same s ((s.setEng { s.eng with inputs := l }).setPlate x) rfl rfl rfl rfl rfl
  rw [hsame]
  exact ⟨rfl, fun p hp => by cases p <;> simp_all [Part.same, State.withInputs]⟩

section
include hplan

theorem State.plateChange_idle (h : s.plate.crossing = .idle) (inOn outOn : Bool) : (s.withInputs l).plateChange inOn outOn =
    if inOn && outOn then s.withInputs l else if inOn then (s.withInputs l).openCrossing .forwardOn
    else if outOn then (s.withInputs l).openCrossing .reverseOn else s.withInputs l := by
  have hcrossing : (s.withInputs l).plate.crossing = .idle := h
  unfold State.plateChange
  rw [hcrossing]
  exact if_pos hplan

theorem State.plateChange_forward (h : s.plate.crossing = .forwardOn) (inOn outOn : Bool) : (s.withInputs l).plateChange inOn outOn =
    if outOn then ((s.withInputs l).noteFollower inOn).endForward else (s.withInputs l).noteFollower inOn := by
  have hcrossing : (s.withInputs l).plate.crossing = .forwardOn := h
  unfold State.plateChange
  rw [hcrossing]
  exact if_pos hplan

theorem State.plateChange_reverse (h : s.plate.crossing = .reverseOn) (inOn outOn : Bool) : (s.withInputs l).plateChange inOn outOn =
    if inOn then ((s.withInputs l).noteFollower outOn).endReverse else (s.withInputs l).noteFollower outOn := by
  have hcrossing : (s.withInputs l).plate.crossing = .reverseOn := h
  unfold State.plateChange
  rw [hcrossing]
  exact if_pos hplan

end

/-- The plate unit and the rest of the state after the end of a crossing (R121). -/
theorem crossing_ended (more : Bool) (c : Crossing) (judged : State → State)
    (hk : ∀ w, KeepsAllBut [.mem, .jr, .att, .tab] w (judged w)) :
    (publish s ((judged ((s.withInputs l).noteFollower more)).afterCrossing c)).plate =
      (if s.plate.follower ∨ more = true then ⟨c, if c = .forwardOn then s.filtered 8 else s.plate.d0, false, s.clk.sampleNo, s.plate.length⟩
        else ⟨.idle, s.plate.d0, false, s.plate.ref, s.plate.length⟩) ∧
    KeepsAllBut [.eng, .plate, .tab, .mem, .jr, .att] s (publish s ((judged ((s.withInputs l).noteFollower more)).afterCrossing c)) := by
  set w := (s.withInputs l).noteFollower more with hw
  have hplate : (judged w).plate = { s.plate with follower := s.plate.follower || more } := hk w .plate (by simp)
  have hclk : (judged w).clk = s.clk := hk w .clk (by simp)
  have hfil : (judged w).filtered 8 = s.filtered 8 := by
    rw [State.filtered, show (judged w).eng = w.eng from hk w .eng (by simp)]
    rfl
  rw [State.afterCrossing_eq, hplate, hclk, hfil]
  refine ⟨?_, ?_⟩
  · simp
  · refine KeepsAllBut.publish (fun p hp => ?_) (by simp) s
    have hkept := hk w p
    cases p <;> simp_all [Part.same, State.withInputs, State.noteFollower]

end

/-! ## What a crossing writes at its end -/

section
variable (w : State)

theorem State.forwardJudged_result (len : Nat) (hn : w.tab.plateCount < w.tab.axleCount) (hl : w.plate.length = some len) :
    w.forwardJudged = ((w.setSideSlip w.tab.plateCount ⟨some (sideSlipOf w.plate.d0 (w.filtered 8) len), decide (30 < w.plate.d0.natAbs),
      false, false⟩).setPlateCount (w.tab.plateCount + 1)).produce evPlateResult (w.tab.plateCount + 1)
        (signedWord (sideSlipOf w.plate.d0 (w.filtered 8) len)) (signedWord w.plate.d0) := by
  rw [State.forwardJudged, if_pos hn, hl]
  rfl

theorem State.forwardJudged_unknown (hn : w.tab.plateCount < w.tab.axleCount) (hl : w.plate.length = none) :
    w.forwardJudged = (w.setPlateCount (w.tab.plateCount + 1)).produce evPlateResult (w.tab.plateCount + 1) noResultWord
      (signedWord w.plate.d0) := by
  rw [State.forwardJudged, if_pos hn, hl]

theorem State.forwardJudged_extra (hn : w.tab.axleCount ≤ w.tab.plateCount) :
    w.forwardJudged = (w.setPlateCount (min 15 (w.tab.plateCount + 1))).produce evPlateExtra 0 0 (word (min 15 (w.tab.plateCount + 1))) :=
  if_neg (by omega)

theorem State.reverseJudged_held (h : w.crossingHeld = true ∨ w.tab.plateCount = 0) :
    w.reverseJudged = w.produce evPlateExtra 0 1 (word w.tab.plateCount) :=
  if_pos (by simpa using h)

theorem State.reverseJudged_void (h : ¬ (w.crossingHeld = true ∨ w.tab.plateCount = 0)) (hn : w.tab.plateCount ≤ w.tab.axleCount) :
    w.reverseJudged = ((w.setSideSlip (w.tab.plateCount - 1) { (w.record (w.tab.plateCount - 1)).sideSlip with
      missed := false, void := true }).setPlateCount (w.tab.plateCount - 1)).produce evPlateVoid w.tab.plateCount
        (word (w.tab.plateCount - 1)) 0 := by
  rw [State.reverseJudged, if_neg (by simpa using h), if_pos hn]

theorem State.reverseJudged_extra (h : ¬ (w.crossingHeld = true ∨ w.tab.plateCount = 0)) (hn : w.tab.axleCount < w.tab.plateCount) :
    w.reverseJudged = (w.setPlateCount (w.tab.plateCount - 1)).produce evPlateExtra 0 1 (word (w.tab.plateCount - 1)) := by
  rw [State.reverseJudged, if_neg (by simpa using h), if_neg (by omega)]
  rfl

end

/-- What the host reads of a judged crossing: its table and its one entry. -/
theorem crossing_wrote (s : State) {u : State} (c : Crossing) {code axle : Nat} {p1 p2 : Word} (hw : Memory.wf s.mem)
    (h : Logged s u [⟨code, axle, p1, p2⟩]) : (publish s (u.afterCrossing c)).tab = u.tab ∧
      EntryMade s (publish s (u.afterCrossing c)) code axle p1 p2 := by
  rw [State.afterCrossing_eq]
  generalize (if u.plate.follower then _ else _ : Plate) = x
  exact ⟨by simp, ((h.same (t := u.setPlate x) rfl rfl rfl).publish s).entryMade hw⟩

section
variable (s : State) (l : List DiscreteInput) (more : Bool) (hw : Memory.wf s.mem)
include hw

/-- What a forward crossing writes at its end (R116 to R118, R120). -/
theorem forward_written :
    let n := s.tab.plateCount
    let t := publish s (((s.withInputs l).noteFollower more).endForward)
    (∀ len, n < s.tab.axleCount → s.plate.length = some len →
      t.tab = { s.tab with
        plateCount := n + 1
        records := s.tab.records.set n { s.record n with
          sideSlip := ⟨some (sideSlipOf s.plate.d0 (s.filtered 8) len), decide (30 < s.plate.d0.natAbs), false, false⟩ } } ∧
      (n < 8 → n < s.tab.records.length → Memory.readWords t.mem (0x0A00 + 256 * n + 10) 2
        = [signedWord (sideSlipOf s.plate.d0 (s.filtered 8) len), flagWord [decide (30 < s.plate.d0.natAbs), false, false]]) ∧
      EntryMade s t evPlateResult (n + 1) (signedWord (sideSlipOf s.plate.d0 (s.filtered 8) len)) (signedWord s.plate.d0)) ∧
    (n < s.tab.axleCount → s.plate.length = none → t.tab = { s.tab with plateCount := n + 1 } ∧
      EntryMade s t evPlateResult (n + 1) (signedWord (-32768)) (signedWord s.plate.d0)) ∧
    (s.tab.axleCount ≤ n → t.tab = { s.tab with plateCount := min 15 (n + 1) } ∧
      EntryMade s t evPlateExtra 0 0 (word (min 15 (n + 1)))) := by
  intro n t
  set w := (s.withInputs l).noteFollower more with hwdef
  have hlog : Logged s w [] := (Logged.refl s).same rfl rfl rfl
  have ht : t = publish s (w.forwardJudged.afterCrossing .forwardOn) := rfl
  rw [ht]
  refine ⟨fun len hn hlen => ?result, fun hn hlen => ?unknown, fun hn => ?extra⟩
  case result =>
    rw [w.forwardJudged_result len hn hlen]
    obtain ⟨htab, hlogs, hwords⟩ := w.slipWritten_event w.tab.plateCount (w.tab.plateCount + 1)
      ⟨some (sideSlipOf w.plate.d0 (w.filtered 8) len), decide (30 < w.plate.d0.natAbs), false, false⟩ evPlateResult
      (w.tab.plateCount + 1) (signedWord (sideSlipOf w.plate.d0 (w.filtered 8) len)) (signedWord w.plate.d0)
    obtain ⟨htab', hentry⟩ := crossing_wrote s .forwardOn hw (hlogs hlog)
    refine ⟨htab'.trans htab, fun hk8 hk => ?_, hentry⟩
    rw [State.afterCrossing_eq]
    exact hwords _ s hk8 hk hw
  case unknown =>
    rw [w.forwardJudged_unknown hn hlen]
    obtain ⟨htab, hentry⟩ := crossing_wrote s .forwardOn hw ((hlog.same (t := w.setPlateCount (w.tab.plateCount + 1)) rfl rfl rfl).produce
      evPlateResult (w.tab.plateCount + 1) noResultWord (signedWord w.plate.d0))
    exact ⟨htab.trans (by simp [State.setPlateCount, hwdef, State.withInputs, State.noteFollower, n]), hentry⟩
  case extra =>
    rw [w.forwardJudged_extra hn]
    obtain ⟨htab, hentry⟩ := crossing_wrote s .forwardOn hw ((hlog.same (t := w.setPlateCount (min 15 (w.tab.plateCount + 1))) rfl rfl
      rfl).produce evPlateExtra 0 0 (word (min 15 (w.tab.plateCount + 1))))
    exact ⟨htab.trans (by simp [State.setPlateCount, hwdef, State.withInputs, State.noteFollower, n]), hentry⟩

/-- What a reverse crossing writes at its end (R119). -/
theorem reverse_written (hplan : s.planRuns = true) :
    let n := s.tab.plateCount
    let t := publish s (((s.withInputs l).noteFollower more).endReverse)
    (s.seat.seated = true ∧ n = s.tab.cursor + 1 ∨ n = 0 → t.tab = s.tab ∧ EntryMade s t evPlateExtra 0 1 (word n)) ∧
    (¬ (s.seat.seated = true ∧ n = s.tab.cursor + 1) → 1 ≤ n → n ≤ s.tab.axleCount →
      t.tab = { s.tab with
        plateCount := n - 1
        records := s.tab.records.set (n - 1) { s.record (n - 1) with
          sideSlip := { (s.record (n - 1)).sideSlip with missed := false, void := true } } } ∧
      (n - 1 < 8 → n - 1 < s.tab.records.length → Memory.readWords t.mem (0x0A00 + 256 * (n - 1) + 10) 2
        = [signedWord ((s.record (n - 1)).sideSlip.value.getD 0), flagWord [(s.record (n - 1)).sideSlip.uncentred, false, true]]) ∧
      EntryMade s t evPlateVoid n (word (n - 1)) 0) ∧
    (¬ (s.seat.seated = true ∧ n = s.tab.cursor + 1) → s.tab.axleCount < n →
      t.tab = { s.tab with plateCount := n - 1 } ∧ EntryMade s t evPlateExtra 0 1 (word (n - 1))) := by
  intro n t
  set w := (s.withInputs l).noteFollower more with hwdef
  have hlog : Logged s w [] := (Logged.refl s).same rfl rfl rfl
  have ht : t = publish s (w.reverseJudged.afterCrossing .reverseOn) := rfl
  have hheld : w.crossingHeld = true ↔ s.seat.seated = true ∧ n = s.tab.cursor + 1 := by
    have h : w.crossingHeld = s.crossingHeld := rfl
    rw [h]
    simp [State.crossingHeld, hplan, n]
  rw [ht]
  refine ⟨fun h => ?held, fun h h1 hn => ?void, fun h hn => ?extra⟩
  case held =>
    rw [w.reverseJudged_held (h.imp hheld.2 id)]
    obtain ⟨htab, hentry⟩ := crossing_wrote s .reverseOn hw (hlog.produce evPlateExtra 0 1 (word w.tab.plateCount))
    exact ⟨htab.trans (by simp [hwdef, State.withInputs, State.noteFollower]), hentry⟩
  case void =>
    have hnot : ¬ (w.crossingHeld = true ∨ w.tab.plateCount = 0) := by
      rintro (hc | hc)
      · exact h (hheld.1 hc)
      · exact absurd (show n = 0 from hc) (by omega)
    rw [w.reverseJudged_void hnot hn]
    obtain ⟨htab, hlogs, hwords⟩ := w.slipWritten_event (w.tab.plateCount - 1) (w.tab.plateCount - 1)
      { (w.record (w.tab.plateCount - 1)).sideSlip with missed := false, void := true } evPlateVoid w.tab.plateCount
      (word (w.tab.plateCount - 1)) 0
    obtain ⟨htab', hentry⟩ := crossing_wrote s .reverseOn hw (hlogs hlog)
    refine ⟨htab'.trans htab, fun hk8 hk => ?_, hentry⟩
    rw [State.afterCrossing_eq]
    exact hwords _ s hk8 hk hw
  case extra =>
    have hnot : ¬ (w.crossingHeld = true ∨ w.tab.plateCount = 0) := by
      rintro (hc | hc)
      · exact h (hheld.1 hc)
      · exact absurd (show n = 0 from hc) (by omega)
    rw [w.reverseJudged_extra hnot hn]
    obtain ⟨htab, hentry⟩ := crossing_wrote s .reverseOn hw ((hlog.same (t := w.setPlateCount (w.tab.plateCount - 1)) rfl rfl
      rfl).produce evPlateExtra 0 1 (word (w.tab.plateCount - 1)))
    exact ⟨htab.trans (by simp [State.setPlateCount, hwdef, State.withInputs, State.noteFollower, n]), hentry⟩

end

/-- Settles O46: the switches that settle, the crossing they open or end, and what its end writes. -/
theorem plateCrossings : Obligations.PlateCrossings := by
  unfold Obligations.PlateCrossings
  intro s hin hplan hw n setAt next
  refine ⟨fun h h' hc => ?_, fun h h' hc => ?_, fun h h' hc => ?_, fun h h' => ?_, fun h h' hc => ?_, fun h h' hc => ?_,
    fun h hc => ?_, fun h hc => ?_⟩
  · obtain ⟨l, he⟩ := s.plateSettles_eq .plateIn (.inl rfl) h
    rw [h, h', State.plateChange_idle s hplan l hc] at he
    exact ⟨_, exec_plateSettles s _ (.inl rfl) h, by rw [he]; exact publish_withPlate s l _⟩
  · obtain ⟨l, he⟩ := s.plateSettles_eq .plateOut (.inr rfl) h
    rw [h, h', State.plateChange_idle s hplan l hc] at he
    exact ⟨_, exec_plateSettles s _ (.inr rfl) h, by rw [he]; exact publish_withPlate s l _⟩
  · obtain ⟨l, he⟩ := s.plateSettles_eq .plateIn (.inl rfl) h'
    rw [h, h', State.plateChange_idle s hplan l hc] at he
    have hsame : publish s (s.withInputs l) = s.withInputs l :=
      publish_same s (s.setEng { s.eng with inputs := l }) rfl rfl rfl rfl rfl
    refine ⟨_, exec_plateSettles s _ (.inl rfl) h', ?_⟩
    rw [he.trans (if_pos rfl), hsame]
    exact s.withInputs_kept l
  · rw [exec_plateSettles s _ (.inr rfl) h, exec_plateSettles s _ (.inl rfl) h']
    simp [State.plateSettles, h, h']
  · obtain ⟨l, he⟩ := s.plateSettles_eq .plateIn (.inl rfl) h
    rw [h, h', State.plateChange_forward s hplan l hc] at he
    refine ⟨_, exec_plateSettles s _ (.inl rfl) h, ?_⟩
    rw [he.trans (if_neg Bool.false_ne_true), State.noteFollower, Bool.or_true]
    exact publish_withPlate s l _
  · obtain ⟨l, he⟩ := s.plateSettles_eq .plateOut (.inr rfl) h
    rw [h, h', State.plateChange_reverse s hplan l hc] at he
    refine ⟨_, exec_plateSettles s _ (.inr rfl) h, ?_⟩
    rw [he.trans (if_neg Bool.false_ne_true), State.noteFollower, Bool.or_true]
    exact publish_withPlate s l _
  · obtain ⟨l, he⟩ := s.plateSettles_eq .plateOut (.inr rfl) h
    rw [h, State.plateChange_forward s hplan l hc] at he
    obtain ⟨hplate, hkept⟩ := crossing_ended s l (s.settlesOn .plateIn) .forwardOn State.forwardJudged State.forwardJudged_kept
    refine ⟨_, exec_plateSettles s _ (.inr rfl) h, ?_⟩
    rw [he]
    exact ⟨hplate, hkept, forward_written s l _ hw⟩
  · obtain ⟨l, he⟩ := s.plateSettles_eq .plateIn (.inl rfl) h
    rw [h, State.plateChange_reverse s hplan l hc] at he
    obtain ⟨hplate, hkept⟩ := crossing_ended s l (s.settlesOn .plateOut) .reverseOn State.reverseJudged State.reverseJudged_kept
    refine ⟨_, exec_plateSettles s _ (.inl rfl) h, ?_⟩
    rw [he]
    exact ⟨hplate, hkept, reverse_written s l _ hw hplan⟩

end Sys2Proof.Machine

/-! PROOFS. The derivation of the lane mode (R22), the power-on load (R14, R15, R113) and the ends of the NV writes (R17, R18). -/

namespace Sys2Proof.Machine

set_option Elab.async false

/-! ## The plate length outlives a stop of the drive and an abort of the plan (R113) -/

section
variable (s : State)

@[simp] theorem State.enterSeq_plateLength (n : SeqState) : (s.enterSeq n).plate.length = s.plate.length := by
  by_cases h : s.seq.state = n
  · rw [s.enterSeq_of_eq n h]
  · rw [s.enterSeq_plate n h]
    split <;> rfl

@[simp] theorem frameAfter_plate (t : State) : (frameAfter s t).plate = t.plate := by
  unfold frameAfter
  split <;> simp

@[simp] theorem State.takeEndOfSpin_plateLength (owed : Bool) : (s.takeEndOfSpin owed).plate.length = s.plate.length := by
  unfold State.takeEndOfSpin
  split
  · exact State.enterSeq_plateLength _ _
  · split <;> rfl

@[simp] theorem State.runStop_plateLength (r : StopReason) : (s.runStop r).plate.length = s.plate.length := by
  unfold State.runStop
  split
  case h_1 | h_2 => rfl
  case h_7 =>
    split <;> simp
  all_goals simp only [State.takeEndOfSpin_plateLength, State.endAttempt_frame, State.endParking_frame]
  all_goals split <;> simp

@[simp] theorem State.ownerStop_plateLength (r : StopReason) : (s.ownerStop r).plate.length = s.plate.length := by
  unfold State.ownerStop State.takeDriveStop
  repeat' split
  all_goals simp

@[simp] theorem State.stopEvent_plateLength (r : StopReason) : (s.stopEvent r).plate.length = s.plate.length := by
  unfold State.stopEvent State.stopDrive
  dsimp only
  split <;> simp

@[simp] theorem State.abortPlan_plateLength (o : ReqOutcome) (d : Detail) : (s.abortPlan o d).plate.length = s.plate.length := by
  unfold State.abortPlan State.giveUpWork State.haltDrive
  repeat' split
  all_goals simp

/-! ## The lane mode (R22) -/

theorem State.deriveMode_eng : s.deriveMode.eng = { s.eng with mode := s.derivedMode } := by
  unfold State.deriveMode
  dsimp only
  split
  next h => rw [h]
  next => simp

@[simp] theorem State.deriveMode_plateLength : s.deriveMode.plate.length = s.plate.length := by
  unfold State.deriveMode State.modeTaken
  dsimp only
  repeat' split
  all_goals simp

/-- The table of R22, the validities spelled as the statements spell them. -/
theorem State.derivedMode_eq : s.derivedMode =
    if s.eng.cals.any (fun c => c.valid == false) = true then .failsafe else if s.level .key then .service else .normal := by
  simp [State.derivedMode]

end

/-! ## The limit of 20 ms -/

theorem State.nvOver_iff (s : State) : s.nvOver = true ↔ s.nv.started + 20 < s.clk.ms := decide_eq_true_iff

theorem State.nvLate_iff (s : State) : s.nvLate = true ↔ s.nv.started + 20 ≤ s.clk.ms := decide_eq_true_iff

/-! ## The power-on load -/

theorem exec_calReadDone (s : State) (k : Nat) (reply : NvReply) (h : s.nv.op = some (.loadWord k)) : exec (.calReadDone reply) s =
    .next (publish s (s.loadStep k (if s.nvOver then .noAnswer else readResult (s.nv.store.loadWordAt k) reply))) := by
  simp only [exec, execCalReadDone, h]
  rfl

theorem exec_nvReadTimeout (s : State) (k : Nat) (h : s.nv.op = some (.loadWord k)) (hlate : s.nv.started + 20 ≤ s.clk.ms) :
    exec .nvReadTimeout s = .next (publish s (s.loadStep k .noAnswer)) := by
  have hl : s.loadLate = true := by
    rw [State.loadLate, h]
    exact s.nvLate_iff.2 hlate
  simp only [exec, execNvReadTimeout, hl, State.loadExpires, h]
  rfl

section
variable (s : State) {k : Nat}

theorem State.readEntries_good (marker n : Nat) (w : Word) : s.readEntries marker n (.good w) = s := rfl

/-- The entry of a word that a read corrected, and of one that gave nothing (R14). -/
theorem Logged.readEntries {r : ReadResult} (marker n : Nat) :
    (∀ w, r = .corrected w → Logged s (s.readEntries marker n r) [⟨evNvCorrected, 0, word marker, word n⟩]) ∧
    (r.word? = none → Logged s (s.readEntries marker n r) [⟨evNvError, 0, word marker, word n⟩]) := by
  refine ⟨?_, fun h => ?_⟩
  · rintro w rfl
    exact (Logged.refl s).produce _ _ _ _
  · rw [State.readEntries, h]
    exact (Logged.refl s).produce _ _ _ _

/-- Two read words make a VALID record when the zero lies in its range and the gain is positive (R14). -/
theorem recordOf_valid {z : Int} {w : Word} (h1 : -8192 ≤ z) (h2 : z ≤ 8191) (h3 : 1 ≤ w.toNat) :
    recordOf (some z) (some (w.toNat : Int)) = ⟨z, w.toNat, true⟩ := if_pos ⟨h1, h2, by exact_mod_cast h3⟩

/-- Words that are missing or out of range make the record INVALID (R14). -/
theorem recordOf_invalid {zero : Option Int} {gain : Option Word}
    (h : zero = none ∨ gain = none ∨ gain = some 0 ∨ ∃ z, zero = some z ∧ (z < -8192 ∨ 8191 < z)) :
    recordOf zero (gain.map fun w => (w.toNat : Int)) = ⟨0, 0, false⟩ := by
  cases zero with
  | none => rfl
  | some z =>
    cases gain with
    | none => rfl
    | some w =>
      refine if_neg fun ⟨h1, h2, h3⟩ => ?_
      rcases h with h | h | h | ⟨z', hz, h⟩
      · cases h
      · cases h
      · cases h
        exact absurd h3 (by decide)
      · cases hz
        omega

/-- A gain word without a value makes the entry of its read alone (R14). -/
theorem State.loadGainWord_none (ch : Nat) {r : ReadResult} (h : r.word? = none) :
    (s.loadGainWord ch r).mem = (s.readEntries ch 1 r).mem ∧ (s.loadGainWord ch r).jr = (s.readEntries ch 1 r).jr := by
  simp [State.loadGainWord, h]

theorem State.loadGainWord_kept (ch : Nat) (r : ReadResult) : KeepsAllBut [.eng, .mem, .jr, .att] s (s.loadGainWord ch r) := by
  intro p hp
  cases p <;> simp_all [Part.same]

theorem State.loadZeroWord_kept (ch : Nat) (r : ReadResult) : KeepsAllBut [.eng, .mem, .jr, .att] s (s.loadZeroWord ch r) := by
  intro p hp
  cases p <;> simp_all [Part.same]

theorem State.nextNv_kept (op : NvOp) : KeepsAllBut [.nv] s (s.nextNv op) := by
  intro p hp
  cases p <;> simp_all [Part.same]

theorem State.loadGainWord_eng (ch : Nat) (r : ReadResult) : (s.loadGainWord ch r).eng = { s.eng with
    cals := s.eng.cals.set ch (recordOf s.eng.loadZero (r.word?.map fun w => (w.toNat : Int))), loadZero := none } := by
  simp only [State.loadGainWord]
  split <;> simp

theorem State.loadIdentity_length (r : ReadResult) : (s.loadIdentity r).plate.length = r.word?.bind plateLengthOf := rfl

theorem State.loadStep_word (r : ReadResult) (hk : k < 18) : s.loadStep k r =
    State.nextNv (if k % 2 = 0 then s.loadZeroWord (k / 2) r else s.loadGainWord (k / 2) r) (.loadWord (k + 1)) := if_pos hk

/-- The next read of the load starts (R15). -/
theorem State.loadStep_next (r : ReadResult) (hk : k < 18) :
    (publish s (s.loadStep k r)).nv = { s.nv with op := some (.loadWord (k + 1)), started := s.clk.ms } ∧
    KeepsAllBut [.eng, .nv, .mem, .jr, .att] s (publish s (s.loadStep k r)) := by
  rw [s.loadStep_word r hk]
  have read : KeepsAllBut [.eng, .nv, .mem, .jr, .att] s
      (if k % 2 = 0 then s.loadZeroWord (k / 2) r else s.loadGainWord (k / 2) r) := by
    split
    · exact (s.loadZeroWord_kept _ r).mono (by decide)
    · exact (s.loadGainWord_kept _ r).mono (by decide)
  have hnv : (if k % 2 = 0 then s.loadZeroWord (k / 2) r else s.loadGainWord (k / 2) r).nv = s.nv := by
    split <;> simp
  have hclk : (if k % 2 = 0 then s.loadZeroWord (k / 2) r else s.loadGainWord (k / 2) r).clk = s.clk := by
    split <;> simp
  generalize (if k % 2 = 0 then s.loadZeroWord (k / 2) r else s.loadGainWord (k / 2) r) = u at *
  exact ⟨by simp [State.nextNv, hnv, hclk], (read.trans ((u.nextNv_kept _).mono (by decide))).publish (by decide) s⟩

/-- The zero word of a record is kept, with its entry (R14). -/
theorem State.loadStep_zero (r : ReadResult) (hw : Memory.wf s.mem) (hk : k < 18) (heven : k % 2 = 0) :
    let t := publish s (s.loadStep k r)
    t.eng = { s.eng with loadZero := r.word?.map BitVec.toInt } ∧
    (∀ w, r = .good w → t.jr = s.jr) ∧
    (∀ w, r = .corrected w → EntryMade s t evNvCorrected 0 (word (k / 2)) 0) ∧
    (r.word? = none → EntryMade s t evNvError 0 (word (k / 2)) 0) := by
  rw [s.loadStep_word r hk, if_pos heven]
  obtain ⟨corrected, unreadable⟩ := Logged.readEntries s (r := r) (k / 2) 0
  refine ⟨by simp [State.loadZeroWord], ?_, fun w hr => ?_, fun hr => ?_⟩
  · rintro w rfl
    simp [State.loadZeroWord, State.readEntries_good]
  · exact (((corrected w hr).same (t := (s.loadZeroWord (k / 2) r).nextNv _) rfl rfl rfl).publish s).entryMade hw
  · exact (((unreadable hr).same (t := (s.loadZeroWord (k / 2) r).nextNv _) rfl rfl rfl).publish s).entryMade hw

/-- The gain word settles the record (R14). -/
theorem State.loadStep_gain (r : ReadResult) (hw : Memory.wf s.mem) (hk : k < 18) (hodd : k % 2 = 1) :
    let t := publish s (s.loadStep k r)
    t.eng = { s.eng with
      cals := s.eng.cals.set (k / 2) (recordOf s.eng.loadZero (r.word?.map fun w => (w.toNat : Int))), loadZero := none } ∧
    (r.word? = none → EntryMade s t evNvError 0 (word (k / 2)) 1) := by
  rw [s.loadStep_word r hk, if_neg (show ¬ k % 2 = 0 by omega)]
  refine ⟨by simp [State.loadGainWord_eng], fun hr => ?_⟩
  have made := (Logged.readEntries s (r := r) (k / 2) 1).2 hr
  obtain ⟨hm, hj⟩ := s.loadGainWord_none (k / 2) hr
  exact ((made.same (t := (s.loadGainWord (k / 2) r).nextNv (.loadWord (k + 1))) hm hj (by simp)).publish s).entryMade hw

/-- The identity settles the plate length and ends the load (R15, R22, R113). -/
theorem State.loadStep_identity (r : ReadResult) (hk : 18 ≤ k) :
    let t := publish s (s.loadStep k r)
    t.eng.loading = false ∧ t.eng.cals = s.eng.cals ∧ t.nv.op = s.nv.waiting ∧ t.nv.waiting = none ∧
    t.plate.length = r.word?.bind plateLengthOf ∧
    t.eng.mode = (if s.eng.cals.any (fun c => c.valid == false) = true then .failsafe
      else if s.level .key then .service else .normal) := by
  have hstep : s.loadStep k r = (s.loadIdentity r).endLoad := if_neg (Nat.not_lt.2 hk)
  have hlevel : ((s.loadIdentity r).setEng { (s.loadIdentity r).eng with loading := false }).releasePort.level .key = s.level .key := by
    simp [State.level, State.input]
  rw [hstep]
  refine ⟨by simp [State.endLoad, State.deriveMode_eng], by simp [State.endLoad, State.deriveMode_eng],
    by simp [State.endLoad, State.releasePort], by simp [State.endLoad, State.releasePort], ?_, ?_⟩
  · simp [State.endLoad, State.loadIdentity_length]
  · simp only [publish_frame, State.endLoad, State.deriveMode_eng, State.derivedMode_eq, hlevel]
    simp

end

/-- Settles O48: the reads of the power-on load, read by read, with their entries and what the last of them settles. -/
theorem loadReadsTheStoredRecords : Obligations.LoadReadsTheStoredRecords := by
  unfold Obligations.LoadReadsTheStoredRecords
  intro s k hop hw loaded
  have hloaded (r : ReadResult) : loaded (publish s (s.loadStep k r)) r := by
    refine ⟨s.loadStep_next r, s.loadStep_zero r hw, fun hk hodd => ?_, fun hk => ?_⟩
    · obtain ⟨heng, hentry⟩ := s.loadStep_gain r hw hk hodd
      refine ⟨fun z w hz hr h1 h2 h3 => ?_, fun h => ?_, hentry⟩
      · rw [heng, hz, hr, Option.map_some, recordOf_valid h1 h2 h3]
      · rw [heng, recordOf_invalid h]
    · obtain ⟨h1, h2, h3, h4, hlength, hmode⟩ := s.loadStep_identity r hk
      refine ⟨h1, h2, h3, h4, hlength.trans ?_, hmode⟩
      cases r <;> rfl
  refine ⟨fun reply h => ⟨_, (exec_calReadDone s k reply hop).trans ?_, hloaded _⟩,
    fun reply h => ⟨_, (exec_calReadDone s k reply hop).trans ?_, hloaded _⟩,
    fun h => ⟨_, exec_nvReadTimeout s k hop h, hloaded _⟩⟩
  · rw [if_neg (mt s.nvOver_iff.1 (Nat.not_lt.2 h))]
  · rw [if_pos (s.nvOver_iff.2 h)]

/-! ## The end of a CALIBRATE write (R17, R18) -/

section
variable (s : State) {ch : Nat} {z g : Word}

theorem exec_calibrateWriteDone (cut : NvCut) (answered : Bool) (h : s.nv.op = some (.calWrite ch z g)) :
    exec (.calibrateWriteDone cut answered) s = .next (publish s ((s.storeWrite (.calWrite ch z g) cut).calWriteEnds ch
      (answered && cutComplete cut && !s.nvOver))) := by
  simp only [exec, execCalibrateWriteDone, h]
  rfl

theorem exec_calibrateWriteTimeout (cut : NvCut) (h : s.nv.op = some (.calWrite ch z g)) (hlate : s.nv.started + 20 ≤ s.clk.ms) :
    exec (.calibrateWriteTimeout cut) s =
      .next (publish s ((s.storeWrite (.calWrite ch z g) cut).calWriteEnds ch false)) := by
  have hl : s.calWriteLate = true := by
    rw [State.calWriteLate, h]
    exact s.nvLate_iff.2 hlate
  simp only [exec, execCalibrateWriteTimeout, hl, State.calWriteExpires, h]
  rfl

theorem cutComplete_iff (cut : NvCut) : cutComplete cut = true ↔ cut.first = .done ∧ cut.second = .done := by
  simp [cutComplete]

/-- The record under write after the port is released, the device having dealt with the write. -/
def State.calReleased (s : State) (ch : Nat) (z g : Word) (cut : NvCut) : State :=
  ((s.storeWrite (.calWrite ch z g) cut).setEng { s.eng with calib := none }).releasePort

theorem State.calReleased_eng (cut : NvCut) : (s.calReleased ch z g cut).eng = { s.eng with calib := none } := rfl

theorem State.calReleased_nv (cut : NvCut) :
    (s.calReleased ch z g cut).nv = ⟨s.nv.store.writeCal ch z g cut, s.nv.waiting, s.clk.ms, none⟩ := rfl

/-- A CALIBRATE write that succeeds (R17). -/
theorem State.calWriteEnds_ok (cut : NvCut) {c : CalibrateOp} (hc : s.eng.calib = some c) :
    (s.storeWrite (.calWrite ch z g) cut).calWriteEnds ch true =
      (((((s.calReleased ch z g cut).setEng { s.eng with calib := none, cals := s.eng.cals.set ch ⟨c.zero, c.gain, true⟩ }).rePrime
        (fun i => i == ch)).deriveMode).complete c.slot (codeOfKind .calibrate) .ok (if c.lateAbort then .lateAbort else .none) []) := by
  have hcalib : (s.storeWrite (.calWrite ch z g) cut).eng.calib = some c := hc
  rw [State.calWriteEnds, hcalib]
  rfl

/-- A CALIBRATE write that fails (R17, R18). -/
theorem State.calWriteEnds_failed (cut : NvCut) {c : CalibrateOp} (hc : s.eng.calib = some c) :
    (s.storeWrite (.calWrite ch z g) cut).calWriteEnds ch false =
      (((s.calReleased ch z g cut).nvErrorEntry ch 2).deriveMode).complete c.slot (codeOfKind .calibrate) .failed .nvError [] := by
  have hcalib : (s.storeWrite (.calWrite ch z g) cut).eng.calib = some c := hc
  rw [State.calWriteEnds, hcalib]
  rfl

theorem State.deriveMode_wf (hw : Memory.wf s.mem) : Memory.wf s.deriveMode.mem :=
  (State.deriveMode_rec (Recorded.refl s)).wf hw

/-- The completion that ends a CALIBRATE leaves the port as the release left it, the engine as the derivation of the mode left it, and
the slot with its outcome (R17, R22). -/
theorem calibrate_completed (old u : State) (n : Nat) (o : ReqOutcome) (d : Detail) (hw : Memory.wf u.mem) :
    let t := publish old (u.deriveMode.complete n (codeOfKind .calibrate) o d [])
    t.nv = u.nv ∧ t.eng = { u.eng with mode := u.derivedMode } ∧ SlotDone t n o d [] := by
  refine ⟨by simp, by simp [State.deriveMode_eng], slotDone_publish_complete _ _ _ _ _ _ _ (u.deriveMode_wf hw)⟩

/-- The levels of a state whose engine holds the same inputs. -/
theorem State.derivedMode_of (u : State) (h : u.eng.inputs = s.eng.inputs) : u.derivedMode =
    if u.eng.cals.any (fun c => c.valid == false) = true then .failsafe else if s.level .key then .service else .normal := by
  rw [State.derivedMode_eq, State.level, State.input, h]
  rfl

/-- What the device made of a write that it completed (R17). -/
theorem NvStore.writeCal_done (st : NvStore) :
    (st.writeCal ch z g ⟨.done, .done⟩).cals = st.cals.set ch (.clean z, .clean g) := rfl

/-- A write that the device completed and answered in time gives the working record (R17). -/
theorem calWrite_succeeds {c : CalibrateOp} (hc : s.eng.calib = some c) (hch : ch < s.eng.chans.length) (hw : Memory.wf s.mem) :
    let t := publish s ((s.storeWrite (.calWrite ch z g) ⟨.done, .done⟩).calWriteEnds ch true)
    t.nv = ⟨s.nv.store.writeCal ch z g ⟨.done, .done⟩, s.nv.waiting, s.clk.ms, none⟩ ∧ t.eng.calib = none ∧
    t.eng.cals = s.eng.cals.set ch ⟨c.zero, c.gain, true⟩ ∧
    t.eng.mode = (if t.eng.cals.any (fun c => c.valid == false) = true then .failsafe else if s.level .key then .service else .normal) ∧
    t.eng.chans.getD ch noChannel = { s.eng.chans.getD ch noChannel with history := [] } ∧
    SlotDone t c.slot .ok (if c.lateAbort then .lateAbort else .none) [] := by
  rw [s.calWriteEnds_ok _ hc]
  have hchan := ((s.calReleased ch z g ⟨.done, .done⟩).setEng
    { s.eng with calib := none, cals := s.eng.cals.set ch ⟨c.zero, c.gain, true⟩ }).rePrime_chan (fun i => i == ch) ch hch
  obtain ⟨hnv, heng, hdone⟩ := calibrate_completed s (((s.calReleased ch z g ⟨.done, .done⟩).setEng
    { s.eng with calib := none, cals := s.eng.cals.set ch ⟨c.zero, c.gain, true⟩ }).rePrime (fun i => i == ch)) c.slot .ok
    (if c.lateAbort then .lateAbort else .none) hw
  refine ⟨hnv, by rw [heng]; rfl, by rw [heng]; rfl, ?_, by rw [heng]; simpa using hchan, hdone⟩
  rw [heng]
  exact s.derivedMode_of _ rfl

/-- Any other end leaves the working record (R17). -/
theorem calWrite_fails (cut : NvCut) {c : CalibrateOp} (hc : s.eng.calib = some c) (hw : Memory.wf s.mem) :
    let t := publish s ((s.storeWrite (.calWrite ch z g) cut).calWriteEnds ch false)
    t.nv = ⟨s.nv.store.writeCal ch z g cut, s.nv.waiting, s.clk.ms, none⟩ ∧ t.eng.calib = none ∧
    t.eng.cals = s.eng.cals ∧ t.eng.chans = s.eng.chans ∧
    t.eng.mode = (if t.eng.cals.any (fun c => c.valid == false) = true then .failsafe else if s.level .key then .service else .normal) ∧
    SlotDone t c.slot .failed .nvError [] := by
  rw [s.calWriteEnds_failed cut hc]
  have hu : Memory.wf ((s.calReleased ch z g cut).nvErrorEntry ch 2).mem := State.produce_wf _ _ _ _ _ hw
  have heng' : ((s.calReleased ch z g cut).nvErrorEntry ch 2).eng = { s.eng with calib := none } := by simp [s.calReleased_eng cut]
  obtain ⟨hnv, heng, hdone⟩ := calibrate_completed s ((s.calReleased ch z g cut).nvErrorEntry ch 2) c.slot .failed .nvError hu
  rw [heng'] at heng
  refine ⟨hnv.trans (by simp [s.calReleased_nv cut]), by rw [heng], by rw [heng], by rw [heng], ?_, hdone⟩
  rw [heng, s.derivedMode_of _ (by rw [heng']), heng']

end

/-! ## The release of a broken-off write (R18, R180) -/

theorem exec_nvPortReleased (s : State) (cut : NvCut) (op : NvOp) (h : s.nv.op = some op) (hb : op.broken = true) :
    exec (.nvPortReleased cut) s = .next ((s.storeWrite op cut).releasePort) ∧
    (s.nv.started + 20 ≤ s.clk.ms → exec (.nvReleaseTimeout cut) s = .next ((s.storeWrite op cut).releasePort)) := by
  have hends : s.brokenEnds cut = (s.storeWrite op cut).releasePort := by
    rw [State.brokenEnds, h]
    exact if_pos hb
  have hsame : publish s ((s.storeWrite op cut).releasePort) = (s.storeWrite op cut).releasePort :=
    publish_same s _ rfl rfl rfl rfl rfl
  refine ⟨(congrArg (fun t => Host.Outcome.next (publish s t)) hends).trans (congrArg _ hsame), fun hlate => ?_⟩
  have hl : s.brokenLate = true := by
    rw [State.brokenLate, h]
    simp [hb, s.nvLate_iff.2 hlate]
  exact (congrArg (fun t => Host.Outcome.next (publish s t)) ((if_pos hl).trans hends)).trans (congrArg _ hsame)

/-- Settles O49: a CALIBRATE write that succeeds and one that does not, and the release of a broken-off write. -/
theorem nvWritesEnd : Obligations.NvWritesEnd := by
  unfold Obligations.NvWritesEnd
  refine ⟨fun s ch z g c hop hc hslot hslots hcals hchans hw => ?calibrate, fun s cut => ?broken⟩
  case calibrate =>
    intro mode ended failed
    have hfailed (cut : NvCut) : failed (publish s ((s.storeWrite (.calWrite ch z g) cut).calWriteEnds ch false)) cut := by
      obtain ⟨hnv, hcalib, hkept, hchan, hmode, hdone⟩ := calWrite_fails s cut hc hw
      exact ⟨⟨hcalib, hnv, hmode⟩, hkept, hchan, hdone⟩
    refine ⟨fun h => ?ok, fun cut answered h => ?other, fun cut h => ⟨_, exec_calibrateWriteTimeout s cut hop h, hfailed cut⟩⟩
    case ok =>
      have hover : s.nvOver = false := Bool.eq_false_iff.2 (mt s.nvOver_iff.1 (Nat.not_lt.2 h))
      obtain ⟨hnv, hcalib, hset, hmode, hchan, hdone⟩ := calWrite_succeeds s (z := z) (g := g) hc hchans hw
      refine ⟨_, exec_calibrateWriteDone s _ _ hop, ?_⟩
      rw [hover]
      exact ⟨⟨hcalib, hnv, hmode⟩, (congrArg (fun nv => nv.store.cals) hnv).trans (NvStore.writeCal_done _), hset, hchan, hdone⟩
    case other =>
      have hfalse : (answered && cutComplete cut && !s.nvOver) = false := by
        refine Bool.eq_false_iff.2 fun hall => ?_
        obtain ⟨⟨hanswered, hcut⟩, hover⟩ : (answered = true ∧ cutComplete cut = true) ∧ s.nvOver = false := by simpa using hall
        obtain ⟨hfirst, hsecond⟩ := (cutComplete_iff cut).1 hcut
        rcases h with h | h | h | h
        · rw [h] at hanswered
          cases hanswered
        · exact h hfirst
        · exact h hsecond
        · rw [s.nvOver_iff.2 h] at hover
          cases hover
      refine ⟨_, exec_calibrateWriteDone s cut answered hop, ?_⟩
      rw [hfalse]
      exact hfailed cut
  case broken => exact ⟨fun ch z g hop => exec_nvPortReleased s cut _ hop rfl, fun v hop => exec_nvPortReleased s cut _ hop rfl⟩

end Sys2Proof.Machine

/-! PROOFS. The state read (R173) and the taking of a COMPOSE (R175). -/

namespace Sys2Proof.Machine

set_option Elab.async false

/-! ## Certificate records in the state and in lane memory -/

section
variable (s : State)

theorem State.cert_setCert_same {k : Nat} (hk : k < s.comp.records.length) (c : CertRecord) : (s.setCert k c).cert k = c := by
  simp [State.cert, State.setCert, List.getD_eq_getElem?_getD, hk]

theorem State.cert_setCert_ne {j k : Nat} (h : j ≠ k) (c : CertRecord) : (s.setCert k c).cert j = s.cert j := by
  simp [State.cert, State.setCert, List.getD_eq_getElem?_getD, List.getElem?_set_ne (Ne.symm h)]

theorem certBase_apart {j k : Nat} (h : j ≠ k) : certBase j + 1024 ≤ certBase k ∨ certBase k + 1024 ≤ certBase j := by
  unfold certBase
  omega

/-- The word of a record that shows the record before the publication of an event shows it behind it (R170, R196). -/
theorem publish_certState {u : State} (hw : Memory.wf u.mem) {k : Nat} (hk : k < 4)
    (h : Memory.readWord u.mem (certBase k) = (u.cert k).stateWord) :
    Memory.readWord (publish s u).mem (certBase k) = ((publish s u).cert k).stateWord := by
  have hword := publish_certWord s u hw k hk 0 (by decide)
  have hstate : (certWords (u.cert k))[0]'(by simp) = (u.cert k).stateWord :=
    Option.some.inj ((List.getElem?_eq_getElem _).symm.trans (certWords_state (u.cert k)))
  rw [Nat.mul_zero, Nat.add_zero, h, hstate, ite_self] at hword
  exact hword

/-- With the states behind the other images unchanged, publication rewrites one certificate record alone. -/
theorem publish_readByte_cert {u : State} {k : Nat} (hh : headerWords s = headerWords u) (hd : headerDWords s = headerDWords u)
    (hg : s.gauge.skipped = u.gauge.skipped) (ht : s.tab = u.tab) (hc : ∀ j, j ≠ k → s.cert j = u.cert j) (a : Nat)
    (ha : ¬ certByte k a) : Memory.readByte (publish s u).mem a = Memory.readByte u.mem a := by
  have one (m : Memory) (j : Nat) : Memory.readByte (publishCert s u m j) a = Memory.readByte m a := by
    by_cases hj : j = k
    · exact publishCert_readByte s u m j a (hj ▸ ha)
    · rw [publishCert, if_pos (hc j hj)]
  simp only [publish, State.setMem_mem, publishedMem, List.range_succ, List.range_zero, List.nil_append, List.foldl_append,
    List.foldl_cons, List.foldl_nil, one, if_pos ht, if_pos hg, publishHeader, hh, hd, Memory.writeChanged_self,
    Memory.writeChangedDWords_self]

/-- The parts behind the header, the skip count and the axle table. -/
def behindHeader : List Part := [.eng, .seq, .drv, .disp, .prn, .time, .jr, .gauge, .tab]

/-- With those parts and the last number issued as they were, the header shows the same. -/
theorem headers_same {l : List Part} {t : State} (h : KeepsAllBut l s t) (hl : ∀ p ∈ behindHeader, p ∉ l)
    (hn : t.comp.lastIssued = s.comp.lastIssued) : headerWords s = headerWords t ∧ headerDWords s = headerDWords t ∧
      s.gauge.skipped = t.gauge.skipped ∧ s.tab = t.tab := by
  have part (p : Part) (hp : p ∈ behindHeader) : Part.same s t p := h p (hl p hp)
  have heng : t.eng = s.eng := part .eng (by decide)
  have hseq : t.seq = s.seq := part .seq (by decide)
  have hdrv : t.drv = s.drv := part .drv (by decide)
  have hdisp : t.disp = s.disp := part .disp (by decide)
  have hprn : t.prn = s.prn := part .prn (by decide)
  have htime : t.time = s.time := part .time (by decide)
  have hjr : t.jr = s.jr := part .jr (by decide)
  have hgauge : t.gauge = s.gauge := part .gauge (by decide)
  have htab : t.tab = s.tab := part .tab (by decide)
  refine ⟨?_, ?_, by rw [hgauge], htab.symm⟩
  · simp only [headerWords, displayWord, State.faultsOf, heng, hseq, hdrv, hdisp, hprn, htime, hjr, htab, hn]
  · simp only [headerDWords, hjr, hn]

end

/-! ## The state read (R173) -/

/-- A record that is ISSUED and whose word reads ARCHIVED follows it. -/
def CertRecord.followed (c : CertRecord) (w : Word) : CertRecord :=
  if c.state = .issued ∧ w = 3 then { c with state := .archived } else c

section
variable (s : State)

theorem State.readRecord_eq (k : Nat) : s.readRecord k =
    if (s.cert k).state = .issued ∧ Memory.readWord s.mem (certBase k) = 3 then s.setCert k { s.cert k with state := .archived }
    else if Memory.readWord s.mem (certBase k) = (s.cert k).stateWord then s
    else s.setMem (Memory.writeWord s.mem (certBase k) (s.cert k).stateWord) := rfl

/-- The state read of one record: the record follows its word, and the word shows it. -/
theorem State.readRecord_same {k : Nat} (hk : k < s.comp.records.length) (hw : Memory.wf s.mem) :
    (s.readRecord k).cert k = (s.cert k).followed (Memory.readWord s.mem (certBase k)) ∧
    Memory.readWord (s.readRecord k).mem (certBase k) = ((s.readRecord k).cert k).stateWord := by
  rw [s.readRecord_eq, CertRecord.followed]
  split
  next h => exact ⟨s.cert_setCert_same hk _, by rw [s.cert_setCert_same hk]; exact h.2⟩
  next =>
    split
    next h => exact ⟨rfl, h⟩
    next => exact ⟨rfl, Memory.readWord_writeWord _ hw _ _⟩

/-- It leaves the other records, and every byte outside its own record, alone. -/
theorem State.readRecord_other {j k : Nat} (h : j ≠ k) : (s.readRecord k).cert j = s.cert j ∧
    Memory.readWord (s.readRecord k).mem (certBase j) = Memory.readWord s.mem (certBase j) := by
  rw [s.readRecord_eq]
  split
  · exact ⟨s.cert_setCert_ne h _, rfl⟩
  · split
    · exact ⟨rfl, rfl⟩
    · have := certBase_apart h
      exact ⟨rfl, Memory.readWord_writeWord_ne _ _ _ _ (by omega)⟩

theorem State.readRecord_kept (k : Nat) : (s.readRecord k).comp.records.length = s.comp.records.length ∧
    (Memory.wf s.mem → Memory.wf (s.readRecord k).mem) := by
  rw [s.readRecord_eq]
  split
  · exact ⟨by simp [State.setCert], id⟩
  · split
    · exact ⟨rfl, id⟩
    · exact ⟨rfl, fun hw => Memory.wf_writeWord _ hw _ _⟩

/-- The state read of some records, each once. -/
theorem readRecords_read (l : List Nat) (hl : l.Nodup) : ∀ s : State, Memory.wf s.mem → (∀ k ∈ l, k < s.comp.records.length) →
    let r := l.foldl State.readRecord s
    Memory.wf r.mem ∧ r.comp.records.length = s.comp.records.length ∧
    (∀ k ∈ l, r.cert k = (s.cert k).followed (Memory.readWord s.mem (certBase k)) ∧
      Memory.readWord r.mem (certBase k) = (r.cert k).stateWord) ∧
    (∀ k, k ∉ l → r.cert k = s.cert k ∧ Memory.readWord r.mem (certBase k) = Memory.readWord s.mem (certBase k)) := by
  induction l with
  | nil => exact fun s hw _ => ⟨hw, rfl, nofun, fun _ _ => ⟨rfl, rfl⟩⟩
  | cons i l ih =>
    intro s hw hlen
    obtain ⟨hlength, hwf⟩ := s.readRecord_kept i
    obtain ⟨hi, hnodup⟩ := List.nodup_cons.1 hl
    obtain ⟨hmem, hrec, hread, hleft⟩ := ih hnodup (s.readRecord i) (hwf hw) fun k hk => hlength ▸ hlen k (List.mem_cons_of_mem _ hk)
    refine ⟨hmem, hrec.trans hlength, fun k hk => ?_, fun k hk => ?_⟩
    · rcases List.mem_cons.1 hk with rfl | hk
      · obtain ⟨hcert, hword⟩ := s.readRecord_same (hlen k List.mem_cons_self) hw
        obtain ⟨hcert', hword'⟩ := hleft k hi
        exact ⟨hcert'.trans hcert, by rw [List.foldl_cons, hword', hcert', hword]⟩
      · obtain ⟨hcert, hword⟩ := s.readRecord_other (ne_of_mem_of_not_mem hk hi)
        rw [← hcert, ← hword]
        exact hread k hk
    · obtain ⟨hne, hk⟩ := not_or.1 (mt List.mem_cons.2 hk)
      obtain ⟨hcert, hword⟩ := s.readRecord_other hne
      exact ⟨(hleft k hk).1.trans hcert, (hleft k hk).2.trans hword⟩

/-- The state read (R173): every record follows its word, and every word shows its record. -/
theorem State.stateRead_read (hl : s.comp.records.length = 4) (hw : Memory.wf s.mem) :
    Memory.wf s.stateRead.mem ∧ s.stateRead.comp.records.length = 4 ∧
    ∀ k, k < 4 → s.stateRead.cert k = (s.cert k).followed (Memory.readWord s.mem (certBase k)) ∧
      Memory.readWord s.stateRead.mem (certBase k) = (s.stateRead.cert k).stateWord := by
  unfold State.stateRead
  have hread := readRecords_read (List.range 4) (by decide) s hw fun k hk => Nat.lt_of_lt_of_eq (List.mem_range.1 hk) hl.symm
  generalize (List.range 4).foldl State.readRecord s = r at *
  obtain ⟨hmem, hrec, hread, -⟩ := hread
  exact ⟨hmem, hrec.trans hl, fun k hk => hread k (List.mem_range.2 hk)⟩

/-- Words that show their records are read without a change. -/
theorem State.stateRead_of_agrees (h : ∀ k, k < 4 → Memory.readWord s.mem (certBase k) = (s.cert k).stateWord) : s.stateRead = s := by
  have one (k : Nat) (hk : k < 4) : s.readRecord k = s := by
    have hnot : ¬ ((s.cert k).state = .issued ∧ Memory.readWord s.mem (certBase k) = 3) := by
      rintro ⟨hissued, hword⟩
      rw [h k hk, CertRecord.stateWord, hissued] at hword
      exact absurd hword (by decide)
    rw [s.readRecord_eq, if_neg hnot, if_pos (h k hk)]
  have all (l : List Nat) (hl : ∀ k ∈ l, k < 4) : l.foldl State.readRecord s = s := by
    induction l with
    | nil => rfl
    | cons k l ih =>
      rw [List.foldl_cons, one k (hl k List.mem_cons_self)]
      exact ih fun j hj => hl j (List.mem_cons_of_mem k hj)
  exact all (List.range 4) fun k hk => List.mem_range.1 hk

end

/-! ## COMPOSE (R175) -/

section
variable (s : State) (n : Nat)

/-- The record that a COMPOSE with the target parameter t works on, if there is one (R174, R175). -/
def State.targetOf (t : Nat) : Option Nat :=
  if t = 0xFFFF then
    (List.range 4).find? fun k => ((s.cert k).state == .empty || (s.cert k).state == .archived) && !s.jobNames k
  else if (s.cert t).state ≠ .issued ∧ s.jobNames t = false then some t else none

/-- Why no record can be worked on (R175). -/
def State.noTarget (t : Nat) : Detail :=
  if t = 0xFFFF then .noRecord else if (s.cert t).state = .issued then .issued else .job

theorem State.composeTarget_eq (t : Nat) : s.composeTarget t = match s.targetOf t with
    | some k => .inl k
    | none => .inr (s.noTarget t) := by
  have hfree : (fun k => ((s.cert k).state == .empty || (s.cert k).state == .archived) && !s.locked k) =
      fun k => ((s.cert k).state == .empty || (s.cert k).state == .archived) && !s.jobNames k := by
    funext k
    rw [State.locked]
    cases (s.cert k).state <;> rfl
  by_cases ht : t = 0xFFFF
  · have hany : t = targetAny := ht
    cases hf : (List.range 4).find? fun k => ((s.cert k).state == .empty || (s.cert k).state == .archived) && !s.jobNames k <;>
      simp only [State.composeTarget, State.targetOf, State.noTarget, State.anyTarget, if_pos hany, if_pos ht, hfree, hf]
  · have hany : ¬ t = targetAny := ht
    simp only [State.composeTarget, State.targetOf, State.noTarget, if_neg hany, if_neg ht, State.locked]
    by_cases hi : (s.cert t).state = .issued
    · simp [hi]
    · by_cases hj : s.jobNames t = true <;> simp [hi, hj]

/-- The first check of R175 that fails, with its outcome and detail; none when a COMPOSE passes them all. -/
def State.composeRefusal (n : Nat) : Option (ReqOutcome × Detail) :=
  if s.eng.mode ≠ .normal then some (.refusedMode, .none)
  else if 3 < (s.param n 0).toNat ∧ (s.param n 0).toNat ≠ 0xFFFF then some (.badParam, .param 1)
  else if s.seq.state = .idle then some (.refusedState, .noPlan)
  else if s.seq.state ≠ .complete ∧ s.seq.state ≠ .aborted then some (.refusedState, .planActive)
  else if s.tab.certified then some (.refusedState, .certified)
  else if s.kindActive .calibrate then some (.refusedState, .calibrateActive)
  else if s.targetOf (s.param n 0).toNat = none then some (.refusedBusy, s.noTarget (s.param n 0).toNat)
  else none

/-- A COMPOSE in slot n is completed at once with an outcome and a detail (R175). -/
def State.refuseCompose (r : ReqOutcome × Detail) : State := s.complete n 8 r.1 r.2 []

theorem State.composeParam_iff : ¬ ((s.param n 0).toNat ≤ 3 ∨ (s.param n 0).toNat = targetAny) ↔
    3 < (s.param n 0).toNat ∧ (s.param n 0).toNat ≠ 0xFFFF := by
  rw [not_or, Nat.not_le]
  rfl

/-- A COMPOSE that fails a check completes its slot with the outcome of the first one that fails (R175). -/
theorem State.takeCompose_refused (hread : s.stateRead = s) (r : ReqOutcome × Detail) (h : s.composeRefusal n = some r) :
    s.takeCompose n = s.refuseCompose n r := by
  unfold State.composeRefusal at h
  simp only [State.takeCompose, hread, s.composeParam_iff, not_or]
  refine refused_step (s.refuseCompose n) (by rfl) h fun fromParam => ?_
  refine refused_step (s.refuseCompose n) (by rfl) fromParam fun fromPlan => ?_
  refine refused_step (s.refuseCompose n) (by rfl) fromPlan fun fromEnded => ?_
  refine refused_step (s.refuseCompose n) (by rfl) fromEnded fun fromCertified => ?_
  refine refused_step (s.refuseCompose n) (by rfl) fromCertified fun fromCalibrate => ?_
  refine refused_step (s.refuseCompose n) (by rfl) fromCalibrate fun fromTarget => ?_
  rw [s.composeTarget_eq]
  by_cases ht : s.targetOf (s.param n 0).toNat = none
  · rw [if_pos ht] at fromTarget
    rw [ht, ← Option.some.inj fromTarget]
    rfl
  · rw [if_neg ht] at fromTarget
    cases fromTarget

/-- A chain of checks that ends without a refusal passes its first check. -/
theorem passed_step {α : Type} {c : Prop} [Decidable c] {x : α} {r : Option α} (h : (if c then some x else r) = none) :
    ¬ c ∧ r = none := by
  split at h
  · cases h
  · exact ⟨‹_›, h⟩

/-- A COMPOSE that passes every check starts on its target (R175). -/
theorem State.takeCompose_passed (hread : s.stateRead = s) (h : s.composeRefusal n = none) {k : Nat}
    (hk : s.targetOf (s.param n 0).toNat = some k) : s.takeCompose n = s.startCompose n k := by
  obtain ⟨hmode, fromParam⟩ := passed_step h
  obtain ⟨hparam, fromPlan⟩ := passed_step fromParam
  obtain ⟨hidle, fromEnded⟩ := passed_step fromPlan
  obtain ⟨hended, fromCertified⟩ := passed_step fromEnded
  obtain ⟨hcertified, fromCalibrate⟩ := passed_step fromCertified
  obtain ⟨hcalibrate, -⟩ := passed_step fromCalibrate
  simp only [State.takeCompose, hread, s.composeParam_iff, not_or]
  rw [if_neg hmode, if_neg hparam, if_neg hidle, if_neg hended, if_neg hcertified, if_neg hcalibrate, s.composeTarget_eq, hk]

/-- The target of a COMPOSE is one of the four records (R175). -/
theorem State.targetOf_lt {t k : Nat} (ht : ¬ (3 < t ∧ t ≠ 0xFFFF)) (h : s.targetOf t = some k) : k < 4 := by
  rw [State.targetOf] at h
  split at h
  next => exact List.mem_range.1 (List.mem_of_find?_eq_some h)
  next hany =>
    split at h
    · cases h
      omega
    · cases h

/-- The taking of a COMPOSE before its counter read: the target COMPOSING and clear, the slot ACTIVE, the composer at work (R175). -/
def State.composing (k : Nat) : State :=
  State.setComp ((s.clearCert k .composing).activate n .compose)
    { (s.clearCert k .composing).comp with op := some ⟨n, k, .reading, false, false⟩ }

theorem State.startCompose_eq (k : Nat) : s.startCompose n k = (s.composing n k).setNv ((s.composing n k).startNv .counterRead).nv :=
  State.startNv_eq (s.composing n k) .counterRead

theorem State.composing_mem (k : Nat) : (s.composing n k).mem = ((s.clearCert k .composing).activate n .compose).mem := by
  simp [State.composing]

theorem State.clearCert_readByte (k : Nat) (st : RecordState) (a : Nat) (h : ¬ certByte k a) :
    Memory.readByte (s.clearCert k st).mem a = Memory.readByte s.mem a := by
  have hm : (s.clearCert k st).mem = Memory.writeWords s.mem (certBase k) (certWords ((s.setCert k (CertRecord.cleared st)).cert k)) := by
    simp [State.clearCert, State.rewriteCert]
  unfold certByte at h
  rw [hm, Memory.readByte_writeWords _ _ _ _ (by rw [certWords_length]; omega)]

theorem State.clearCert_wf (k : Nat) (st : RecordState) (hw : Memory.wf s.mem) : Memory.wf (s.clearCert k st).mem := by
  have hm : (s.clearCert k st).mem = Memory.writeWords s.mem (certBase k) (certWords ((s.setCert k (CertRecord.cleared st)).cert k)) := by
    simp [State.clearCert, State.rewriteCert]
  exact hm ▸ Memory.wf_writeWords _ _ hw _

theorem State.composing_readByte (k a : Nat) (h : ¬ (slotByte n a ∨ certByte k a)) :
    Memory.readByte (s.composing n k).mem a = Memory.readByte s.mem a := by
  obtain ⟨hslot, hcert⟩ := not_or.1 h
  rw [s.composing_mem, State.activate_readByte _ n .compose a hslot, s.clearCert_readByte k _ a hcert]

theorem State.composing_active (k : Nat) (hn : n < s.slots.length) (hw : Memory.wf s.mem) :
    BecameActive s (s.composing n k) n .compose := by
  refine (State.activate_active s (s.clearCert k .composing) n .compose (by simp) hn (s.clearCert_wf k _ hw)).congr
    (by simp [State.composing]) fun a _ => ?_
  rw [s.composing_mem]

theorem State.composing_kept (k : Nat) : KeepsAllBut [.mem, .slots, .comp] s (s.composing n k) := by
  intro p hp
  cases p <;> simp_all [Part.same, State.composing, State.activate, State.setHeld]

theorem State.composing_cert (k : Nat) (hk : k < s.comp.records.length) :
    (s.composing n k).cert k = CertRecord.cleared .composing ∧ ∀ j, j ≠ k → (s.composing n k).cert j = s.cert j := by
  have hcert (j : Nat) : (s.composing n k).cert j = (s.setCert k (CertRecord.cleared .composing)).cert j := by
    simp [State.cert, State.composing, State.clearCert, State.rewriteCert]
  exact ⟨(hcert k).trans (s.cert_setCert_same hk _), fun j hj => (hcert j).trans (s.cert_setCert_ne hj _)⟩

theorem State.composing_lastIssued (k : Nat) : (s.composing n k).comp.lastIssued = s.comp.lastIssued := by
  simp [State.composing]

/-- What a COMPOSE that passes leads to (R175). -/
theorem composeStarted (k : Nat) (hk4 : k < 4) (hk : k < s.comp.records.length) (hn : n < s.slots.length) (hw : Memory.wf s.mem) :
    let u := publish s (s.startCompose n k)
    u.cert k = CertRecord.cleared .composing ∧ (∀ j, j ≠ k → u.cert j = s.cert j) ∧
    u.comp.op = some ⟨n, k, .reading, false, false⟩ ∧ BecameActive s u n .compose ∧
    u.nv = (if s.nv.op = none then { s.nv with op := some .counterRead, started := s.clk.ms }
      else { s.nv with waiting := some .counterRead }) ∧
    KeepsAllBut [.mem, .slots, .comp, .nv] s u ∧ MemKept (fun a => slotByte n a ∨ certByte k a) s u := by
  have hkept := s.composing_kept n k
  have hactive := s.composing_active n k hn hw
  have hbytes := s.composing_readByte n k
  have hop : (s.composing n k).comp.op = some ⟨n, k, .reading, false, false⟩ := rfl
  obtain ⟨hh, hd, hg, ht⟩ := headers_same s hkept (by decide) (s.composing_lastIssued n k)
  obtain ⟨hcert, hother⟩ := s.composing_cert n k hk
  have hnv : (s.composing n k).nv = s.nv := hkept .nv (by simp)
  have hclk : (s.composing n k).clk = s.clk := hkept .clk (by simp)
  have hport : ((s.composing n k).startNv .counterRead).nv = (if s.nv.op = none then { s.nv with op := some .counterRead, started := s.clk.ms }
      else { s.nv with waiting := some .counterRead }) := by
    rw [State.startNv_nv, hnv, hclk]
  rw [s.startCompose_eq]
  generalize ((s.composing n k).startNv .counterRead).nv = port at hport ⊢
  generalize s.composing n k = w at *
  have hmem (a : Nat) (ha : ¬ certByte k a) : Memory.readByte (publish s (w.setNv port)).mem a =
      Memory.readByte w.mem a := publish_readByte_cert s (u := w.setNv port) hh hd hg ht (fun j hj => (hother j hj).symm) a ha
  refine ⟨hcert, hother, by simpa using hop, ?active, hport, ?kept, fun a ha => ?memory⟩
  case active =>
    exact hactive.congr (by simp) fun a ha => hmem a fun hc => slotByte_not_image n a ha
      (.inr (.inr ⟨k, hk4, hc⟩))
  case kept =>
    refine KeepsAllBut.publish (t := w.setNv port) (fun p hp => ?_) (by simp) s
    have h := hkept p fun hin => hp (List.mem_append_left [Part.nv] hin)
    cases p <;> simp_all [Part.same]
  case memory => exact (hmem a fun hc => ha (.inr hc)).trans (hbytes a ha)

end

/-! ## The records behind a taking -/

section
variable {s r : State} {n k : Nat}

/-- A byte of a certificate record lies in no slot and not in the ring. -/
theorem certByte_apart {a : Nat} (h : certByte k a) (hn : n < 16) : ¬ slotByte n a ∧ ¬ ringByte a := by
  unfold certByte certBase at h
  unfold slotByte slotBase ringByte
  omega

theorem certWord_certByte (k b : Nat) (h1 : certBase k ≤ b) (h2 : b < certBase k + 2) : certByte k b := ⟨h1, by omega⟩

/-- A taking that is refused after the state read shows every record in its word (R173). -/
theorem refused_states (hr : Memory.wf r.mem) (hn : n < 16) (hread : ∀ k, k < 4 → Memory.readWord r.mem (certBase k) = (r.cert k).stateWord)
    (c : Nat) (o : ReqOutcome) (d : Detail) (hk : k < 4) : let u := publish s (r.complete n c o d [])
    Memory.readWord u.mem (certBase k) = (u.cert k).stateWord ∧ u.cert k = r.cert k := by
  have hcert : (r.complete n c o d []).cert k = r.cert k := by simp [State.cert]
  refine ⟨publish_certState s (State.complete_wf _ _ _ _ _ _ hr) hk ?_, hcert⟩
  rw [hcert, ← hread k hk]
  refine Memory.readWord_congr _ _ _ fun b h1 h2 => ?_
  obtain ⟨hslot, hring⟩ := certByte_apart (certWord_certByte k b h1 h2) hn
  exact State.complete_readByte _ _ _ _ _ _ _ hslot fun hb => hring (nextEntryByte_ring _ _ hb)

/-- The word of the record that a COMPOSE works on (R175). -/
theorem State.composing_word (r : State) (n j : Nat) (hj : j < r.comp.records.length) (hr : Memory.wf r.mem) (hn : n < 16) :
    Memory.readWord (r.composing n j).mem (certBase j) = (CertRecord.cleared .composing).stateWord := by
  have hm : (r.clearCert j .composing).mem =
      Memory.writeWords r.mem (certBase j) (certWords ((r.setCert j (CertRecord.cleared .composing)).cert j)) := by
    simp [State.clearCert, State.rewriteCert]
  have hstate (c : CertRecord) : (certWords c)[0]'(by simp) = c.stateWord :=
    Option.some.inj ((List.getElem?_eq_getElem _).symm.trans (certWords_state c))
  have hfirst : Memory.readWord (r.composing n j).mem (certBase j) = Memory.readWord (r.clearCert j .composing).mem (certBase j) := by
    rw [r.composing_mem]
    exact Memory.readWord_congr _ _ _ fun b h1 h2 =>
      State.activate_readByte _ _ _ b (certByte_apart (certWord_certByte j b h1 h2) hn).1
  have hword := Memory.readWord_writeWords (certWords ((r.setCert j (CertRecord.cleared .composing)).cert j)) r.mem hr (certBase j) 0
    (by simp)
  rw [hfirst, hm]
  exact hword.trans ((hstate _).trans (congrArg CertRecord.stateWord (r.cert_setCert_same hj _)))

/-- The state before the counter read begins shows every record in its word (R175). -/
theorem State.composing_shows (hl : r.comp.records.length = 4) (hr : Memory.wf r.mem) (hn : n < 16)
    (hread : ∀ k, k < 4 → Memory.readWord r.mem (certBase k) = (r.cert k).stateWord) {j : Nat} (hj : j < 4) (hk : k < 4) :
    Memory.readWord (r.composing n j).mem (certBase k) = ((r.composing n j).cert k).stateWord := by
  have hlt : j < r.comp.records.length := by omega
  obtain ⟨hcert, hother⟩ := r.composing_cert n j hlt
  by_cases hkj : k = j
  · rw [hkj, hcert]
    exact r.composing_word n j hlt hr hn
  · rw [hother k hkj, ← hread k hk]
    refine Memory.readWord_congr _ _ _ fun b h1 h2 => r.composing_readByte n j b ?_
    have hb := certWord_certByte k b h1 h2
    have := certBase_apart hkj
    refine not_or.2 ⟨(certByte_apart hb hn).1, fun hc => ?_⟩
    unfold certByte at hb hc
    omega

/-- A COMPOSE that starts shows every record in its word, its target's COMPOSING (R173, R175). -/
theorem composing_states (hl : r.comp.records.length = 4) (hr : Memory.wf r.mem) (hn : n < 16) (hslots : r.slots.length = 16)
    (hread : ∀ k, k < 4 → Memory.readWord r.mem (certBase k) = (r.cert k).stateWord) {j : Nat} (hj : j < 4) (hk : k < 4) :
    let u := publish s (r.startCompose n j)
    Memory.readWord u.mem (certBase k) = (u.cert k).stateWord ∧
    ((u.held n = .active .compose → u.comp.op.map (·.target) ≠ some k) → u.cert k = r.cert k) := by
  have hop : (r.composing n j).comp.op = some ⟨n, j, .reading, false, false⟩ := rfl
  obtain ⟨hheld, -⟩ := r.composing_active n j (by omega) hr
  obtain ⟨hcert, hother⟩ := r.composing_cert n j (by omega)
  have hwf : Memory.wf (r.composing n j).mem := by
    rw [r.composing_mem n j]
    exact State.activate_wf _ _ _ (r.clearCert_wf j _ hr)
  have hword := State.composing_shows hl hr hn hread hj hk
  rw [r.startCompose_eq]
  generalize ((r.composing n j).startNv .counterRead).nv = port
  generalize r.composing n j = w at *
  refine ⟨publish_certState s (u := w.setNv port) hwf hk hword, fun hnot => ?_⟩
  have hne : k ≠ j := by
    rintro rfl
    have hheld' : (publish s (w.setNv port)).held n = .active .compose := by simpa [State.held] using hheld
    exact hnot hheld' (by simp [hop])
  exact hother k hne

/-- A COMPOSE, whatever becomes of it, shows every record in its word (R173). -/
theorem takeCompose_states (hl : s.comp.records.length = 4) (hw : Memory.wf s.mem) (hslots : s.slots.length = 16) (hn : n < 16) (hk : k < 4) :
    let u := publish s (s.takeCompose n)
    Memory.readWord u.mem (certBase k) = (u.cert k).stateWord ∧
      ((u.held n = .active .compose → u.comp.op.map (·.target) ≠ some k) →
        u.cert k = (s.cert k).followed (Memory.readWord s.mem (certBase k))) := by
  obtain ⟨hr, hrl, hread⟩ := s.stateRead_read hl hw
  have hrefuse (o : ReqOutcome) (d : Detail) := refused_states (s := s) hr hn (fun k hk => (hread k hk).2) 8 o d hk
  have hrs : s.stateRead.slots.length = 16 := by simpa using hslots
  have hstart {j : Nat} (hj : j < 4) := composing_states (s := s) hrl hr hn hrs (fun k hk => (hread k hk).2) hj hk
  have hfollowed := (hread k hk).1
  unfold State.takeCompose
  dsimp only
  split_ifs with hmode hparam
  case neg =>
    rw [State.composeTarget_eq]
    cases ht : s.stateRead.targetOf (s.stateRead.param n 0).toNat with
    | none => exact And.imp_right (fun h _ => h.trans hfollowed) (hrefuse _ _)
    | some j =>
      have hj : j < 4 := s.stateRead.targetOf_lt ((s.stateRead.composeParam_iff n).not.1 (not_not.2 (by simpa using hparam))) ht
      exact And.imp_right (fun h hnot => (h hnot).trans hfollowed) (hstart hj)
  all_goals exact And.imp_right (fun h _ => h.trans hfollowed) (hrefuse _ _)

end

/-- Settles O22: the checks in their order, the COMPOSING record, and the state read of every taking. -/
theorem composeRefusedOrTaken : Obligations.ComposeRefusedOrTaken := by
  unfold Obligations.ComposeRefusedOrTaken
  refine ⟨fun s n hslots hl hw ht hk hagree => ?checks, fun s n hslots hl hw ht hk => ?states⟩
  case checks =>
    intro t free target refusal
    have hn : n < s.slots.length := State.lowestPosted_lt s n ht.1
    have hexec : exec .compose s = .next (publish s (s.takeCompose n)) := by
      rw [← onlyOne_of_not_active .compose State.takeCompose s n hk]
      exact exec_takingOf_takes .compose s n ht
    have hread := s.stateRead_of_agrees hagree
    refine ⟨_, hexec, fun o d hr => ?refused, fun k hr hk => ?taken⟩
    case refused =>
      rw [State.takeCompose_refused s n hread (o, d) hr]
      exact completedAlone s n 8 o d [] hw
    case taken =>
      have hparam : ¬ (3 < (s.param n 0).toNat ∧ (s.param n 0).toNat ≠ 0xFFFF) := by
        exact (passed_step (passed_step (show s.composeRefusal n = none from hr)).2).1
      have hk4 := s.targetOf_lt hparam hk
      rw [State.takeCompose_passed s n hread hr hk]
      exact composeStarted s n k hk4 (by omega) hn hw
  case states =>
    have hexec : exec .compose s = .next (publish s (s.takeCompose n)) := by
      rw [← onlyOne_of_not_active .compose State.takeCompose s n hk]
      exact exec_takingOf_takes .compose s n ht
    have hn : n < s.slots.length := State.lowestPosted_lt s n ht.1
    exact ⟨_, hexec, fun k hk => takeCompose_states hl hw hslots (by omega) hk⟩

end Sys2Proof.Machine

/-! PROOFS. The printer link's acts (R183 to R190), and the taking of a PRINT (R181, R182). -/

namespace Sys2Proof.Machine

set_option Elab.async false

/-! ## Acts of the link: the entries they make, and what they leave alone -/

/-- An act of the printer link that makes the entries of a list: beside its own part it changes the journal and ATTN alone, and with no
entry its own part alone. -/
structure LinkAct (es : List JournalEntry) (s t : State) : Prop where
  logged : ∀ {σ : State} {l : List JournalEntry}, Logged σ s l → Logged σ t (l ++ es)
  attn : ∀ b, s.att.bits.getLsbD b = true → t.att.bits.getLsbD b = true
  kept : KeepsAllBut [.prn, .mem, .jr, .att] s t
  ring : ∀ a, ¬ ringByte a → Memory.readByte t.mem a = Memory.readByte s.mem a
  quiet : es = [] → KeepsAllBut [.prn] s t

namespace LinkAct

variable {s t u : State} {es es' : List JournalEntry}

theorem trans (h : LinkAct es s t) (h' : LinkAct es' t u) : LinkAct (es ++ es') s u where
  logged hl := List.append_assoc _ es es' ▸ h'.logged (h.logged hl)
  attn b hb := h'.attn b (h.attn b hb)
  kept := h.kept.trans h'.kept
  ring a ha := (h'.ring a ha).trans (h.ring a ha)
  quiet hnil := (h.quiet (List.append_eq_nil_iff.1 hnil).1).trans (h'.quiet (List.append_eq_nil_iff.1 hnil).2)

theorem after (h : LinkAct es s t) (h' : LinkAct [] t u) : LinkAct es s u := List.append_nil es ▸ h.trans h'

theorem before (h : LinkAct es t u) (h' : LinkAct [] s t) : LinkAct es s u := List.nil_append es ▸ h'.trans h

theorem setPrn (s : State) (x : Printer) : LinkAct [] s (s.setPrn x) where
  logged hl := List.append_nil _ ▸ hl.same rfl rfl rfl
  attn _ hb := hb
  kept := fun p hp => by cases p <;> simp_all [Part.same]
  ring _ _ := rfl
  quiet _ := fun p hp => by cases p <;> simp_all [Part.same]

theorem refl (s : State) : LinkAct [] s s := setPrn s s.prn

theorem produce (s : State) (code : Nat) (p1 p2 : Word) : LinkAct [⟨code, 0, p1, p2⟩] s (s.produce code 0 p1 p2) where
  logged hl := hl.produce code 0 p1 p2
  attn := s.produce_att_mono code 0 p1 p2
  kept := fun p hp => by cases p <;> simp_all [Part.same]
  ring a ha := s.produce_readByte code 0 p1 p2 a fun hb => ha (nextEntryByte_ring _ a hb)
  quiet := nofun

theorem published (h : LinkAct [] s t) (old : State) : KeepsAllBut [.prn, .mem] s (publish old t) :=
  ((h.quiet rfl).mono (by decide)).publish (by decide) old

theorem published_loud (h : LinkAct es s t) (old : State) : KeepsAllBut [.prn, .mem, .jr, .att] s (publish old t) :=
  h.kept.publish (by decide) old

theorem entryMade {code : Nat} {p1 p2 : Word} (h : LinkAct [⟨code, 0, p1, p2⟩] s t) (hw : Memory.wf s.mem) (old : State) :
    EntryMade s (publish old t) code 0 p1 p2 := ((h.logged (Logged.refl s)).publish old).entryMade hw

theorem adds (h : LinkAct es s t) : Adds es.length s t :=
  .apart ⟨fun hl => ⟨es, Nat.le_refl _, h.logged hl⟩, h.attn⟩ (h.kept .slots (by decide)) fun a ⟨m, ha⟩ =>
    h.ring a (slotByte_not_ring m a ha)

/-- A slot that was completed before the act shows its outcome behind it (R200). -/
theorem slotDone (h : LinkAct es s t) {n : Nat} {o : ReqOutcome} {d : Detail} {r : List Word} (hd : SlotDone s n o d r) (old : State) :
    SlotDone (publish old t) n o d r :=
  hd.congr (h.kept .slots (by decide)) fun a ha =>
    (publish_readByte old t a (slotByte_not_image n a ha)).trans (h.ring a (slotByte_not_ring n a ha))

/-- A slot that became ACTIVE before the act is so behind it (R198). -/
theorem becameActive (h : LinkAct es t u) {n : Nat} {k : Kind} (ha : BecameActive s t n k) (old : State) :
    BecameActive s (publish old u) n k :=
  ha.congr (h.kept .slots (by decide)) fun a hb =>
    (publish_readByte old u a (slotByte_not_image n a hb)).trans (h.ring a (slotByte_not_ring n a hb))

end LinkAct

/-! ## The link state (R189, R190) -/

/-- The printer's part after an entry to another link state. -/
def Printer.linked (p : Printer) (ms : Nat) (new : LinkState) : Printer :=
  { p with
    link := new
    pollTimer := if polls new then some (ms + pollPeriod new) else none
    noReplies := if new = .offline then 0 else p.noReplies }

/-- The entry of a change of the link state, where it makes one. -/
def linkEntries (old new : LinkState) : List JournalEntry :=
  if new = old then [] else if polls new || polls old then [⟨evPrinterState, 0, word (codeOfLink new), word (codeOfLink old)⟩] else []

section
variable (s : State)

theorem State.setLink_self {new : LinkState} (h : s.prn.link = new) : s.setLink new = s := if_pos h.symm

theorem State.setLink_eq {new : LinkState} (h : s.prn.link ≠ new) : s.setLink new =
    let t := s.setPrn (s.prn.linked s.clk.ms new)
    let t := if polls new || polls s.prn.link then t.produce evPrinterState 0 (word (codeOfLink new)) (word (codeOfLink s.prn.link)) else t
    if polls new then t.raiseAttn attnPrint else t := if_neg (Ne.symm h)

theorem State.setLink_prn {new : LinkState} (h : s.prn.link ≠ new) : (s.setLink new).prn = s.prn.linked s.clk.ms new := by
  rw [s.setLink_eq h]
  dsimp only
  split <;> split <;> simp

/-- An entry to PAUSED_PAPER or OFFLINE raises ATTN.PRINT (R190). -/
theorem State.setLink_attn {new : LinkState} (h : s.prn.link ≠ new) (hp : polls new = true) :
    (s.setLink new).att.bits.getLsbD 6 = true := by
  rw [s.setLink_eq h]
  simp only [hp, Bool.true_or, if_true, State.raiseAttn, State.setAttn, State.setAtt_att, BitVec.getLsbD_or, Bool.or_eq_true]
  exact .inr rfl

theorem LinkAct.raiseAttn (bits : Byte) (code : Nat) (p1 p2 : Word) {t : State} (h : LinkAct [⟨code, 0, p1, p2⟩] s t) :
    LinkAct [⟨code, 0, p1, p2⟩] s (t.raiseAttn bits) where
  logged hl := (h.logged hl).same (by simp) (by simp) (by simp)
  attn b hb := by
    have := h.attn b hb
    simp [State.raiseAttn, State.setAttn, this]
  kept := h.kept.trans fun p hp => by cases p <;> simp_all [Part.same]
  ring a ha := by simpa using h.ring a ha
  quiet := nofun

theorem LinkAct.setLink (new : LinkState) : LinkAct (linkEntries s.prn.link new) s (s.setLink new) := by
  by_cases h : s.prn.link = new
  · rw [s.setLink_self h, linkEntries, if_pos h.symm]
    exact .refl s
  · rw [s.setLink_eq h, linkEntries, if_neg (Ne.symm h)]
    dsimp only
    have linked := LinkAct.setPrn s (s.prn.linked s.clk.ms new)
    split
    · have made := (LinkAct.produce (s.setPrn (s.prn.linked s.clk.ms new)) evPrinterState (word (codeOfLink new))
        (word (codeOfLink s.prn.link))).before linked
      split
      · exact made.raiseAttn _ _ _ _
      · exact made
    next hloud =>
      rw [if_neg fun hp => hloud (by rw [hp, Bool.true_or])]
      exact linked

/-! ## Lines (R183, R185, R187) -/

theorem State.sendLine_eq : s.sendLine = s.setPrn { s.prn with
    replyTimer := none, busyTimer := none, wire := some (.line (printerFrame s.prn.sequence s.prn.text)) } := rfl

theorem State.sendNewLine_eq (text : List Byte) (cancel : Bool) : s.sendNewLine text cancel = s.setPrn { s.prn with
    sequence := s.prn.sequence + 1, text := text, cancelLine := cancel, crcResends := 0, replyTimer := none, busyTimer := none
    wire := some (.line (printerFrame (s.prn.sequence + 1) text)) } := rfl

theorem LinkAct.sendLine : LinkAct [] s s.sendLine := s.sendLine_eq ▸ LinkAct.setPrn s _

theorem LinkAct.sendNewLine (text : List Byte) (cancel : Bool) : LinkAct [] s (s.sendNewLine text cancel) := LinkAct.setPrn s _

theorem LinkAct.updateJob (n : Nat) (f : Job → Job) : LinkAct [] s (s.updateJob n f) := LinkAct.setPrn s _

/-! ## The selection of a job (R183) -/

/-- A list of one QUEUED job (R183). -/
theorem jobSelected_single {x : Job} (h : x.state = .queued) : jobSelected [x] = some x := by
  cases hc : x.cls <;> simp [jobSelected, h, hc]

theorem State.selectJob_none (h : jobSelected s.prn.jobs = none) : s.selectJob = s := by
  rw [State.selectJob, s.nextJob_eq, h]

/-- The job that is selected becomes PRINTING, with its entry and its line 1 (R183). -/
theorem State.selectJob_some {x : Job} (h : jobSelected s.prn.jobs = some x) : s.selectJob =
    ((State.printEntry (s.setPrn { s.prn with jobs := jobsStarted s.prn.jobs x }) x .printing).setLink .sending).sendNewLine
      ((s.cert x.record).text x.cls 1) false := by
  rw [State.selectJob, s.nextJob_eq, h]
  have hcert : (State.printEntry (s.setPrn { s.prn with jobs := jobsStarted s.prn.jobs x }) x .printing).cert x.record = s.cert x.record := by
    simp [State.cert]
  rw [← hcert]
  rfl

/-- What the selection of a job does on a READY link (R183, R185). -/
theorem State.selectJob_sent {x : Job} (h : jobSelected s.prn.jobs = some x) (hready : s.prn.link = .ready) :
    LinkAct [⟨evPrintState, 0, bytePair x.record 1, word x.linesTaken⟩] s s.selectJob ∧
    s.selectJob.prn = { s.prn with
      jobs := jobsStarted s.prn.jobs x, link := .sending, pollTimer := none, sequence := s.prn.sequence + 1
      text := (s.cert x.record).text x.cls 1, cancelLine := false, crcResends := 0, replyTimer := none, busyTimer := none
      wire := some (.line (printerFrame (s.prn.sequence + 1) ((s.cert x.record).text x.cls 1))) } := by
  rw [s.selectJob_some h]
  have made := (LinkAct.produce (s.setPrn { s.prn with jobs := jobsStarted s.prn.jobs x }) evPrintState (bytePair x.record 1)
    (word x.linesTaken)).before (LinkAct.setPrn s _)
  have hprn : (State.printEntry (s.setPrn { s.prn with jobs := jobsStarted s.prn.jobs x }) x .printing).prn =
      { s.prn with jobs := jobsStarted s.prn.jobs x } := by simp
  generalize hu : State.printEntry (s.setPrn { s.prn with jobs := jobsStarted s.prn.jobs x }) x .printing = u at hprn
  have made' : LinkAct [⟨evPrintState, 0, bytePair x.record 1, word x.linesTaken⟩] s u := hu ▸ made
  have hlink : u.prn.link = .ready := by rw [hprn]; exact hready
  have sent := LinkAct.setLink u .sending
  rw [hlink] at sent
  refine ⟨(made'.after sent).after (LinkAct.sendNewLine _ _ _), ?_⟩
  rw [State.sendNewLine_eq, State.setPrn_prn, u.setLink_prn (by rw [hlink]; decide), hprn]
  rfl

end

/-! ## PRINT (R181, R182) -/

section
variable (s : State) (n : Nat)

/-- The first check of R181 that fails, with its outcome and detail; none when a PRINT passes them all. -/
def State.printRefusal (n : Nat) : Option (ReqOutcome × Detail) :=
  if 3 < (s.param n 0).toNat then some (.badParam, .param 1)
  else if 1 < (s.param n 1).toNat then some (.badParam, .param 2)
  else if (s.cert (s.param n 0).toNat).state = .empty then some (.refusedState, .empty)
  else if (s.cert (s.param n 0).toNat).state = .composing then some (.refusedState, .composing)
  else if 8 ≤ s.prn.jobs.length then some (.refusedBusy, .spoolFull)
  else none

/-- A PRINT in slot n is completed at once with an outcome and a detail (R181). -/
def State.refusePrint (r : ReqOutcome × Detail) : State := s.complete n 9 r.1 r.2 []

/-- A PRINT that fails a check completes its slot with the outcome of the first one that fails (R181). -/
theorem State.takePrint_refused (hread : s.stateRead = s) (r : ReqOutcome × Detail) (h : s.printRefusal n = some r) :
    s.takePrint n = s.refusePrint n r := by
  unfold State.printRefusal at h
  simp only [State.takePrint, hread]
  refine refused_step (s.refusePrint n) (by rfl) h fun fromFlag => ?_
  refine refused_step (s.refusePrint n) (by rfl) fromFlag fun fromEmpty => ?_
  refine refused_step (s.refusePrint n) (by rfl) fromEmpty fun fromComposing => ?_
  refine refused_step (s.refusePrint n) (by rfl) fromComposing fun fromSpool => ?_
  exact refused_step (s.refusePrint n) (by rfl) fromSpool nofun

/-- A PRINT that passes every check makes its job (R181, R182). -/
theorem State.takePrint_passed (hread : s.stateRead = s) (h : s.printRefusal n = none) :
    s.takePrint n = s.createJob n (s.param n 0).toNat ((s.param n 1).toNat == 1) := by
  obtain ⟨hrecord, fromFlag⟩ := passed_step h
  obtain ⟨hflag, fromEmpty⟩ := passed_step fromFlag
  obtain ⟨hempty, fromComposing⟩ := passed_step fromEmpty
  obtain ⟨hcomposing, fromSpool⟩ := passed_step fromComposing
  obtain ⟨hspool, -⟩ := passed_step fromSpool
  simp only [State.takePrint, hread]
  rw [if_neg hrecord, if_neg hflag, if_neg hempty, if_neg hcomposing, if_neg hspool]

/-- The job of a PRINT of record k (R182). -/
def State.newJob (k : Nat) (noRetry : Bool) : Job := ⟨n, k, s.classFor k, noRetry, .queued, false, 0⟩

/-- The state with the job of a PRINT at the end of the list and its slot ACTIVE (R182). -/
def State.queued (k : Nat) (noRetry : Bool) : State :=
  (s.setPrn { s.prn with jobs := s.prn.jobs ++ [s.newJob n k noRetry] }).activate n .print

theorem State.createJob_eq (k : Nat) (noRetry : Bool) : s.createJob n k noRetry =
    if s.prn.link = .ready then (s.queued n k noRetry).selectJob else s.queued n k noRetry := rfl

theorem State.classFor_eq (k : Nat) : s.classFor k =
    if (s.cert k).printCount = 0 ∧ ∀ j ∈ s.prn.jobs, j.record ≠ k then .original else .copy := by
  simp [State.classFor]

theorem State.queued_active (k : Nat) (noRetry : Bool) (hn : n < s.slots.length) (hw : Memory.wf s.mem) :
    BecameActive s (s.queued n k noRetry) n .print := State.activate_active s (s.setPrn _) n .print rfl hn hw

theorem State.queued_kept (k : Nat) (noRetry : Bool) : KeepsAllBut [.mem, .slots, .prn] s (s.queued n k noRetry) := by
  intro p hp
  cases p <;> simp_all [Part.same, State.queued, State.activate, State.setHeld]

theorem State.queued_prn (k : Nat) (noRetry : Bool) :
    (s.queued n k noRetry).prn = { s.prn with jobs := s.prn.jobs ++ [s.newJob n k noRetry] } := rfl

/-- A queued job stands behind no image (R196). -/
theorem publish_queued (k : Nat) (noRetry : Bool) : publish s (s.queued n k noRetry) = s.queued n k noRetry :=
  publish_same s _ rfl rfl rfl rfl rfl

/-- A PRINT that makes its job on a READY link without jobs starts it at once (R182, R183). -/
theorem printStarted (k : Nat) (noRetry : Bool) (hn : n < s.slots.length) (hw : Memory.wf s.mem) (hready : s.prn.link = .ready)
    (hjobs : s.prn.jobs = []) : let t := publish s (s.createJob n k noRetry)
    t.prn.jobs = [⟨n, k, s.classFor k, noRetry, .printing, false, 0⟩] ∧ LineSent s t ((s.cert k).text (s.classFor k) 1) ∧
    t.prn.cancelLine = false ∧ BecameActive s t n .print ∧ EntryMade s t evPrintState 0 (bytePair k 1) 0 ∧
    KeepsAllBut [.mem, .jr, .att, .slots, .prn] s t := by
  have hprn := s.queued_prn n k noRetry
  have hkept := s.queued_kept n k noRetry
  have hactive := s.queued_active n k noRetry hn hw
  have hlogged : Logged s (s.queued n k noRetry) [] :=
    Logged.activate ((Logged.refl s).same (t := s.setPrn { s.prn with jobs := s.prn.jobs ++ [s.newJob n k noRetry] }) rfl rfl rfl) n .print
  have hcomp : (s.queued n k noRetry).comp = s.comp := hkept .comp (by decide)
  have hcert : (s.queued n k noRetry).cert k = s.cert k := by rw [State.cert, hcomp, State.cert]
  rw [hjobs, List.nil_append] at hprn
  rw [s.createJob_eq, if_pos hready]
  generalize s.queued n k noRetry = w at *
  have hselected : jobSelected w.prn.jobs = some (s.newJob n k noRetry) := by
    rw [hprn]
    exact jobSelected_single rfl
  have hwlink : w.prn.link = .ready := by rw [hprn]; exact hready
  obtain ⟨hact, hsent⟩ := w.selectJob_sent hselected hwlink
  have hrecord : (s.newJob n k noRetry).record = k := rfl
  have hcls : (s.newJob n k noRetry).cls = s.classFor k := rfl
  rw [hprn, hrecord, hcert, hcls] at hsent
  refine ⟨by simp [hsent, jobsStarted, State.newJob], ⟨by simp [hsent], by simp [hsent], by simp [hsent], by simp [hsent], by simp [hsent]⟩,
    by simp [hsent], hact.becameActive hactive s, ((hact.logged hlogged).publish s).entryMade hw, ?_⟩
  have hall := (hkept.mono (l' := [.mem, .jr, .att, .slots, .prn]) (by decide)).trans (hact.kept.mono (by decide))
  exact hall.publish (by decide) s

/-- A job that starts, or waits, leaves the words of the certificate records alone (R173, R182). -/
theorem createJob_states {s r : State} (hr : Memory.wf r.mem) {n : Nat} (hn : n < 16)
    (hread : ∀ k, k < 4 → Memory.readWord r.mem (certBase k) = (r.cert k).stateWord) (j : Nat) (noRetry : Bool) {k : Nat} (hk : k < 4) :
    let u := publish s (r.createJob n j noRetry)
    Memory.readWord u.mem (certBase k) = (u.cert k).stateWord ∧ u.cert k = r.cert k := by
  have hwf : Memory.wf (r.queued n j noRetry).mem := State.activate_wf (r.setPrn _) n .print hr
  have hbyte (a : Nat) (ha : certByte k a) : Memory.readByte (r.queued n j noRetry).mem a = Memory.readByte r.mem a :=
    State.activate_readByte (r.setPrn _) n .print a (certByte_apart ha hn).1
  have hcomp : (r.queued n j noRetry).comp = r.comp := r.queued_kept n j noRetry .comp (by decide)
  have job : ∃ es, LinkAct es (r.queued n j noRetry) (r.createJob n j noRetry) := by
    rw [r.createJob_eq]
    split
    next hready =>
      cases hs : jobSelected (r.queued n j noRetry).prn.jobs with
      | none =>
        rw [State.selectJob_none _ hs]
        exact ⟨[], .refl _⟩
      | some x => exact ⟨_, (State.selectJob_sent _ hs hready).1⟩
    next => exact ⟨[], .refl _⟩
  obtain ⟨es, hact⟩ := job
  generalize r.queued n j noRetry = w at *
  generalize r.createJob n j noRetry = u at *
  have hucomp : u.comp = r.comp := (hact.kept .comp (by decide)).trans hcomp
  have hcert : u.cert k = r.cert k := by rw [State.cert, hucomp, State.cert]
  refine ⟨publish_certState s ((hact.logged (Logged.refl w)).wf hwf) hk ?_, hcert⟩
  rw [hcert, ← hread k hk]
  refine Memory.readWord_congr _ _ _ fun b h1 h2 => ?_
  have hb := certWord_certByte k b h1 h2
  exact (hact.ring b (certByte_apart hb hn).2).trans (hbyte b hb)

/-- A PRINT, whatever becomes of it, shows every record in its word (R173). -/
theorem takePrint_states {s : State} (hl : s.comp.records.length = 4) (hw : Memory.wf s.mem) {n : Nat} (hn : n < 16) {k : Nat} (hk : k < 4) :
    let u := publish s (s.takePrint n)
    Memory.readWord u.mem (certBase k) = (u.cert k).stateWord ∧
      u.cert k = (s.cert k).followed (Memory.readWord s.mem (certBase k)) := by
  obtain ⟨hr, -, hread⟩ := s.stateRead_read hl hw
  have hrefuse (o : ReqOutcome) (d : Detail) := refused_states (s := s) hr hn (fun k hk => (hread k hk).2) 9 o d hk
  have hjob (j : Nat) (noRetry : Bool) := createJob_states (s := s) hr hn (fun k hk => (hread k hk).2) j noRetry hk
  have hfollowed := (hread k hk).1
  unfold State.takePrint
  dsimp only
  split_ifs
  case neg => exact And.imp_right (fun h => h.trans hfollowed) (hjob _ _)
  all_goals exact And.imp_right (fun h => h.trans hfollowed) (hrefuse _ _)

end

/-- Settles O23: the checks in their order, the queued job, the job that starts, and the state read of every taking. -/
theorem printRefusedOrQueued : Obligations.PrintRefusedOrQueued := by
  unfold Obligations.PrintRefusedOrQueued
  refine ⟨fun s n hslots hw ht hagree => ?checks, fun s n hslots hl hw ht => ?states⟩
  case checks =>
    intro k flag refusal
    have hn : n < s.slots.length := State.lowestPosted_lt s n ht.1
    have hread := s.stateRead_of_agrees hagree
    refine ⟨_, exec_takingOf_takes .print s n ht, fun o d hr => ?refused, fun hr hlink => ?queued, fun hr hlink hjobs => ?started⟩
    case refused =>
      rw [workOf, State.takePrint_refused s n hread (o, d) hr]
      exact completedAlone s n 9 o d [] hw
    case queued =>
      rw [workOf, State.takePrint_passed s n hread hr, s.createJob_eq, if_neg hlink, publish_queued]
      refine ⟨?_, s.queued_active n k _ hn hw, s.queued_kept n k _, fun a ha => State.activate_readByte _ n .print a ha⟩
      rw [s.queued_prn, State.newJob, s.classFor_eq]
    case started =>
      intro cls
      have hcls : s.classFor k = cls := by simp [s.classFor_eq, hjobs, cls]
      rw [workOf, State.takePrint_passed s n hread hr, ← hcls]
      exact printStarted s n k _ hn hw hlink hjobs
  case states =>
    have hn : n < s.slots.length := State.lowestPosted_lt s n ht.1
    exact ⟨_, exec_takingOf_takes .print s n ht, fun k hk => takePrint_states hl hw (by omega) hk⟩

end Sys2Proof.Machine

/-! PROOFS. The end of a print job (R191), and the frames and the timers of the printer link (R186 to R189, R192). -/

namespace Sys2Proof.Machine

set_option Elab.async false

/-! ## The end of a job (R191) -/

/-- The result area of a PRINT: the class of the job with the lines taken, and the print count of its record (R211). -/
def Job.result (j : Job) (c : CertRecord) : List Word := [bytePair (codeOfClass j.cls) j.linesTaken, word c.printCount]

section
variable (s : State) (j : Job) (st : JobState) (o : ReqOutcome) (d : Detail)

/-- The state in which the print count stands as the end of a job leaves it, the job still in the list (R191). -/
def State.printed (s : State) (j : Job) (st : JobState) : State := if st = .done then s.countPrint j.record else s

theorem State.printed_kept : KeepsAllBut [.comp] s (s.printed j st) := by
  intro p hp
  unfold State.printed
  split <;> cases p <;> simp_all [Part.same]

theorem State.printed_mem : (s.printed j st).mem = s.mem := s.printed_kept j st .mem (by decide)

theorem State.printed_undone (h : st ≠ .done) : s.printed j st = s := if_neg h

/-- The state in which the slot of a job completes: its entry made, the job taken from the list (R191). -/
def State.jobGone (s : State) (j : Job) (st : JobState) : State :=
  ((s.printed j st).printEntry j st).setPrn { s.prn with
    jobs := s.prn.jobs.filter (fun x => x.slot != j.slot), cancelLine := s.prn.cancelLine && j.state != .printing }

theorem State.endJob_eq : s.endJob j st o d = (s.jobGone j st).complete j.slot 9 o d (j.result ((s.jobGone j st).cert j.record)) := by
  have hprn : ((s.printed j st).printEntry j st).prn = s.prn :=
    Eq.trans (by simp) (show (s.printed j st).prn = s.prn from s.printed_kept j st .prn (by decide))
  unfold State.jobGone
  rw [← hprn]
  rfl

theorem State.jobGone_comp : (s.jobGone j st).comp = (s.printed j st).comp := by simp [State.jobGone]

theorem State.endJob_prn : (s.endJob j st o d).prn = { s.prn with
    jobs := s.prn.jobs.filter (fun x => x.slot != j.slot), cancelLine := s.prn.cancelLine && j.state != .printing } := by
  rw [State.endJob_eq]
  simp [State.jobGone]

theorem State.endJob_comp : (s.endJob j st o d).comp = (s.printed j st).comp := by
  rw [State.endJob_eq]
  simp [State.jobGone]

theorem Logged.jobGone {σ : State} {l : List JournalEntry} (h : Logged σ s l) :
    Logged σ (s.jobGone j st) (l ++ [⟨evPrintState, 0, bytePair j.record (codeOfJob st), word j.linesTaken⟩]) := by
  have printed : Logged σ (s.printed j st) l := h.same (s.printed_mem j st) (s.printed_kept j st .jr (by decide))
    (s.printed_kept j st .time (by decide))
  exact (printed.produce evPrintState 0 _ _).same rfl rfl rfl

/-- The two entries of the end of a job (R191, R200). -/
theorem Logged.endJob {σ : State} {l : List JournalEntry} (h : Logged σ s l) : Logged σ (s.endJob j st o d)
    (l ++ [⟨evPrintState, 0, bytePair j.record (codeOfJob st), word j.linesTaken⟩,
      ⟨evRequestDone, 0, bytePair j.slot 9, bytePair (codeOfDetail d) (codeOfOutcome o)⟩]) := by
  rw [State.endJob_eq]
  simpa using (h.jobGone s j st).complete j.slot 9 o d (j.result ((s.jobGone j st).cert j.record))

theorem State.endJob_done (hw : Memory.wf s.mem) :
    SlotDone (s.endJob j st o d) j.slot o d (j.result ((s.endJob j st o d).cert j.record)) := by
  have hcert : (s.endJob j st o d).cert j.record = (s.jobGone j st).cert j.record := by
    rw [State.cert, State.endJob_comp, State.cert, State.jobGone_comp]
  rw [hcert, State.endJob_eq]
  exact State.complete_done _ _ _ _ _ _ (((Logged.refl s).jobGone s j st).wf hw)

/-- The end of a job with what the link does behind it: the slot's outcome, the entries, the certificate records. -/
theorem endJob_then {es : List JournalEntry} {v : State} (old : State) (hact : LinkAct es (s.endJob j st o d) v) (hw : Memory.wf s.mem) :
    SlotDone (publish old v) j.slot o d (j.result ((publish old v).cert j.record)) ∧
    (publish old v).jr.produced = s.jr.produced + BitVec.ofNat 32 (2 + es.length) ∧
    (publish old v).comp = (s.printed j st).comp := by
  have hcomp : (publish old v).comp = (s.endJob j st o d).comp := hact.kept .comp (by decide)
  refine ⟨?_, ?_, hcomp.trans (s.endJob_comp j st o d)⟩
  · have hcert : (publish old v).cert j.record = (s.endJob j st o d).cert j.record := by rw [State.cert, hcomp, State.cert]
    rw [hcert]
    exact hact.slotDone (s.endJob_done j st o d hw) old
  · have := (hact.logged ((Logged.refl s).endJob s j st o d)).produced
    rw [List.nil_append, List.length_append, List.length_cons, List.length_singleton] at this
    exact this

end

/-! ## The job in hand -/

section
variable {s : State} {j : Job}

theorem State.printing_single (h : s.prn.jobs = [j]) (hj : j.state = .printing) : s.printing = some j := by
  simp [State.printing, h, hj]

theorem State.failJob_none (d : Detail) (h : s.prn.jobs = []) : s.failJob d = s := by
  simp [State.failJob, State.printing, h]

theorem State.failJob_failed (d : Detail) (h : s.printing = some j) (hc : j.cancelMark = false) :
    s.failJob d = s.endJob j .failed .failed d := by
  simp [State.failJob, h, hc]

theorem State.failJob_cancelled (d : Detail) (h : s.printing = some j) (hc : j.cancelMark = true) :
    s.failJob d = s.endJob j .cancelled .aborted .none := by
  simp [State.failJob, h, hc]

/-- The list after the end of its only job. -/
theorem filter_slot_self (h : s.prn.jobs = [j]) : s.prn.jobs.filter (fun x => x.slot != j.slot) = [] := by
  simp [h]

end

/-! ## Lines sent again (R187, R188, R192) -/

section
variable (s : State)

theorem State.setLink_sending_prn : (s.setLink .sending).prn =
    { s.prn with link := .sending, pollTimer := if s.prn.link = .sending then s.prn.pollTimer else none } := by
  by_cases h : s.prn.link = .sending
  · rw [s.setLink_self h, if_pos h, ← h]
  · rw [s.setLink_prn h, if_neg h]
    rfl

theorem State.resendLine_act : LinkAct (linkEntries s.prn.link .sending) s s.resendLine :=
  (LinkAct.setLink s .sending).after (LinkAct.sendLine _)

theorem State.resendLine_prn : s.resendLine.prn =
    { s.prn with
      link := .sending, pollTimer := if s.prn.link = .sending then s.prn.pollTimer else none, replyTimer := none, busyTimer := none
      wire := some (.line (printerFrame s.prn.sequence s.prn.text)) } := by
  rw [State.resendLine, State.sendLine_eq, State.setPrn_prn, State.setLink_sending_prn]

theorem State.sendCancelled_act : LinkAct (linkEntries s.prn.link .sending) s s.sendCancelled :=
  (LinkAct.setLink s .sending).after (LinkAct.sendNewLine _ _ _)

theorem State.sendCancelled_prn : s.sendCancelled.prn =
    { s.prn with
      link := .sending, pollTimer := if s.prn.link = .sending then s.prn.pollTimer else none, sequence := s.prn.sequence + 1
      text := cancelledWord, cancelLine := true, crcResends := 0, replyTimer := none, busyTimer := none
      wire := some (.line (printerFrame (s.prn.sequence + 1) cancelledWord)) } := by
  rw [State.sendCancelled, State.sendNewLine_eq, State.setPrn_prn, State.setLink_sending_prn]
  rfl

theorem linkEntries_sending {l : LinkState} (h : l = .waitReply ∨ l = .sending) : linkEntries l .sending = [] := by
  rcases h with rfl | rfl <;> rfl

theorem State.afterExchange_act (m : Bool) (h : s.prn.link = .waitReply ∨ s.prn.link = .sending) : LinkAct [] s (s.afterExchange m) := by
  have resent := s.resendLine_act
  have sent := s.sendCancelled_act
  rw [linkEntries_sending h] at resent sent
  rw [State.afterExchange]
  split
  · exact sent
  · exact resent

theorem State.afterExchange_resent {m : Bool} (h : m = false ∨ s.prn.cancelLine = true) : s.afterExchange m = s.resendLine :=
  if_neg (by rcases h with h | h <;> simp [h])

theorem State.afterExchange_cancelled (h : s.prn.cancelLine = false) : s.afterExchange true = s.sendCancelled :=
  if_pos (by simp [h])

end

/-! ## Frames and timers -/

section
variable {s : State} {j : Job}

/-- Part of the printer alone: no image shows what changes (R196). -/
theorem publish_setPrn (s : State) (x : Printer) (h : x.link = s.prn.link) : publish s (s.setPrn x) = s.setPrn x :=
  publish_same s _ (by simp [headerWords, State.faultsOf, h]; rfl) rfl rfl rfl rfl

/-- A line has left the line (R186). -/
theorem lineFrameSent (b : List Byte) (hwire : s.prn.wire = some (.line b)) (hlink : s.prn.link = .sending) :
    ∃ t, exec .printerFrameSent s = .next t ∧
      t.prn = { s.prn with wire := none, replyTimer := some (s.clk.ms + 500), link := .waitReply, pollTimer := none } ∧
      KeepsAllBut [.prn, .mem] s t := by
  have hleft : s.frameLeft = (s.setPrn { s.prn with wire := none, replyTimer := some (s.clk.ms + 500) }).setLink .waitReply := by
    rw [State.frameLeft, hwire]
    rfl
  have hne : (s.setPrn { s.prn with wire := none, replyTimer := some (s.clk.ms + 500) }).prn.link ≠ .waitReply := by
    rw [State.setPrn_prn, hlink]
    decide
  have act := LinkAct.setLink (s.setPrn { s.prn with wire := none, replyTimer := some (s.clk.ms + 500) }) .waitReply
  rw [State.setPrn_prn, hlink] at act
  refine ⟨_, congrArg (fun t => Host.Outcome.next (publish s t)) hleft, ?_, (act.before (LinkAct.setPrn s _)).published s⟩
  exact (State.setLink_prn _ hne).trans rfl

/-- A poll has left the line (R186). -/
theorem pollFrameSent (b : List Byte) (hwire : s.prn.wire = some (.poll b)) : exec .printerFrameSent s = .next (s.setPrn
    { s.prn with wire := none, replyTimer := some (s.clk.ms + 500), pollWindow := true }) := by
  have hleft : s.frameLeft = s.setPrn { s.prn with wire := none, replyTimer := some (s.clk.ms + 500), pollWindow := true } := by
    rw [State.frameLeft, hwire]
    rfl
  exact congrArg Host.Outcome.next ((congrArg (publish s) hleft).trans (publish_setPrn s _ rfl))

/-- The poll timer expires (R189). -/
theorem pollSent (h : s.expired s.prn.pollTimer = true) : exec .pollTimerExpiry s = .next (s.setPrn { s.prn with
    wire := some (.poll (printerFrame s.prn.sequence []))
    pollTimer := some (s.clk.ms + if s.prn.link = .pausedPaper then 1000 else 2000) }) := by
  have hperiod : pollPeriod s.prn.link = if s.prn.link = .pausedPaper then 1000 else 2000 := by cases s.prn.link <;> rfl
  have hpoll : s.sendPoll = s.setPrn { s.prn with
      wire := some (.poll (printerFrame s.prn.sequence []))
      pollTimer := some (s.clk.ms + if s.prn.link = .pausedPaper then 1000 else 2000) } := by
    rw [← hperiod]
    rfl
  exact congrArg Host.Outcome.next ((congrArg (publish s) ((if_pos h).trans hpoll)).trans (publish_setPrn s _ rfl))

/-- The state with one more missing reply (R188). -/
def State.missed (s : State) : State := s.setPrn { s.prn with replyTimer := none, noReplies := s.prn.noReplies + 1 }

theorem exec_lineSilent (hlink : s.prn.link = .waitReply) (h : s.expired s.prn.replyTimer = true) : exec .printerReplyTimeout s =
    .next (publish s (if s.prn.noReplies + 1 < 3 then s.missed.afterExchange ((s.printing.map (·.cancelMark)).getD false)
      else (s.missed.failJob .noReply).setLink .offline)) := by
  have hlate : s.replyLate = true := h
  exact congrArg (fun t => Host.Outcome.next (publish s t)) ((if_pos hlate).trans (if_pos hlink))

/-- The link goes OFFLINE behind the end of its job (R188 to R190). -/
theorem jobEnded_offline {u : State} {st : JobState} {o : ReqOutcome} {d : Detail} (hjobs : u.prn.jobs = [j]) (hj : j.state = .printing)
    (hlink : u.prn.link ≠ .offline) (hw : Memory.wf u.mem) : let t := publish s ((u.endJob j st o d).setLink .offline)
    t.prn.link = .offline ∧ t.prn.jobs = [] ∧ t.prn.cancelLine = false ∧ t.prn.noReplies = 0 ∧
    t.prn.pollTimer = some (u.clk.ms + 2000) ∧ t.att.bits.getLsbD 6 = true ∧ t.comp = (u.printed j st).comp ∧
    t.jr.produced = u.jr.produced + 3 ∧ SlotDone t j.slot o d (j.result (t.cert j.record)) := by
  have hne : (u.endJob j st o d).prn.link ≠ .offline := by rw [State.endJob_prn]; exact hlink
  obtain ⟨hdone, hproduced, hcomp⟩ := endJob_then u j st o d s (LinkAct.setLink (u.endJob j st o d) .offline) hw
  have hlen : (linkEntries (u.endJob j st o d).prn.link .offline).length = 1 := by
    rw [linkEntries, if_neg (Ne.symm hne)]
    rfl
  have hprn := (u.endJob j st o d).setLink_prn hne
  rw [u.endJob_prn, filter_slot_self hjobs, hj] at hprn
  rw [hlen] at hproduced
  refine ⟨?_, ?_, ?_, ?_, ?_, ?_, hcomp, hproduced, hdone⟩
  · simp [hprn, Printer.linked]
  · simp [hprn, Printer.linked]
  · simp [hprn, Printer.linked]
  · simp [hprn, Printer.linked]
  · simp [hprn, Printer.linked, polls, pollPeriod]
  · simpa using (u.endJob j st o d).setLink_attn hne rfl

/-- A line without a reply, its job not cancelled (R188). -/
theorem lineSilent_plain (hlink : s.prn.link = .waitReply) (hlate : s.expired s.prn.replyTimer = true) (hjobs : s.prn.jobs = [j])
    (hj : j.state = .printing) (hmark : j.cancelMark = false) (hw : Memory.wf s.mem) :
    ∃ t, exec .printerReplyTimeout s = .next t ∧
      (s.prn.noReplies + 1 < 3 →
        t.prn.link = .sending ∧ t.prn.wire = some (.line (printerFrame s.prn.sequence s.prn.text)) ∧
        t.prn.noReplies = s.prn.noReplies + 1 ∧ t.prn.crcResends = s.prn.crcResends ∧ t.prn.jobs = s.prn.jobs ∧
        KeepsAllBut [.prn, .mem] s t) ∧
      (3 ≤ s.prn.noReplies + 1 →
        t.prn.link = .offline ∧ t.prn.jobs = [] ∧ t.prn.noReplies = 0 ∧ t.att.bits.getLsbD 6 = true ∧
        SlotDone t j.slot .failed .noReply (j.result (s.cert j.record))) := by
  have hprinting := State.printing_single hjobs hj
  refine ⟨_, exec_lineSilent hlink hlate, fun h => ?again, fun h => ?ended⟩
  case again =>
    rw [if_pos h, hprinting, Option.map_some, Option.getD_some, hmark, State.afterExchange_resent _ (.inl rfl)]
    have act := s.missed.resendLine_act
    rw [linkEntries_sending (l := s.missed.prn.link) (.inl hlink)] at act
    have hprn := s.missed.resendLine_prn
    generalize s.missed.resendLine = u at *
    exact ⟨by simp [hprn], by simp [hprn, State.missed], by simp [hprn, State.missed], by simp [hprn, State.missed],
      by simp [hprn, State.missed], (act.before (LinkAct.setPrn s _)).published s⟩
  case ended =>
    rw [if_neg (Nat.not_lt.2 h), State.failJob_failed (s := s.missed) (j := j) .noReply hprinting hmark]
    obtain ⟨hoff, hgone, -, hzero, -, hattn, hcomp, -, hdone⟩ := jobEnded_offline (s := s) (u := s.missed) (j := j) (st := .failed)
      (o := .failed) (d := .noReply) hjobs hj (by rw [State.missed, State.setPrn_prn, hlink]; decide) hw
    rw [State.cert, hcomp] at hdone
    exact ⟨hoff, hgone, hzero, hattn, hdone⟩

/-- A line without a reply, its job cancelled (R188, R192). -/
theorem lineSilent_cancelled (hlink : s.prn.link = .waitReply) (hlate : s.expired s.prn.replyTimer = true) (hjobs : s.prn.jobs = [j])
    (hj : j.state = .printing) (hmark : j.cancelMark = true) (hw : Memory.wf s.mem) :
    ∃ t, exec .printerReplyTimeout s = .next t ∧
      (s.prn.noReplies + 1 < 3 →
        (s.prn.cancelLine = false → LineSent s t cancelledWord) ∧
        (s.prn.cancelLine = true → LineResent s t ∧ t.prn.crcResends = s.prn.crcResends) ∧
        t.prn.cancelLine = true ∧ t.prn.noReplies = s.prn.noReplies + 1 ∧ t.prn.jobs = s.prn.jobs ∧
        KeepsAllBut [.prn, .mem] s t) ∧
      (3 ≤ s.prn.noReplies + 1 →
        t.prn.link = .offline ∧ t.prn.jobs = [] ∧ t.prn.cancelLine = false ∧ t.prn.noReplies = 0 ∧
        t.att.bits.getLsbD 6 = true ∧ t.comp = s.comp ∧ SlotDone t j.slot .aborted .none (j.result (s.cert j.record))) := by
  have hprinting := State.printing_single hjobs hj
  refine ⟨_, exec_lineSilent hlink hlate, fun h => ?again, fun h => ?ended⟩
  case again =>
    rw [if_pos h, hprinting, Option.map_some, Option.getD_some, hmark]
    have act := (s.missed.afterExchange_act true (.inl hlink)).before (LinkAct.setPrn s _)
    cases hcancel : s.prn.cancelLine with
    | false =>
      rw [s.missed.afterExchange_cancelled hcancel] at act ⊢
      have hprn := s.missed.sendCancelled_prn
      generalize s.missed.sendCancelled = u at *
      exact ⟨fun _ => ⟨by simp [hprn], by simp [hprn, State.missed], by simp [hprn], by simp [hprn], by simp [hprn, State.missed]⟩, nofun,
        by simp [hprn], by simp [hprn, State.missed], by simp [hprn, State.missed], act.published s⟩
    | true =>
      rw [s.missed.afterExchange_resent (.inr hcancel)] at act ⊢
      have hprn := s.missed.resendLine_prn
      generalize s.missed.resendLine = u at *
      exact ⟨nofun, fun _ => ⟨⟨by simp [hprn], by simp [hprn, State.missed], by simp [hprn, State.missed], by simp [hprn, State.missed]⟩,
          by simp [hprn, State.missed]⟩,
        by simp [hprn, State.missed, hcancel], by simp [hprn, State.missed], by simp [hprn, State.missed], act.published s⟩
  case ended =>
    rw [if_neg (Nat.not_lt.2 h), State.failJob_cancelled (s := s.missed) (j := j) .noReply hprinting hmark]
    obtain ⟨hoff, hgone, hcancel, hzero, -, hattn, hcomp, -, hdone⟩ := jobEnded_offline (s := s) (u := s.missed) (j := j)
      (st := .cancelled) (o := .aborted) (d := .none) hjobs hj (by rw [State.missed, State.setPrn_prn, hlink]; decide) hw
    rw [State.cert, hcomp] at hdone
    exact ⟨hoff, hgone, hcancel, hzero, hattn, hcomp, hdone⟩

/-! ## Polls without a reply (R189) -/

theorem exec_pollSilent (hlink : s.prn.link = .pausedPaper ∨ s.prn.link = .offline) (h : s.expired s.prn.replyTimer = true) :
    exec .printerReplyTimeout s = .next (publish s s.pollSilent) := by
  have hlate : s.replyLate = true := h
  have hnot : ¬ s.prn.link = .waitReply := by rcases hlink with h | h <;> rw [h] <;> decide
  exact congrArg (fun t => Host.Outcome.next (publish s t)) ((if_pos hlate).trans (if_neg hnot))

/-- In PAUSED_PAPER the missing reply is counted; at the third the job, if there is one, ends and the link is OFFLINE. -/
theorem State.pollSilent_paused (hlink : s.prn.link = .pausedPaper) :
    s.pollSilent = if s.prn.noReplies + 1 < 3 then
      s.setPrn { s.prn with replyTimer := none, pollWindow := false, noReplies := s.prn.noReplies + 1 }
    else ((s.setPrn { s.prn with replyTimer := none, pollWindow := false, noReplies := s.prn.noReplies + 1 }).failJob .noReply).setLink
      .offline := if_pos hlink

end

/-- Settles O53: the frames that leave the line, the polls, the missing replies and the hold of a BUSY line. -/
theorem printerFramesAndTimers : Obligations.PrinterFramesAndTimers := by
  unfold Obligations.PrinterFramesAndTimers
  refine ⟨fun s b => lineFrameSent b, fun s b => pollFrameSent b, fun s h => pollSent h,
    fun s j hlink hlate hjobs hj hmark _ _ _ hw => lineSilent_plain hlink hlate hjobs hj hmark hw,
    fun s j hlink hlate hjobs hj hmark _ _ hw => lineSilent_cancelled hlink hlate hjobs hj hmark hw,
    fun s hlink hwin hlate => ?offline, fun s hlink hwin hlate hslots hw => ⟨fun h => ?counted, fun h hjobs => ?idle, fun j h hjobs hj hmark hslot => ?ended⟩,
    fun s j hdue hjobs hj hlink => ?busy⟩
  case offline =>
    have hsilent : s.pollSilent = s.setPrn { s.prn with replyTimer := none, pollWindow := false } :=
      if_neg (show ¬ s.prn.link = .pausedPaper by rw [hlink]; decide)
    exact (exec_pollSilent (.inr hlink) hlate).trans
      (congrArg Host.Outcome.next ((congrArg (publish s) hsilent).trans (publish_setPrn s _ rfl)))
  case counted =>
    exact (exec_pollSilent (.inl hlink) hlate).trans (congrArg Host.Outcome.next
      ((congrArg (publish s) ((State.pollSilent_paused hlink).trans (if_pos h))).trans (publish_setPrn s _ rfl)))
  case idle =>
    refine ⟨_, exec_pollSilent (.inl hlink) hlate, ?_⟩
    rw [State.pollSilent_paused hlink, if_neg (Nat.not_lt.2 h)]
    generalize hv : s.setPrn { s.prn with replyTimer := none, pollWindow := false, noReplies := s.prn.noReplies + 1 } = v
    have hvlink : v.prn.link = .pausedPaper := by rw [← hv]; exact hlink
    have act := LinkAct.setLink v .offline
    rw [hvlink] at act
    have hne : v.prn.link ≠ .offline := by rw [hvlink]; decide
    have counted : LinkAct [] s v := hv ▸ LinkAct.setPrn s _
    have hclk : v.clk = s.clk := counted.kept .clk (by decide)
    rw [State.failJob_none .noReply (by rw [← hv]; exact hjobs)]
    refine ⟨?_, ?_, ?_, (act.before counted).entryMade hw s, ?_, (act.before counted).published_loud s⟩
    · simp [v.setLink_prn hne, Printer.linked]
    · simp [v.setLink_prn hne, Printer.linked]
    · simp [v.setLink_prn hne, Printer.linked, hclk, polls, pollPeriod]
    · simpa using v.setLink_attn hne rfl
  case ended =>
    refine ⟨_, exec_pollSilent (.inl hlink) hlate, ?_⟩
    rw [State.pollSilent_paused hlink, if_neg (Nat.not_lt.2 h)]
    generalize hv : s.setPrn { s.prn with replyTimer := none, pollWindow := false, noReplies := s.prn.noReplies + 1 } = v
    have hvjobs : v.prn.jobs = [j] := by rw [← hv]; exact hjobs
    rw [State.failJob_failed .noReply (State.printing_single hvjobs hj) hmark]
    obtain ⟨hoff, hgone, -, -, -, -, hcomp, hproduced, hdone⟩ := jobEnded_offline (s := s) (u := v) (j := j) (st := .failed)
      (o := .failed) (d := .noReply) hvjobs hj (by rw [← hv, State.setPrn_prn, hlink]; decide) (by rw [← hv]; exact hw)
    have hvcomp : (v.printed j .failed).comp = s.comp := by rw [← hv]; rfl
    have hvjr : v.jr = s.jr := by rw [← hv]; rfl
    rw [State.cert, hcomp, hvcomp] at hdone
    rw [hvjr] at hproduced
    exact ⟨hoff, hgone, hproduced, hdone⟩
  case busy =>
    have hprinting := State.printing_single hjobs hj
    have hbusy : s.busyDue = true := hdue
    refine ⟨_, congrArg (fun t => Host.Outcome.next (publish s t)) (if_pos hbusy), ?_⟩
    rw [hprinting, Option.map_some, Option.getD_some]
    have act := s.afterExchange_act j.cancelMark (.inr hlink)
    by_cases hresent : j.cancelMark = false ∨ s.prn.cancelLine = true
    · rw [s.afterExchange_resent hresent] at act ⊢
      have hprn := s.resendLine_prn
      generalize s.resendLine = u at *
      refine ⟨by simp [hprn], by simp [hprn], fun _ => ⟨by simp [hprn], by simp [hprn]⟩, fun hc hl => ?_, act.published s⟩
      rcases hresent with h | h <;> simp_all
    · obtain ⟨hmark, hcancel⟩ : j.cancelMark = true ∧ s.prn.cancelLine = false := by simpa using hresent
      rw [hmark, s.afterExchange_cancelled hcancel] at act ⊢
      have hprn := s.sendCancelled_prn
      generalize s.sendCancelled = u at *
      exact ⟨by simp [hprn], by simp [hprn], fun h => absurd h (by simp [hcancel]), fun _ _ => ⟨by simp [hprn]; rfl, by simp [hprn]⟩,
        act.published s⟩

end Sys2Proof.Machine

/-! PROOFS. The text of a printed line (R184). -/

namespace Sys2Proof.Machine

set_option Elab.async false

/-! ## Columns and characters -/

theorem lineText_length (kind : LineKind) (fields : List PrintField) : (lineText kind fields).length = 48 := by
  simp [lineText]

/-- A character of a line is printable ASCII (R184). -/
theorem byteOfChar_range (c : Fin 95) : 32 ≤ (byteOfChar c).toNat ∧ (byteOfChar c).toNat ≤ 126 := by
  have hc := c.isLt
  have hnat : (byteOfChar c).toNat = c.val + 32 := by
    simp only [byteOfChar, BitVec.toNat_ofNat]
    omega
  omega

/-- The cells of a line without the spaces behind the last column (R184). -/
def lineCells (kind : LineKind) (fields : List PrintField) : List (Fin 95) :=
  (columns kind).flatMap fun c => columnCell kind c.1 c.2 ((fields[c.1]?.map (fieldChars kind c.1 c.2)).getD [])

theorem lineText_eq (kind : LineKind) (fields : List PrintField) :
    lineText kind fields = (lineCells kind fields ++ List.replicate 48 0).take 48 := rfl

/-- Cells that fit are followed by spaces up to 48 characters (R184). -/
theorem lineText_of_fits {kind : LineKind} {fields : List PrintField} (h : (lineCells kind fields).length ≤ 48) :
    lineText kind fields = lineCells kind fields ++ List.replicate (48 - (lineCells kind fields).length) 0 := by
  rw [lineText_eq, List.take_append, List.take_of_length_le h, List.take_replicate, Nat.min_eq_left (Nat.sub_le _ _)]

/-- A text as wide as its column fills it (R184). -/
theorem columnCell_full (kind : LineKind) (i w : Nat) (text : List (Fin 95)) (h : text.length = w) : columnCell kind i w text = text := by
  simp [columnCell, h]

/-- A free spelling fills its column (R184; log entry 32). -/
theorem spelling_fills (kind : LineKind) (i w : Nat) (f : PrintField) :
    columnCell kind i w (Config.spelling kind i f w).toList = (Config.spelling kind i f w).toList :=
  columnCell_full kind i w _ Vector.length_toList

theorem columnCell_length (kind : LineKind) (i w : Nat) (text : List (Fin 95)) (h : text.length ≤ w) :
    (columnCell kind i w text).length = w := by
  simp only [columnCell, List.length_append, List.length_replicate]
  omega

theorem map_byteOfChar_space (n : Nat) : (List.replicate n (0 : Fin 95)).map byteOfChar = List.replicate n 0x20 := by
  rw [List.map_replicate]
  rfl

/-! ## The three lines of the statement -/

section
variable (c : CertRecord) (cls : JobClass)

theorem CertRecord.line_mass : c.line cls (5 + 2 * c.axleCount) = (.massLine, [printed (c.mass.map Int.ofNat)]) := by
  simp only [CertRecord.line]
  rw [if_neg (by omega), if_neg (by omega), if_neg (by omega), if_neg (by omega), if_neg (by omega), if_pos trivial]

theorem CertRecord.line_number : c.line cls (9 + 2 * c.axleCount) = (.numberLine, [printedNat c.number]) := by
  simp only [CertRecord.line]
  rw [if_neg (by omega), if_neg (by omega), if_neg (by omega), if_neg (by omega), if_neg (by omega), if_neg (by omega),
    if_neg (by omega), if_neg (by omega), if_neg (by omega), if_pos trivial]

/-- The one column of a line with one field takes the spare characters (R184). -/
theorem columns_single {kind : LineKind} {w : Nat} (h : leastWidths kind = [w]) :
    columns kind = [(0, w + min (Config.columnSlack kind 0) (48 - w))] := by
  simp [columns, h, columnsFrom]

theorem lineCells_single {kind : LineKind} {w : Nat} (h : leastWidths kind = [w]) (f : PrintField) :
    lineCells kind [f] = columnCell kind 0 (w + min (Config.columnSlack kind 0) (48 - w))
      (fieldChars kind 0 (w + min (Config.columnSlack kind 0) (48 - w)) f) := by
  simp [lineCells, columns_single h]

/-- An absent mass used is two hyphens among spaces (R184). -/
theorem massLine_absent : ∃ i, i ≤ 46 ∧
    (lineText .massLine [.absent]).map byteOfChar = List.replicate i 0x20 ++ [0x2D, 0x2D] ++ List.replicate (46 - i) 0x20 := by
  have hcells := lineCells_single (kind := .massLine) rfl .absent
  generalize hw : 6 + min (Config.columnSlack .massLine 0) (48 - 6) = w at hcells
  have habsent : fieldChars .massLine 0 w .absent = [13, 13] := rfl
  have hlen : (lineCells .massLine [.absent]).length = w := by
    rw [hcells, habsent]
    exact columnCell_length _ _ _ _ (by simp only [List.length_cons, List.length_nil]; omega)
  refine ⟨min (Config.columnIndent .massLine 0) (w - 2), by omega, ?_⟩
  rw [lineText_of_fits (by omega), hlen, hcells, habsent]
  generalize hi : min (Config.columnIndent .massLine 0) (w - 2) = i
  have hcell : columnCell .massLine 0 w [13, 13] = List.replicate i 0 ++ [13, 13] ++ List.replicate (w - i - 2) 0 := by
    rw [← hi]
    rfl
  have hsum : 46 - i = (w - i - 2) + (48 - w) := by omega
  rw [hcell, hsum, List.replicate_add]
  simp only [List.map_append, map_byteOfChar_space, List.append_assoc]
  rfl

/-- A certificate number stands uncut in its column (R184). -/
theorem numberLine_uncut (n : Nat) : ∃ w, w ≤ 48 ∧ 10 ≤ w ∧ (lineText .numberLine [printedNat n]).map byteOfChar =
    (Config.spelling .numberLine 0 (.figure n) w).toList.map byteOfChar ++ List.replicate (48 - w) 0x20 := by
  have hcells := lineCells_single (kind := .numberLine) rfl (printedNat n)
  generalize hw : 10 + min (Config.columnSlack .numberLine 0) (48 - 10) = w at hcells
  have hfield : fieldChars .numberLine 0 w (printedNat n) = (Config.spelling .numberLine 0 (.figure n) w).toList := rfl
  rw [hfield, spelling_fills] at hcells
  have hlen : (lineCells .numberLine [printedNat n]).length = w := by rw [hcells, Vector.length_toList]
  refine ⟨w, by omega, by omega, ?_⟩
  rw [lineText_of_fits (by omega), hlen, hcells, List.map_append, map_byteOfChar_space]

/-- Line 1 of a COPY holds the word COPY (R184). -/
theorem headingLine_copy (n : Nat) : ∃ i, i ≤ 44 ∧
    (((lineText .headingLine [.heading, printedNat n, .copyWord]).map byteOfChar).drop i).take 4 = [0x43, 0x4F, 0x50, 0x59] := by
  obtain ⟨w0, w1, w2, hcolumns, hsum, h2⟩ : ∃ w0 w1 w2, columns .headingLine = [(0, w0), (1, w1), (2, w2)] ∧ w0 + w1 + w2 ≤ 48 ∧ 4 ≤ w2 := by
    refine ⟨_, _, _, rfl, ?_, Nat.le_add_right 4 _⟩
    simp only [leastWidths, List.sum_cons, List.sum_nil]
    omega
  have hcells : lineCells .headingLine [.heading, printedNat n, .copyWord] =
      (Config.spelling .headingLine 0 .heading w0).toList ++ ((Config.spelling .headingLine 1 (printedNat n) w1).toList ++
        columnCell .headingLine 2 w2 copyChars) := by
    rw [← spelling_fills .headingLine 0 w0, ← spelling_fills .headingLine 1 w1]
    simp [lineCells, hcolumns, fieldChars, printedNat]
  generalize hi : min (Config.columnIndent .headingLine 2) (w2 - 4) = i
  have hcell : columnCell .headingLine 2 w2 copyChars = List.replicate i 0 ++ copyChars ++ List.replicate (w2 - i - 4) 0 := by
    rw [← hi]
    rfl
  generalize hA : (Config.spelling .headingLine 0 .heading w0).toList = A at hcells
  generalize hB : (Config.spelling .headingLine 1 (printedNat n) w1).toList = B at hcells
  have hAlen : A.length = w0 := hA ▸ Vector.length_toList
  have hBlen : B.length = w1 := hB ▸ Vector.length_toList
  have hfirst : (A ++ B ++ List.replicate i 0).length = w0 + w1 + i := by simp [hAlen, hBlen]; omega
  have hlen : (lineCells .headingLine [.heading, printedNat n, .copyWord]).length ≤ 48 := by
    rw [hcells, List.length_append, List.length_append, columnCell_length _ _ _ _ h2, hAlen, hBlen]
    omega
  refine ⟨w0 + w1 + i, by omega, ?_⟩
  rw [lineText_of_fits hlen, ← List.map_drop]
  generalize 48 - (lineCells .headingLine [.heading, printedNat n, .copyWord]).length = spare
  have hsplit : lineCells .headingLine [.heading, printedNat n, .copyWord] ++ List.replicate spare 0 =
      (A ++ B ++ List.replicate i 0) ++ (copyChars ++ (List.replicate (w2 - i - 4) 0 ++ List.replicate spare 0)) := by
    rw [hcells, hcell]
    simp only [List.append_assoc]
  rw [hsplit, List.drop_left' hfirst]
  rfl

/-- What R184 says of the text of a line. -/
theorem lineText_spelled (k : Nat) :
    (c.text cls k).length = 48 ∧ (∀ b ∈ c.text cls k, 32 ≤ b.toNat ∧ b.toNat ≤ 126) ∧
    (c.mass = none → k = 5 + 2 * c.axleCount → ∃ i, i ≤ 46 ∧
      c.text cls k = List.replicate i 0x20 ++ [0x2D, 0x2D] ++ List.replicate (46 - i) 0x20) ∧
    (k = 9 + 2 * c.axleCount → ∃ w, w ≤ 48 ∧ 10 ≤ w ∧ c.text cls k =
      (Config.spelling .numberLine 0 (.figure c.number) w).toList.map byteOfChar ++ List.replicate (48 - w) 0x20) ∧
    (∃ i, i ≤ 44 ∧ ((c.text .copy 1).drop i).take 4 = [0x43, 0x4F, 0x50, 0x59]) := by
  refine ⟨?_, fun b hb => ?_, ?_, ?_, headingLine_copy c.number⟩
  · rw [CertRecord.text, List.length_map, lineText_length]
  · obtain ⟨x, -, rfl⟩ := List.mem_map.1 hb
    exact byteOfChar_range x
  · rintro hmass rfl
    rw [CertRecord.text, c.line_mass, hmass]
    exact massLine_absent
  · rintro rfl
    rw [CertRecord.text, c.line_number]
    exact numberLine_uncut c.number

end

end Sys2Proof.Machine

/-! PROOFS. The printer's replies to lines and to polls (R186 to R192). -/

namespace Sys2Proof.Machine

set_option Elab.async false

/-! ## Replies reach the link (R186) -/

section
variable {s : State} {j x : Job}

theorem exec_lineReply (byte : Byte) (hlink : s.prn.link = .waitReply) :
    exec (.printerReply byte) s = .next (publish s (s.replyTaken.lineReply (replyOf byte))) :=
  congrArg (fun t => Host.Outcome.next (publish s t)) (if_pos hlink)

theorem exec_pollReply (byte : Byte) (hlink : s.prn.link ≠ .waitReply) (hwin : s.prn.pollWindow = true) :
    exec (.printerReply byte) s = .next (publish s (s.replyTaken.pollReply (replyOf byte))) :=
  congrArg (fun t => Host.Outcome.next (publish s t)) ((if_neg hlink).trans (if_pos hwin))

/-- A byte that is none of the four other replies is CRC_BAD (R186). -/
theorem replyOf_other {byte : Byte} (h0 : byte ≠ 0x10) (h1 : byte ≠ 0x11) (h3 : byte ≠ 0x13) (h4 : byte ≠ 0x14) : replyOf byte = .crcBad := by
  rw [replyOf, if_neg h0, if_neg h1, if_neg h3, if_neg h4]

theorem State.lineReply_eq (r : Reply) (h : s.printing = some j) : s.lineReply r = match r with
    | .ready => s.lineReady j
    | .busy => s.lineBusy
    | .crcBad => s.lineBad j
    | .paperOut => s.linePaper j
    | .fault => (s.failJob .printerFault).setLink .offline := by
  cases r <;> simp [State.lineReply, h]

theorem LinkAct.replyTaken (s : State) : LinkAct [] s s.replyTaken := LinkAct.setPrn s _

/-! ## READY and the selection behind it (R183, R189) -/

theorem State.setLink_jobs (new : LinkState) : (s.setLink new).prn.jobs = s.prn.jobs := by
  by_cases h : s.prn.link = new
  · rw [s.setLink_self h]
  · rw [s.setLink_prn h]
    rfl

theorem State.enterReady_none (h : jobSelected s.prn.jobs = none) : s.enterReady = s.setLink .ready :=
  State.selectJob_none _ (by rw [State.setLink_jobs]; exact h)

/-- A link that enters READY with a QUEUED job selects it and sends its line 1 (R183, R185). -/
theorem State.enterReady_sent (h : jobSelected s.prn.jobs = some x) (hlink : s.prn.link ≠ .ready) :
    LinkAct (linkEntries s.prn.link .ready ++ [⟨evPrintState, 0, bytePair x.record 1, word x.linesTaken⟩]) s s.enterReady ∧
    s.enterReady.prn = { s.prn with
      jobs := jobsStarted s.prn.jobs x, link := .sending, pollTimer := none, sequence := s.prn.sequence + 1
      text := (s.cert x.record).text x.cls 1, cancelLine := false, crcResends := 0, replyTimer := none, busyTimer := none
      wire := some (.line (printerFrame (s.prn.sequence + 1) ((s.cert x.record).text x.cls 1))) } := by
  have hprn := s.setLink_prn hlink
  have act := LinkAct.setLink s .ready
  have hcomp : (s.setLink .ready).comp = s.comp := act.kept .comp (by decide)
  have hcert : (s.setLink .ready).cert x.record = s.cert x.record := by rw [State.cert, hcomp, State.cert]
  have hselected : jobSelected (s.setLink .ready).prn.jobs = some x := by rw [State.setLink_jobs]; exact h
  obtain ⟨hact, hsent⟩ := (s.setLink .ready).selectJob_sent hselected (by rw [hprn]; rfl)
  refine ⟨act.trans hact, hsent.trans ?_⟩
  rw [hcert, hprn]
  rfl

end

/-! ## The end of a job in an exchange (R187, R191) -/

section
variable {s u : State} {j x : Job} {st : JobState} {o : ReqOutcome} {d : Detail}

/-- The end of a job with the link in READY behind it, no job QUEUED (R183, R191). -/
theorem jobEnded_ready (hjobs : u.prn.jobs = [j]) (hj : j.state = .printing) (hlink : u.prn.link = .waitReply)
    (hw : Memory.wf u.mem) : let t := publish s ((u.endJob j st o d).enterReady)
    t.prn.link = .ready ∧ t.prn.jobs = [] ∧ t.prn.cancelLine = false ∧ t.comp = (u.printed j st).comp ∧
    t.jr.produced = u.jr.produced + 2 ∧ SlotDone t j.slot o d (j.result (t.cert j.record)) := by
  have hprn := u.endJob_prn j st o d
  rw [filter_slot_self hjobs, hj] at hprn
  have hne : (u.endJob j st o d).prn.link ≠ .ready := by rw [hprn, hlink]; decide
  have hlinked : (u.endJob j st o d).prn.link = .waitReply := by rw [hprn]; exact hlink
  have hnone : (u.endJob j st o d).enterReady = (u.endJob j st o d).setLink .ready :=
    State.enterReady_none (by rw [hprn]; rfl)
  have act := LinkAct.setLink (u.endJob j st o d) .ready
  rw [hlinked] at act
  obtain ⟨hdone, hproduced, hcomp⟩ := endJob_then u j st o d s act hw
  have hprn' := (u.endJob j st o d).setLink_prn hne
  rw [hprn] at hprn'
  rw [hnone]
  exact ⟨by simp [hprn', Printer.linked], by simp [hprn', Printer.linked], by simp [hprn', Printer.linked], hcomp, hproduced, hdone⟩

/-- The end of a job with a QUEUED one selected behind it (R183, R191). -/
theorem jobEnded_selected (hlink : u.prn.link = .waitReply) (hw : Memory.wf u.mem)
    (h : jobSelected (u.prn.jobs.filter fun y => y.slot != j.slot) = some x) :
    let t := publish s ((u.endJob j st o d).enterReady)
    LineSent u t (((u.printed j st).cert x.record).text x.cls 1) ∧
    t.prn.jobs = jobsStarted (u.prn.jobs.filter fun y => y.slot != j.slot) x ∧
    t.jr.produced = u.jr.produced + 3 ∧ SlotDone t j.slot o d (j.result (t.cert j.record)) := by
  have hprn := u.endJob_prn j st o d
  have hlinked : (u.endJob j st o d).prn.link = .waitReply := by rw [hprn]; exact hlink
  have hselected : jobSelected (u.endJob j st o d).prn.jobs = some x := by rw [hprn]; exact h
  obtain ⟨act, hsent⟩ := State.enterReady_sent hselected (by rw [hlinked]; decide)
  rw [hlinked] at act
  obtain ⟨hdone, hproduced, -⟩ := endJob_then u j st o d s act hw
  have hcert : (u.endJob j st o d).cert x.record = (u.printed j st).cert x.record := by rw [State.cert, State.endJob_comp, State.cert]
  rw [hcert, hprn] at hsent
  exact ⟨⟨by simp [hsent], by simp [hsent], by simp [hsent], by simp [hsent], by simp [hsent]⟩, by simp [hsent], hproduced, hdone⟩

/-- A raised print count changes no line of any record (R184, R191). -/
theorem State.countPrint_text (s : State) (r k : Nat) (cls : JobClass) (i : Nat) :
    ((s.countPrint r).cert k).text cls i = (s.cert k).text cls i := by
  rcases s.cert_setCert r k { s.cert r with printCount := min 65535 ((s.cert r).printCount + 1) } with ⟨hsame, -⟩ | ⟨hk, hset⟩
  · exact congrArg (fun c => CertRecord.text c cls i) hsame
  · subst hk
    exact (congrArg (fun c => CertRecord.text c cls i) hset).trans rfl

end

/-! ## READY to a line (R187, R191, R192) -/

/-- A job with one line more taken. -/
def Job.next (j : Job) : Job := { j with linesTaken := j.linesTaken + 1 }

/-- The state in which a line has been taken (R187). -/
def State.lineTaken (s : State) (j : Job) : State :=
  (s.setPrn { s.prn with crcResends := 0 }).updateJob j.slot fun _ => j.next

section
variable {s : State} {j x : Job}

theorem State.lineTaken_prn : (s.lineTaken j).prn =
    { s.prn with crcResends := 0, jobs := s.prn.jobs.map fun y => if y.slot = j.slot then j.next else y } := rfl

theorem LinkAct.lineTaken : LinkAct [] s (s.lineTaken j) := LinkAct.setPrn s _

theorem State.lineReady_eq (h : s.prn.cancelLine = false) : s.lineReady j =
    if (s.cert j.record).lineCount ≤ j.linesTaken + 1 then
      ((s.lineTaken j).endJob j.next .done .ok (if j.cancelMark then .lateCancel else .none)).enterReady
    else if j.cancelMark then (s.lineTaken j).sendCancelled
    else ((s.lineTaken j).setLink .sending).sendNewLine ((s.cert j.record).text j.cls (j.linesTaken + 2)) false := by
  rw [State.lineReady, h]
  rfl

theorem State.lineReady_cancelled (h : s.prn.cancelLine = true) : s.lineReady j = (s.endJob j .cancelled .aborted .none).enterReady := by
  rw [State.lineReady, h]
  rfl

/-- The other jobs are as they were when the list loses a job that has taken a line. -/
theorem filter_lineTaken (l : List Job) (j : Job) :
    (l.map fun y => if y.slot = j.slot then j.next else y).filter (fun y => y.slot != j.slot) = l.filter fun y => y.slot != j.slot := by
  induction l with
  | nil => rfl
  | cons y l ih =>
    have hnext : j.next.slot = j.slot := rfl
    by_cases hy : y.slot = j.slot
    · simp [hy, hnext, ih]
    · simp [hy, ih]

/-- The next line of a job is sent (R183, R187). -/
theorem nextLine_sent (old : State) (hlink : s.prn.link = .waitReply) (hjobs : s.prn.jobs = [j]) (text : List Byte) :
    let t := publish old (((s.lineTaken j).setLink .sending).sendNewLine text false)
    t.prn.jobs = [j.next] ∧ t.prn.link = .sending ∧ t.prn.crcResends = 0 ∧ t.prn.noReplies = s.prn.noReplies ∧
    t.prn.sequence = s.prn.sequence + 1 ∧ t.prn.text = text ∧
    t.prn.wire = some (.line (printerFrame t.prn.sequence t.prn.text)) ∧ KeepsAllBut [.prn, .mem] s t := by
  have act := LinkAct.setLink (s.lineTaken j) .sending
  rw [s.lineTaken_prn, hlink] at act
  have hprn := (s.lineTaken j).setLink_sending_prn
  rw [s.lineTaken_prn, hjobs] at hprn
  have sent := LinkAct.sendNewLine ((s.lineTaken j).setLink .sending) text false
  have hsent := congrArg State.prn (((s.lineTaken j).setLink .sending).sendNewLine_eq text false)
  rw [State.setPrn_prn, hprn] at hsent
  generalize ((s.lineTaken j).setLink .sending).sendNewLine text false = v at *
  exact ⟨by simp [hsent], by simp [hsent], by simp [hsent], by simp [hsent], by simp [hsent], by simp [hsent], by simp [hsent],
    ((act.before LinkAct.lineTaken).after sent).published old⟩

end

/-! ## The other replies to a line (R187, R190, R192) -/

section
variable {s u : State} {j x : Job}

/-- BUSY holds the line for 200 ms (R187). -/
theorem lineBusy_held (old : State) (hlink : u.prn.link = .waitReply) : let t := publish old u.lineBusy
    t.prn.link = .sending ∧ t.prn.busyTimer = some (u.clk.ms + 200) ∧ t.prn.jobs = u.prn.jobs ∧
    t.prn.crcResends = u.prn.crcResends ∧ t.prn.cancelLine = u.prn.cancelLine ∧ KeepsAllBut [.prn, .mem] u t := by
  have act := LinkAct.setLink u .sending
  rw [hlink] at act
  have hprn := u.setLink_sending_prn
  have hclk : (u.setLink .sending).clk = u.clk := act.kept .clk (by decide)
  have heq : u.lineBusy = (u.setLink .sending).setPrn { (u.setLink .sending).prn with busyTimer := some ((u.setLink .sending).clk.ms + 200) } := rfl
  rw [heq, hclk]
  generalize u.setLink .sending = v at *
  exact ⟨by simp [hprn], by simp, by simp [hprn], by simp [hprn], by simp [hprn], (act.after (LinkAct.setPrn v _)).published old⟩

/-- A line that is sent again after CRC_BAD, with one resend more (R187). -/
theorem lineBad_resent (old : State) (hlink : u.prn.link = .waitReply) (hmark : j.cancelMark = false ∨ u.prn.cancelLine = true)
    (hcrc : u.prn.crcResends < 2) (hretry : j.noRetry = false) : let t := publish old (u.lineBad j)
    t.prn.link = .sending ∧ t.prn.crcResends = u.prn.crcResends + 1 ∧ t.prn.jobs = u.prn.jobs ∧
    t.prn.wire = some (.line (printerFrame u.prn.sequence u.prn.text)) ∧ KeepsAllBut [.prn, .mem] u t := by
  have heq : u.lineBad j = (u.setPrn { u.prn with crcResends := u.prn.crcResends + 1 }).resendLine := by
    rw [State.lineBad, if_neg (by rcases hmark with h | h <;> simp [h]), if_pos (by simp [hcrc, hretry])]
  rw [heq]
  generalize hv : u.setPrn { u.prn with crcResends := u.prn.crcResends + 1 } = v
  have hvprn : v.prn = { u.prn with crcResends := u.prn.crcResends + 1 } := by rw [← hv]; rfl
  have counted : LinkAct [] u v := hv ▸ LinkAct.setPrn u _
  have act := v.resendLine_act
  rw [hvprn, hlink] at act
  have hprn := v.resendLine_prn
  rw [hvprn] at hprn
  generalize v.resendLine = w at *
  exact ⟨by simp [hprn], by simp [hprn], by simp [hprn], by simp [hprn], (act.before counted).published old⟩

/-- The job of a line that is not sent again ends (R187, R192). -/
theorem State.lineBad_ended (hmark : j.cancelMark = false ∨ u.prn.cancelLine = true) (h : 2 ≤ u.prn.crcResends ∨ j.noRetry = true) :
    u.lineBad j = (u.failJob .crc).enterReady := by
  rw [State.lineBad, if_neg (by rcases hmark with h | h <;> simp [h]), if_neg]
  rcases h with h | h
  · simp [Nat.not_lt.2 h]
  · simp [h]

theorem State.lineBad_cancelled (hmark : j.cancelMark = true) (hcancel : u.prn.cancelLine = false) : u.lineBad j = u.sendCancelled :=
  if_pos (by simp [hmark, hcancel])

/-- The CANCELLED line behind a line of a cancelled job (R192). -/
theorem sendCancelled_sent (old : State) (hlink : u.prn.link = .waitReply) : let t := publish old u.sendCancelled
    t.prn.link = .sending ∧ t.prn.cancelLine = true ∧ t.prn.jobs = u.prn.jobs ∧ t.prn.sequence = u.prn.sequence + 1 ∧
    t.prn.crcResends = 0 ∧ t.prn.wire = some (.line (printerFrame (u.prn.sequence + 1) cancelledWord)) ∧
    KeepsAllBut [.prn, .mem] u t := by
  have act := u.sendCancelled_act
  rw [hlink] at act
  have hprn := u.sendCancelled_prn
  generalize u.sendCancelled = w at *
  exact ⟨by simp [hprn], by simp [hprn], by simp [hprn], by simp [hprn], by simp [hprn], by simp [hprn], act.published old⟩

/-- A job ends with the link in PAUSED_PAPER behind it (R192). -/
theorem jobEnded_paused {st : JobState} {o : ReqOutcome} {d : Detail} (old : State) (hjobs : u.prn.jobs = [j]) (hj : j.state = .printing)
    (hlink : u.prn.link = .waitReply) (hw : Memory.wf u.mem) : let t := publish old ((u.endJob j st o d).setLink .pausedPaper)
    t.prn.link = .pausedPaper ∧ t.prn.jobs = [] ∧ t.prn.cancelLine = false ∧ t.comp = (u.printed j st).comp ∧
    SlotDone t j.slot o d (j.result (t.cert j.record)) := by
  have hprn := u.endJob_prn j st o d
  rw [filter_slot_self hjobs, hj] at hprn
  have hne : (u.endJob j st o d).prn.link ≠ .pausedPaper := by rw [hprn, hlink]; decide
  obtain ⟨hdone, -, hcomp⟩ := endJob_then u j st o d old (LinkAct.setLink (u.endJob j st o d) .pausedPaper) hw
  have hprn' := (u.endJob j st o d).setLink_prn hne
  rw [hprn] at hprn'
  exact ⟨by simp [hprn', Printer.linked], by simp [hprn', Printer.linked], by simp [hprn', Printer.linked], hcomp, hdone⟩

/-- PAPER_OUT to a line of a job that is not cancelled (R187, R190). -/
theorem linePaper_paused (old : State) (hlink : u.prn.link = .waitReply) (hmark : j.cancelMark = false) (hw : Memory.wf u.mem) :
    let t := publish old (u.linePaper j)
    t.prn.link = .pausedPaper ∧ t.prn.jobs = u.prn.jobs ∧ t.prn.pollTimer = some (u.clk.ms + 1000) ∧
    EntryMade u t evPrinterState 0 3 2 ∧ t.att.bits.getLsbD 6 = true := by
  have hne : u.prn.link ≠ .pausedPaper := by rw [hlink]; decide
  have heq : u.linePaper j = u.setLink .pausedPaper := by simp [State.linePaper, hmark]
  have act := LinkAct.setLink u .pausedPaper
  rw [hlink] at act
  rw [heq]
  refine ⟨by simp [u.setLink_prn hne, Printer.linked], by simp [u.setLink_jobs], by simp [u.setLink_prn hne, Printer.linked, polls, pollPeriod],
    act.entryMade hw old, by simpa using u.setLink_attn hne rfl⟩

end

end Sys2Proof.Machine

/-! PROOFS. The printer's replies, window by window: to a line, to the line of a cancelled job, and to a poll (R187, R189, R192). -/

namespace Sys2Proof.Machine

set_option Elab.async false

section
variable {s : State} {j : Job}

/-! ## What stands behind a reply (R186) -/

theorem State.replyTaken_prn (s : State) : s.replyTaken.prn = { s.prn with replyTimer := none, pollWindow := false, noReplies := 0 } := rfl

theorem State.replyTaken_kept (s : State) : KeepsAllBut [.prn, .mem] s s.replyTaken := ((LinkAct.replyTaken s).quiet rfl).mono (by decide)

theorem State.cert_countPrint (s : State) {k : Nat} (hk : k < s.comp.records.length) :
    ((s.countPrint k).cert k).printCount = min 65535 ((s.cert k).printCount + 1) := by
  rw [State.countPrint, s.cert_setCert_same hk]

/-! ## A line of a job that is not cancelled (R187, R191) -/

/-- The last line of a job is taken (R187, R191). -/
theorem lastLine_taken (hlink : s.prn.link = .waitReply) (hjobs : s.prn.jobs = [j]) (hj : j.state = .printing)
    (hlen : s.comp.records.length = 4) (hrec : j.record < 4) (hw : Memory.wf s.mem) (d : Detail) :
    let t := publish s ((s.replyTaken.lineTaken j).endJob j.next .done .ok d).enterReady
    t.prn.jobs = [] ∧ t.prn.link = .ready ∧
    (t.cert j.record).printCount = min 65535 ((s.cert j.record).printCount + 1) ∧
    t.jr.produced = s.jr.produced + 2 ∧
    SlotDone t j.slot .ok d [bytePair (codeOfClass j.cls) (j.linesTaken + 1), word (t.cert j.record).printCount] := by
  have hjobs' : (s.replyTaken.lineTaken j).prn.jobs = [j.next] := by simp [State.lineTaken_prn, State.replyTaken_prn, hjobs]
  obtain ⟨hready, hgone, -, hcomp, hproduced, hdone⟩ := jobEnded_ready (s := s) (u := s.replyTaken.lineTaken j) (j := j.next) (st := .done)
    (o := .ok) (d := d) hjobs' hj hlink hw
  refine ⟨hgone, hready, ?_, hproduced, hdone⟩
  rw [State.cert, hcomp]
  exact s.cert_countPrint (k := j.record) (by omega)

theorem plainReplies (hlink : s.prn.link = .waitReply) (hjobs : s.prn.jobs = [j]) (hj : j.state = .printing) (hmark : j.cancelMark = false)
    (hcancel : s.prn.cancelLine = false) (hlen : s.comp.records.length = 4) (hrec : j.record < 4) (hw : Memory.wf s.mem) :
    let lines := 10 + 2 * (s.cert j.record).axleCount
    (j.linesTaken + 1 < lines → ∃ t, exec (.printerReply 0x10) s = .next t ∧
      t.prn.jobs = [{ j with linesTaken := j.linesTaken + 1 }] ∧ t.prn.link = .sending ∧ t.prn.crcResends = 0 ∧
      t.prn.noReplies = 0 ∧ t.prn.sequence = s.prn.sequence + 1 ∧
      t.prn.text = (s.cert j.record).text j.cls (j.linesTaken + 2) ∧
      t.prn.wire = some (.line (printerFrame t.prn.sequence t.prn.text)) ∧ KeepsAllBut [.prn, .mem] s t) ∧
    (lines ≤ j.linesTaken + 1 → ∃ t, exec (.printerReply 0x10) s = .next t ∧
      t.prn.jobs = [] ∧ t.prn.link = .ready ∧
      (t.cert j.record).printCount = min 65535 ((s.cert j.record).printCount + 1) ∧
      t.jr.produced = s.jr.produced + 2 ∧
      SlotDone t j.slot .ok .none [bytePair (codeOfClass j.cls) (j.linesTaken + 1), word (t.cert j.record).printCount]) ∧
    (∃ t, exec (.printerReply 0x11) s = .next t ∧ t.prn.link = .sending ∧ t.prn.busyTimer = some (s.clk.ms + 200) ∧
      t.prn.jobs = s.prn.jobs ∧ t.prn.crcResends = s.prn.crcResends ∧ KeepsAllBut [.prn, .mem] s t) ∧
    (∀ byte, byte ≠ 0x10 → byte ≠ 0x11 → byte ≠ 0x13 → byte ≠ 0x14 → s.prn.crcResends < 2 → j.noRetry = false →
      ∃ t, exec (.printerReply byte) s = .next t ∧ t.prn.link = .sending ∧ t.prn.crcResends = s.prn.crcResends + 1 ∧
      t.prn.jobs = s.prn.jobs ∧ t.prn.wire = some (.line (printerFrame s.prn.sequence s.prn.text)) ∧
      KeepsAllBut [.prn, .mem] s t) ∧
    (∀ byte, byte ≠ 0x10 → byte ≠ 0x11 → byte ≠ 0x13 → byte ≠ 0x14 → 2 ≤ s.prn.crcResends ∨ j.noRetry = true →
      ∃ t, exec (.printerReply byte) s = .next t ∧ t.prn.link = .ready ∧ t.prn.jobs = [] ∧
      SlotDone t j.slot .failed .crc (j.result (s.cert j.record))) ∧
    (∃ t, exec (.printerReply 0x13) s = .next t ∧ t.prn.link = .pausedPaper ∧ t.prn.jobs = s.prn.jobs ∧
      t.prn.pollTimer = some (s.clk.ms + 1000) ∧ EntryMade s t evPrinterState 0 3 2 ∧ t.att.bits.getLsbD 6 = true) ∧
    (∃ t, exec (.printerReply 0x14) s = .next t ∧ t.prn.link = .offline ∧ t.prn.jobs = [] ∧
      t.prn.pollTimer = some (s.clk.ms + 2000) ∧ SlotDone t j.slot .failed .printerFault (j.result (s.cert j.record))) := by
  intro lines
  have hprinting : s.replyTaken.printing = some j := State.printing_single hjobs hj
  have hcount : (s.replyTaken.cert j.record).lineCount = lines := rfl
  have hreply (r : Reply) := State.lineReply_eq r hprinting
  have hkept := s.replyTaken_kept
  have hready := State.lineReady_eq (s := s.replyTaken) (j := j) hcancel
  refine ⟨fun h => ?next, fun h => ?last, ?busy, fun byte h0 h1 h3 h4 hcrc hretry => ?again, fun byte h0 h1 h3 h4 hend => ?crc, ?paper, ?fault⟩
  case next =>
    refine ⟨_, exec_lineReply 0x10 hlink, ?_⟩
    have hnext : s.replyTaken.lineReply (replyOf 0x10) = ((s.replyTaken.lineTaken j).setLink .sending).sendNewLine
        ((s.cert j.record).text j.cls (j.linesTaken + 2)) false := by
      refine (hreply .ready).trans (hready.trans ?_)
      rw [hcount, if_neg (Nat.not_le.2 h), hmark]
      rfl
    rw [hnext]
    obtain ⟨ht1, ht2, ht3, ht4, ht5, ht6, ht7, ht8⟩ := nextLine_sent (s := s.replyTaken) s hlink hjobs
      ((s.cert j.record).text j.cls (j.linesTaken + 2))
    exact ⟨ht1, ht2, ht3, ht4, ht5, ht6, ht7, hkept.trans ht8⟩
  case last =>
    refine ⟨_, exec_lineReply 0x10 hlink, ?_⟩
    have hlast : s.replyTaken.lineReply (replyOf 0x10) = ((s.replyTaken.lineTaken j).endJob j.next .done .ok .none).enterReady := by
      refine (hreply .ready).trans (hready.trans ?_)
      rw [hcount, if_pos h, hmark]
      rfl
    rw [hlast]
    exact lastLine_taken hlink hjobs hj hlen hrec hw .none
  case busy =>
    refine ⟨_, exec_lineReply 0x11 hlink, ?_⟩
    have hbusy : s.replyTaken.lineReply (replyOf 0x11) = s.replyTaken.lineBusy := hreply .busy
    rw [hbusy]
    obtain ⟨ht1, ht2, ht3, ht4, -, ht5⟩ := lineBusy_held (u := s.replyTaken) s hlink
    exact ⟨ht1, ht2, ht3, ht4, hkept.trans ht5⟩
  case again =>
    refine ⟨_, exec_lineReply byte hlink, ?_⟩
    rw [replyOf_other h0 h1 h3 h4, hreply .crcBad]
    obtain ⟨ht1, ht2, ht3, ht4, ht5⟩ := lineBad_resent (u := s.replyTaken) (j := j) s hlink (.inl hmark) hcrc hretry
    exact ⟨ht1, ht2, ht3, ht4, hkept.trans ht5⟩
  case crc =>
    refine ⟨_, exec_lineReply byte hlink, ?_⟩
    rw [replyOf_other h0 h1 h3 h4, hreply .crcBad]
    dsimp only
    rw [State.lineBad_ended (u := s.replyTaken) (.inl hmark) hend, State.failJob_failed .crc hprinting hmark]
    obtain ⟨hlinked, hgone, -, hcomp, -, hdone⟩ := jobEnded_ready (s := s) (u := s.replyTaken) (st := .failed) (o := .failed) (d := .crc)
      hjobs hj hlink hw
    rw [State.cert, hcomp] at hdone
    exact ⟨hlinked, hgone, hdone⟩
  case paper =>
    refine ⟨_, exec_lineReply 0x13 hlink, ?_⟩
    have hpaper : s.replyTaken.lineReply (replyOf 0x13) = s.replyTaken.linePaper j := hreply .paperOut
    rw [hpaper]
    exact linePaper_paused (u := s.replyTaken) s hlink hmark hw
  case fault =>
    refine ⟨_, exec_lineReply 0x14 hlink, ?_⟩
    have hfault : s.replyTaken.lineReply (replyOf 0x14) = (s.replyTaken.failJob .printerFault).setLink .offline := hreply .fault
    rw [hfault, State.failJob_failed .printerFault hprinting hmark]
    obtain ⟨hoff, hgone, -, -, hpoll, -, hcomp, -, hdone⟩ := jobEnded_offline (s := s) (u := s.replyTaken) (j := j) (st := .failed)
      (o := .failed) (d := .printerFault) hjobs hj (by rw [State.replyTaken_prn, hlink]; decide) hw
    rw [State.cert, hcomp] at hdone
    exact ⟨hoff, hgone, hpoll, hdone⟩

/-! ## A line of a cancelled job, and the CANCELLED line (R192) -/

/-- A cancelled job has ended between two states, with the link in a state behind it (R192). -/
def CancelEnded (s t : State) (j : Job) (l : LinkState) : Prop :=
  t.prn.link = l ∧ t.prn.jobs = [] ∧ t.prn.cancelLine = false ∧ t.comp = s.comp ∧
  SlotDone t j.slot .aborted .none [bytePair (codeOfClass j.cls) j.linesTaken, word (s.cert j.record).printCount]

theorem CancelEnded.of {t : State} {l : LinkState} (hlink : t.prn.link = l) (hjobs : t.prn.jobs = []) (hcancel : t.prn.cancelLine = false)
    (hcomp : t.comp = s.comp) (hdone : SlotDone t j.slot .aborted .none (j.result (t.cert j.record))) : CancelEnded s t j l := by
  rw [State.cert, hcomp] at hdone
  exact ⟨hlink, hjobs, hcancel, hcomp, hdone⟩

theorem cancelled_ready (hlink : s.prn.link = .waitReply) (hjobs : s.prn.jobs = [j]) (hj : j.state = .printing) (hw : Memory.wf s.mem) :
    CancelEnded s (publish s (s.replyTaken.endJob j .cancelled .aborted .none).enterReady) j .ready := by
  obtain ⟨hready, hgone, hcancel, hcomp, -, hdone⟩ := jobEnded_ready (s := s) (u := s.replyTaken) (st := .cancelled) (o := .aborted)
    (d := .none) hjobs hj hlink hw
  exact .of hready hgone hcancel hcomp hdone

/-- The CANCELLED line of a job with a number of lines taken has been sent between two states (R192). -/
def CancelSent (s t : State) (j : Job) (taken : Nat) : Prop :=
  t.prn.link = .sending ∧ t.prn.cancelLine = true ∧ t.prn.jobs = [{ j with linesTaken := taken }] ∧
  t.prn.sequence = s.prn.sequence + 1 ∧ t.prn.crcResends = 0 ∧
  t.prn.wire = some (.line (printerFrame (s.prn.sequence + 1) [0x43, 0x41, 0x4E, 0x43, 0x45, 0x4C, 0x4C, 0x45, 0x44])) ∧
  KeepsAllBut [.prn, .mem] s t

theorem cancelSent_of {u : State} {taken : Nat} (hlink : u.prn.link = .waitReply) (hkept : KeepsAllBut [.prn, .mem] s u)
    (hsequence : u.prn.sequence = s.prn.sequence) (hjobs : u.prn.jobs = [{ j with linesTaken := taken }]) :
    CancelSent s (publish s u.sendCancelled) j taken := by
  obtain ⟨ht1, ht2, ht3, ht4, ht5, ht6, ht7⟩ := sendCancelled_sent (u := u) s hlink
  rw [hsequence] at ht4 ht6
  exact ⟨ht1, ht2, ht3.trans hjobs, ht4, ht5, ht6, hkept.trans ht7⟩

/-- The replies to a line, or to the CANCELLED line, of a cancelled job (R192). -/
theorem cancelledReplies (hlink : s.prn.link = .waitReply) (hjobs : s.prn.jobs = [j]) (hj : j.state = .printing) (hmark : j.cancelMark = true)
    (hlen : s.comp.records.length = 4) (hrec : j.record < 4) (hw : Memory.wf s.mem) :
    let lines := 10 + 2 * (s.cert j.record).axleCount
    (s.prn.cancelLine = false → lines ≤ j.linesTaken + 1 → ∃ t, exec (.printerReply 0x10) s = .next t ∧
      t.prn.jobs = [] ∧ t.prn.link = .ready ∧
      (t.cert j.record).printCount = min 65535 ((s.cert j.record).printCount + 1) ∧
      SlotDone t j.slot .ok .lateCancel
        [bytePair (codeOfClass j.cls) (j.linesTaken + 1), word (t.cert j.record).printCount]) ∧
    (s.prn.cancelLine = false → j.linesTaken + 1 < lines → ∃ t, exec (.printerReply 0x10) s = .next t ∧
      CancelSent s t j (j.linesTaken + 1)) ∧
    (∀ byte, byte ≠ 0x10 → byte ≠ 0x11 → byte ≠ 0x13 → byte ≠ 0x14 → s.prn.cancelLine = false →
      ∃ t, exec (.printerReply byte) s = .next t ∧ CancelSent s t j j.linesTaken) ∧
    (s.prn.cancelLine = true → ∃ t, exec (.printerReply 0x10) s = .next t ∧ CancelEnded s t j .ready) ∧
    (∀ byte, byte ≠ 0x10 → byte ≠ 0x11 → byte ≠ 0x13 → byte ≠ 0x14 → s.prn.cancelLine = true →
      ∃ t, exec (.printerReply byte) s = .next t ∧
        (s.prn.crcResends < 2 → j.noRetry = false → t.prn.link = .sending ∧ t.prn.jobs = s.prn.jobs ∧
          t.prn.crcResends = s.prn.crcResends + 1 ∧ t.prn.wire = some (.line (printerFrame s.prn.sequence s.prn.text)) ∧
          KeepsAllBut [.prn, .mem] s t) ∧
        (2 ≤ s.prn.crcResends ∨ j.noRetry = true → CancelEnded s t j .ready)) ∧
    (∃ t, exec (.printerReply 0x11) s = .next t ∧ t.prn.link = .sending ∧ t.prn.busyTimer = some (s.clk.ms + 200) ∧
      t.prn.jobs = s.prn.jobs ∧ t.prn.cancelLine = s.prn.cancelLine ∧ KeepsAllBut [.prn, .mem] s t) ∧
    (∃ t, exec (.printerReply 0x13) s = .next t ∧ CancelEnded s t j .pausedPaper) ∧
    (∃ t, exec (.printerReply 0x14) s = .next t ∧ CancelEnded s t j .offline) := by
  intro lines
  have hprinting : s.replyTaken.printing = some j := State.printing_single hjobs hj
  have hcount : (s.replyTaken.cert j.record).lineCount = lines := rfl
  have hreply (r : Reply) := State.lineReply_eq r hprinting
  have hkept := s.replyTaken_kept
  have hjobs' : (s.replyTaken.lineTaken j).prn.jobs = [j.next] := by simp [State.lineTaken_prn, State.replyTaken_prn, hjobs]
  refine ⟨fun hc h => ?last, fun hc h => ?next, fun byte h0 h1 h3 h4 hc => ?bad, fun hc => ?ready, fun byte h0 h1 h3 h4 hc => ?crc, ?busy,
    ?paper, ?fault⟩
  case last =>
    have hlast : s.replyTaken.lineReply (replyOf 0x10) = ((s.replyTaken.lineTaken j).endJob j.next .done .ok .lateCancel).enterReady := by
      refine (hreply .ready).trans ((State.lineReady_eq (s := s.replyTaken) (j := j) hc).trans ?_)
      rw [hcount, if_pos h, hmark]
      rfl
    refine ⟨_, exec_lineReply 0x10 hlink, ?_⟩
    rw [hlast]
    obtain ⟨hgone, hready, hprinted, -, hdone⟩ := lastLine_taken hlink hjobs hj hlen hrec hw .lateCancel
    exact ⟨hgone, hready, hprinted, hdone⟩
  case next =>
    have hnext : s.replyTaken.lineReply (replyOf 0x10) = (s.replyTaken.lineTaken j).sendCancelled := by
      refine (hreply .ready).trans ((State.lineReady_eq (s := s.replyTaken) (j := j) hc).trans ?_)
      rw [hcount, if_neg (Nat.not_le.2 h), hmark]
      rfl
    refine ⟨_, exec_lineReply 0x10 hlink, ?_⟩
    rw [hnext]
    exact cancelSent_of (u := s.replyTaken.lineTaken j) hlink
      (hkept.trans ((LinkAct.lineTaken.quiet rfl).mono (by decide))) rfl hjobs'
  case bad =>
    have hbad : s.replyTaken.lineReply (replyOf byte) = s.replyTaken.sendCancelled := by
      rw [replyOf_other h0 h1 h3 h4, hreply .crcBad]
      exact State.lineBad_cancelled hmark hc
    refine ⟨_, exec_lineReply byte hlink, ?_⟩
    rw [hbad]
    exact cancelSent_of (u := s.replyTaken) hlink hkept rfl hjobs
  case ready =>
    have hready : s.replyTaken.lineReply (replyOf 0x10) = (s.replyTaken.endJob j .cancelled .aborted .none).enterReady :=
      (hreply .ready).trans (State.lineReady_cancelled hc)
    refine ⟨_, exec_lineReply 0x10 hlink, ?_⟩
    rw [hready]
    exact cancelled_ready hlink hjobs hj hw
  case crc =>
    have hbad : s.replyTaken.lineReply (replyOf byte) = s.replyTaken.lineBad j := by
      rw [replyOf_other h0 h1 h3 h4, hreply .crcBad]
    refine ⟨_, exec_lineReply byte hlink, ?_⟩
    rw [hbad]
    refine ⟨fun hcrc hretry => ?_, fun hend => ?_⟩
    · obtain ⟨ht1, ht2, ht3, ht4, ht5⟩ := lineBad_resent (u := s.replyTaken) (j := j) s hlink (.inr hc) hcrc hretry
      exact ⟨ht1, ht3, ht2, ht4, hkept.trans ht5⟩
    · rw [State.lineBad_ended (u := s.replyTaken) (.inr hc) hend, State.failJob_cancelled .crc hprinting hmark]
      exact cancelled_ready hlink hjobs hj hw
  case busy =>
    have hbusy : s.replyTaken.lineReply (replyOf 0x11) = s.replyTaken.lineBusy := hreply .busy
    refine ⟨_, exec_lineReply 0x11 hlink, ?_⟩
    rw [hbusy]
    obtain ⟨ht1, ht2, ht3, -, ht4, ht5⟩ := lineBusy_held (u := s.replyTaken) s hlink
    exact ⟨ht1, ht2, ht3, ht4, hkept.trans ht5⟩
  case paper =>
    have hpaper : s.replyTaken.lineReply (replyOf 0x13) = (s.replyTaken.endJob j .cancelled .aborted .none).setLink .pausedPaper := by
      refine (hreply .paperOut).trans (congrArg (fun u => State.setLink u .pausedPaper) ?_)
      rw [if_pos hmark]
      exact State.failJob_cancelled .none hprinting hmark
    refine ⟨_, exec_lineReply 0x13 hlink, ?_⟩
    rw [hpaper]
    obtain ⟨hpaused, hgone, hcancel, hcomp, hdone⟩ := jobEnded_paused (u := s.replyTaken) (st := .cancelled) (o := .aborted) (d := .none) s
      hjobs hj hlink hw
    exact .of hpaused hgone hcancel hcomp hdone
  case fault =>
    have hfault : s.replyTaken.lineReply (replyOf 0x14) = (s.replyTaken.endJob j .cancelled .aborted .none).setLink .offline :=
      (hreply .fault).trans (congrArg (fun u => State.setLink u .offline) (State.failJob_cancelled .printerFault hprinting hmark))
    refine ⟨_, exec_lineReply 0x14 hlink, ?_⟩
    rw [hfault]
    obtain ⟨hoff, hgone, hcancel, -, -, -, hcomp, -, hdone⟩ := jobEnded_offline (s := s) (u := s.replyTaken) (j := j) (st := .cancelled)
      (o := .aborted) (d := .none) hjobs hj (by rw [State.replyTaken_prn, hlink]; decide) hw
    exact .of hoff hgone hcancel hcomp hdone

/-! ## A poll in OFFLINE (R189, R190) -/

/-- A change of the link state that makes one entry. -/
theorem linkChanged {u : State} {old new : LinkState} (hkept : LinkAct [] s u) (hlink : u.prn.link = old) (hne : old ≠ new)
    (hloud : (polls new || polls old) = true) (hw : Memory.wf s.mem) : let t := publish s (u.setLink new)
    t.prn = u.prn.linked s.clk.ms new ∧ EntryMade s t evPrinterState 0 (word (codeOfLink new)) (word (codeOfLink old)) ∧
    KeepsAllBut [.prn, .mem, .jr, .att] s t := by
  have act := LinkAct.setLink u new
  have hentries : linkEntries old new = [⟨evPrinterState, 0, word (codeOfLink new), word (codeOfLink old)⟩] := by
    rw [linkEntries, if_neg (Ne.symm hne), if_pos hloud]
  have hclk : u.clk = s.clk := hkept.kept .clk (by decide)
  rw [hlink, hentries] at act
  exact ⟨by simp [u.setLink_prn (new := new) (by rw [hlink]; exact hne), hclk], (act.before hkept).entryMade hw s, (act.before hkept).published_loud s⟩

theorem State.pollReply_offline (r : Reply) (h : s.prn.link = .offline) : s.pollReply r = match r with
    | .ready => s.enterReady
    | .paperOut => s.setLink .pausedPaper
    | .busy | .crcBad | .fault => s := by
  cases r <;> simp [State.pollReply, h]

theorem State.pollReply_paused (r : Reply) (h : s.prn.link = .pausedPaper) : s.pollReply r = match r with
    | .ready => s.pausedReady
    | .fault => (s.failJob .printerFault).setLink .offline
    | .paperOut | .busy | .crcBad => s := by
  cases r <;> simp [State.pollReply, h]

theorem offlineReplies (hlink : s.prn.link = .offline) (hwin : s.prn.pollWindow = true) (hjobs : s.prn.jobs = []) (hw : Memory.wf s.mem) :
    (∃ t, exec (.printerReply 0x10) s = .next t ∧ t.prn.link = .ready ∧ t.prn.pollTimer = none ∧
      EntryMade s t evPrinterState 0 0 4) ∧
    (∃ t, exec (.printerReply 0x13) s = .next t ∧ t.prn.link = .pausedPaper ∧ EntryMade s t evPrinterState 0 3 4) ∧
    (∀ byte, byte ≠ 0x10 → byte ≠ 0x13 → ∃ t, exec (.printerReply byte) s = .next t ∧
      t.prn = { s.prn with replyTimer := none, pollWindow := false, noReplies := 0 } ∧ KeepsAllBut [.prn] s t) := by
  have hne : s.prn.link ≠ .waitReply := by rw [hlink]; decide
  have hreply (r : Reply) := State.pollReply_offline (s := s.replyTaken) r hlink
  refine ⟨?ready, ?paper, fun byte h0 h3 => ?other⟩
  case ready =>
    have hready : s.replyTaken.pollReply (replyOf 0x10) = s.replyTaken.setLink .ready :=
      (hreply .ready).trans (State.enterReady_none (by rw [State.replyTaken_prn, hjobs]; rfl))
    refine ⟨_, exec_pollReply 0x10 hne hwin, ?_⟩
    rw [hready]
    obtain ⟨hprn, hentry, -⟩ := linkChanged (new := .ready) (LinkAct.replyTaken s) hlink (by decide) rfl hw
    exact ⟨by rw [hprn]; rfl, by rw [hprn]; rfl, hentry⟩
  case paper =>
    have hpaper : s.replyTaken.pollReply (replyOf 0x13) = s.replyTaken.setLink .pausedPaper := hreply .paperOut
    refine ⟨_, exec_pollReply 0x13 hne hwin, ?_⟩
    rw [hpaper]
    obtain ⟨hprn, hentry, -⟩ := linkChanged (new := .pausedPaper) (LinkAct.replyTaken s) hlink (by decide) rfl hw
    exact ⟨by rw [hprn]; rfl, hentry⟩
  case other =>
    have hother : s.replyTaken.pollReply (replyOf byte) = s.replyTaken := by
      rw [hreply, replyOf, if_neg h0, if_neg h3]
      split_ifs <;> rfl
    refine ⟨_, exec_pollReply byte hne hwin, ?_⟩
    have hsame : publish s s.replyTaken = s.replyTaken := publish_setPrn s _ rfl
    rw [hother, hsame]
    exact ⟨rfl, (LinkAct.replyTaken s).quiet rfl⟩

/-! ## A poll in PAUSED_PAPER (R189, R190) -/

theorem pausedReplies (hlink : s.prn.link = .pausedPaper) (hwin : s.prn.pollWindow = true) (hw : Memory.wf s.mem) :
    let closed : Printer := { s.prn with replyTimer := none, pollWindow := false, noReplies := 0 }
    (∀ byte, byte ≠ 0x10 → byte ≠ 0x14 → exec (.printerReply byte) s = .next (s.setPrn closed)) ∧
    (s.prn.jobs = [] → ∃ t, exec (.printerReply 0x10) s = .next t ∧ t.prn.link = .ready ∧ t.prn.pollTimer = none ∧
      EntryMade s t evPrinterState 0 0 3 ∧ KeepsAllBut [.prn, .mem, .jr, .att] s t) ∧
    (s.prn.jobs = [] → ∃ t, exec (.printerReply 0x14) s = .next t ∧ t.prn.link = .offline ∧
      EntryMade s t evPrinterState 0 4 3 ∧ KeepsAllBut [.prn, .mem, .jr, .att] s t) ∧
    (∀ j, s.prn.jobs = [j] → j.state = .printing → ∃ t, exec (.printerReply 0x10) s = .next t ∧
      t.prn.link = .sending ∧ t.prn.jobs = [j] ∧ t.prn.crcResends = 0 ∧ t.prn.sequence = s.prn.sequence ∧
      t.prn.wire = some (.line (printerFrame s.prn.sequence s.prn.text)) ∧ t.prn.pollTimer = none ∧
      EntryMade s t evPrinterState 0 1 3 ∧ KeepsAllBut [.prn, .mem, .jr, .att] s t) ∧
    (∀ j, s.prn.jobs = [j] → j.state = .printing → j.cancelMark = false → j.slot < 16 →
      ∃ t, exec (.printerReply 0x14) s = .next t ∧ t.prn.link = .offline ∧ t.prn.jobs = [] ∧
        SlotDone t j.slot .failed .printerFault (j.result (s.cert j.record))) := by
  intro closed
  have hne : s.prn.link ≠ .waitReply := by rw [hlink]; decide
  have hreply (r : Reply) := State.pollReply_paused (s := s.replyTaken) r hlink
  refine ⟨fun byte h0 h4 => ?other, fun hjobs => ?ready, fun hjobs => ?fault, fun j hjobs hj => ?again, fun j hjobs hj hmark _ => ?ended⟩
  case other =>
    have hother : s.replyTaken.pollReply (replyOf byte) = s.setPrn closed := by
      rw [hreply, replyOf, if_neg h0, if_neg h4]
      split_ifs <;> rfl
    rw [exec_pollReply byte hne hwin, hother, publish_setPrn s closed rfl]
  case ready =>
    have hready : s.replyTaken.pollReply (replyOf 0x10) = s.replyTaken.setLink .ready := by
      refine (hreply .ready).trans ?_
      have hprinting : s.replyTaken.printing = none := by simp [State.printing, State.replyTaken_prn, hjobs]
      dsimp only
      rw [State.pausedReady, hprinting]
      exact State.enterReady_none (by rw [State.replyTaken_prn, hjobs]; rfl)
    refine ⟨_, exec_pollReply 0x10 hne hwin, ?_⟩
    rw [hready]
    obtain ⟨hprn, hentry, hkept⟩ := linkChanged (new := .ready) (LinkAct.replyTaken s) hlink (by decide) rfl hw
    exact ⟨by rw [hprn]; rfl, by rw [hprn]; rfl, hentry, hkept⟩
  case fault =>
    have hfault : s.replyTaken.pollReply (replyOf 0x14) = s.replyTaken.setLink .offline :=
      (hreply .fault).trans (congrArg (fun u => State.setLink u .offline) (State.failJob_none _ hjobs))
    refine ⟨_, exec_pollReply 0x14 hne hwin, ?_⟩
    rw [hfault]
    obtain ⟨hprn, hentry, hkept⟩ := linkChanged (new := .offline) (LinkAct.replyTaken s) hlink (by decide) rfl hw
    exact ⟨by rw [hprn]; rfl, hentry, hkept⟩
  case again =>
    have hagain : s.replyTaken.pollReply (replyOf 0x10) = (s.replyTaken.setPrn { s.replyTaken.prn with crcResends := 0 }).resendLine := by
      refine (hreply .ready).trans ?_
      dsimp only
      rw [State.pausedReady, State.printing_single (s := s.replyTaken) hjobs hj]
      rfl
    refine ⟨_, exec_pollReply 0x10 hne hwin, ?_⟩
    rw [hagain]
    generalize hv : s.replyTaken.setPrn { s.replyTaken.prn with crcResends := 0 } = v
    have hvprn : v.prn = { s.prn with replyTimer := none, pollWindow := false, noReplies := 0, crcResends := 0 } := by rw [← hv]; rfl
    have closing : LinkAct [] s v := hv ▸ (LinkAct.replyTaken s).after (LinkAct.setPrn _ _)
    have act := v.resendLine_act
    have hprn := v.resendLine_prn
    rw [hvprn, hlink] at act
    rw [hvprn, hlink] at hprn
    have made := act.before closing
    generalize v.resendLine = w at *
    exact ⟨by simp [hprn], by simp [hprn, hjobs], by simp [hprn], by simp [hprn], by simp [hprn], by simp [hprn], made.entryMade hw s,
      made.published_loud s⟩
  case ended =>
    have hprinting : s.replyTaken.printing = some j := State.printing_single hjobs hj
    have hfault : s.replyTaken.pollReply (replyOf 0x14) = (s.replyTaken.endJob j .failed .failed .printerFault).setLink .offline :=
      (hreply .fault).trans (congrArg (fun u => State.setLink u .offline) (State.failJob_failed _ hprinting hmark))
    refine ⟨_, exec_pollReply 0x14 hne hwin, ?_⟩
    rw [hfault]
    obtain ⟨hoff, hgone, -, -, -, -, hcomp, -, hdone⟩ := jobEnded_offline (s := s) (u := s.replyTaken) (j := j) (st := .failed)
      (o := .failed) (d := .printerFault) hjobs hj (by rw [State.replyTaken_prn, hlink]; decide) hw
    rw [State.cert, hcomp] at hdone
    exact ⟨hoff, hgone, hdone⟩

end

/-- Settles O54: the replies to lines, to the lines of cancelled jobs and to polls, the job that READY selects, and the lines' text. -/
theorem printerReplies : Obligations.PrinterReplies := by
  unfold Obligations.PrinterReplies
  refine ⟨fun byte s hlink hwin => ?discarded,
    fun s j hlink hjobs hj hmark hcancel _ _ hlen hrec hw => plainReplies hlink hjobs hj hmark hcancel hlen hrec hw,
    fun s hlink hwin hjobs hw => offlineReplies hlink hwin hjobs hw, fun s x hlink hwin hw hx => ?polled,
    fun s j x hlink hprinting hmark hcancel _ _ hw hlast => ?followed,
    fun s j hlink hjobs hj hmark _ _ hlen hrec hw => cancelledReplies hlink hjobs hj hmark hlen hrec hw,
    fun s hlink hwin _ hw => pausedReplies hlink hwin hw, fun c cls k => lineText_spelled c cls k⟩
  case discarded =>
    refine (congrArg (fun t => Host.Outcome.next (publish s t)) ((if_neg hlink).trans (if_neg ?_))).trans
      (congrArg Host.Outcome.next (publish_self s))
    simp [hwin]
  case polled =>
    have hready : s.replyTaken.pollReply (replyOf 0x10) = s.replyTaken.enterReady := State.pollReply_offline .ready hlink
    refine ⟨_, exec_pollReply 0x10 (by rw [hlink]; decide) hwin, ?_⟩
    rw [hready]
    obtain ⟨act, hsent⟩ := State.enterReady_sent (s := s.replyTaken) hx (by rw [State.replyTaken_prn, hlink]; decide)
    have made := act.before (LinkAct.replyTaken s)
    have hproduced := (made.logged (Logged.refl s)).produced
    rw [State.replyTaken_prn, hlink] at hproduced
    have hcert : s.replyTaken.cert x.record = s.cert x.record := rfl
    rw [hcert, State.replyTaken_prn] at hsent
    exact ⟨⟨by simp [hsent], by simp [hsent], by simp [hsent], by simp [hsent], by simp [hsent]⟩, by simp [hsent], by simp [hsent],
      by simp [hsent], hproduced, made.published_loud s⟩
  case followed =>
    intro rest hx
    have hlineReady : s.replyTaken.lineReply (replyOf 0x10) = ((s.replyTaken.lineTaken j).endJob j.next .done .ok .none).enterReady := by
      have hprinting' : s.replyTaken.printing = some j := hprinting
      have hcount : (s.replyTaken.cert j.record).lineCount ≤ j.linesTaken + 1 := hlast
      refine (State.lineReply_eq .ready hprinting').trans ((State.lineReady_eq (s := s.replyTaken) (j := j) hcancel).trans ?_)
      rw [if_pos hcount, hmark]
      rfl
    refine ⟨_, exec_lineReply 0x10 hlink, ?_⟩
    rw [hlineReady]
    have hrest : (s.replyTaken.lineTaken j).prn.jobs.filter (fun y => y.slot != j.next.slot) = rest := filter_lineTaken s.prn.jobs j
    obtain ⟨hsent, hjobs, hproduced, hdone⟩ := jobEnded_selected (s := s) (u := s.replyTaken.lineTaken j) (j := j.next) (x := x) (st := .done)
      (o := .ok) (d := .none) hlink hw (by rw [hrest]; exact hx)
    rw [hrest] at hjobs
    have htext : (((s.replyTaken.lineTaken j).printed j.next .done).cert x.record).text x.cls 1 = (s.cert x.record).text x.cls 1 :=
      (s.replyTaken.lineTaken j).countPrint_text j.record x.record x.cls 1
    rw [htext] at hsent
    exact ⟨hsent, hjobs, hproduced, hdone⟩

end Sys2Proof.Machine

/-! PROOFS. The image of a certificate record part by part (R171), and the end of a counter write (R178, R179). -/

namespace Sys2Proof.Machine

set_option Elab.async false

/-! ## The image of a record: state, number, fill, check word and print count -/

/-- The words that a fill writes, from the lane time to the overall verdict (R171, R177). -/
def fillWords (c : CertRecord) : List Word := (certSpanWords c).drop 2

theorem fillWords_length (c : CertRecord) : (fillWords c).length = 285 := by
  rw [fillWords, List.length_drop, certSpanWords_length]

theorem certSpanWords_eq (c : CertRecord) : certSpanWords c = dwords c.number ++ fillWords c := by
  simp [certSpanWords, fillWords, dwords]

/-- The words behind the span: check word, print count and zeros (R171). -/
def tailWords (c : CertRecord) : List Word := [c.checkWord, word c.printCount] ++ List.replicate 222 0

/-- The words before the fill: state and number (R171). -/
def headWords (c : CertRecord) : List Word := c.stateWord :: dwords c.number

theorem certWords_eq (c : CertRecord) : certWords c = headWords c ++ (fillWords c ++ tailWords c) := by
  have hlen : ([word (codeOfRecord c.state)] ++ certSpanWords c ++ [c.checkWord, word c.printCount]).length = 290 := by simp
  have hall : ([word (codeOfRecord c.state)] ++ certSpanWords c ++ [c.checkWord, word c.printCount] ++ List.replicate 222 0).length ≤ 512 := by
    rw [List.length_append, hlen, List.length_replicate]
  rw [certWords, padWords, hlen, List.take_of_length_le hall, certSpanWords_eq]
  simp only [headWords, tailWords, CertRecord.stateWord, List.append_assoc, List.cons_append, List.nil_append]

/-- A record that has not been filled has zeros in the words of a fill (R170). -/
theorem fillWords_cleared (st : RecordState) : fillWords (CertRecord.cleared st) = List.replicate 285 0 := by
  have hall : fillWords (CertRecord.cleared st) = fillWords (CertRecord.cleared .empty) := rfl
  rw [hall]
  decide +kernel

/-- Two records with the same number, check word and print count have the same image outside the state word and the fill (R171). -/
theorem certWords_outside {c c' : CertRecord} (hn : c.number = c'.number) (hw : c.checkWord = c'.checkWord)
    (hp : c.printCount = c'.printCount) {i : Nat} (hi : i = 1 ∨ i = 2 ∨ 288 ≤ i) : (certWords c)[i]? = (certWords c')[i]? := by
  have htail : tailWords c = tailWords c' := by rw [tailWords, tailWords, hw, hp]
  have hnumber : dwords c.number = dwords c'.number := by rw [hn]
  rw [certWords_eq, certWords_eq, htail]
  have hl (x : CertRecord) : (headWords x).length = 3 := rfl
  have hf (x : CertRecord) : (fillWords x).length = 285 := fillWords_length x
  rcases hi with rfl | rfl | hi
  · rw [List.getElem?_append_left (by rw [hl]; decide), List.getElem?_append_left (by rw [hl]; decide), headWords, headWords, hnumber]
    rfl
  · rw [List.getElem?_append_left (by rw [hl]; decide), List.getElem?_append_left (by rw [hl]; decide), headWords, headWords, hnumber]
    rfl
  · have behind (x : CertRecord) : (headWords x ++ (fillWords x ++ tailWords c'))[i]? = (tailWords c')[i - 3 - 285]? := by
      rw [List.getElem?_append_right (by rw [hl]; omega), hl, List.getElem?_append_right (by rw [hf]; omega), hf]
    rw [behind, behind]

/-! ## Bytes and words -/

theorem Memory.readByte_of_readWord {m m' : Memory} {a : Nat} (h : Memory.readWord m a = Memory.readWord m' a) :
    Memory.readByte m a = Memory.readByte m' a ∧ Memory.readByte m (a + 1) = Memory.readByte m' (a + 1) := by
  unfold Memory.readWord at h
  generalize Memory.readByte m a = x at *
  generalize Memory.readByte m' a = x' at *
  generalize Memory.readByte m (a + 1) = y at *
  generalize Memory.readByte m' (a + 1) = y' at *
  have hnat : (y ++ x).toNat = (y' ++ x').toNat := congrArg BitVec.toNat h
  have hx := x.isLt
  have hx' := x'.isLt
  rw [BitVec.toNat_append, BitVec.toNat_append, ← Nat.shiftLeft_add_eq_or_of_lt hx, ← Nat.shiftLeft_add_eq_or_of_lt hx',
    Nat.shiftLeft_eq, Nat.shiftLeft_eq] at hnat
  exact ⟨BitVec.eq_of_toNat_eq (by omega), BitVec.eq_of_toNat_eq (by omega)⟩

/-! ## What publication makes of a record's words -/

section
variable {s u : State} {k i : Nat}

/-- A word that shows its record before publication shows it behind it. -/
theorem publish_certWord_shown (hw : Memory.wf u.mem) (hk : k < 4) (hi : i < 512)
    (h : (certWords (u.cert k))[i]? = some (Memory.readWord u.mem (certBase k + 2 * i))) :
    (certWords (u.cert k))[i]? = some (Memory.readWord (publish s u).mem (certBase k + 2 * i)) := by
  have hshown : (certWords (u.cert k))[i]'(by simpa using hi) = Memory.readWord u.mem (certBase k + 2 * i) :=
    Option.some.inj ((List.getElem?_eq_getElem _).symm.trans h)
  rw [publish_certWord s u hw k hk i hi, ← hshown, ite_self, hshown]
  exact h

/-- A word whose record's word has changed shows its record behind publication. -/
theorem publish_certWord_changed (hw : Memory.wf u.mem) (hk : k < 4) (hi : i < 512)
    (h : (certWords (s.cert k))[i]? ≠ (certWords (u.cert k))[i]?) :
    (certWords (u.cert k))[i]? = some (Memory.readWord (publish s u).mem (certBase k + 2 * i)) := by
  rw [List.getElem?_eq_getElem (by simpa using hi), List.getElem?_eq_getElem (by simpa using hi)] at h
  rw [publish_certWord s u hw k hk i hi, if_neg fun he => h (congrArg some he), List.getElem?_eq_getElem (by simpa using hi)]

/-- The bytes of a word whose record's word has not changed are as they were before publication (R196). -/
theorem publish_certByte_same (hw : Memory.wf u.mem) (hk : k < 4) (hi : i < 512)
    (h : (certWords (s.cert k))[i]? = (certWords (u.cert k))[i]?) {a : Nat} (ha : a = certBase k + 2 * i ∨ a = certBase k + 2 * i + 1) :
    Memory.readByte (publish s u).mem a = Memory.readByte u.mem a := by
  rw [List.getElem?_eq_getElem (by simpa using hi), List.getElem?_eq_getElem (by simpa using hi)] at h
  have hword := publish_certWord s u hw k hk i hi
  rw [if_pos (Option.some.inj h)] at hword
  obtain ⟨hlow, hhigh⟩ := Memory.readByte_of_readWord hword
  rcases ha with rfl | rfl
  · exact hlow
  · exact hhigh

/-- The bytes of a record outside some of its words. -/
theorem publish_certBytes_same (hw : Memory.wf u.mem) (hk : k < 4) {a : Nat} (ha : certByte k a)
    (h : (certWords (s.cert k))[(a - certBase k) / 2]? = (certWords (u.cert k))[(a - certBase k) / 2]?) :
    Memory.readByte (publish s u).mem a = Memory.readByte u.mem a := by
  unfold certByte at ha
  exact publish_certByte_same hw hk (i := (a - certBase k) / 2) (by omega) h (by omega)

end

/-! ## Acts that leave the records alone -/

/-- Between two states no certificate record and no byte of one changes. -/
structure CertsKept (s t : State) : Prop where
  wf : Memory.wf s.mem → Memory.wf t.mem
  records : t.comp.records = s.comp.records
  bytes : ∀ k a, certByte k a → Memory.readByte t.mem a = Memory.readByte s.mem a

namespace CertsKept

variable {s t u : State}

theorem trans (h : CertsKept s t) (h' : CertsKept t u) : CertsKept s u :=
  ⟨fun hw => h'.wf (h.wf hw), h'.records.trans h.records, fun k a ha => (h'.bytes k a ha).trans (h.bytes k a ha)⟩

theorem same (hm : t.mem = s.mem) (hr : t.comp.records = s.comp.records) : CertsKept s t :=
  ⟨fun hw => hm ▸ hw, hr, fun _ _ _ => by rw [hm]⟩

theorem produce (s : State) (code axle : Nat) (p1 p2 : Word) : CertsKept s (s.produce code axle p1 p2) :=
  ⟨s.produce_wf code axle p1 p2, by simp, fun _ a ha => s.produce_readByte code axle p1 p2 a fun hb =>
    (certByte_apart ha (show 0 < 16 by decide)).2 (nextEntryByte_ring _ a hb)⟩

theorem complete (s : State) {n : Nat} (hn : n < 16) (k : Nat) (o : ReqOutcome) (d : Detail) (r : List Word) :
    CertsKept s (s.complete n k o d r) :=
  ⟨s.complete_wf n k o d r, by simp, fun _ a ha => s.complete_readByte n k o d r a (certByte_apart ha hn).1 fun hb =>
    (certByte_apart ha hn).2 (nextEntryByte_ring _ a hb)⟩

theorem cert (h : CertsKept s t) (k : Nat) : t.cert k = s.cert k := by rw [State.cert, h.records, State.cert]

theorem word (h : CertsKept s t) {k i : Nat} (hi : i < 512) :
    Memory.readWord t.mem (certBase k + 2 * i) = Memory.readWord s.mem (certBase k + 2 * i) :=
  Memory.readWord_congr _ _ _ fun b h1 h2 => h.bytes k b ⟨by omega, by omega⟩

end CertsKept

end Sys2Proof.Machine

/-! PROOFS. The end of a counter write: the certificate issued, or its record cleared (R178, R179). -/

namespace Sys2Proof.Machine

set_option Elab.async false

/-! ## The reports of the port (R178) -/

section
variable (s : State) {v : Nat} {c : ComposeOp}

theorem exec_counterWriteDone (cut : NvCut) (answered : Bool) (hop : s.nv.op = some (.counterWrite v)) (hc : s.comp.op = some c) :
    exec (.counterWriteDone cut answered) s = .next (publish s ((s.storeWrite (.counterWrite v) cut).counterWriteEnds c v
      (answered && cutComplete cut && !s.nvOver))) := by
  simp only [exec, execCounterWriteDone, hop, hc]
  rfl

theorem exec_counterWriteTimeout (cut : NvCut) (hop : s.nv.op = some (.counterWrite v)) (hc : s.comp.op = some c)
    (hlate : s.nv.started + 20 ≤ s.clk.ms) :
    exec (.counterWriteTimeout cut) s = .next (publish s ((s.storeWrite (.counterWrite v) cut).counterWriteEnds c v false)) := by
  have hl : s.counterWriteLate = true := by
    simp only [State.counterWriteLate, hop, hc]
    exact s.nvLate_iff.2 hlate
  simp only [exec, execCounterWriteTimeout, hl, State.counterWriteExpires, hop, hc]
  rfl

/-- The state with the port released, the device having dealt with the counter write (R178). -/
def State.counterDone (s : State) (v : Nat) (cut : NvCut) : State := (s.storeWrite (.counterWrite v) cut).releasePort

theorem State.counterDone_nv (cut : NvCut) :
    (s.counterDone v cut).nv = ⟨s.nv.store.writeCounter v cut, s.nv.waiting, s.clk.ms, none⟩ := rfl

theorem State.counterDone_kept (cut : NvCut) : KeepsAllBut [.nv] s (s.counterDone v cut) := by
  intro p hp
  cases p <;> simp_all [Part.same, State.counterDone, State.storeWrite]

theorem State.counterWriteEnds_ok (cut : NvCut) :
    (s.storeWrite (.counterWrite v) cut).counterWriteEnds c v true = (s.counterDone v cut).issueCert c v := rfl

theorem State.counterWriteEnds_failed (cut : NvCut) : (s.storeWrite (.counterWrite v) cut).counterWriteEnds c v false =
    (((s.counterDone v cut).nvErrorEntry 14 2).clearFill c.target).endCompose c .failed .nvError := rfl

end

/-! ## The certificate issued (R178) -/

section
variable (s : State) (k n : Nat)

/-- The state with record k issued under a number, number and check word written (R171, R178). -/
def State.numbered (s : State) (k n : Nat) : State := (s.setCert k ((s.cert k).issue n)).rewriteNumber k

theorem State.numbered_kept : KeepsAllBut [.mem, .comp] s (s.numbered k n) := by
  intro p hp
  cases p <;> simp_all [Part.same, State.numbered, State.rewriteNumber]

theorem State.numbered_comp : (s.numbered k n).comp = (s.setCert k ((s.cert k).issue n)).comp := by
  simp [State.numbered, State.rewriteNumber]

theorem State.numbered_cert {k : Nat} (hk : k < s.comp.records.length) :
    (s.numbered k n).cert k = (s.cert k).issue n ∧ ∀ j, j ≠ k → (s.numbered k n).cert j = s.cert j := by
  have hcert (j : Nat) : (s.numbered k n).cert j = (s.setCert k ((s.cert k).issue n)).cert j := by
    simp only [State.cert, State.numbered_comp]
  exact ⟨(hcert k).trans (s.cert_setCert_same hk _), fun j hj => (hcert j).trans (s.cert_setCert_ne hj _)⟩

/-- Number and check word are written, whatever stood there (R171, R178). -/
theorem State.numbered_writes : CertWrites (s.setCert k ((s.cert k).issue n)) (s.numbered k n) k
    fun j => ((False ∨ 1 ≤ j ∧ j < 1 + 2) ∨ 288 ≤ j ∧ j < 288 + 1) := by
  have hnumber := (CertWrites.refl (s.setCert k ((s.cert k).issue n)) k).block 1
    (dwords ((s.setCert k ((s.cert k).issue n)).cert k).number) fun j hj => certWords_number _ j hj
  refine hnumber.block 288 [((s.setCert k ((s.cert k).issue n)).cert k).checkWord] fun j hj => ?_
  obtain rfl : j = 0 := by simpa using hj
  exact certWords_check _

theorem State.numbered_wf (hw : Memory.wf s.mem) : Memory.wf (s.numbered k n).mem := (s.numbered_writes k n).wf hw

theorem State.numbered_word {k : Nat} (hk : k < s.comp.records.length) (hw : Memory.wf s.mem) {i : Nat} (hi : i = 1 ∨ i = 2 ∨ i = 288) :
    (certWords ((s.cert k).issue n))[i]? = some (Memory.readWord (s.numbered k n).mem (certBase k + 2 * i)) := by
  have hshown := (s.numbered_writes k n).write hw i (by omega) (by omega)
  rw [s.cert_setCert_same hk] at hshown
  exact hshown

/-- The state behind the CERT_ISSUED entry (R178). -/
def State.issuedEntry (s : State) (c : ComposeOp) (n : Nat) : State :=
  State.produce (((s.numbered c.target n).setTab { s.tab with certified := true }).setComp
    { (s.numbered c.target n).comp with lastIssued := n, op := none }) evCertIssued 0
    (bytePair c.target (codeOfOverall ((s.numbered c.target n).cert c.target).overall)) (word n)

theorem State.issueCert_eq (c : ComposeOp) : s.issueCert c n = (s.issuedEntry c n).complete c.slot 8 .ok
    (if c.lateAbort then .lateAbort else .none)
    (bytePair c.target (codeOfOverall ((s.numbered c.target n).cert c.target).overall) :: dwords n) := rfl

theorem State.issuedEntry_kept (c : ComposeOp) : CertsKept (s.numbered c.target n) (s.issuedEntry c n) := by
  unfold State.issuedEntry
  generalize s.numbered c.target n = u
  exact (CertsKept.same (s := u) (t := (u.setTab { s.tab with certified := true }).setComp { u.comp with lastIssued := n, op := none }) rfl rfl).trans
    (.produce _ _ _ _ _)

theorem State.issuedEntry_parts (c : ComposeOp) : (s.issuedEntry c n).tab = { s.tab with certified := true } ∧
    (s.issuedEntry c n).nv = s.nv ∧ (s.issuedEntry c n).comp.lastIssued = n ∧ (s.issuedEntry c n).comp.op = none := by
  have hnv : (s.numbered c.target n).nv = s.nv := s.numbered_kept c.target n .nv (by decide)
  simp [State.issuedEntry, hnv]

theorem certBase_ge (k : Nat) : 0x1A40 ≤ certBase k := Nat.le_add_right _ _

theorem Logged.numbered {σ : State} {l : List JournalEntry} (h : Logged σ s l) : Logged σ (s.numbered k n) l := by
  have hb := certBase_ge k
  have changed := h.same (t := s.setCert k ((s.cert k).issue n)) rfl rfl rfl
  have written := (changed.setMem_writeWords (certBase k + 2) (dwords ((s.setCert k ((s.cert k).issue n)).cert k).number)
    (.inr (by omega))).setMem_writeWord (certBase k + 0x240) ((s.setCert k ((s.cert k).issue n)).cert k).checkWord (.inr (by omega))
  exact written.same (by simp [State.numbered, State.rewriteNumber]) (by simp [State.numbered]) (by simp [State.numbered])

theorem Logged.issuedEntry (c : ComposeOp) {σ : State} {l : List JournalEntry} (h : Logged σ s l) :
    ∃ e, Logged σ (s.issuedEntry c n) (l ++ [e]) := by
  have changed := (h.numbered s c.target n).same (t := ((s.numbered c.target n).setTab { s.tab with certified := true }).setComp
    { (s.numbered c.target n).comp with lastIssued := n, op := none }) (by simp) (by simp) (by simp)
  exact ⟨_, changed.produce evCertIssued 0 (bytePair c.target (codeOfOverall ((s.numbered c.target n).cert c.target).overall)) (word n)⟩

end

/-- What the issue of a certificate leads to (R178). -/
theorem certIssued (s : State) {u : State} (n : Nat) (c : ComposeOp) (hcomp : u.comp.records = s.comp.records) (hjr : Logged s u [])
    (htab : u.tab = s.tab) (hk : c.target < s.comp.records.length) (hslot : c.slot < 16) (hw : Memory.wf s.mem) :
    let t := publish s (u.issueCert c n)
    t.cert c.target = (s.cert c.target).issue n ∧
    (c.target < 4 →
      Memory.readWords t.mem (certBase c.target + 2) 2 = [lowWord (BitVec.ofNat 32 n), highWord (BitVec.ofNat 32 n)] ∧
      Memory.readWord t.mem (certBase c.target + 0x240) = (t.cert c.target).checkWord) ∧
    (∀ k, k ≠ c.target → t.cert k = s.cert k) ∧
    t.tab = { s.tab with certified := true } ∧ t.comp.lastIssued = n ∧ t.comp.op = none ∧ t.nv = u.nv ∧
    t.jr.produced = s.jr.produced + 2 ∧
    SlotDone t c.slot .ok (if c.lateAbort then .lateAbort else .none)
      [bytePair c.target (codeOfOverall (s.cert c.target).overall), lowWord (BitVec.ofNat 32 n), highWord (BitVec.ofNat 32 n)] := by
  have hcert (k : Nat) : u.cert k = s.cert k := by simp only [State.cert, hcomp]
  have huw : Memory.wf u.mem := hjr.wf hw
  have hku : c.target < u.comp.records.length := hcomp ▸ hk
  obtain ⟨hissue, hothers⟩ := u.numbered_cert n hku
  obtain ⟨htable, hnv, hlast, hop⟩ := u.issuedEntry_parts n c
  have hkept := u.issuedEntry_kept n c
  obtain ⟨e, hlogged⟩ := hjr.issuedEntry u n c
  have hwf := hkept.wf (u.numbered_wf c.target n huw)
  have hword {i : Nat} (hi : i = 1 ∨ i = 2 ∨ i = 288) := u.numbered_word n hku huw hi
  have hend := u.issueCert_eq n c
  rw [hissue] at hend
  rw [hend]
  rw [hcert] at hissue hword ⊢
  have hoverall : ((s.cert c.target).issue n).overall = (s.cert c.target).overall := rfl
  rw [hoverall]
  generalize u.numbered c.target n = w at *
  generalize u.issuedEntry c n = x at *
  have hdone := CertsKept.complete x hslot 8 .ok (if c.lateAbort then .lateAbort else .none)
    (bytePair c.target (codeOfOverall (s.cert c.target).overall) :: dwords n)
  have hall := hkept.trans hdone
  have hxcert (k : Nat) : (publish s (x.complete c.slot 8 .ok (if c.lateAbort then .lateAbort else .none)
      (bytePair c.target (codeOfOverall (s.cert c.target).overall) :: dwords n))).cert k = w.cert k := hall.cert k
  have hshown {i : Nat} (h4 : c.target < 4) (hi : i = 1 ∨ i = 2 ∨ i = 288) : (certWords ((s.cert c.target).issue n))[i]? =
      some (Memory.readWord (publish s (x.complete c.slot 8 .ok (if c.lateAbort then .lateAbort else .none)
        (bytePair c.target (codeOfOverall (s.cert c.target).overall) :: dwords n))).mem (certBase c.target + 2 * i)) := by
    have hi' : i < 512 := by omega
    have := publish_certWord_shown (s := s) (u := x.complete c.slot 8 .ok (if c.lateAbort then .lateAbort else .none)
      (bytePair c.target (codeOfOverall (s.cert c.target).overall) :: dwords n)) (hdone.wf hwf) h4 hi' (by
        rw [hall.cert, hissue, hall.word hi']
        exact hword hi)
    rw [hall.cert, hissue] at this
    exact this
  refine ⟨(hxcert _).trans hissue, fun h4 => ⟨?number, ?check⟩, fun k hk => (hxcert k).trans ((hothers k hk).trans (hcert k)), ?_, ?_, ?_, ?_, ?_,
    slotDone_publish_complete _ _ _ _ _ _ _ hwf⟩
  case number =>
    refine (Memory.readWords_eq_iff (n := 2) (ws := dwords n) rfl).2 fun i hi => ?_
    have hi2 : i < 2 := hi
    have hn := certWords_number ((s.cert c.target).issue n) i hi
    rw [hshown h4 (i := 1 + i) (by omega), show certBase c.target + 2 * (1 + i) = certBase c.target + 2 + 2 * i by omega] at hn
    exact Option.some.inj hn
  case check =>
    have hc := certWords_check ((s.cert c.target).issue n)
    rw [hshown h4 (by omega)] at hc
    rw [hxcert, hissue]
    exact Option.some.inj hc
  · simpa [htab] using htable
  · simpa using hlast
  · simpa using hop
  · simpa using hnv
  · have := ((hlogged.complete c.slot 8 .ok (if c.lateAbort then .lateAbort else .none)
      (bytePair c.target (codeOfOverall (s.cert c.target).overall) :: dwords n)).publish s).produced
    exact this

/-! ## The end of a COMPOSE without a certificate (R176, R178, R179) -/

section
variable (s : State) (c : ComposeOp)

/-- The state with the record of a COMPOSE EMPTY and the composer free, before the slot completes. -/
def State.dropCert (s : State) (c : ComposeOp) : State :=
  (s.setCert c.target (CertRecord.cleared .empty)).setComp { (s.setCert c.target (CertRecord.cleared .empty)).comp with op := none }

theorem State.endCompose_eq (o : ReqOutcome) (d : Detail) : s.endCompose c o d = (s.dropCert c).complete c.slot 8 o d [] := rfl

@[simp] theorem State.dropCert_frame : (s.dropCert c).nv = s.nv ∧ (s.dropCert c).tab = s.tab ∧ (s.dropCert c).mem = s.mem ∧
    (s.dropCert c).jr = s.jr ∧ (s.dropCert c).gauge = s.gauge ∧ (s.dropCert c).time = s.time ∧ (s.dropCert c).slots = s.slots ∧
    (s.dropCert c).comp.op = none ∧ (s.dropCert c).comp.lastIssued = s.comp.lastIssued := by
  simp [State.dropCert]

theorem State.dropCert_cert (hk : c.target < s.comp.records.length) : (s.dropCert c).cert c.target = CertRecord.cleared .empty :=
  s.cert_setCert_same hk _

end

section
variable {s u : State} {c : ComposeOp} (o : ReqOutcome) (d : Detail)

/-- What the end leads to, whatever went before. -/
theorem composeEnded (hw : Memory.wf u.mem) (hk : c.target < u.comp.records.length) (hslot : c.slot < 16) :
    let t := publish s (u.endCompose c o d)
    t.cert c.target = CertRecord.cleared .empty ∧ t.comp.op = none ∧ t.comp.lastIssued = u.comp.lastIssued ∧
      SlotDone t c.slot o d [] ∧ t.nv = u.nv ∧ t.tab = u.tab := by
  have hwd : Memory.wf (u.dropCert c).mem := by simpa using hw
  have hkept := CertsKept.complete (u.dropCert c) hslot 8 o d []
  have hcert := (hkept.cert c.target).trans (u.dropCert_cert c hk)
  rw [u.endCompose_eq c o d]
  refine ⟨hcert, by simp, by simp, ?_, by simp, by simp⟩
  exact slotDone_publish_complete _ _ _ _ _ _ _ hwd

/-- The words of the record behind the end, before publication. -/
theorem endCompose_cert (hk : c.target < u.comp.records.length) (hslot : c.slot < 16) :
    (u.endCompose c o d).cert c.target = CertRecord.cleared .empty ∧
    (∀ a, certByte c.target a → Memory.readByte (u.endCompose c o d).mem a = Memory.readByte u.mem a) ∧
    (Memory.wf u.mem → Memory.wf (u.endCompose c o d).mem) := by
  have hkept := CertsKept.complete (u.dropCert c) hslot 8 o d []
  rw [u.endCompose_eq c o d]
  have hmem : (u.dropCert c).mem = u.mem := (u.dropCert_frame c).2.2.1
  exact ⟨(hkept.cert c.target).trans (u.dropCert_cert c hk), fun a ha => (hkept.bytes _ a ha).trans (by rw [hmem]),
    fun hw => hkept.wf (hmem ▸ hw)⟩

theorem Logged.endCompose {σ : State} {l : List JournalEntry} (h : Logged σ u l) :
    ∃ e, Logged σ (u.endCompose c o d) (l ++ [e]) := by
  rw [u.endCompose_eq c o d]
  exact ⟨_, (h.same (t := u.dropCert c) (by simp) (by simp) (by simp)).complete c.slot 8 o d []⟩

theorem State.rewriteFill_wf {s : State} (k : Nat) (hw : Memory.wf s.mem) : Memory.wf (s.rewriteFill k).mem :=
  ((CertWrites.refl s k).block 3 (((certWords (s.cert k)).drop 3).take 285) fun j hj => by
    rw [List.getElem_take, List.getElem_drop]
    exact List.getElem?_eq_getElem _).wf hw

/-- The words of the fill stand behind the head (R171). -/
theorem certWords_fill (c : CertRecord) {j : Nat} (hj : j < 285) : (certWords c)[3 + j]? = (fillWords c)[j]? := by
  have hl : (headWords c).length = 3 := rfl
  rw [certWords_eq, List.getElem?_append_right (by omega), hl, List.getElem?_append_left (by rw [fillWords_length]; omega),
    Nat.add_sub_cancel_left]

/-- The words of a fill, rewritten (R177). -/
theorem State.rewriteFill_fill {s : State} (hw : Memory.wf s.mem) {k j : Nat} (hj : j < 285) :
    (fillWords (s.cert k))[j]? = some (Memory.readWord (s.rewriteFill k).mem (certBase k + 2 * (3 + j))) := by
  rw [← certWords_fill _ hj, s.rewriteFill_word hw k (3 + j) (by omega) (by omega)]
  exact List.getElem?_eq_getElem _

/-- The words of the fill in the published memory, where the state before publication shows them. -/
theorem publish_fillWords {s u : State} (hw : Memory.wf u.mem) {k : Nat} (hk : k < 4)
    (h : ∀ j, j < 285 → (fillWords (u.cert k))[j]? = some (Memory.readWord u.mem (certBase k + 2 * (3 + j)))) :
    Memory.readWords (publish s u).mem (certBase k + 6) 285 = fillWords (u.cert k) := by
  refine (Memory.readWords_eq_iff (fillWords_length _)).2 fun j hj => ?_
  rw [fillWords_length] at hj
  have hshown := publish_certWord_shown (s := s) hw hk (i := 3 + j) (by omega) (by rw [certWords_fill _ hj]; exact h j hj)
  rw [certWords_fill _ hj, List.getElem?_eq_getElem (by rwa [fillWords_length])] at hshown
  rw [show certBase k + 6 + 2 * j = certBase k + 2 * (3 + j) by omega]
  exact (Option.some.inj hshown).symm

/-- Of a record filled and not issued the state word reads EMPTY and the filled words read zero, and nothing else is written (R178, R196). -/
theorem clearFill_ended_words (hw : Memory.wf u.mem) (hrec : u.comp.records = s.comp.records) (hmem : ∀ a, certByte c.target a → Memory.readByte u.mem a = Memory.readByte s.mem a)
    (hk : c.target < s.comp.records.length) (hslot : c.slot < 16) (h4 : c.target < 4)
    (hstate : (s.cert c.target).state = .composing) (hnumber : (s.cert c.target).number = 0) (hcheck : (s.cert c.target).checkWord = 0)
    (hprints : (s.cert c.target).printCount = 0) :
    let t := publish s ((u.clearFill c.target).endCompose c o d)
    Memory.readWord t.mem (certBase c.target) = 0 ∧
    Memory.readWords t.mem (certBase c.target + 6) 285 = List.replicate 285 0 ∧
    ∀ a, certByte c.target a → (certBase c.target + 2 ≤ a ∧ a < certBase c.target + 6) ∨ certBase c.target + 0x240 ≤ a →
      Memory.readByte t.mem a = Memory.readByte s.mem a := by
  have hclear : (u.setCert c.target (CertRecord.cleared .empty)).cert c.target = CertRecord.cleared .empty :=
    u.cert_setCert_same (hrec ▸ hk) _
  have hfillWf : Memory.wf (u.clearFill c.target).mem := State.rewriteFill_wf _ hw
  have hkf : c.target < (u.clearFill c.target).comp.records.length := by
    simpa [State.clearFill, State.setCert, hrec] using hk
  obtain ⟨hcert, hbytes, hwf⟩ := endCompose_cert o d hkf hslot
  have hword {j : Nat} (hj : j < 285) : (fillWords (CertRecord.cleared .empty))[j]? =
      some (Memory.readWord (u.clearFill c.target).mem (certBase c.target + 2 * (3 + j))) := by
    have h := (u.setCert c.target (CertRecord.cleared .empty)).rewriteFill_fill hw (k := c.target) hj
    rwa [hclear] at h
  have hother {a : Nat} (ha : certByte c.target a) (hout : a < certBase c.target + 6 ∨ certBase c.target + 0x240 ≤ a) :
      Memory.readByte (u.clearFill c.target).mem a = Memory.readByte s.mem a :=
    ((u.setCert c.target (CertRecord.cleared .empty)).rewriteFill_readByte c.target a hout).trans (hmem a ha)
  have hxwords : ∀ i, i < 512 → Memory.readWord ((u.clearFill c.target).endCompose c o d).mem (certBase c.target + 2 * i) =
      Memory.readWord (u.clearFill c.target).mem (certBase c.target + 2 * i) := fun i hi =>
    Memory.readWord_congr _ _ _ fun b _ _ => hbytes b ⟨by omega, by omega⟩
  have hxwf := hwf hfillWf
  generalize (u.clearFill c.target).endCompose c o d = x at *
  refine ⟨?state, ?filled, fun a ha hout => ?_⟩
  case state =>
    have h := publish_certWord_changed (s := s) hxwf h4 (i := 0) (by decide) (by
      rw [certWords_state, certWords_state, hcert, CertRecord.stateWord, hstate]
      decide)
    rw [certWords_state, hcert] at h
    exact (Option.some.inj h).symm
  case filled =>
    have h := publish_fillWords (s := s) hxwf h4 fun j hj => by
      rw [hcert, hxwords _ (by omega)]
      exact hword hj
    rw [h, hcert, fillWords_cleared]
  · have hrange := ha
    unfold certByte at hrange
    refine (publish_certBytes_same hxwf h4 ha ?_).trans ((hbytes a ha).trans (hother ha (by omega)))
    rw [hcert]
    exact certWords_outside hnumber hcheck hprints (by omega)

end

end Sys2Proof.Machine

/-! PROOFS. The end of a counter write, reported in time, late or not at all (R178, R179). -/

namespace Sys2Proof.Machine

set_option Elab.async false

/-! ## The failed write -/

/-- A fill is written behind the ring (R171, R202). -/
theorem Logged.rewriteFill {σ s : State} {l : List JournalEntry} (k : Nat) (h : Logged σ s l) : Logged σ (s.rewriteFill k) l := by
  have hb := certBase_ge k
  exact (h.setMem_writeWords (certBase k + 2 * 3) (((certWords (s.cert k)).drop 3).take 285) (.inr (by omega))).same
    (by simp [State.rewriteFill, State.rewriteCertWords]) (by simp) (by simp)

theorem Logged.clearFill {σ s : State} {l : List JournalEntry} (k : Nat) (h : Logged σ s l) : Logged σ (s.clearFill k) l :=
  (h.same (t := s.setCert k (CertRecord.cleared .empty)) rfl rfl rfl).rewriteFill k

section
variable {s : State} {v : Nat} {c : ComposeOp} (cut : NvCut)

/-- A fill cleared and its COMPOSE ended FAILED, one entry standing before it (R178, R179). -/
theorem fillDropped {u : State} {e : JournalEntry} (hlog : Logged s u [e]) (hcerts : CertsKept s u) (htab : u.tab = s.tab)
    (hlast : u.comp.lastIssued = s.comp.lastIssued) (hk : c.target < s.comp.records.length) (hslot : c.slot < 16)
    (hw : Memory.wf s.mem) :
    let t := publish s ((u.clearFill c.target).endCompose c .failed .nvError)
    t.cert c.target = CertRecord.cleared .empty ∧ t.comp.op = none ∧ t.comp.lastIssued = s.comp.lastIssued ∧
      SlotDone t c.slot .failed .nvError [] ∧ t.tab = s.tab ∧ t.jr.produced = s.jr.produced + 2 ∧
      t.nv = u.nv ∧
      (c.target < 4 → (s.cert c.target).state = .composing → (s.cert c.target).number = 0 → (s.cert c.target).checkWord = 0 →
        (s.cert c.target).printCount = 0 →
        Memory.readWord t.mem (certBase c.target) = 0 ∧
        Memory.readWords t.mem (certBase c.target + 6) 285 = List.replicate 285 0 ∧
        ∀ a, certByte c.target a → (certBase c.target + 2 ≤ a ∧ a < certBase c.target + 6) ∨ certBase c.target + 0x240 ≤ a →
          Memory.readByte t.mem a = Memory.readByte s.mem a) := by
  have hfill : Memory.wf (u.clearFill c.target).mem := State.rewriteFill_wf _ (hcerts.wf hw)
  have hkf : c.target < (u.clearFill c.target).comp.records.length := by
    simpa [State.clearFill, State.setCert, hcerts.records] using hk
  obtain ⟨hcert, hop, hlastEnd, hdone, hnv, htabEnd⟩ := composeEnded (s := s) .failed .nvError hfill hkf hslot
  obtain ⟨f, hended⟩ := (hlog.clearFill c.target).endCompose (c := c) .failed .nvError
  have hproduced := (hended.publish s).produced
  have hwords := clearFill_ended_words (s := s) (c := c) .failed .nvError (hcerts.wf hw) hcerts.records (hcerts.bytes c.target) hk hslot
  have hnvEnd : (u.clearFill c.target).nv = u.nv := by simp [State.clearFill]
  have htabFill : (u.clearFill c.target).tab = s.tab := by simp [State.clearFill, htab]
  have hlastFill : (u.clearFill c.target).comp.lastIssued = s.comp.lastIssued := by simp [hlast]
  generalize (u.clearFill c.target) = x at *
  exact ⟨hcert, hop, hlastEnd.trans hlastFill, hdone, htabEnd.trans htabFill, hproduced, hnv.trans hnvEnd, hwords⟩

/-- The NV_ERROR entry of a failed counter write (R178). -/
theorem counterDone_error (s : State) (v : Nat) (cut : NvCut) :
    (∃ e, Logged s ((s.counterDone v cut).nvErrorEntry 14 2) [e]) ∧ CertsKept s ((s.counterDone v cut).nvErrorEntry 14 2) ∧
    ((s.counterDone v cut).nvErrorEntry 14 2).nv = ⟨s.nv.store.writeCounter v cut, s.nv.waiting, s.clk.ms, none⟩ ∧
    ((s.counterDone v cut).nvErrorEntry 14 2).tab = s.tab ∧
    ((s.counterDone v cut).nvErrorEntry 14 2).comp.lastIssued = s.comp.lastIssued := by
  have hkept := s.counterDone_kept (v := v) cut
  have htab : (s.counterDone v cut).tab = s.tab := hkept .tab (by decide)
  have hcomp : (s.counterDone v cut).comp = s.comp := hkept .comp (by decide)
  refine ⟨⟨_, ((Logged.refl s).same (t := s.counterDone v cut) rfl rfl rfl).produce evNvError 0 (word 14) (word 2)⟩,
    (CertsKept.same (s := s) (t := s.counterDone v cut) rfl rfl).trans (.produce _ _ _ _ _), ?_, ?_, ?_⟩
  · simp [State.nvErrorEntry, s.counterDone_nv cut]
  · simp [State.nvErrorEntry, htab]
  · simp [State.nvErrorEntry, hcomp]

/-- What a failed counter write leads to: one entry more, the record cleared and the slot FAILED (R178, R179). -/
theorem counterWrite_failed (hk : c.target < s.comp.records.length) (hslot : c.slot < 16) (hw : Memory.wf s.mem) :
    let t := publish s ((s.storeWrite (.counterWrite v) cut).counterWriteEnds c v false)
    t.cert c.target = CertRecord.cleared .empty ∧ t.comp.op = none ∧ t.comp.lastIssued = s.comp.lastIssued ∧
      SlotDone t c.slot .failed .nvError [] ∧ t.tab = s.tab ∧ t.jr.produced = s.jr.produced + 2 ∧
      t.nv = ⟨s.nv.store.writeCounter v cut, s.nv.waiting, s.clk.ms, none⟩ ∧
      (c.target < 4 → (s.cert c.target).state = .composing → (s.cert c.target).number = 0 → (s.cert c.target).checkWord = 0 →
        (s.cert c.target).printCount = 0 →
        Memory.readWord t.mem (certBase c.target) = 0 ∧
        Memory.readWords t.mem (certBase c.target + 6) 285 = List.replicate 285 0 ∧
        ∀ a, certByte c.target a → (certBase c.target + 2 ≤ a ∧ a < certBase c.target + 6) ∨ certBase c.target + 0x240 ≤ a →
          Memory.readByte t.mem a = Memory.readByte s.mem a) := by
  obtain ⟨⟨e, hlog⟩, hcerts, hnv, htab, hlast⟩ := counterDone_error s v cut
  rw [s.counterWriteEnds_failed cut]
  rw [← hnv]
  exact fillDropped hlog hcerts htab hlast hk hslot hw

end

/-- Settles O51: the certificate issued, or its record cleared, for every report of the port and for none. -/
theorem counterWriteEnds : Obligations.CounterWriteEnds := by
  unfold Obligations.CounterWriteEnds
  intro s v c hop hc hk hslot _ hw failed
  have hfailed (cut : NvCut) : failed (publish s ((s.storeWrite (.counterWrite v) cut).counterWriteEnds c v false)) cut :=
    counterWrite_failed cut hk hslot hw
  refine ⟨fun hin => ⟨_, exec_counterWriteDone s _ _ hop hc, ?_⟩, fun cut answered hbad => ⟨_, exec_counterWriteDone s _ _ hop hc, ?_⟩,
    fun cut hlate => ⟨_, exec_counterWriteTimeout s cut hop hc hlate, hfailed cut⟩⟩
  · have hover : s.nvOver = false := Bool.eq_false_iff.2 (mt s.nvOver_iff.1 (Nat.not_lt.2 hin))
    have hok : (true && cutComplete ⟨.done, .done⟩ && !s.nvOver) = true := by simp [hover, cutComplete]
    rw [hok, s.counterWriteEnds_ok]
    have hlog : Logged s (s.counterDone v ⟨.done, .done⟩) [] := (Logged.refl s).same rfl rfl rfl
    obtain ⟨hcert, hmem, hothers, htab, hlast, hnone, hnv, hproduced, hdone⟩ :=
      certIssued s v c (u := s.counterDone v ⟨.done, .done⟩) rfl hlog rfl hk hslot hw
    have hport := hnv.trans (s.counterDone_nv _)
    refine ⟨hcert, hmem, hothers, htab, hlast, hnone, fun hmax => ?_, congrArg Nv.op hport, hproduced, hdone⟩
    rw [hport]
    exact NvStore.writeCounter_complete _ hmax rfl
  · have hnot : (answered && cutComplete cut && !s.nvOver) = false := by
      rw [Bool.eq_false_iff]
      intro hall
      simp only [Bool.and_eq_true, cutComplete_iff, Bool.not_eq_true', Bool.eq_false_iff, ne_eq, s.nvOver_iff] at hall
      obtain ⟨⟨hanswer, hfirst, hsecond⟩, hin⟩ := hall
      simp_all
    rw [hnot]
    exact hfailed cut

end Sys2Proof.Machine

/-! PROOFS. What the fill of a certificate writes: mass, efficiencies, verdicts and the axle lines (R104 to R110, R165 to R171). -/

namespace Sys2Proof.Machine

set_option Elab.async false

/-! ## The whole-vehicle figures -/

theorem sumAll_eq (l : List (Option Int)) : sumAll l = if none ∈ l then none else some ((l.map (·.getD 0)).sum) := by
  induction l with
  | nil => simp [sumAll]
  | cons x l ih =>
    cases x with
    | none => simp [sumAll]
    | some x => by_cases h : none ∈ l <;> simp [sumAll, ih, h]

/-- The ends of a run that the brake made (R105). -/
theorem usableEnd_eq (e : EndReason) :
    usableEnd e = (e == .release || e == .runLimit || e == .slipL || e == .slipR || e == .slipBoth) := by
  cases e <;> rfl

theorem AxleRecord.weight_eq (r : AxleRecord) :
    r.weight = if r.weightL.isSome && r.weightR.isSome then some (r.weightL.getD 0 + r.weightR.getD 0) else none := by
  unfold AxleRecord.weight
  cases r.weightL <;> cases r.weightR <;> rfl

/-- The weights of the axles are all present, or their sum is absent (R106). -/
theorem sumAll_weights (l : List (PlanAxle × AxleRecord)) : sumAll (l.map (fun x => x.2.weight)) =
    if l.all (fun x => x.2.weightL.isSome && x.2.weightR.isSome)
    then some (l.map (fun x => x.2.weightL.getD 0 + x.2.weightR.getD 0)).sum else none := by
  induction l with
  | nil => rfl
  | cons x l ih =>
    rw [List.map_cons, x.2.weight_eq, List.all_cons]
    by_cases hx : (x.2.weightL.isSome && x.2.weightR.isSome) = true
    · rw [if_pos hx, hx, sumAll, ih, Bool.true_and]
      split <;> rfl
    · rw [if_neg hx, Bool.eq_false_iff.2 hx]
      rfl

/-- An efficiency in the words of R107 and R108. -/
theorem efficiencyOf_sumAll (forces : List (Option Int)) (mass : Option Int) : efficiencyOf (sumAll forces) mass =
    if none ∈ forces ∨ mass = none ∨ mass = some 0 then none
    else some (clamp 0 9999 (roundDiv ((forces.map (fun f => f.getD 0)).sum * 1000000) (mass.getD 0 * 981))) := by
  rw [sumAll_eq]
  by_cases hforces : none ∈ forces
  · simp [efficiencyOf, hforces]
  · cases mass with
    | none => simp [efficiencyOf, hforces]
    | some m => simp [efficiencyOf, hforces]

section
variable (f : AxleRecord → Option Int) (want : PlanAxle × AxleRecord → Bool) (axles : List (PlanAxle × AxleRecord)) (mass : Option Int)

/-- The efficiency of the axles that ask for it (R107, R108, R110). -/
theorem vehicleEfficiency_eq :
    (if (axles.filter want).isEmpty then none else efficiencyOf (sumAll ((axles.filter want).map (fun x => f x.2))) mass) =
      if ((axles.filter want).map (fun x => x.2)).map f = [] ∨ none ∈ ((axles.filter want).map (fun x => x.2)).map f ∨ mass = none ∨
          mass = some 0 then none
      else some (clamp 0 9999 (roundDiv (((((axles.filter want).map (fun x => x.2)).map f).map (fun f => f.getD 0)).sum * 1000000)
        (mass.getD 0 * 981))) := by
  have hmap : (axles.filter want).map (fun x => f x.2) = ((axles.filter want).map (fun x => x.2)).map f := by simp
  rw [hmap, efficiencyOf_sumAll]
  by_cases hnone : axles.filter want = []
  · simp [hnone]
  · rw [if_neg (by simpa using hnone)]
    simp only [List.map_eq_nil_iff, hnone, false_or]

/-- Its verdict (R165, R168). -/
theorem vehicleVerdict_eq (eff : Option Int) (limit : Word) : efficiencyVerdict (axles.any want) eff limit =
    if ((axles.filter want).map (fun x => x.2)).map f = [] then .notRequested
    else match eff with
      | none => .notTested
      | some v => if v < limit.toNat then .fail else .pass := by
  have hany : axles.any want = true ↔ axles.filter want ≠ [] := by
    simp [List.filter_eq_nil_iff]
  by_cases h : axles.filter want = []
  · have : axles.any want = false := Bool.eq_false_iff.2 fun he => hany.1 he h
    simp [efficiencyVerdict, h, this]
  · cases eff <;> simp [efficiencyVerdict, hany.2 h, h]

end

/-! ## The verdicts -/

theorem Attempt.invalid_iff (a : Attempt) : a.invalid = true ↔ a.sensor = true ∨ usableEnd a.reason = false := by
  simp [Attempt.invalid]

/-- The overall verdict in the words of R169. -/
theorem overallOf_eq (items : List Verdict) (axles : List (PlanAxle × AxleRecord)) :
    overallOf items (axles.map (fun x => x.2.status)) = if .fail ∈ items then .fail
      else if .notTested ∈ items ∨ .invalid ∈ items ∨ (∃ x ∈ axles, x.2.status ≠ .done) then .incomplete else .pass := by
  have hfail : items.any (· == .fail) = true ↔ .fail ∈ items := by simp
  have hopen : items.any (fun v => v == .notTested || v == .invalid) = true ↔ .notTested ∈ items ∨ .invalid ∈ items := by
    simp only [List.any_eq_true, Bool.or_eq_true, beq_iff_eq]
    constructor
    · rintro ⟨v, hv, rfl | rfl⟩
      · exact .inl hv
      · exact .inr hv
    · rintro (hv | hv)
      · exact ⟨_, hv, .inl rfl⟩
      · exact ⟨_, hv, .inr rfl⟩
  have hstatus : (axles.map (fun x => x.2.status)).any (· != .done) = true ↔ ∃ x ∈ axles, x.2.status ≠ .done := by
    simp
  unfold overallOf
  simp only [hfail, hopen, hstatus]
  by_cases h1 : .fail ∈ items
  · simp [h1]
  · by_cases h2 : .notTested ∈ items ∨ .invalid ∈ items
    · rw [if_neg h1, if_neg h1, if_pos h2, if_pos (by tauto)]
    · rw [if_neg h1, if_neg h1, if_neg h2]
      simp only [not_or] at h2
      simp only [h2.1, h2.2, false_or]

end Sys2Proof.Machine

/-! PROOFS. The end of a counter read: the record filled, or cleared (R176, R177, R179). -/

namespace Sys2Proof.Machine

set_option Elab.async false

/-! ## The reports of the port (R176) -/

section
variable (s : State) {c : ComposeOp}

theorem exec_counterReadDone (high low : NvReply) (hop : s.nv.op = some .counterRead) (hc : s.comp.op = some c) :
    exec (.counterReadDone high low) s = .next (publish s (if s.nvOver then s.counterReadEnds c none 2
      else ((s.correctedEntry 14 0 (readResult s.nv.store.counterHigh high)).correctedEntry 14 1
        (readResult s.nv.store.counterLow low)).counterReadEnds c
          (counterValue (readResult s.nv.store.counterHigh high) (readResult s.nv.store.counterLow low))
          (failedWord (readResult s.nv.store.counterHigh high)))) := by
  simp only [exec, execCounterReadDone, State.counterReadExpires, hop, hc]
  rfl

theorem exec_counterReadTimeout (hop : s.nv.op = some .counterRead) (hc : s.comp.op = some c) (hlate : s.nv.started + 20 ≤ s.clk.ms) :
    exec .counterReadTimeout s = .next (publish s (s.counterReadEnds c none 2)) := by
  have hl : s.counterReadLate = true := by
    simp only [State.counterReadLate, hop, hc]
    exact s.nvLate_iff.2 hlate
  simp only [exec, execCounterReadTimeout, hl, State.counterReadExpires, hc]
  rfl

/-- The value of the two words, as the statement spells it (R176). -/
theorem counterValue_eq (high low : ReadResult) :
    counterValue high low = high.word?.bind (fun h => low.word?.map (fun l => 65536 * h.toNat + l.toNat)) := by
  unfold counterValue
  cases high.word? <;> cases low.word? <;> rfl

theorem counterReadEnds_aborted (value : Option Nat) (n : Nat) (ha : c.aborted = true) :
    s.counterReadEnds c value n = s.releasePort.endCompose c .aborted .none := if_pos ha

theorem counterReadEnds_none (n : Nat) (ha : c.aborted = false) :
    s.counterReadEnds c none n = (s.nvErrorEntry 14 n).releasePort.endCompose c .failed .nvError := if_neg (by simp [ha])

theorem counterReadEnds_full (n : Nat) (ha : c.aborted = false) :
    s.counterReadEnds c (some 4294967295) n = s.releasePort.endCompose c .failed .counterFull := if_neg (by simp [ha])

theorem counterReadEnds_some {v : Nat} (n : Nat) (ha : c.aborted = false) (hv : v < 4294967295) :
    s.counterReadEnds c (some v) n = (s.fill c (v + 1)).nextNv (.counterWrite (v + 1)) :=
  (if_neg (by simp [ha])).trans (if_neg (show v ≠ counterMax from by unfold counterMax; omega))

end

/-! ## What stands before the end: entries alone -/

/-- Between two states entries were made, and nothing else. -/
structure EntriesMade (s u : State) : Prop where
  kept : KeepsAllBut [.mem, .jr, .att] s u
  certs : CertsKept s u

namespace EntriesMade

variable {s u v : State}

theorem refl (s : State) : EntriesMade s s := ⟨.refl _ s, .same rfl rfl⟩

theorem produce (h : EntriesMade s u) (code axle : Nat) (p1 p2 : Word) : EntriesMade s (u.produce code axle p1 p2) := by
  refine ⟨h.kept.trans ?_, h.certs.trans (.produce _ _ _ _ _)⟩
  intro p hp
  cases p <;> simp_all [Part.same]

theorem corrected (h : EntriesMade s u) (marker word : Nat) (r : ReadResult) : EntriesMade s (u.correctedEntry marker word r) := by
  unfold State.correctedEntry
  split
  · exact h.produce _ _ _ _
  · exact h

theorem error (h : EntriesMade s u) (marker word : Nat) : EntriesMade s (u.nvErrorEntry marker word) := h.produce _ _ _ _

end EntriesMade

/-! ## The record cleared (R176, R179) -/

section
variable {s u : State} {c : ComposeOp}

/-- What the end of a counter read without a value leads to. -/
theorem readCleared (h : EntriesMade s u) (o : ReqOutcome) (d : Detail) (hk : c.target < s.comp.records.length) (hslot : c.slot < 16)
    (hw : Memory.wf s.mem) :
    let t := publish s (u.releasePort.endCompose c o d)
    t.cert c.target = CertRecord.cleared .empty ∧ t.comp.op = none ∧ SlotDone t c.slot o d [] ∧
      t.nv = { s.nv with op := s.nv.waiting, started := s.clk.ms, waiting := none } ∧ t.tab = s.tab ∧
      (c.target < 4 → s.cert c.target = CertRecord.cleared .composing →
        ∀ a, certByte c.target a → certBase c.target + 2 ≤ a → Memory.readByte t.mem a = Memory.readByte s.mem a) := by
  have hrel : CertsKept s u.releasePort := h.certs.trans (.same rfl rfl)
  have hnv : u.releasePort.nv = { s.nv with op := s.nv.waiting, started := s.clk.ms, waiting := none } := by
    have hport : u.nv = s.nv := h.kept .nv (by decide)
    have hclk : u.clk = s.clk := h.kept .clk (by decide)
    rw [← hport, ← hclk]
    rfl
  have htab : u.releasePort.tab = s.tab := h.kept .tab (by decide)
  generalize u.releasePort = x at *
  have hkx : c.target < x.comp.records.length := by rwa [hrel.records]
  obtain ⟨hcert, hop, -, hdone, hnvEnd, htabEnd⟩ := composeEnded (s := s) o d (hrel.wf hw) hkx hslot
  obtain ⟨hrecord, hbytes, hwf⟩ := endCompose_cert o d hkx hslot
  refine ⟨hcert, hop, hdone, hnvEnd.trans hnv, htabEnd.trans htab, fun h4 hcomposing a ha hrest => ?_⟩
  have hrange := ha
  unfold certByte at hrange
  refine (publish_certBytes_same (hwf (hrel.wf hw)) h4 ha ?_).trans ((hbytes a ha).trans (hrel.bytes _ a ha))
  rw [hcomposing, hrecord]
  exact certWords_setState (CertRecord.cleared .empty) .composing (by omega)

theorem readCleared_produced {l : List JournalEntry} (h : Logged s u l) (o : ReqOutcome) (d : Detail) :
    (publish s (u.releasePort.endCompose c o d)).jr.produced = s.jr.produced + BitVec.ofNat 32 (l.length + 1) := by
  obtain ⟨e, hended⟩ := Logged.endCompose (c := c) o d (h.same (t := u.releasePort) rfl rfl rfl)
  rw [(hended.publish s).produced, List.length_append]
  rfl

/-! ## The record filled (R177) -/

/-- The state with the record filled, the composer waiting for its number. -/
theorem State.fill_parts (u : State) (c : ComposeOp) (n : Nat) (hk : c.target < u.comp.records.length) :
    (u.fill c n).cert c.target = filledRecord u.tab u.time ∧ (u.fill c n).comp.op = some { c with stage := .writing n } ∧
    (u.fill c n).slots = u.slots ∧ (u.fill c n).tab = u.tab ∧ (u.fill c n).nv = u.nv ∧ (u.fill c n).clk = u.clk ∧
    (u.fill c n).mem = ((u.setCert c.target (filledRecord u.tab u.time)).rewriteFill c.target).mem := by
  refine ⟨?_, by simp [State.fill], by simp [State.fill], by simp [State.fill], by simp [State.fill], by simp [State.fill],
    by simp [State.fill]⟩
  have hcomp : (u.fill c n).comp.records = (u.setCert c.target (filledRecord u.tab u.time)).comp.records := by simp [State.fill]
  rw [State.cert, hcomp]
  exact u.cert_setCert_same hk _

/-- The words of a record filled: those of the fill are written, and no other (R177, R196). -/
theorem filled_words {y : State} {tab : AxleTable} {time : DWord} (hwf : Memory.wf y.mem) (h4 : c.target < 4)
    (hcert : y.cert c.target = filledRecord tab time) (hcomposing : s.cert c.target = CertRecord.cleared .composing)
    (hfill : ∀ j, j < 285 → (fillWords (filledRecord tab time))[j]? =
      some (Memory.readWord y.mem (certBase c.target + 2 * (3 + j))))
    (hother : ∀ a, certByte c.target a → a < certBase c.target + 6 ∨ certBase c.target + 0x240 ≤ a →
      Memory.readByte y.mem a = Memory.readByte s.mem a) :
    Memory.readWords (publish s y).mem (certBase c.target + 6) 285 = (certSpanWords (filledRecord tab time)).drop 2 ∧
    ∀ a, certByte c.target a → a < certBase c.target + 6 ∨ certBase c.target + 0x240 ≤ a →
      Memory.readByte (publish s y).mem a = Memory.readByte s.mem a := by
  refine ⟨?_, fun a ha hout => ?_⟩
  · have hwords := publish_fillWords (s := s) hwf h4 (u := y) fun j hj => by
      rw [hcert]
      exact hfill j hj
    rw [hwords, hcert, fillWords]
  · have hrange := ha
    unfold certByte at hrange
    refine (publish_certBytes_same hwf h4 ha ?_).trans (hother a ha hout)
    rw [hcomposing, hcert]
    have hplace : (a - certBase c.target) / 2 = 0 ∨ (a - certBase c.target) / 2 = 1 ∨ (a - certBase c.target) / 2 = 2 ∨
        288 ≤ (a - certBase c.target) / 2 := by omega
    rcases hplace with h0 | hi
    · rw [h0, certWords_state, certWords_state]
      rfl
    · exact certWords_outside (c := CertRecord.cleared .composing) (c' := filledRecord tab time) rfl rfl rfl hi

/-- The fill of a record whose COMPOSE began in s (R177). -/
theorem readFilled_words (h : EntriesMade s u) (n : Nat) (hk : c.target < s.comp.records.length) (hw : Memory.wf s.mem) (h4 : c.target < 4)
    (hcomposing : s.cert c.target = CertRecord.cleared .composing) {y : State} (hymem : y.mem = (u.fill c n).mem)
    (hycert : y.cert c.target = filledRecord u.tab u.time) :
    Memory.readWords (publish s y).mem (certBase c.target + 6) 285 = (certSpanWords (filledRecord u.tab u.time)).drop 2 ∧
    ∀ a, certByte c.target a → a < certBase c.target + 6 ∨ certBase c.target + 0x240 ≤ a →
      Memory.readByte (publish s y).mem a = Memory.readByte s.mem a := by
  have hku : c.target < u.comp.records.length := by rwa [h.certs.records]
  obtain ⟨-, -, -, -, -, -, hmem⟩ := u.fill_parts c n hku
  have huw := h.certs.wf hw
  have hset : (u.setCert c.target (filledRecord u.tab u.time)).cert c.target = filledRecord u.tab u.time := u.cert_setCert_same hku _
  have hchain := hymem.trans hmem
  refine filled_words (hchain ▸ State.rewriteFill_wf _ huw) h4 hycert hcomposing (fun j hj => ?_) fun a ha hout => ?_
  · have hrew := (u.setCert c.target (filledRecord u.tab u.time)).rewriteFill_fill huw (k := c.target) hj
    rwa [hset, ← hchain] at hrew
  · rw [hchain]
    exact ((u.setCert c.target (filledRecord u.tab u.time)).rewriteFill_readByte c.target a hout).trans (h.certs.bytes _ a ha)

theorem readFilled (h : EntriesMade s u) (v : Nat) (hk : c.target < s.comp.records.length) (hw : Memory.wf s.mem) :
    let t := publish s ((u.fill c (v + 1)).nextNv (.counterWrite (v + 1)))
    t.cert c.target = filledRecord s.tab s.time ∧
    t.nv = { s.nv with op := some (.counterWrite (v + 1)), started := s.clk.ms } ∧
    t.comp.op = some { c with stage := .writing (v + 1) } ∧ t.slots = s.slots ∧ t.tab = s.tab ∧
    (c.target < 4 → s.cert c.target = CertRecord.cleared .composing →
      Memory.readWords t.mem (certBase c.target + 6) 285 = (certSpanWords (filledRecord s.tab s.time)).drop 2 ∧
      ∀ a, certByte c.target a → a < certBase c.target + 6 ∨ certBase c.target + 0x240 ≤ a →
        Memory.readByte t.mem a = Memory.readByte s.mem a) := by
  have hku : c.target < u.comp.records.length := by rwa [h.certs.records]
  obtain ⟨hcert, hop, hslots, htab, hnv, hclk, -⟩ := u.fill_parts c (v + 1) hku
  have hwords (h4 : c.target < 4) (hcomposing : s.cert c.target = CertRecord.cleared .composing) {y : State} :=
    readFilled_words h (v + 1) hk hw h4 hcomposing (y := y)
  have hutab : u.tab = s.tab := h.kept .tab (by decide)
  have hutime : u.time = s.time := h.kept .time (by decide)
  have huslots : u.slots = s.slots := h.kept .slots (by decide)
  have hunv : u.nv = s.nv := h.kept .nv (by decide)
  have huclk : u.clk = s.clk := h.kept .clk (by decide)
  rw [hutab, hutime] at hwords hcert
  rw [hutab] at htab
  generalize u.fill c (v + 1) = x at *
  have hynv : (x.nextNv (.counterWrite (v + 1))).nv = { s.nv with op := some (.counterWrite (v + 1)), started := s.clk.ms } := by
    rw [← hunv, ← hnv, ← huclk, ← hclk]
    rfl
  have hycert : (x.nextNv (.counterWrite (v + 1))).cert c.target = filledRecord s.tab s.time := hcert
  have hyop : (x.nextNv (.counterWrite (v + 1))).comp.op = some { c with stage := .writing (v + 1) } := hop
  have hyslots : (x.nextNv (.counterWrite (v + 1))).slots = s.slots := hslots.trans huslots
  have hytab : (x.nextNv (.counterWrite (v + 1))).tab = s.tab := htab
  have hymem : (x.nextNv (.counterWrite (v + 1))).mem = x.mem := rfl
  generalize x.nextNv (.counterWrite (v + 1)) = y at *
  have hpcert : (publish s y).cert c.target = filledRecord s.tab s.time := by
    simpa [State.cert] using hycert
  exact ⟨hpcert, by simpa using hynv, by simpa using hyop, by simpa using hyslots, by simpa using hytab,
    fun h4 hcomposing => hwords h4 hcomposing hymem hycert⟩

end

/-- Settles O50: the end of the read in every case, and the figures that the fill writes. -/
theorem counterReadEnds : Obligations.CounterReadEnds := by
  unfold Obligations.CounterReadEnds
  refine ⟨fun s c hop hc hk hslot _ hw => ?reads, fun tab time => ?_⟩
  case reads =>
    intro cleared failed
    have hcleared {u : State} (h : EntriesMade s u) (o : ReqOutcome) (d : Detail) : cleared (publish s (u.releasePort.endCompose c o d)) o d :=
      readCleared h o d hk hslot hw
    have hread (high low : NvReply) := exec_counterReadDone s high low hop hc
    have hmade (high low : ReadResult) : EntriesMade s ((s.correctedEntry 14 0 high).correctedEntry 14 1 low) :=
      ((EntriesMade.refl s).corrected _ _ _).corrected _ _ _
    have hlate := exec_counterReadTimeout s hop hc
    refine ⟨fun high low v hin ha hv => ⟨_, hread high low, ?value⟩, fun high low ha hbad => ⟨_, hread high low, ?bad⟩,
      fun ha h => ⟨_, hlate h, ?_, ?_⟩, fun high low ha => ⟨_, hread high low, ?aborted⟩, fun ha h => ⟨_, hlate h, ?_, ?_⟩⟩
    case value =>
      rw [if_neg (mt s.nvOver_iff.1 (Nat.not_lt.2 hin)), counterValue_eq, hv]
      refine ⟨fun hless => ?_, fun hfull => ?_⟩
      · rw [counterReadEnds_some _ _ ha hless]
        obtain ⟨hcert, hnv, hcop, hslots, htab, hwords⟩ := readFilled (c := c) (hmade (readResult s.nv.store.counterHigh high)
          (readResult s.nv.store.counterLow low)) v hk hw
        exact ⟨hcert, by rw [hcert]; rfl, by rw [hcert]; rfl, by rw [hcert]; rfl, hnv, hcop, hslots, htab, hwords⟩
      · rw [hfull, counterReadEnds_full _ _ ha]
        exact hcleared (hmade _ _) _ _
    case bad =>
      by_cases hover : s.nvOver = true
      · rw [if_pos hover, counterReadEnds_none _ _ ha]
        exact hcleared ((EntriesMade.refl s).error _ _) _ _
      · have hnone : counterValue (readResult s.nv.store.counterHigh high) (readResult s.nv.store.counterLow low) = none := by
          rw [counterValue_eq]
          rcases hbad with h | h | h
          · rw [h]; rfl
          · rw [h]; cases (readResult s.nv.store.counterHigh high).word? <;> rfl
          · exact absurd (s.nvOver_iff.2 h) hover
        rw [if_neg hover, hnone, counterReadEnds_none _ _ ha]
        exact hcleared ((hmade _ _).error _ _) _ _
    · rw [counterReadEnds_none _ _ ha]
      exact hcleared ((EntriesMade.refl s).error _ _) _ _
    · rw [counterReadEnds_none _ _ ha]
      exact readCleared_produced ((Logged.refl s).produce _ _ _ _) _ _
    case aborted =>
      split
      · rw [counterReadEnds_aborted _ _ _ ha]
        exact hcleared (EntriesMade.refl s) _ _
      · rw [counterReadEnds_aborted _ _ _ ha]
        exact hcleared (hmade _ _) _ _
    · rw [counterReadEnds_aborted _ _ _ ha]
      exact hcleared (EntriesMade.refl s) _ _
    · rw [counterReadEnds_aborted _ _ _ ha]
      exact readCleared_produced (Logged.refl s) _ _
  intro axles wants byBrake mass service parking efficiency vehicle brake slip c items
  have hend : byBrake = usableEnd := (funext usableEnd_eq).symm
  have hmass : tab.massUsed = mass := congrArg (ite _ _) (sumAll_weights _)
  have hservice : service = AxleRecord.serviceForce := funext fun r => by
    cases htop : r.top <;> simp [service, hend, AxleRecord.serviceForce, Attempt.usable, Attempt.force, brakingForce, htop]
  have hparking : parking = AxleRecord.parkingForce := funext fun r => by
    cases hpark : r.parking <;> simp [parking, hend, AxleRecord.parkingForce, hpark]
  have hserviceEff : tab.serviceEfficiency = efficiency ((wants 2).map service) := by
    rw [hservice]
    exact (vehicleEfficiency_eq AxleRecord.serviceForce (fun x => x.1.tests.getLsbD 2) axles tab.massUsed).trans (by rw [hmass])
  have hparkingEff : tab.parkingEfficiency = efficiency ((wants 3).map parking) := by
    rw [hparking]
    exact (vehicleEfficiency_eq AxleRecord.parkingForce (fun x => x.1.tests.getLsbD 3) axles tab.massUsed).trans (by rw [hmass])
  have hbrake (asked : Bool) (r : AxleRecord) (value : Attempt → Option Int) (limit : Word) :
      attemptVerdict asked r.top value limit = brake asked r value limit := by
    cases asked
    · rfl
    · cases htop : r.top with
      | none => simp [attemptVerdict, brake, htop]
      | some a => cases hv : value a <;> simp [attemptVerdict, brake, htop, hv, hend, Attempt.invalid_iff]
  have hslip (asked : Bool) (x : SideSlip) : sideSlipVerdict asked x tab.limits = slip asked x := by
    cases asked
    · rfl
    · cases hv : x.value <;> simp [sideSlipVerdict, slip, hv]
  have hserviceVerdict : c.serviceVerdict = vehicle ((wants 2).map service) tab.limits.minService := by
    simp only [vehicle, ← hserviceEff]
    rw [hservice]
    refine (vehicleVerdict_eq AxleRecord.serviceForce (fun x => x.1.tests.getLsbD 2) axles tab.serviceEfficiency tab.limits.minService).trans ?_
    rfl
  have hparkingVerdict : c.parkingVerdict = vehicle ((wants 3).map parking) tab.limits.minParking := by
    simp only [vehicle, ← hparkingEff]
    rw [hparking]
    refine (vehicleVerdict_eq AxleRecord.parkingForce (fun x => x.1.tests.getLsbD 3) axles tab.parkingEfficiency tab.limits.minParking).trans ?_
    rfl
  have hlines : c.lines = axles.map (fun x => axleLine tab.limits x.1 x.2) := rfl
  refine ⟨congrArg (Option.map Int.toNat) hmass, congrArg (Option.map Int.toNat) hserviceEff,
    congrArg (Option.map Int.toNat) hparkingEff, hserviceVerdict, hparkingVerdict, ?_, ?_, ?_, ?_,
    overallOf_eq items axles, rfl, rfl, rfl, rfl, rfl, rfl⟩
  · rw [hlines, List.map_map]
    refine List.map_congr_left fun x _ => ?_
    simp only [← hbrake, ← hslip]
    rfl
  all_goals
    rw [hlines, List.map_map]
    rfl
end Sys2Proof.Machine

/-! PROOFS. ESTOP and PRESENCE settling (R38, R43, R135): the stops, the lockout, and the repeat of a refused start. -/

namespace Sys2Proof.Machine

set_option Elab.async false

/-! ## The levels behind a settled change (R5) -/

section
variable (s : State) (hlen : s.eng.inputs.length = 11) (i : Input)
include hlen

theorem State.settleLevel_levels (j : Input) : (s.settleLevel i).level j = if j = i then !s.level i else s.level j := by
  rw [State.level, input_settle s hlen i j]
  by_cases h : i = j
  · simp [h]
  · simp [h, Ne.symm h, State.level]

theorem State.settleLevel_level_self : (s.settleLevel i).level i = !s.level i := by rw [s.settleLevel_levels hlen i, if_pos rfl]

theorem State.settleLevel_settlesOn {j : Input} (h : j ≠ i) : (s.settleLevel i).settlesOn j = s.settlesOn j := by
  rw [State.settlesOn, State.settlesOn, s.settleLevel_levels hlen i, if_neg h, State.settles, State.settles, input_settle s hlen i j,
    if_neg h.symm]

end

/-! ## A stop, or none, followed by the repeat of a start that cannot be taken -/

/-- A stop command to a drive that does not spin does nothing (R38). -/
theorem State.stopEvent_rest (s : State) (r : StopReason) (h : isSpinning s.drv.state = false) : s.stopEvent r = s := by
  rw [State.stopEvent, State.stopDrive, if_neg (by simp [h]), frameAfter_of_seq rfl]

theorem stopEvent_drvState (s : State) (r : StopReason) (h : isSpinning s.drv.state = true) : (s.stopEvent r).drv.state = .stopping := by
  have hstop := stopEvent_stopped s r h
  unfold Stopped at hstop
  rw [hstop]

/-- The drive and its test behind a stop whose event ends with the repeat of a refused start, which a drive that stops refuses. -/
theorem stopThenRepeat (s v : State) (r : StopReason) (hv : v.drv = s.drv) (ht : v.dtest = s.dtest) (hs : v.slots = s.slots)
    (hspin : isSpinning s.drv.state = true) :
    let t := publish s (frameAfter (v.stopEvent r) (v.stopEvent r).repeatStart)
    Stopped s t (v.stopCause r) ∧ (s.drv.owner = some .driveTest → ∀ d, s.dtest = some d →
      t.dtest = some (d.stopped (v.stopCause r)) ∧ t.slots = s.slots) := by
  have hvspin : isSpinning v.drv.state = true := hv ▸ hspin
  have hdrv : (v.stopEvent r).repeatStart.drv = (v.stopEvent r).drv := repeatStart_drv _ (startRefusal_isSome _ (.inr (.inr (by
    rw [stopEvent_drvState v r hvspin]
    decide))))
  refine ⟨(stopEvent_stopped v r hvspin).congr hv.symm (by simp [hdrv]), fun ho d hd => ⟨?_, by simp [hs]⟩⟩
  simp [v.stopEvent_dtest r hvspin (hv ▸ ho), ht, hd]

/-- The drive as an entry into LOCKOUT leaves it (R39). -/
theorem State.driveLockout_drv (s : State) (c : LockCause) : (s.driveLockout c).drv = s.drv.locked c := by
  have hd := s.ended_drv (s.drv.locked c) (word (codeOfLock c)) (c == .driveFault)
  rw [State.driveLockout_eq]
  generalize s.ended (s.drv.locked c) (word (codeOfLock c)) (c == .driveFault) = u at *
  have hend : u.seqDriveEnds.drv = u.drv := by
    unfold State.seqDriveEnds
    split
    · rw [State.leaveSpindown, if_neg (by simp [hd, Drive.locked])]
    · exact repeatStart_drv u (startRefusal_isSome u (.inr (.inr (by simp [hd, Drive.locked]))))
  simp [hend, hd]

/-- A start refused in SPINUP is refused LOCKED_OUT at the entry into LOCKOUT (R135). -/
theorem State.driveLockout_seq (s : State) (c : LockCause) (hq : s.seq.state = .spinup) (hr : s.seq.refusal ≠ none) :
    (s.driveLockout c).seq = { s.seq with refusal := some .lockedOut } := by
  simpa using (lockout_repeats s c hq hr).2

theorem State.startRefusal_locked (s : State) (h : s.drv.state = .lockout) : s.startRefusal = some .lockedOut := by
  simp [State.startRefusal, h]

/-- A repeat in LOCKOUT changes nothing but the refusal (R135). -/
theorem repeatStart_locked (s : State) (h : s.drv.state = .lockout) :
    s.repeatStart.drv = s.drv ∧ (s.seq.state = .spinup → s.seq.refusal ≠ none →
      s.repeatStart.seq = { s.seq with refusal := some .lockedOut }) := by
  have hrefusal := s.startRefusal_locked h
  refine ⟨repeatStart_drv s (by rw [hrefusal]; rfl), fun hq hr => ?_⟩
  rw [State.repeatStart_of_refused s hq hr, State.issueStart_seq, hrefusal]

/-! ## The repeat of a refused start (R33 to R35, R135) -/

/-- The repeat of a refused start as one event, by the refusal that its checks find. -/
theorem repeated_event (s v : State) (hq : s.seq.state = .spinup) (hr : s.seq.refusal ≠ none) (hv : KeepsAllBut [.eng] s v) :
    let t := publish s (frameAfter v v.repeatStart)
    t.seq = { s.seq with refusal := v.startRefusal } ∧ (v.startRefusal ≠ none → t.drv = s.drv) ∧
      (v.startRefusal = none → StartedBySequencer s t) := by
  have hseq : v.seq = s.seq := hv .seq (by decide)
  have hdrv : v.drv = s.drv := hv .drv (by decide)
  have htab : v.tab = s.tab := hv .tab (by decide)
  rw [State.repeatStart_of_refused v (hseq ▸ hq) (hseq ▸ hr)]
  refine ⟨by simp [State.issueStart_seq, hseq], fun h => ?_, fun h => (v.issueStart_started h).congr hdrv.symm htab.symm (by simp)⟩
  rw [State.issueStart_refused v h]
  simp [hdrv]

/-- The checks of a start after a settled change of ESTOP or PRESENCE (R33). -/
theorem settled_refusal (s : State) (hlen : s.eng.inputs.length = 11) (i : Input) : (s.settleLevel i).startRefusal =
    if s.drv.state = .lockout then some .lockedOut else if s.drv.state ≠ .off then some .notOff
    else if s.eng.mode ≠ .normal then some .mode else if (if .estop = i then !s.level i else s.level .estop) then some .estop
    else if (if .presence = i then !s.level i else s.level .presence) then some .presence
    else if s.seat.seated = false then some .notSeated else none := by
  have hkept := s.settleLevel_kept i
  have hdrv : (s.settleLevel i).drv = s.drv := hkept .drv (by decide)
  have hseat : (s.settleLevel i).seat = s.seat := hkept .seat (by decide)
  have hmode : (s.settleLevel i).eng.mode = s.eng.mode := by simp [State.settleLevel]
  simp only [State.startRefusal, hdrv, hseat, hmode, s.settleLevel_levels hlen i, Bool.not_eq_true']

/-! ## The settled changes -/

theorem exec_estopOn (s : State) (hlen : s.eng.inputs.length = 11) (h : s.settles .estop = true) (hl : s.level .estop = false) :
    exec (.settledChange .estop) s = .next (publish s (frameAfter (s.settleLevel .estop).estopActive
      (s.settleLevel .estop).estopActive.repeatStart)) := by
  rw [exec_settledChange s _ h]
  have hon : (s.settleLevel .estop).level .estop = true := by rw [s.settleLevel_level_self hlen, hl]; rfl
  simp only [State.inputSettles, State.estopSettles, hon, if_true]

theorem exec_presenceOn (s : State) (hlen : s.eng.inputs.length = 11) (h : s.settles .presence = true) (hl : s.level .presence = false) :
    exec (.settledChange .presence) s = .next (publish s (frameAfter ((s.settleLevel .presence).stopEvent .presence)
      ((s.settleLevel .presence).stopEvent .presence).repeatStart)) := by
  rw [exec_settledChange s _ h]
  have hon : (s.settleLevel .presence).level .presence = true := by rw [s.settleLevel_level_self hlen, hl]; rfl
  simp only [State.inputSettles, State.presenceSettles, hon, if_true]

/-- A change of ESTOP or PRESENCE that stops nothing repeats a refused start (R135). -/
theorem exec_repeats (s : State) (hlen : s.eng.inputs.length = 11) (i : Input) (h : s.settles i = true)
    (hi : i = .presence ∨ i = .estop ∧ s.level .estop = true) (hspin : isSpinning s.drv.state = false) :
    exec (.settledChange i) s = .next (publish s (frameAfter (s.settleLevel i) (s.settleLevel i).repeatStart)) := by
  have hdrv : (s.settleLevel i).drv = s.drv := s.settleLevel_kept i .drv (by decide)
  rw [exec_settledChange s _ h]
  rcases hi with rfl | ⟨rfl, hl⟩
  · have hrest := State.stopEvent_rest (s.settleLevel .presence) .presence (by rw [hdrv]; exact hspin)
    simp only [State.inputSettles, State.presenceSettles, hrest, ite_self]
  · have hoff : (s.settleLevel .estop).level .estop = false := by rw [s.settleLevel_level_self hlen, hl]; rfl
    simp only [State.inputSettles, State.estopSettles, hoff, Bool.false_eq_true, if_false]

theorem State.estopActive_spinning (s : State) (h : isSpinning s.drv.state = true) : s.estopActive = s.stopEvent .estop := by
  unfold State.estopActive
  cases hd : s.drv.state <;> simp_all [isSpinning]

theorem State.estopActive_off (s : State) (h : s.drv.state = .off) : s.estopActive = s.driveLockout .estop := by
  simp [State.estopActive, h]

theorem State.estopActive_stopping (s : State) (h : s.drv.state = .stopping) :
    s.estopActive = s.setDrv { s.drv with estopSeen := true } := by
  simp [State.estopActive, h]

theorem State.estopActive_lockout (s : State) (h : s.drv.state = .lockout) : s.estopActive = s := by
  simp [State.estopActive, h]

/-- Settles O28: ESTOP and PRESENCE settling in every state of the drive. -/
theorem estopAndPresenceStopTheSpin : Obligations.EstopAndPresenceStopTheSpin := by
  unfold Obligations.EstopAndPresenceStopTheSpin
  refine ⟨fun s hlen hset hl => ⟨_, exec_estopOn s hlen hset hl, ?estop⟩,
    fun s hlen hset hl => ⟨_, exec_presenceOn s hlen hset hl, ?presence⟩,
    fun i s hlen hset hi hspin hq hr => ?again⟩
  case estop =>
    have hkept := s.settleLevel_kept .estop
    have hself := s.settleLevel_level_self hlen .estop
    generalize s.settleLevel .estop = v at *
    have hdrv : v.drv = s.drv := hkept .drv (by decide)
    have hseq : v.seq = s.seq := hkept .seq (by decide)
    have hon : v.level .estop = true := by rw [hself, hl]; rfl
    refine ⟨?_, fun hspin => ?_, fun hspin ho d hd => ?_, fun hoff => ?_, fun hstopping => ?_, fun hlock => ?_⟩
    · rw [level_of_inputs (s := v) (by simp), hon]
    · rw [v.estopActive_spinning (hdrv ▸ hspin)]
      exact (stopThenRepeat s v .estop hdrv (hkept .dtest (by decide)) (hkept .slots (by decide)) hspin).1
    · rw [v.estopActive_spinning (hdrv ▸ hspin)]
      exact (stopThenRepeat s v .estop hdrv (hkept .dtest (by decide)) (hkept .slots (by decide)) hspin).2 ho d hd
    · rw [v.estopActive_off (hdrv ▸ hoff)]
      have hlocked := v.driveLockout_drv .estop
      have hrefused := v.driveLockout_seq .estop
      generalize v.driveLockout .estop = u at *
      obtain ⟨hkeep, hrepeat⟩ := repeatStart_locked u (by rw [hlocked]; rfl)
      refine ⟨by simp [hkeep, hlocked, hdrv, Drive.locked], fun hq hr => ?_⟩
      have hu := hrefused (hseq ▸ hq) (hseq ▸ hr)
      have hagain := hrepeat (by rw [hu, hseq]; exact hq) (by rw [hu]; simp)
      simp [hagain, hu, hseq]
    · rw [v.estopActive_stopping (hdrv ▸ hstopping)]
      have hkeep (d : Drive) := repeatStart_drv (v.setDrv d) (startRefusal_isSome _ (.inl ((level_of_inputs rfl _).trans hon)))
      simp [hkeep, hdrv]
    · rw [v.estopActive_lockout (hdrv ▸ hlock)]
      simp [(repeatStart_locked v (hdrv ▸ hlock)).1, hdrv]
  case presence =>
    have hkept := s.settleLevel_kept .presence
    have hself := s.settleLevel_level_self hlen .presence
    have hestop := s.settleLevel_settlesOn hlen .presence (j := .estop) (by decide)
    generalize s.settleLevel .presence = v at *
    have hdrv : v.drv = s.drv := hkept .drv (by decide)
    have hon : v.level .presence = true := by rw [hself, hl]; rfl
    have hcause : v.stopCause .presence = if s.settlesOn .estop then .estop else .presence := by
      simp only [State.stopCause, hestop]
    refine ⟨?_, fun hspin => ?_, fun hspin ho d hd => ?_, fun hrest => ?_⟩
    · rw [level_of_inputs (s := v) (by simp), hon]
    · rw [← hcause]
      exact (stopThenRepeat s v .presence hdrv (hkept .dtest (by decide)) (hkept .slots (by decide)) hspin).1
    · have hdecided := (stopThenRepeat s v .presence hdrv (hkept .dtest (by decide)) (hkept .slots (by decide)) hspin).2 ho d hd
      rw [hcause] at hdecided
      refine ⟨hdecided.1.trans ?_, hdecided.2⟩
      by_cases he : s.settlesOn .estop = true <;> simp [DriveTest.stopped, he, detailOfStop]
    · rw [v.stopEvent_rest .presence (by rw [hdrv]; exact hrest)]
      simp [repeatStart_drv v (startRefusal_isSome v (.inr (.inl hon))), hdrv]
  case again =>
    intro now refusal
    refine ⟨_, exec_repeats s hlen i hset hi hspin, ?_⟩
    have hrefusal : (s.settleLevel i).startRefusal = refusal := settled_refusal s hlen i
    obtain ⟨hseq, hkeep, hstart⟩ := repeated_event s (s.settleLevel i) hq hr (s.settleLevel_kept i)
    rw [hrefusal] at hseq hkeep hstart
    refine ⟨?_, hseq, hkeep, hstart⟩
    rw [level_of_inputs (s := s.settleLevel i) (by simp), s.settleLevel_level_self hlen]

end Sys2Proof.Machine

/-! PROOFS. The end of the work on an axle (R86, R142, R144, R147): the run, the spin and the weighing given up, the records of an abort,
and the abort of a plan. -/

namespace Sys2Proof.Machine

set_option Elab.async false

/-! ## What the end of a run leaves of its axle's record (R85, R86, R91) -/

/-- The record of the axle under test behind the end of a run with an end reason; a wait in PARK_ONSET that was withdrawn has no
result (R89). -/
structure RunRecord (s : State) (e : EndReason) (kept : Prop) (r : AxleRecord) : Prop where
  status : r.status = (s.record s.run.axle).status
  skip : r.skip = (s.record s.run.axle).skip
  none : s.run.phase = .idle ∨ s.run.phase = .armed → r = s.record s.run.axle
  attempt : inAttemptPart s.run.phase = true → r.top.map (fun x => (x.reason, x.time)) = some (e, s.time)
  run : s.run.phase = .parkRun → r.parking = some ⟨s.run.parkPeakL, s.run.parkPeakR, e, s.time⟩
  onset : s.run.phase = .parkOnset → kept → r.parking = some ⟨0, 0, e, s.time⟩

/-- Between two states the run in progress has ended, its unit is IDLE, and the record of its axle is all that changed in the table. -/
structure RunLeft (s t : State) (e : EndReason) (kept : Prop) : Prop where
  run : t.run = if s.run.phase = .idle then s.run else RunUnit.cleared
  tab : ∃ r, RunRecord s e kept r ∧ t.tab = { s.tab with records := s.tab.records.set s.run.axle r }

theorem AxleRecord.withHeld_status (r : AxleRecord) (held : Option Attempt) (time : DWord) :
    (r.withHeld held time).status = r.status ∧ (r.withHeld held time).skip = r.skip := by
  cases held <;> exact ⟨rfl, rfl⟩

section
variable {s : State}

/-- The record of a run that was not going on. -/
theorem RunRecord.of_idle (h : s.run.phase = .idle ∨ s.run.phase = .armed) (e : EndReason) (kept : Prop) :
    RunRecord s e kept (s.record s.run.axle) := by
  rcases h with h | h <;> exact ⟨rfl, rfl, fun _ => rfl, by simp [h, inAttemptPart], by simp [h], by simp [h]⟩

/-- The record of the attempt part (R85, R86). -/
theorem RunRecord.of_attempt (h : inAttemptPart s.run.phase = true) (a : Attempt) {e : EndReason} (he : a.reason = e) (kept : Prop) :
    RunRecord s e kept ((s.record s.run.axle).pushed { a with time := s.time }) := by
  refine ⟨rfl, rfl, ?_, fun _ => by rw [AxleRecord.pushed_top, Option.map_some, he], fun hp => ?_, fun hp _ => ?_⟩
  · rintro (hp | hp) <;> simp [hp, inAttemptPart] at h
  · simp [hp, inAttemptPart] at h
  · simp [hp, inAttemptPart] at h

/-- The record of the parking run (R86, R91, R92). -/
theorem RunRecord.of_parking (h : s.run.phase = .parkOnset ∨ s.run.phase = .parkRun) (e : EndReason) (kept : Prop) :
    RunRecord s e kept (((s.record s.run.axle).parked (s.parkingResult e)).withHeld s.run.held s.time) := by
  obtain ⟨hstatus, hskip⟩ := ((s.record s.run.axle).parked (s.parkingResult e)).withHeld_status s.run.held s.time
  obtain ⟨hparking, -⟩ := ((s.record s.run.axle).parked (s.parkingResult e)).withHeld_kept s.run.held s.time
  refine ⟨hstatus, hskip, ?_, fun hp => ?_, fun hp => ?_, fun hp _ => ?_⟩
  · rcases h with h | h <;> simp [h]
  · rcases h with h | h <;> simp [h, inAttemptPart] at hp
  · rw [hparking]
    simp [AxleRecord.parked, State.parkingResult, hp]
  · rw [hparking]
    simp [AxleRecord.parked, State.parkingResult, hp]

/-- The record of a wait in PARK_ONSET that was withdrawn (R89). -/
theorem RunRecord.of_withdrawn (h : s.run.phase = .parkOnset) (e : EndReason) :
    RunRecord s e False ((s.record s.run.axle).withHeld s.run.held s.time) := by
  obtain ⟨hstatus, hskip⟩ := (s.record s.run.axle).withHeld_status s.run.held s.time
  exact ⟨hstatus, hskip, by simp [h], by simp [h, inAttemptPart], by simp [h], fun _ hf => hf.elim⟩

theorem RunRecord.mono {e : EndReason} {kept kept' : Prop} {r : AxleRecord} (h : RunRecord s e kept r) (hk : kept' → kept) :
    RunRecord s e kept' r := { h with onset := fun hp hk' => h.onset hp (hk hk') }

/-! ## The ends of a run -/

theorem RunLeft.congr {t t' : State} {e : EndReason} {kept : Prop} (h : RunLeft s t e kept) (hr : t'.run = t.run)
    (ht : t'.tab = t.tab) : RunLeft s t' e kept := by
  obtain ⟨r, hrec, htab⟩ := h.tab
  exact ⟨hr.trans h.run, r, hrec, ht.trans htab⟩

/-- The relation reads of the state before it the run, the table and lane time. -/
theorem RunLeft.from {s' t : State} {e : EndReason} {kept : Prop} (h : RunLeft s t e kept) (hr : s.run = s'.run) (ht : s.tab = s'.tab)
    (htime : s.time = s'.time) : RunLeft s' t e kept := by
  obtain ⟨r, hrec, htab⟩ := h.tab
  have hrecord : s.record s.run.axle = s'.record s'.run.axle := by rw [State.record, State.record, hr, ht]
  refine ⟨by rw [h.run, hr], r, ⟨?_, ?_, ?_, ?_, ?_, ?_⟩, by rw [htab, hr, ht]⟩
  · rw [← hrecord]; exact hrec.status
  · rw [← hrecord]; exact hrec.skip
  · rw [← hrecord, ← hr]; exact hrec.none
  · rw [← hr, ← htime]; exact hrec.attempt
  · rw [← hr, ← htime]; exact hrec.run
  · rw [← hr, ← htime]; exact hrec.onset

theorem RunLeft.idle {t : State} {e : EndReason} {kept : Prop} (h : RunLeft s t e kept) : t.run.phase = .idle := by
  rw [h.run]
  split
  · assumption
  · rfl

theorem RunLeft.takeEndOfSpin {e : EndReason} {kept : Prop} {u : State} (h : RunLeft s u e kept) (owed : Bool) :
    RunLeft s (u.takeEndOfSpin owed) e kept := h.congr (by simp) (by simp)

theorem State.endAttempt_left (s : State) (h : inAttemptPart s.run.phase = true) (e : EndReason) (kept : Prop) (unsteady : Bool) :
    RunLeft s ((s.setRun { s.run with unsteady := unsteady }).endAttempt e) e kept := by
  have hne : s.run.phase ≠ .idle := fun hp => by simp [hp, inAttemptPart] at h
  refine ⟨by rw [if_neg hne]; rfl, _, .of_attempt h ((s.setRun { s.run with unsteady := unsteady }).fixAttempt e false) rfl kept, ?_⟩
  exact (s.setRun { s.run with unsteady := unsteady }).pushAttempt_tab _ _

section
variable (s) (hk : s.run.axle < s.tab.records.length)
include hk

/-- No run is going on: the unit is idled, or IDLE already. -/
theorem RunLeft.of_armed (h : s.run.phase = .idle ∨ s.run.phase = .armed) (e : EndReason) (kept : Prop) {t : State}
    (ht : t.run = if s.run.phase = .idle then s.run else RunUnit.cleared) (htab : t.tab = s.tab) : RunLeft s t e kept :=
  ⟨ht, _, .of_idle h e kept, by rw [htab, State.set_record_self s _ hk]⟩

theorem State.endParking_left (h : s.run.phase = .parkOnset ∨ s.run.phase = .parkRun) (e : EndReason) (kept : Prop) :
    RunLeft s (s.endParking e) e kept := by
  have hne : s.run.phase ≠ .idle := by rcases h with h | h <;> simp [h]
  exact ⟨by rw [if_neg hne]; rfl, _, .of_parking h e kept, s.endParking_tab e hk⟩

/-- A run-end command (R86). -/
theorem State.runEnd_left (e : EndReason) : RunLeft s (s.runEnd e) e True := by
  cases hp : s.run.phase
  case idle => exact .of_armed s hk (.inl hp) e True (by simp [State.runEnd, hp]) (by simp [State.runEnd, hp])
  case armed => exact .of_armed s hk (.inr hp) e True (by simp [State.runEnd, hp, State.idleUnit]) (by simp [State.runEnd, hp])
  case parkOnset =>
    rw [show s.runEnd e = s.endParking e by simp [State.runEnd, hp]]
    exact s.endParking_left hk (.inl hp) e True
  case parkRun =>
    rw [show s.runEnd e = s.endParking e by simp [State.runEnd, hp]]
    exact s.endParking_left hk (.inr hp) e True
  all_goals
    rw [show s.runEnd e = s.endAttempt e by simp [State.runEnd, hp]]
    exact s.endAttempt_left (by rw [hp]; rfl) e True s.run.unsteady

/-- A stop of the drive (R69, R85, R89, R91). -/
theorem State.runStop_left (r : StopReason) :
    RunLeft s (s.runStop r) (endOfStop r) (s.run.held = none ∨ s.run.waitBegan ≠ s.clk.sampleNo) := by
  by_cases hidle : s.run.phase = .idle ∨ s.run.phase = .armed
  · refine .of_armed s hk hidle _ _ ?_ ?_ <;> rcases hidle with hp | hp <;> simp [State.runStop, hp, State.idleUnit]
  by_cases hpark : s.run.phase = .parkOnset ∨ s.run.phase = .parkRun
  · rw [s.runStop_parking r hpark]
    split
    next hw =>
      obtain ⟨hp, hheld, hbegan⟩ := hw
      refine RunLeft.takeEndOfSpin (u := s.pushHeld.idleUnit) ⟨by rw [if_neg (by simp [hp])]; rfl, _, (RunRecord.of_withdrawn hp _).mono ?_, s.pushHeld_tab hk⟩ true
      rintro (h | h)
      · exact hheld h
      · exact h hbegan
    next => exact (s.endParking_left hk hpark _ _).takeEndOfSpin false
  · have hattempt : inAttemptPart s.run.phase = true := by
      cases hp : s.run.phase <;> simp_all [inAttemptPart]
    rw [s.runStop_attempt r hattempt]
    exact (s.endAttempt_left hattempt _ _ _).takeEndOfSpin _

end

end

/-! ## Stops as they end a run (R38, R85, R91) -/

section
variable (s : State) (hk : s.run.axle < s.tab.records.length)
include hk

/-- What a stop of a spin leaves of run and table. -/
theorem State.stopDrive_left (r : StopReason) (h : isSpinning s.drv.state = true) : RunLeft s (s.stopDrive r) (endOfStop (s.stopCause r))
    (s.run.held = none ∨ s.run.waitBegan ≠ s.clk.sampleNo) := by
  rw [State.stopDrive_eq s r h]
  have hrun : (s.enterStopping (s.stopCause r)).run = s.run := by simp
  have htab : (s.enterStopping (s.stopCause r)).tab = s.tab := by simp
  have hclk : (s.enterStopping (s.stopCause r)).clk = s.clk := by simp
  have hleft := (s.enterStopping (s.stopCause r)).runStop_left (by rw [hrun, htab]; exact hk) (s.stopCause r)
  rw [hrun, hclk] at hleft
  exact (hleft.congr (by simp) (by simp)).from hrun htab (by simp)

/-- The work on an axle given up: the run ended with the reason, the spin stopped COMMANDED, the weighing abandoned (R142, R144, R147). -/
theorem State.giveUpWork_left (e : EndReason) : RunLeft s (s.giveUpWork e) e True ∧
    (isSpinning s.drv.state = true → Stopped s (s.giveUpWork e) .commanded) ∧
    (isSpinning s.drv.state = false → (s.giveUpWork e).drv = s.drv) ∧ (s.giveUpWork e).weigh = none ∧
    (s.giveUpWork e).seq = s.seq ∧ (s.giveUpWork e).plate = s.plate := by
  have hleft := s.runEnd_left hk e
  have hidle := hleft.idle
  have hdrv : (s.runEnd e).drv = s.drv := by simp
  have hseq : (s.runEnd e).seq = s.seq := by simp
  have hplate : (s.runEnd e).plate = s.plate := by simp
  have hgive : s.giveUpWork e = (s.runEnd e).haltDrive.setWeigh none := rfl
  rw [hgive]
  by_cases hspin : isSpinning s.drv.state = true
  · have hhalt : (s.runEnd e).haltDrive = (s.runEnd e).enterStopping .commanded := by
      rw [State.haltDrive, if_pos (by rw [hdrv]; exact hspin), State.runStop_idle _ _ (by simpa using hidle)]
    rw [hhalt]
    refine ⟨hleft.congr (by simp) (by simp), fun _ => ?_, fun h => by simp [hspin] at h, rfl, by simp, by simp⟩
    simp [Stopped, State.enterStopping_drv]
  · have hhalt : (s.runEnd e).haltDrive = s.runEnd e := by rw [State.haltDrive, if_neg (by rw [hdrv]; exact hspin)]
    rw [hhalt]
    exact ⟨hleft.congr (by simp) (by simp), fun h => absurd h hspin, fun _ => hdrv, rfl, hseq, hplate⟩

end

/-! ## The abort of a plan (R147) -/

/-- Between two states the records of the axles of the plan that were PENDING or IN_TEST are SKIPPED / ABORTED, and nothing else of the
table is read in another way. -/
structure RecordsAborted (s t : State) : Prop where
  cursor : t.tab.cursor = s.tab.cursor
  records : ∀ k, t.record k = if k < s.tab.axleCount ∧ (s.record k).untested = true then (s.record k).aborted else s.record k

theorem State.abortRecords_aborted (s : State) : RecordsAborted s s.abortRecords :=
  ⟨by
    have hstep (u : State) (k : Nat) : (u.abortRecord k).tab.cursor = u.tab.cursor := by
      unfold State.abortRecord
      split <;> simp [State.setStatus_tab]
    exact foldl_keeps _ (fun u : State => u.tab.cursor) hstep _ _, s.abortRecords_record⟩

theorem AxleRecord.untested_iff (r : AxleRecord) : r.untested = true ↔ r.status = .pending ∨ r.status = .inTest := by
  simp [AxleRecord.untested]

/-- What an abort of a plan leaves, by the run that it gives up (R86, R114, R147). -/
theorem State.abortPlan_event (s : State) (o : ReqOutcome) (d : Detail) (hq : isPlanState s.seq.state = true)
    (hk : s.run.axle < s.tab.records.length) (hw : Memory.wf s.mem) :
    (s.abortPlan o d).seq.state = .aborted ∧ (s.abortPlan o d).att.bits.getLsbD 5 = true ∧ (s.abortPlan o d).weigh = none ∧
    (∃ w, RunLeft s w .abort True ∧ (s.abortPlan o d).run = w.run ∧ RecordsAborted w (s.abortPlan o d)) ∧
    (isSpinning s.drv.state = true → Stopped s (s.abortPlan o d) .commanded) ∧
    (isSpinning s.drv.state = false → (s.abortPlan o d).drv = s.drv) ∧
    (s.abortPlan o d).plate = { s.plate with crossing := .idle, follower := false } ∧
    ∀ n, s.activeSlot .runPlan = some n → SlotDone (s.abortPlan o d) n o d [] := by
  obtain ⟨hleft, hstop, hrest, hweigh, hseq, hplate⟩ := s.giveUpWork_left hk .abort
  have hslots : (s.giveUpWork .abort).slots = s.slots := by simp
  have habort : s.abortPlan o d = ((s.giveUpWork .abort).abortRecords.enterSeq .aborted).completePlan o d := if_pos hq
  have hwf : Memory.wf ((s.giveUpWork .abort).abortRecords).mem :=
    (State.abortRecords_rec (State.giveUpWork_rec _ (Recorded.refl s))).wf hw
  rw [habort]
  generalize s.giveUpWork .abort = w at *
  have hne : w.abortRecords.seq.state ≠ .aborted := by
    intro h
    have habs : s.seq.state = .aborted := by simpa [hseq] using h
    simp [habs, isPlanState] at hq
  have hrecords := w.abortRecords_aborted
  refine ⟨by simp, ?_, by simp [hweigh], ⟨w, hleft, by simp, ⟨by simpa using hrecords.cursor, fun k => ?_⟩⟩, fun h => ?_, fun h => ?_, ?_,
    fun n hn => ?_⟩
  · exact State.completePlan_att_mono _ _ _ 5 (State.enterSeq_lane _ .aborted hne rfl)
  · rw [State.record_congr (s := w.abortRecords) (by simp)]
    exact hrecords.records k
  · exact (hstop h).congr rfl (by simp)
  · simpa using hrest h
  · have hentered := State.enterSeq_plate _ .aborted hne
    rw [if_neg (by decide)] at hentered
    simp [hentered, hplate]
  · exact State.completePlan_done _ o d n ((State.activeSlot_congr (by simp [hslots]) _).trans hn) (State.enterSeq_wf _ _ hwf)

end Sys2Proof.Machine

/-! PROOFS. A plan aborted as a whole (R146, R147). -/

namespace Sys2Proof.Machine

set_option Elab.async false

/-! ## The records of an aborted plan -/

section
variable {s w t : State} {e : EndReason} {kept : Prop}

/-- The records behind the end of a run. -/
theorem RunLeft.records (h : RunLeft s w e kept) (hk : s.run.axle < s.tab.records.length) :
    ∃ r, RunRecord s e kept r ∧ ∀ k, w.record k = if k = s.run.axle then r else s.record k := by
  obtain ⟨r, hrec, htab⟩ := h.tab
  refine ⟨r, hrec, fun k => ?_⟩
  rw [State.record, htab]
  split
  next hkr => simp [hkr, hk]
  next hkr => simp [State.record, Ne.symm hkr]

/-- Status and skip reason of every record behind the end of a run are those before it. -/
theorem RunLeft.statuses (h : RunLeft s w e kept) (hk : s.run.axle < s.tab.records.length) (k : Nat) :
    (w.record k).status = (s.record k).status ∧ (w.record k).skip = (s.record k).skip := by
  obtain ⟨r, hrec, hall⟩ := h.records hk
  rw [hall]
  split
  next hkr => exact ⟨hkr ▸ hrec.status, hkr ▸ hrec.skip⟩
  next => exact ⟨rfl, rfl⟩

theorem RunLeft.axleCount (h : RunLeft s w e kept) : w.tab.axleCount = s.tab.axleCount ∧ w.tab.cursor = s.tab.cursor := by
  obtain ⟨r, -, htab⟩ := h.tab
  rw [htab]
  exact ⟨rfl, rfl⟩

theorem RecordsAborted.results (h : RecordsAborted w t) (k : Nat) : (t.record k).attempts = (w.record k).attempts ∧
    (t.record k).parking = (w.record k).parking := by
  rw [h.records]
  split <;> exact ⟨rfl, rfl⟩

/-- A plan aborted, from the run that was given up, the records that were written, and what the drive and the sequencer did (R147). -/
theorem PlanAborted.intro {r : StopReason} {o : ReqOutcome} {d : Detail} (hk : s.run.axle < s.tab.records.length)
    (hleft : RunLeft s w e kept) (hkept : s.run.held = none ∨ s.run.waitBegan ≠ s.clk.sampleNo ∨ r = .commanded → kept)
    (hrun : t.run = w.run) (hrecords : RecordsAborted w t)
    (hseq : t.seq.state = .aborted) (hlane : t.att.bits.getLsbD 5 = true) (hweigh : t.weigh = none)
    (hstop : isSpinning s.drv.state = true → Stopped s t r) (hrest : isSpinning s.drv.state = false → t.drv = s.drv)
    (hplate : t.plate = { s.plate with crossing := .idle, follower := false })
    (hslot : ∀ n, s.activeSlot .runPlan = some n → SlotDone t n o d []) : PlanAborted s t r e o d := by
  obtain ⟨x, hx, hall⟩ := hleft.records hk
  obtain ⟨hcount, hcursor⟩ := hleft.axleCount
  have hown : w.record s.run.axle = x := by rw [hall, if_pos rfl]
  have htop (k : Nat) : (t.record k).top = (w.record k).top := by rw [AxleRecord.top, (hrecords.results k).1, AxleRecord.top]
  refine ⟨hseq, hlane, hweigh, hrun.trans hleft.run, hstop, hrest, hplate, hrecords.cursor.trans hcursor, fun k => ?_, fun hp k => ?_,
    fun hp => ?_, fun hp => ?_, fun hp hwait => ?_, hslot⟩
  · obtain ⟨hstatus, hskip⟩ := hleft.statuses hk k
    rw [hrecords.records, hcount]
    simp only [AxleRecord.untested_iff, hstatus]
    split
    · rfl
    · rw [hstatus, hskip]
  · have hsame : w.record k = s.record k := by
      rw [hall]
      split
      next h => rw [hx.none hp, h]
      next => rfl
    rw [(hrecords.results k).1, (hrecords.results k).2, hsame]
    exact ⟨rfl, rfl⟩
  · rw [htop, hown]
    exact hx.attempt hp
  · rw [(hrecords.results _).2, hown]
    exact hx.run hp
  · rw [(hrecords.results _).2, hown]
    exact hx.onset hp (hkept hwait)

end

/-- An abort of a plan that no other stop goes before (R86, R147). -/
theorem abortPlan_aborts (s : State) (o : ReqOutcome) (d : Detail) (hq : isPlanState s.seq.state = true)
    (hk : s.run.axle < s.tab.records.length) (hw : Memory.wf s.mem) : PlanAborted s (s.abortPlan o d) .commanded .abort o d := by
  obtain ⟨hseq, hlane, hweigh, ⟨w, hleft, hrun, hrecords⟩, hstop, hrest, hplate, hslot⟩ := s.abortPlan_event o d hq hk hw
  exact .intro hk hleft (fun _ => trivial) hrun hrecords hseq hlane hweigh hstop hrest hplate hslot

/-- The abort of a plan behind a stop that has ended its run (R85, R147). -/
theorem abortPlan_behind {s u : State} {e : EndReason} {kept : Prop} (r : StopReason) (o : ReqOutcome) (d : Detail)
    (hleft : RunLeft s u e kept) (hkept : s.run.held = none ∨ s.run.waitBegan ≠ s.clk.sampleNo ∨ r = .commanded → kept)
    (hstop : Stopped s u r) (hspin : isSpinning s.drv.state = true) (hq : isPlanState u.seq.state = true)
    (hk : s.run.axle < s.tab.records.length) (hku : u.run.axle < u.tab.records.length) (hw : Memory.wf u.mem) (hplate : u.plate = s.plate)
    (hslots : u.slots = s.slots) : PlanAborted s (u.abortPlan o d) r e o d := by
  obtain ⟨hseq, hlane, hweigh, ⟨w, hgiven, hrun, hrecords⟩, -, hrest, hplateEnd, hslot⟩ := u.abortPlan_event o d hq hku hw
  have hidle := hleft.idle
  have hnot : isSpinning u.drv.state = false := by
    rw [hstop]
    rfl
  have hwrun : w.run = u.run := by rw [hgiven.run, if_pos hidle]
  have hwtab : w.tab = u.tab := by
    obtain ⟨x, hx, htab⟩ := hgiven.tab
    rw [htab, hx.none (.inl hidle), State.set_record_self u _ hku]
  refine .intro hk (hleft.congr hwrun hwtab) hkept hrun hrecords hseq hlane hweigh (fun _ => hstop.congr rfl (hrest hnot))
    (fun h => by simp [hspin] at h) (by rw [hplateEnd, hplate]) fun n hn => hslot n ((State.activeSlot_congr hslots _).trans hn)

/-- The relation reads of the state behind the abort neither the journal nor lane memory outside the slots. -/
theorem PlanAborted.congr {s t t' : State} {r : StopReason} {e : EndReason} {o : ReqOutcome} {d : Detail} (h : PlanAborted s t r e o d)
    (hm : ∀ n a, slotByte n a → Memory.readByte t'.mem a = Memory.readByte t.mem a) (hseq : t'.seq = t.seq := by simp)
    (hatt : t'.att = t.att := by simp) (hweigh : t'.weigh = t.weigh := by simp) (hrun : t'.run = t.run := by simp)
    (hdrv : t'.drv = t.drv := by simp) (hplate : t'.plate = t.plate := by simp) (htab : t'.tab = t.tab := by simp)
    (hslots : t'.slots = t.slots := by simp) : PlanAborted s t' r e o d := by
  unfold PlanAborted Stopped at *
  simp only [State.record_congr htab, hseq, hatt, hweigh, hrun, hdrv, hplate, htab]
  obtain ⟨h1, h2, h3, h4, h5, h6, h7, h8, h9, h10, h11, h12, h13, hslot⟩ := h
  exact ⟨h1, h2, h3, h4, h5, h6, h7, h8, h9, h10, h11, h12, h13, fun n hn => (hslot n hn).congr hslots (hm n)⟩

/-- The relation reads of the state before the abort what an act beside the plan leaves alone. -/
theorem PlanAborted.from {s s' t : State} {r : StopReason} {e : EndReason} {o : ReqOutcome} {d : Detail} (h : PlanAborted s t r e o d)
    (hrun : s.run = s'.run) (hdrv : s.drv = s'.drv) (hplate : s.plate = s'.plate) (htab : s.tab = s'.tab) (htime : s.time = s'.time)
    (hclk : s.clk = s'.clk) (hslots : s.slots = s'.slots) : PlanAborted s' t r e o d := by
  unfold PlanAborted Stopped at *
  simp only [State.activeSlot_congr hslots, State.record_congr htab, hrun, hdrv, hplate, htab, htime, hclk] at h
  exact h

end Sys2Proof.Machine

/-! PROOFS. KEY settling (R6, R22, R38, R146): the lane mode, the stop, the abort of a plan, and the repeat of a refused start. -/

namespace Sys2Proof.Machine

set_option Elab.async false

/-! ## What a stop leaves of the sequencer and of the plate (R114, R136) -/

section
variable (s : State)

/-- A stop leaves a plan running where one runs, and the plate unit alone. -/
theorem State.takeEndOfSpin_plan (owed : Bool) : isPlanState (s.takeEndOfSpin owed).seq.state = isPlanState s.seq.state ∧
    (s.takeEndOfSpin owed).plate = s.plate ∧ (isPlanState s.seq.state = false → (s.takeEndOfSpin owed).seq = s.seq) := by
  have hplan (q : SeqState) (h : isRunState q = true) : isPlanState q = true := by cases q <;> simp_all [isRunState, isPlanState]
  unfold State.takeEndOfSpin
  split
  next h =>
    refine ⟨by rw [State.enterSeq_state, hplan _ h]; rfl, State.enterSeq_plate_of_plan _ _ rfl, fun hn => ?_⟩
    rw [hplan _ h] at hn
    cases hn
  next =>
    split
    next h => exact ⟨by simp, rfl, fun hn => by simp [h, isPlanState] at hn⟩
    next => exact ⟨rfl, rfl, fun _ => rfl⟩

theorem State.runStop_plan (r : StopReason) : isPlanState (s.runStop r).seq.state = isPlanState s.seq.state ∧
    (s.runStop r).plate = s.plate ∧ (isPlanState s.seq.state = false → (s.runStop r).seq = s.seq) := by
  have ended (u : State) (owed : Bool) (hq : u.seq = s.seq) (hp : u.plate = s.plate) :
      isPlanState (u.takeEndOfSpin owed).seq.state = isPlanState s.seq.state ∧ (u.takeEndOfSpin owed).plate = s.plate ∧
        (isPlanState s.seq.state = false → (u.takeEndOfSpin owed).seq = s.seq) := by
    have h := u.takeEndOfSpin_plan owed
    rwa [hq, hp] at h
  by_cases hidle : s.run.phase = .idle ∨ s.run.phase = .armed
  · have hseq : (s.runStop r).seq = s.seq := by rcases hidle with h | h <;> simp [State.runStop, h]
    have hplate : (s.runStop r).plate = s.plate := by rcases hidle with h | h <;> simp [State.runStop, h]
    exact ⟨by rw [hseq], hplate, fun _ => hseq⟩
  by_cases hpark : s.run.phase = .parkOnset ∨ s.run.phase = .parkRun
  · rw [s.runStop_parking r hpark]
    split <;> exact ended _ _ (by simp) (by simp)
  · have hattempt : inAttemptPart s.run.phase = true := by cases hp : s.run.phase <;> simp_all [inAttemptPart]
    rw [s.runStop_attempt r hattempt]
    exact ended _ _ (by simp) (by simp)

theorem State.ownerStop_plan (r : StopReason) : isPlanState (s.ownerStop r).seq.state = isPlanState s.seq.state ∧
    (s.ownerStop r).plate = s.plate ∧ (isPlanState s.seq.state = false → (s.ownerStop r).seq = s.seq) := by
  unfold State.ownerStop
  split
  · unfold State.takeDriveStop
    split
    next h =>
      have hplan : isPlanState s.seq.state = true := by cases hq : s.seq.state <;> simp_all [isRunState, isPlanState]
      refine ⟨by rw [State.enterSeq_state, hplan]; rfl, State.enterSeq_plate_of_plan _ _ rfl, fun hn => ?_⟩
      rw [hplan] at hn
      cases hn
    next => exact ⟨rfl, rfl, fun _ => rfl⟩
  · simp
  · exact ⟨rfl, rfl, fun _ => rfl⟩

theorem State.stopDrive_plan (r : StopReason) : isPlanState (s.stopDrive r).seq.state = isPlanState s.seq.state ∧
    (s.stopDrive r).plate = s.plate ∧ (isPlanState s.seq.state = false → (s.stopDrive r).seq = s.seq) := by
  unfold State.stopDrive
  split
  next =>
    set c := s.stopCause r
    set u := s.enterStopping c
    have hseq : u.seq = s.seq := by simp [u]
    have hplate : u.plate = s.plate := by simp [u]
    obtain ⟨h1, h2, h3⟩ := u.runStop_plan c
    obtain ⟨h4, h5, h6⟩ := (u.runStop c).ownerStop_plan c
    rw [hseq] at h1 h3
    exact ⟨h4.trans h1, h5.trans (h2.trans hplate), fun hn => (h6 (h1.trans hn)).trans (h3 hn)⟩
  next => exact ⟨rfl, rfl, fun _ => rfl⟩

theorem State.stopEvent_plan (r : StopReason) : isPlanState (s.stopEvent r).seq.state = isPlanState s.seq.state ∧
    (s.stopEvent r).plate = s.plate ∧ (isPlanState s.seq.state = false → (s.stopEvent r).seq = s.seq) := by
  have h := s.stopDrive_plan r
  simpa [State.stopEvent] using h

/-- Without a plan an abort is ignored (R148). -/
theorem State.abortPlan_ignored (o : ReqOutcome) (d : Detail) (h : isPlanState s.seq.state = false) : s.abortPlan o d = s :=
  if_neg (by simp [h])

theorem State.abortEvent_ignored (o : ReqOutcome) (d : Detail) (h : isPlanState s.seq.state = false) :
    frameAfter s (s.abortPlan o d) = s := by
  rw [s.abortPlan_ignored o d h, frameAfter_of_seq rfl]

/-- An abort leaves a drive that does not spin as it is (R147). -/
theorem State.abortPlan_drv (o : ReqOutcome) (d : Detail) (h : isSpinning s.drv.state = false) : (s.abortPlan o d).drv = s.drv := by
  unfold State.abortPlan
  split
  · have hhalt : (s.runEnd .abort).haltDrive = s.runEnd .abort := by
      rw [State.haltDrive, if_neg (by simpa using h)]
    simp [State.giveUpWork, hhalt]
  · rfl

end

/-! ## The lane mode (R22, R38, R135, R146) -/

section
variable (s : State)

/-- The state with the lane mode changed and its entry made (R22). -/
def State.modeChanged (s : State) : State :=
  (s.setEng { s.eng with mode := s.derivedMode }).produce evModeChanged 0 (word (codeOfMode s.eng.mode)) (word (codeOfMode s.derivedMode))

theorem State.modeChanged_kept : KeepsAllBut [.eng, .mem, .jr, .att] s s.modeChanged := by
  intro p hp
  cases p <;> simp_all [Part.same, State.modeChanged]

theorem State.modeChanged_eng : s.modeChanged.eng = { s.eng with mode := s.derivedMode } := by simp [State.modeChanged]

theorem Logged.modeChanged {σ : State} {l : List JournalEntry} (h : Logged σ s l) : ∃ e, Logged σ s.modeChanged (l ++ [e]) :=
  ⟨_, (h.same (t := s.setEng { s.eng with mode := s.derivedMode }) rfl rfl rfl).produce evModeChanged 0 (word (codeOfMode s.eng.mode))
    (word (codeOfMode s.derivedMode))⟩

theorem State.deriveMode_same (h : s.derivedMode = s.eng.mode) : s.deriveMode = s := if_pos h

/-- The mode leaves NORMAL (R38, R146). -/
theorem State.deriveMode_lapses (h : s.derivedMode ≠ s.eng.mode) (hn : s.eng.mode = .normal) : s.deriveMode =
    frameAfter (s.modeChanged.stopEvent .mode) ((s.modeChanged.stopEvent .mode).abortPlan .failed .mode) := by
  rw [State.deriveMode]
  exact (if_neg h).trans (if_pos hn)

/-- The mode changes otherwise (R135). -/
theorem State.deriveMode_changes (h : s.derivedMode ≠ s.eng.mode) (hn : s.eng.mode ≠ .normal) :
    s.deriveMode = frameAfter s.modeChanged s.modeChanged.repeatStart := by
  rw [State.deriveMode]
  exact (if_neg h).trans (if_neg hn)

end

end Sys2Proof.Machine

/-! PROOFS. KEY settling, case by case of the mode that it gives (R6, R22, R38, R135, R146). -/

namespace Sys2Proof.Machine

set_option Elab.async false

section
variable (s : State)

/-- The state with KEY settled and its entry made, in which the lane mode is derived (R6, R22). -/
def State.keyed (s : State) : State := (s.settleLevel .key).keyEntry .key

theorem State.keyed_kept : KeepsAllBut [.eng, .mem, .jr, .att] s s.keyed := by
  intro p hp
  cases p <;> simp_all [Part.same, State.keyed, State.settleLevel]

theorem State.keyed_eng : s.keyed.eng = (s.settleLevel .key).eng := by simp [State.keyed]

theorem State.keyed_logged (hlen : s.eng.inputs.length = 11) :
    Logged s s.keyed [⟨evKey, s.planAxleNumber, word (inputIndex .key), word (!s.level .key).toNat⟩] := by
  have made := ((Logged.refl s).same (t := s.settleLevel .key) rfl rfl rfl).produceHere evKey (word (inputIndex .key))
    (word ((s.settleLevel .key).level .key).toNat)
  rw [State.planAxleNumber_congr (s := s) (by simp [State.settleLevel]) (by simp [State.settleLevel]), List.nil_append] at made
  rw [← s.settleLevel_level_self hlen]
  exact made

theorem State.keyed_level (hlen : s.eng.inputs.length = 11) (j : Input) :
    s.keyed.level j = if j = .key then !s.level .key else s.level j := by
  rw [level_of_inputs (s := s.settleLevel .key) (by rw [s.keyed_eng]), s.settleLevel_levels hlen]

theorem State.keyed_settlesOn (hlen : s.eng.inputs.length = 11) {j : Input} (h : j ≠ .key) : s.keyed.settlesOn j = s.settlesOn j := by
  rw [← s.settleLevel_settlesOn hlen .key h, State.settlesOn, State.settlesOn, State.settles, State.settles, State.level, State.level,
    State.input, State.input, s.keyed_eng]

/-- The lane mode behind the change (R22). -/
theorem State.keyed_mode (hlen : s.eng.inputs.length = 11) : s.keyed.derivedMode =
    if s.eng.cals.any (fun c => c.valid == false) = true then .failsafe else if s.level .key then .normal else .service := by
  have hcals : s.keyed.eng.cals = s.eng.cals := by rw [s.keyed_eng]; rfl
  have hlevel := s.keyed_level hlen .key
  rw [if_pos rfl] at hlevel
  rw [State.derivedMode_eq, hcals, hlevel]
  cases s.level .key <;> rfl

theorem exec_keySettles (hset : s.settles .key = true) (hlen : s.eng.inputs.length = 11) :
    exec (.settledChange .key) s = .next (publish s (if s.level .key = false then frameAfter s.keyed.deriveMode
      (s.keyed.deriveMode.abortPlan .failed .mode) else s.keyed.deriveMode)) := by
  have hlevel : s.keyed.deriveMode.level .key = !s.level .key := by
    rw [level_of_inputs (s := s.keyed) (by rw [State.deriveMode_eng]), s.keyed_level hlen, if_pos rfl]
  have hsteps : s.inputSettles .key =
      if s.keyed.deriveMode.level .key then frameAfter s.keyed.deriveMode (s.keyed.deriveMode.abortPlan .failed .mode)
      else s.keyed.deriveMode := rfl
  rw [exec_settledChange s _ hset, hsteps, hlevel]
  cases s.level .key <;> rfl

/-- The causes of a stop by the lane mode (R38). -/
theorem State.keyed_cause (hlen : s.eng.inputs.length = 11) : s.keyed.modeChanged.stopCause .mode =
    if s.settlesOn .estop then .estop else if s.settlesOn .presence then .presence else .mode := by
  have hinputs : s.keyed.modeChanged.eng.inputs = s.keyed.eng.inputs := by rw [State.modeChanged_eng]
  have hsame (j : Input) (h : j ≠ .key) : s.keyed.modeChanged.settlesOn j = s.settlesOn j := by
    rw [← s.keyed_settlesOn hlen h, State.settlesOn, State.settlesOn, State.settles, State.settles, State.level, State.level,
      State.input, State.input, hinputs]
  rw [State.stopCause, hsame .estop (by decide), hsame .presence (by decide)]

theorem State.keyed_changed_kept : KeepsAllBut [.eng, .mem, .jr, .att] s s.keyed.modeChanged :=
  s.keyed_kept.trans s.keyed.modeChanged_kept

end

/-! ## What KEY settling leads to, by the mode before and behind it -/

/-- The end reason that a plan's run takes where the mode leaves NORMAL (R85). -/
theorem endOfStop_mode {c : StopReason} (h : c = .estop ∨ c = .presence ∨ c = .mode) :
    endOfStop c = if c = .estop then .estop else if c = .presence then .presence else .abort := by
  rcases h with rfl | rfl | rfl <;> rfl

theorem RunLeft.axle_lt {s u : State} {e : EndReason} {kept : Prop} (h : RunLeft s u e kept) (hk : s.run.axle < s.tab.records.length) :
    u.run.axle < u.tab.records.length := by
  obtain ⟨r, -, htab⟩ := h.tab
  rw [h.run, htab]
  simp only [List.length_set]
  split
  · exact hk
  · exact Nat.lt_of_le_of_lt (Nat.zero_le _) hk

/-- A stop and the abort behind it end a plan that turns the rollers (R38, R85, R146). -/
theorem stopThenAbort (p : State) (r : StopReason) (o : ReqOutcome) (d : Detail) (hr : p.stopCause r ≠ .commanded) (hw : Memory.wf p.mem)
    (hq : isPlanState p.seq.state = true) (hspin : isSpinning p.drv.state = true) (hk : p.run.axle < p.tab.records.length) :
    PlanAborted p ((p.stopEvent r).abortPlan o d) (p.stopCause r) (endOfStop (p.stopCause r)) o d := by
  have hleft : RunLeft p (p.stopEvent r) (endOfStop (p.stopCause r)) (p.run.held = none ∨ p.run.waitBegan ≠ p.clk.sampleNo) :=
    (p.stopDrive_left hk r hspin).congr (by simp [State.stopEvent]) (by simp [State.stopEvent])
  obtain ⟨hplan, hplate, -⟩ := p.stopEvent_plan r
  refine abortPlan_behind (p.stopCause r) o d hleft (fun h => ?_) (stopEvent_stopped p r hspin) hspin (hplan.trans hq) hk
    (hleft.axle_lt hk) ((State.stopEvent_rec r (Recorded.refl p)).wf hw) hplate (by simp)
  rcases h with h | h | h
  · exact .inl h
  · exact .inr h
  · exact absurd h hr

/-- A drive that does not spin is not stopped, whatever the reason (R147). -/
theorem PlanAborted.of_rest {s t : State} {r' : StopReason} {e : EndReason} {o : ReqOutcome} {d : Detail}
    (h : PlanAborted s t .commanded e o d) (hspin : isSpinning s.drv.state = false ∨ r' = .commanded) : PlanAborted s t r' e o d := by
  rcases hspin with hspin | rfl
  · obtain ⟨h1, h2, h3, h4, -, h6, h7, h8, h9, h10, h11, h12, h13, h14⟩ := h
    exact ⟨h1, h2, h3, h4, fun hs => by simp [hspin] at hs, h6, h7, h8, h9, h10, h11, h12, fun hp _ => h13 hp (.inr (.inr rfl)), h14⟩
  · exact h

/-- Publication and the frame of an event leave what an abort is read by. -/
theorem PlanAborted.shown {s t : State} {r : StopReason} {e : EndReason} {o : ReqOutcome} {d : Detail} (h : PlanAborted s t r e o d)
    (σ old : State) : PlanAborted s (publish σ (frameAfter old t)) r e o d :=
  h.congr fun _ a hb => (publish_readByte _ _ a (slotByte_not_image _ a hb)).trans (by simp)

end Sys2Proof.Machine

/-! PROOFS. KEY settling with the lane mode as it was, leaving NORMAL, or changing otherwise (R22, R38, R43, R135, R146, R147). -/

namespace Sys2Proof.Machine

set_option Elab.async false

section
variable (s p : State) (hp : KeepsAllBut [.eng, .mem, .jr, .att] s p)
include hp

/-- What is read of the state before KEY settled is read of the state with its entries too. -/
theorem PlanAborted.behind {t : State} {r : StopReason} {e : EndReason} {o : ReqOutcome} {d : Detail} (h : PlanAborted p t r e o d) :
    PlanAborted s t r e o d :=
  h.from (hp .run (by decide)) (hp .drv (by decide)) (hp .plate (by decide)) (hp .tab (by decide)) (hp .time (by decide))
    (hp .clk (by decide)) (hp .slots (by decide))

end

/-! ## The mode leaves NORMAL (R38, R43, R146) -/

section
variable {s p : State} (hp : KeepsAllBut [.eng, .mem, .jr, .att] s p)

/-- The state behind the derivation of a mode that is NORMAL no more. -/
def State.lapsed (p : State) : State := frameAfter (p.stopEvent .mode) ((p.stopEvent .mode).abortPlan .failed .mode)

include hp

theorem State.lapsed_stops (hspin : isSpinning s.drv.state = true) : Stopped s p.lapsed (p.stopCause .mode) := by
  have hdrv : p.drv = s.drv := hp .drv (by decide)
  have hspin' : isSpinning p.drv.state = true := hdrv ▸ hspin
  refine (stopEvent_stopped p .mode hspin').congr hdrv.symm ?_
  have hkeep := (p.stopEvent .mode).abortPlan_drv .failed .mode (by rw [stopEvent_drvState p .mode hspin']; rfl)
  simpa [State.lapsed] using hkeep

theorem State.lapsed_aborts (hw : Memory.wf p.mem) (hq : isPlanState s.seq.state = true) (hk : s.run.axle < s.tab.records.length) 
    (hcause : p.stopCause .mode = .estop ∨ p.stopCause .mode = .presence ∨ p.stopCause .mode = .mode) (σ : State) :
    PlanAborted s (publish σ p.lapsed) (p.stopCause .mode)
      (if isSpinning s.drv.state = true then
        if p.stopCause .mode = .estop then .estop else if p.stopCause .mode = .presence then .presence else .abort
      else .abort) .failed .mode := by
  have hdrv : p.drv = s.drv := hp .drv (by decide)
  have hrun : p.run = s.run := hp .run (by decide)
  have htab : p.tab = s.tab := hp .tab (by decide)
  have hseq : p.seq = s.seq := hp .seq (by decide)
  have hkp : p.run.axle < p.tab.records.length := by rw [hrun, htab]; exact hk
  split
  next hspin =>
    have haborts := stopThenAbort p .mode .failed .mode (by rcases hcause with h | h | h <;> simp [h]) hw (hseq ▸ hq) (hdrv ▸ hspin) hkp
    rw [endOfStop_mode hcause] at haborts
    exact (haborts.behind s p hp).shown σ _
  next hspin =>
    have hrest : isSpinning p.drv.state = false := by rw [hdrv]; exact Bool.eq_false_iff.2 hspin
    rw [State.lapsed, p.stopEvent_rest .mode hrest]
    exact ((((abortPlan_aborts p .failed .mode (hseq ▸ hq) hkp hw).of_rest (.inl hrest))).behind s p hp).shown σ _

/-- A DRIVE_TEST that the lapse decides (R43). -/
theorem State.lapsed_decides (hspin : isSpinning s.drv.state = true) (ho : s.drv.owner = some .driveTest)
    (hq : isPlanState s.seq.state = false) (d : DriveTest) (hd : s.dtest = some d) :
    p.lapsed.dtest = some (d.stopped (p.stopCause .mode)) ∧ p.lapsed.slots = s.slots := by
  have hdrv : p.drv = s.drv := hp .drv (by decide)
  have hseq : p.seq = s.seq := hp .seq (by decide)
  have htest : p.dtest = s.dtest := hp .dtest (by decide)
  have hslots : p.slots = s.slots := hp .slots (by decide)
  obtain ⟨hplan, -, -⟩ := p.stopEvent_plan .mode
  have hskip : p.lapsed = p.stopEvent .mode := State.abortEvent_ignored _ _ _ (by rw [hplan, hseq, hq])
  rw [hskip]
  refine ⟨?_, by simp [hslots]⟩
  rw [p.stopEvent_dtest .mode (hdrv ▸ hspin) (hdrv ▸ ho), htest, hd]
  rfl

/-- Where no rollers turn and no plan runs the change of the mode is all. -/
theorem State.lapsed_quiet (hspin : isSpinning s.drv.state = false) (hq : isPlanState s.seq.state = false) : p.lapsed = p := by
  have hdrv : p.drv = s.drv := hp .drv (by decide)
  have hseq : p.seq = s.seq := hp .seq (by decide)
  rw [State.lapsed, p.stopEvent_rest .mode (by rw [hdrv]; exact hspin)]
  exact p.abortEvent_ignored _ _ (by rw [hseq]; exact hq)

end

theorem State.abortPlan_over (s : State) (o : ReqOutcome) (d : Detail) : isPlanState (s.abortPlan o d).seq.state = false := by
  by_cases h : isPlanState s.seq.state = true
  · have haborted : (s.abortPlan o d).seq.state = .aborted := by simp [State.abortPlan, h]
    rw [haborted]
    rfl
  · rw [s.abortPlan_ignored o d (Bool.eq_false_iff.2 h)]
    exact Bool.eq_false_iff.2 h

theorem State.lapsed_over (p : State) : isPlanState p.lapsed.seq.state = false := by
  have h := (p.stopEvent .mode).abortPlan_over .failed .mode
  simpa [State.lapsed] using h

/-! ## The mode changes otherwise (R135) -/

/-- A refused start that is repeated away from NORMAL is refused again (R33, R135). -/
theorem repeatStart_refused (p : State) (h : p.eng.mode ≠ .normal) :
    KeepsAllBut [.seq] p p.repeatStart ∧ p.repeatStart.seq.state = p.seq.state ∧ p.repeatStart.mem = p.mem := by
  have hrefused : p.startRefusal ≠ none := by
    unfold State.startRefusal
    split_ifs <;> simp_all
  unfold State.repeatStart
  split
  · rw [State.issueStart_refused p hrefused]
    refine ⟨fun q hq => ?_, rfl, rfl⟩
    cases q <;> simp_all [Part.same]
  · exact ⟨.refl _ _, rfl, rfl⟩

/-- The abort of a plan by KEY in SERVICE, where no spin was stopped before it (R146). -/
theorem serviceAborts (s m : State) (hm : KeepsAllBut [.eng, .mem, .jr, .att, .seq, .disp] s m) (hstate : m.seq.state = s.seq.state)
    (hw : Memory.wf m.mem) (hq : isPlanState s.seq.state = true) (hk : s.run.axle < s.tab.records.length) (σ : State) :
    PlanAborted s (publish σ (frameAfter m (m.abortPlan .failed .mode))) .commanded .abort .failed .mode := by
  have hrun : m.run = s.run := hm .run (by decide)
  have htab : m.tab = s.tab := hm .tab (by decide)
  have haborts := abortPlan_aborts m .failed .mode (by rw [hstate]; exact hq) (by rw [hrun, htab]; exact hk) hw
  exact (haborts.from hrun (hm .drv (by decide)) (hm .plate (by decide)) htab (hm .time (by decide)) (hm .clk (by decide))
    (hm .slots (by decide))).shown σ _

/-- Settles O29: KEY settling with the mode as it was, leaving NORMAL, and changing otherwise. -/
theorem keySettlesDerivesTheMode : Obligations.KeySettlesDerivesTheMode := by
  unfold Obligations.KeySettlesDerivesTheMode
  intro s hlen hw hset mode
  have hmode : s.keyed.derivedMode = mode := s.keyed_mode hlen
  have hold : s.keyed.eng.mode = s.eng.mode := by rw [s.keyed_eng]; rfl
  have hlog := s.keyed_logged hlen
  have hk := s.keyed_kept
  have hkp := s.keyed_changed_kept
  have hcause := s.keyed_cause hlen
  have hlevel := s.keyed_level hlen
  have hcauses : s.keyed.modeChanged.stopCause .mode = .estop ∨ s.keyed.modeChanged.stopCause .mode = .presence ∨
      s.keyed.modeChanged.stopCause .mode = .mode := by
    rw [hcause]
    split_ifs <;> simp
  have hmem : Memory.wf s.keyed.mem := hlog.wf hw
  obtain ⟨e, hchange⟩ := Logged.modeChanged s.keyed hlog
  have hpmem : Memory.wf s.keyed.modeChanged.mem := hchange.wf hw
  have hpmode : s.keyed.modeChanged.eng.mode = mode := by rw [State.modeChanged_eng, hmode]
  have heng : s.keyed.deriveMode.eng = { s.keyed.eng with mode := mode } := by rw [State.deriveMode_eng, hmode]
  refine ⟨_, exec_keySettles s hset hlen, ?_, ?_, ?_⟩
  · split <;> simp [heng]
  · rw [level_of_inputs (s := s.keyed) (by split <;> simp [heng]), hlevel, if_pos rfl]
  by_cases hsame : mode = s.eng.mode
  · rw [s.keyed.deriveMode_same (by rw [hmode, hold, hsame])]
    refine ⟨fun hn hne => absurd (hsame.trans hn) hne, fun hq hor hax _ => ?_, fun hn hne => absurd (hsame.trans hn) hne,
      fun _ hor => ?_, fun hne => absurd hsame hne, fun hne hn => absurd (hsame.symm.trans hn) hne⟩
    · have hlapse : ¬ (s.eng.mode = .normal ∧ mode ≠ .normal) := fun h => h.2 (hsame.trans h.1)
      have hoff : s.level .key = false := hor.resolve_right hlapse
      simp only [hlapse, false_and, if_false]
      rw [if_pos hoff]
      exact serviceAborts s s.keyed (hk.mono (by decide)) (by rw [hk .seq (by decide)]) hmem hq hax s
    · have hquiet : (if s.level .key = false then frameAfter s.keyed (s.keyed.abortPlan .failed .mode) else s.keyed) = s.keyed := by
        split
        next h =>
          refine s.keyed.abortEvent_ignored _ _ ?_
          rw [hk .seq (by decide)]
          exact hor.resolve_right (by simp [h])
        next => rfl
      rw [hquiet]
      exact ⟨(hlog.publish s).entryMade hw, hk.publish (by decide) s⟩
  by_cases hn : s.eng.mode = .normal
  · rw [s.keyed.deriveMode_lapses (by rw [hmode, hold]; exact hsame) (by rw [hold, hn])]
    have hne : mode ≠ .normal := fun h => hsame (h.trans hn.symm)
    have hend : (if s.level .key = false then frameAfter s.keyed.modeChanged.lapsed (s.keyed.modeChanged.lapsed.abortPlan .failed .mode)
        else s.keyed.modeChanged.lapsed) = s.keyed.modeChanged.lapsed := by
      rw [State.abortEvent_ignored _ _ _ (State.lapsed_over _), ite_self]
    rw [← State.lapsed, hend, ← hcause]
    refine ⟨fun _ _ hspin => (State.lapsed_stops hkp hspin).congr rfl (by simp), fun hq _ hax _ => ?_,
      fun _ _ hspin ho hes hpr hq d hd => ?_, fun h => absurd h hsame, fun _ hq hspin => ?_, fun hn' => absurd hn hn'⟩
    · have haborts := State.lapsed_aborts hkp hpmem hq hax hcauses s
      simpa only [hn, hne, ne_eq, not_false_eq_true, and_self, true_and, if_true] using haborts
    · obtain ⟨hd1, hd2⟩ := State.lapsed_decides hkp hspin ho hq d hd
      rw [hcause, hes, hpr] at hd1
      exact ⟨by simpa [DriveTest.stopped, detailOfStop] using hd1, by simpa using hd2⟩
    · rw [State.lapsed_quiet hkp hspin hq]
      exact ⟨(hchange.publish s).produced, hkp.publish (by decide) s⟩
  · rw [s.keyed.deriveMode_changes (by rw [hmode, hold]; exact hsame) (by rw [hold]; exact hn)]
    have hpstate : s.keyed.modeChanged.seq.state = s.seq.state := by rw [hkp .seq (by decide)]
    refine ⟨fun h => absurd h hn, fun hq hor hax _ => ?_, fun h => absurd h hn, fun h => absurd h hsame, fun _ hq hspin => ?_,
      fun _ hnormal hq hr hoff hestop hpresence hseated => ?_⟩
    · have hkey : s.level .key = false := hor.resolve_right fun h => hn h.1
      have hne : mode ≠ .normal := by
        simp only [mode, hkey]
        split <;> simp
      obtain ⟨hrep, hrstate, hrmem⟩ := repeatStart_refused s.keyed.modeChanged (by rw [hpmode]; exact hne)
      rw [if_pos hkey]
      simp only [hn, false_and, if_false]
      refine serviceAborts s _ ((hkp.mono (by decide)).trans ((hrep.mono (by decide)).trans
        ((frameAfter_keepsAllBut _ _).mono (by decide)))) ?_ ?_ hq hax s
      · simpa [hpstate] using hrstate
      · simpa [hrmem] using hpmem
    · have hspinup : s.keyed.modeChanged.seq.state ≠ .spinup := by
        rw [hpstate]
        intro h
        simp [h, isPlanState] at hq
      rw [State.repeatStart_of_state _ hspinup, frameAfter_of_seq rfl, State.abortEvent_ignored _ _ _ (by rw [hpstate]; exact hq), ite_self]
      exact ⟨(hchange.publish s).produced, hkp.publish (by decide) s⟩
    · have hkey : s.level .key = true := by
        by_contra h
        have : mode ≠ .normal := by
          simp only [mode, h]
          split <;> simp
        exact this hnormal
      have hplevel (j : Input) (h : j ≠ .key) : s.keyed.modeChanged.level j = s.level j := by
        rw [level_of_inputs (s := s.keyed) (by rw [State.modeChanged_eng]), hlevel, if_neg h]
      have hdrv : s.keyed.modeChanged.drv = s.drv := hkp .drv (by decide)
      have hseat : s.keyed.modeChanged.seat = s.seat := hkp .seat (by decide)
      have hseq : s.keyed.modeChanged.seq = s.seq := hkp .seq (by decide)
      have htaken : s.keyed.modeChanged.startRefusal = none := by
        simp [State.startRefusal, hdrv, hoff, hpmode, hnormal, hplevel, hestop, hpresence, hseat, hseated]
      rw [if_neg (by simp [hkey]), State.repeatStart_of_refused _ (by rw [hseq, hq]) (by rw [hseq]; exact hr)]
      refine ⟨by simp [State.issueStart_seq, htaken, hseq], ?_⟩
      exact (State.issueStart_started _ htaken).congr hdrv.symm (hkp .tab (by decide)).symm (by simp)

end Sys2Proof.Machine

/-! PROOFS. Settled changes of the inputs (R5, R6, R141): the level that settles, and the inputs that do nothing more. -/

namespace Sys2Proof.Machine

set_option Elab.async false

/-! ## The inputs behind a settled change (R5) -/

/-- Two inputs settle ACTIVE at one sample and are taken together: plate switches, or beams away from SEATED (R27, R115). -/
def State.joined (s : State) (i j : Input) : Prop :=
  s.settlesOn i = true ∧ s.settlesOn j = true ∧
    ((i = .plateIn ∨ i = .plateOut) ∧ (j = .plateIn ∨ j = .plateOut) ∨
      (i = .beamR ∨ i = .beamF) ∧ (j = .beamR ∨ j = .beamF) ∧ s.seat.seated = false)

section
variable (s : State)

theorem State.beamSettles_eng (i : Input) : (s.beamSettles i).eng =
    if s.seat.seated = false ∧ s.settlesOn .beamR = true ∧ s.settlesOn .beamF = true
    then ((s.settleLevel .beamR).settleLevel .beamF).eng else (s.settleLevel i).eng := by
  unfold State.beamSettles
  cases hs : s.seat.seated <;> cases hr : s.settlesOn .beamR <;> cases hf : s.settlesOn .beamF <;> simp

theorem State.plateSettles_eng (i : Input) : (s.plateSettles i).eng =
    if s.settlesOn .plateIn = true ∧ s.settlesOn .plateOut = true
    then ((s.settleLevel .plateIn).settleLevel .plateOut).eng else (s.settleLevel i).eng := by
  unfold State.plateSettles
  cases hi : s.settlesOn .plateIn <;> cases ho : s.settlesOn .plateOut <;> simp

theorem State.keySettles_inputs : s.keySettles.eng.inputs = s.eng.inputs := by
  unfold State.keySettles
  dsimp only
  split <;> simp [State.deriveMode_eng]

variable (hlen : s.eng.inputs.length = 11)
include hlen

/-- Two inputs settled one behind the other. -/
theorem settledPair_input {a b : Input} (hab : a ≠ b) (j : Input) :
    ((s.settleLevel a).settleLevel b).input j = if j = a ∨ j = b then ⟨!s.level j, 0⟩ else s.input j := by
  have hlen' : (s.settleLevel a).eng.inputs.length = 11 := by simp [State.settleLevel, hlen]
  rw [input_settle _ hlen' b j, input_settle s hlen a j, s.settleLevel_levels hlen, if_neg hab.symm]
  by_cases hb : b = j
  · simp [hb]
  · by_cases ha : a = j
    · simp [hb, ha]
    · simp [hb, ha, Ne.symm ha, Ne.symm hb]

theorem settledOne_input (i j : Input) : (s.settleLevel i).input j = if j = i then ⟨!s.level j, 0⟩ else s.input j := by
  rw [input_settle s hlen i j]
  by_cases h : i = j
  · simp [h]
  · simp [h, Ne.symm h]

/-- What an input reads behind a settled change of another or of itself. -/
def State.inputBehind (s : State) (i j : Input) (x : DiscreteInput) : Prop :=
  (j = i ∨ s.joined i j → x = ⟨!s.level j, 0⟩) ∧ (¬ (j = i ∨ s.joined i j) → x = s.input j)

theorem one_behind (i j : Input) (u : State) (hu : u.eng.inputs = (s.settleLevel i).eng.inputs)
    (hn : j ≠ i → ¬ s.joined i j) : s.inputBehind i j (u.input j) := by
  have hinput := settledOne_input s hlen i j
  rw [State.input, ← hu, ← State.input] at hinput
  rw [hinput]
  refine ⟨fun h => if_pos (by_contra fun hji => hn hji (h.resolve_left hji)), fun h => if_neg fun hji => h (.inl hji)⟩

theorem pair_behind (i j a b : Input) (hab : a ≠ b) (u : State) (hu : u.eng.inputs = ((s.settleLevel a).settleLevel b).eng.inputs)
    (hiff : j = i ∨ s.joined i j ↔ j = a ∨ j = b) : s.inputBehind i j (u.input j) := by
  have hinput := settledPair_input s hlen hab j
  rw [State.input, ← hu, ← State.input] at hinput
  rw [hinput]
  exact ⟨fun h => if_pos (hiff.1 h), fun h => if_neg (mt hiff.2 h)⟩

theorem State.beamSettles_behind (i j : Input) (hi : i = .beamR ∨ i = .beamF) : s.inputBehind i j ((s.beamSettles i).input j) := by
  have heng := congrArg Engine.inputs (s.beamSettles_eng i)
  by_cases hc : s.seat.seated = false ∧ s.settlesOn .beamR = true ∧ s.settlesOn .beamF = true
  · rw [if_pos hc] at heng
    obtain ⟨hseat, hr, hf⟩ := hc
    refine pair_behind s hlen i j _ _ (by decide) _ heng ?_
    rcases hi with rfl | rfl <;> cases j <;> simp [State.joined, hseat, hr, hf]
  · rw [if_neg hc] at heng
    refine one_behind s hlen i j _ heng ?_
    rintro hne ⟨hon, hon', ⟨hp | hp, -⟩ | ⟨-, rfl | rfl, hseat⟩⟩ <;> rcases hi with rfl | rfl <;> simp_all

theorem State.plateSettles_behind (i j : Input) (hi : i = .plateIn ∨ i = .plateOut) :
    s.inputBehind i j ((s.plateSettles i).input j) := by
  have heng := congrArg Engine.inputs (s.plateSettles_eng i)
  by_cases hc : s.settlesOn .plateIn = true ∧ s.settlesOn .plateOut = true
  · rw [if_pos hc] at heng
    obtain ⟨hin, hout⟩ := hc
    refine pair_behind s hlen i j _ _ (by decide) _ heng ?_
    rcases hi with rfl | rfl <;> cases j <;> simp [State.joined, hin, hout]
  · rw [if_neg hc] at heng
    refine one_behind s hlen i j _ heng ?_
    rintro hne ⟨hon, hon', ⟨-, rfl | rfl⟩ | ⟨hp | hp, -⟩⟩ <;> rcases hi with rfl | rfl <;> simp_all

/-- Every input behind a settled change: the one that settles and its partner at their new level, the others as they were (R5). -/
theorem State.inputSettles_behind (i j : Input) : s.inputBehind i j ((s.inputSettles i).input j) := by
  have alone (u : State) (hu : u.eng.inputs = (s.settleLevel i).eng.inputs)
      (hi : ¬ (i = .plateIn ∨ i = .plateOut) ∧ ¬ (i = .beamR ∨ i = .beamF)) : s.inputBehind i j (u.input j) :=
    one_behind s hlen i j u hu fun _ ⟨_, _, h⟩ => h.elim (fun h => hi.1 h.1) fun h => hi.2 h.1
  cases i
  case beamR => exact s.beamSettles_behind hlen _ j (.inl rfl)
  case beamF => exact s.beamSettles_behind hlen _ j (.inr rfl)
  case plateIn => exact s.plateSettles_behind hlen _ j (.inl rfl)
  case plateOut => exact s.plateSettles_behind hlen _ j (.inr rfl)
  case key => exact alone _ (State.keySettles_inputs _) (by simp)
  all_goals exact alone _ (by simp [State.inputSettles]) (by simp)

end

/-! ## Inputs that do nothing more (R6, R114) -/

/-- A settled level stands behind no image (R196). -/
theorem publish_settled (s : State) (i : Input) : publish s (s.settleLevel i) = s.settleLevel i :=
  publish_same s (s.settleLevel i) rfl rfl rfl rfl rfl

theorem publish_settledPair (s : State) (i j : Input) :
    publish s ((s.settleLevel i).settleLevel j) = (s.settleLevel i).settleLevel j :=
  publish_same s ((s.settleLevel i).settleLevel j) rfl rfl rfl rfl rfl

/-- A key released is not handed on (R6). -/
theorem keyReleased (s : State) (hlen : s.eng.inputs.length = 11) (i : Input) (h : s.settles i = true)
    (hi : i = .ok ∨ i = .retry ∨ i = .skip ∨ i = .pause) (hl : s.level i = true) :
    exec (.settledChange i) s = .next (s.settleLevel i) := by
  have hoff : (s.settleLevel i).level i = false := by rw [s.settleLevel_level_self hlen, hl]; rfl
  have hkey : s.inputSettles i = (s.settleLevel i).mechanicKey i := by rcases hi with rfl | rfl | rfl | rfl <;> rfl
  rw [exec_settledChange s _ h, hkey, State.mechanicKey, if_neg (by simp [hoff]), publish_settled]

/-- Without a running plan the plate unit takes no switch (R114). -/
theorem plateIgnored (s : State) (i : Input) (h : s.settles i = true) (hi : i = .plateIn ∨ i = .plateOut) (hp : s.planRuns = false) :
    ∃ t, exec (.settledChange i) s = .next t ∧ KeepsAllBut [.eng] s t := by
  have idle (u : State) (hu : KeepsAllBut [.eng] s u) (a b : Bool) : u.plateChange a b = u := by
    have hplan : u.planRuns = s.planRuns := by
      rw [State.planRuns, State.planRuns, State.kindActive, State.kindActive, hu .slots (by decide), hu .seq (by decide)]
    rw [State.plateChange, hplan, hp]
    rfl
  have hplate : s.inputSettles i = s.plateSettles i := by rcases hi with rfl | rfl <;> rfl
  rw [exec_settledChange s _ h, hplate, State.plateSettles]
  split
  · have hu := (s.settleLevel_kept .plateIn).trans ((s.settleLevel .plateIn).settleLevel_kept .plateOut)
    rw [idle _ hu, publish_settledPair]
    exact ⟨_, rfl, hu⟩
  · have hu := s.settleLevel_kept i
    dsimp only
    rw [idle _ hu, publish_settled]
    exact ⟨_, rfl, hu⟩

end Sys2Proof.Machine

/-! PROOFS. The mechanic's keys (R138, R139, R141 to R144): the keys that are ignored, OK, RETRY, PAUSE and SKIP. -/

namespace Sys2Proof.Machine

set_option Elab.async false

/-! ## A key pressed (R6, R141) -/

section
variable (s : State) (i : Input)

/-- The state in which the sequencer takes a key: the level settled and the KEY entry made (R6). -/
def State.pressed (s : State) (i : Input) : State := (s.settleLevel i).keyEntry i

theorem State.pressed_kept : KeepsAllBut [.eng, .mem, .jr, .att] s (s.pressed i) := by
  intro p hp
  cases p <;> simp_all [Part.same, State.pressed, State.settleLevel]

theorem State.pressed_eng : (s.pressed i).eng = (s.settleLevel i).eng := by simp [State.pressed]

section
variable (hlen : s.eng.inputs.length = 11)
include hlen

theorem State.pressed_level (j : Input) : (s.pressed i).level j = if j = i then !s.level i else s.level j := by
  rw [level_of_inputs (s := s.settleLevel i) (by rw [s.pressed_eng]), s.settleLevel_levels hlen]

theorem State.pressed_logged (hl : s.level i = false) :
    Logged s (s.pressed i) [⟨evKey, s.planAxleNumber, word (inputIndex i), 1⟩] := by
  have made := ((Logged.refl s).same (t := s.settleLevel i) rfl rfl rfl).produceHere evKey (word (inputIndex i))
    (word ((s.settleLevel i).level i).toNat)
  have hon : word ((s.settleLevel i).level i).toNat = 1 := by rw [s.settleLevel_level_self hlen, hl]; rfl
  rw [State.planAxleNumber_congr (s := s) (by simp [State.settleLevel]) (by simp [State.settleLevel]), List.nil_append] at made
  rw [← hon]
  exact made

theorem exec_keyPressed (h : s.settles i = true) (hi : i = .ok ∨ i = .retry ∨ i = .skip ∨ i = .pause) (hl : s.level i = false) :
    exec (.settledChange i) s = .next (publish s (frameAfter (s.pressed i) ((s.pressed i).seqKey i))) := by
  have hon : (s.settleLevel i).level i = true := by rw [s.settleLevel_level_self hlen, hl]; rfl
  have hkey : s.inputSettles i = (s.settleLevel i).mechanicKey i := by rcases hi with rfl | rfl | rfl | rfl <;> rfl
  rw [exec_settledChange s _ h, hkey, State.mechanicKey, if_pos hon]
  rfl

end

/-- The keys that the sequencer has no use for (R141). -/
theorem seqKey_ignored (hi : i = .ok ∨ i = .retry ∨ i = .skip ∨ i = .pause)
    (h : s.seq.state = .idle ∨ s.seq.state = .approach ∨ s.seq.state = .exitWait ∨ s.seq.state = .complete
      ∨ s.seq.state = .aborted ∨ s.seq.state = .paused ∧ i ≠ .pause
      ∨ isWorkState s.seq.state = true ∧ s.seq.state ≠ .review ∧ (i = .ok ∨ i = .retry)) : s.seqKey i = s := by
  have hfacts : (i = .ok ∨ i = .retry → s.seq.state ≠ .review) ∧ (i = .skip ∨ i = .pause → isWorkState s.seq.state = false) ∧
      (i = .pause → s.seq.state ≠ .paused) := by
    rcases h with h | h | h | h | h | ⟨h, hne⟩ | ⟨hwork, hne, hok⟩
    · simp [h, isWorkState]
    · simp [h, isWorkState]
    · simp [h, isWorkState]
    · simp [h, isWorkState]
    · simp [h, isWorkState]
    · simp [h, isWorkState, hne]
    · refine ⟨fun _ => hne, fun hi' => ?_, fun hi' => ?_⟩ <;> rcases hok with rfl | rfl <;> simp at hi'
  obtain ⟨hreview, hwork, hpaused⟩ := hfacts
  rcases hi with rfl | rfl | rfl | rfl
  · simp [State.seqKey, hreview]
  · simp [State.seqKey, hreview]
  · simp [State.seqKey, hwork]
  · simp [State.seqKey, hwork, hpaused]

end

/-! ## OK in REVIEW (R138, R139) -/

theorem reviewLeft {s k : State} (hk : KeepsAllBut [.eng, .mem, .jr, .att] s k) {e : JournalEntry} (hlog : Logged s k [e])
    (hq : s.seq.state = .review) (hheld : s.seat.seated = true ∨ s.seq.heldExit = .none) :
    let t := publish s (frameAfter k (k.seqKey .ok))
    t.seq = { s.seq with state := .exitWait } ∧ t.jr.produced = s.jr.produced + 2 ∧
      KeepsAllBut [.eng, .seq, .disp, .mem, .jr, .att] s t := by
  have hseq : k.seq = s.seq := hk .seq (by decide)
  have hseat : k.seat = s.seat := hk .seat (by decide)
  have hne : k.seq.state ≠ .exitWait := by rw [hseq, hq]; decide
  have hkey : k.seqKey .ok = k.enterSeq .exitWait := by
    rw [← State.enterExitWait_of_none k (by rw [hseat, hseq]; exact hheld)]
    simp [State.seqKey, hseq, hq]
  have hplate := k.enterSeq_plate_of_plan .exitWait rfl
  rw [hkey]
  refine ⟨?_, (((hlog.enterSeq .exitWait hne).frameAfter k).publish s).produced, ?_⟩
  · simp [State.enterSeq_seq, hseq, hq, Sequencer.entered]
  · refine KeepsAllBut.publish ((hk.mono (by decide)).trans (fun p hp => ?_)) (by decide) s
    cases p <;> simp_all [Part.same]

end Sys2Proof.Machine

/-! PROOFS. RETRY in REVIEW, PAUSE and SKIP in the work states, PAUSE in PAUSED (R134, R139, R142 to R144). -/

namespace Sys2Proof.Machine

set_option Elab.async false

/-! ## RETRY in REVIEW (R134, R139) -/

section
variable {s k : State} (hk : KeepsAllBut [.eng, .mem, .jr, .att] s k)
include hk

/-- Whether a retest is taken, spelled by the tests of the axle and its violation count (R139). -/
theorem retryTaken_iff : k.retryTaken = true ↔
    (((s.planAxle s.tab.cursor).tests.getLsbD 1 = true ∨ (s.planAxle s.tab.cursor).tests.getLsbD 2 = true) ∧
        (s.record s.tab.cursor).violations < s.tab.plan.maxViolations.toNat) ∨
      (¬ ((s.planAxle s.tab.cursor).tests.getLsbD 1 = true ∨ (s.planAxle s.tab.cursor).tests.getLsbD 2 = true) ∧
        (s.planAxle s.tab.cursor).tests.getLsbD 3 = true) := by
  have htab : k.tab = s.tab := hk .tab (by decide)
  obtain ⟨-, ho, hs, hp⟩ := (s.planAxle s.tab.cursor).wants_bits
  simp only [State.retryTaken, PlanAxle.runs, Runs.any, State.planAxle, State.record, htab, Bool.and_eq_true, Bool.or_eq_true,
    Bool.not_eq_true', Bool.or_eq_false_iff, decide_eq_true_eq] at *
  rw [ho, hs, hp]
  generalize BitVec.getLsbD _ 1 = a
  generalize BitVec.getLsbD _ 2 = b
  generalize BitVec.getLsbD _ 3 = d
  cases a <;> cases b <;> cases d <;> simp

/-- A retest that is taken arms the unit and issues the start command (R68, R134). -/
theorem retryArms (hq : s.seq.state = .review) (hidle : s.run.phase = .idle) (htaken : k.retryTaken = true) :
    k.seqKey .retry = ((k.enterSeq .spinup).armUnit s.tab.cursor (s.planAxle s.tab.cursor).runs).issueStart := by
  have hseq : k.seq = s.seq := hk .seq (by decide)
  have htab : k.tab = s.tab := hk .tab (by decide)
  have hrun : k.run = s.run := hk .run (by decide)
  have hplan : k.planAxle k.tab.cursor = s.planAxle s.tab.cursor := by rw [State.planAxle, State.planAxle, htab]
  have hrefused : k.armRefused k.tab.cursor (k.planAxle k.tab.cursor).runs = false := by
    have h := htaken
    simp only [State.retryTaken, Bool.and_eq_true, Bool.or_eq_true, Bool.not_eq_true', decide_eq_true_eq] at h
    obtain ⟨-, hroom | hnone⟩ := h
    · simp [State.armRefused, hrun, hidle, Nat.not_le.2 hroom]
    · simp [State.armRefused, hrun, hidle, hnone]
  have hkey : k.seqKey .retry = k.enterSpinup (k.planAxle k.tab.cursor).runs := by
    simp [State.seqKey, hseq, hq, htaken]
  rw [hkey, State.enterSpinup_armed k _ hrefused, hplan, htab]

/-- What it leads to, in a drive that stops and in one that may start (R33, R34). -/
theorem retryStarts (hmode : k.eng.mode = s.eng.mode) (hestop : k.level .estop = s.level .estop)
    (hpresence : k.level .presence = s.level .presence) (runs : Runs) (σ : State) :
    let t := publish σ (frameAfter k ((k.enterSeq .spinup).armUnit s.tab.cursor runs).issueStart)
    t.seq.state = .spinup ∧ t.run.phase = .armed ∧ t.run.axle = s.tab.cursor ∧ t.tab = s.tab ∧ t.run.runs = runs ∧
    (s.drv.state = .stopping → t.drv = s.drv ∧ t.seq.refusal = some .notOff) ∧
    (s.drv.state = .off → s.eng.mode = .normal → s.level .estop = false → s.level .presence = false →
      s.seat.seated = true → t.seq.refusal = none ∧
      t.drv.state = .spinup ∧ t.drv.energised = true ∧ t.drv.owner = some .sequencer ∧
      t.drv.dirR = (if (s.planAxle s.tab.cursor).coupling = 1 then .reverse else .forward) ∧
      t.drv.slipLimit = (if s.tab.plan.slipLimit = 0 then 30 else s.tab.plan.slipLimit.toNat)) := by
  have htab : k.tab = s.tab := hk .tab (by decide)
  have hdrv : k.drv = s.drv := hk .drv (by decide)
  have hseat : k.seat = s.seat := hk .seat (by decide)
  set u := (k.enterSeq .spinup).armUnit s.tab.cursor runs with hu
  have hurun : u.run.phase = .armed ∧ u.run.axle = s.tab.cursor ∧ u.run.runs = runs := ⟨rfl, rfl, rfl⟩
  have huseq : u.seq.state = .spinup := by simp [hu]
  have hutab : u.tab = s.tab := by simp [hu, htab]
  have hudrv : u.drv = s.drv := by simp [hu, hdrv]
  have hueng : u.eng = k.eng := by simp [hu]
  have huseat : u.seat = s.seat := by simp [hu, hseat]
  have hlevel (j : Input) : u.level j = k.level j := level_of_inputs (by rw [hueng]) j
  refine ⟨by simp [State.issueStart_seq, huseq], by simp [hurun], by simp [hurun], by simp [hutab], by simp [hurun],
    fun hstop => ?_, fun hoff hnormal he hp hs => ?_⟩
  · have hrefusal : u.startRefusal = some .notOff := by simp [State.startRefusal, hudrv, hstop]
    refine ⟨?_, by simp [State.issueStart_seq, hrefusal]⟩
    rw [State.issueStart_refused u (by simp [hrefusal])]
    simp [hudrv]
  · have hrefusal : u.startRefusal = none := by
      simp [State.startRefusal, hudrv, hoff, hueng, hmode, hnormal, hlevel, hestop, he, hpresence, hp, huseat, hs]
    have hstarted := (u.issueStart_started hrefusal).congr (s' := s) (t' := publish σ (frameAfter k u.issueStart)) hudrv.symm hutab.symm (by simp)
    rw [StartedBySequencer] at hstarted
    rw [hstarted]
    exact ⟨by simp [State.issueStart_seq, hrefusal], rfl, rfl, rfl, rfl, rfl⟩

end

/-! ## PAUSE and SKIP in the work states (R142, R144) -/

section
variable {s k : State} (hk : KeepsAllBut [.eng, .mem, .jr, .att] s k)
include hk

/-- The work given up by a key, read from the state before it. -/
theorem workGivenUp (e : EndReason) (hax : s.run.axle < s.tab.records.length) : RunLeft s (k.giveUpWork e) e True ∧
    (isSpinning s.drv.state = true → Stopped s (k.giveUpWork e) .commanded) ∧
    (isSpinning s.drv.state = false → (k.giveUpWork e).drv = s.drv) ∧ (k.giveUpWork e).weigh = none ∧
    (k.giveUpWork e).seq = s.seq ∧ (k.giveUpWork e).seat = s.seat := by
  have hrun : k.run = s.run := hk .run (by decide)
  have htab : k.tab = s.tab := hk .tab (by decide)
  have hdrv : k.drv = s.drv := hk .drv (by decide)
  obtain ⟨h1, h2, h3, h4, h5, -⟩ := k.giveUpWork_left (by rw [hrun, htab]; exact hax) e
  rw [hdrv] at h2 h3
  exact ⟨h1.from hrun htab (hk .time (by decide)), fun h => (h2 h).congr hdrv.symm rfl, h3, h4, h5.trans (hk .seq (by decide)),
    (show (k.giveUpWork e).seat = k.seat by simp).trans (hk .seat (by decide))⟩

end

/-- What a run given up leaves of the results in the table (R86). -/
theorem RunLeft.results {s w : State} {e : EndReason} (h : RunLeft s w e True) (hax : s.run.axle < s.tab.records.length) :
    (s.run.phase = .idle ∨ s.run.phase = .armed → ∀ k, (w.record k).attempts = (s.record k).attempts ∧
      (w.record k).parking = (s.record k).parking) ∧
    (inAttemptPart s.run.phase = true → (w.record s.run.axle).top.map (fun x => (x.reason, x.time)) = some (e, s.time)) ∧
    (s.run.phase = .parkRun → (w.record s.run.axle).parking = some ⟨s.run.parkPeakL, s.run.parkPeakR, e, s.time⟩) ∧
    (s.run.phase = .parkOnset → (w.record s.run.axle).parking = some ⟨0, 0, e, s.time⟩) := by
  obtain ⟨r, hr, hall⟩ := h.records hax
  have hown : w.record s.run.axle = r := by rw [hall, if_pos rfl]
  rw [hown]
  refine ⟨fun hp k => ?_, hr.attempt, hr.run, fun hp => hr.onset hp trivial⟩
  have hsame : w.record k = s.record k := by
    rw [hall]
    split
    next h => rw [hr.none hp, h]
    next => rfl
  rw [hsame]
  exact ⟨rfl, rfl⟩

end Sys2Proof.Machine

/-! PROOFS. Settled changes of the inputs, settled (R5, R6, R86, R138 to R144). -/

namespace Sys2Proof.Machine

set_option Elab.async false

/-! ## PAUSE and SKIP, from the work given up (R142, R144) -/

/-- PAUSE takes the sequencer to PAUSED (R142). -/
theorem State.pauseWork_event (k : State) (hne : k.seq.state ≠ .paused) (hseq : (k.giveUpWork .pause).seq = k.seq) :
    k.pauseWork.run = (k.giveUpWork .pause).run ∧ k.pauseWork.tab = (k.giveUpWork .pause).tab ∧
    k.pauseWork.drv = (k.giveUpWork .pause).drv ∧ k.pauseWork.weigh = none ∧ k.pauseWork.seq.parkingOwed = false ∧
    k.pauseWork.seq.state = .paused ∧ k.pauseWork.att.bits.getLsbD 5 = true := by
  have hpause : k.pauseWork = ((k.giveUpWork .pause).setSeq { (k.giveUpWork .pause).seq with parkingOwed := false }).enterSeq .paused := rfl
  have hweigh : (k.giveUpWork .pause).weigh = none := rfl
  rw [hpause]
  generalize k.giveUpWork .pause = w at *
  refine ⟨by simp, by simp, by simp, by simp [hweigh], ?_, by simp, State.enterSeq_lane _ .paused (by simpa [hseq] using hne) rfl⟩
  rw [State.enterSeq_seq]
  split <;> rfl

/-- SKIP marks the axle under the cursor and takes the sequencer to EXIT_WAIT (R144). -/
theorem State.skipAxle_event (k : State) (hc : k.tab.cursor < k.tab.records.length) (hheld : k.seat.seated = true ∨ k.seq.heldExit = .none)
    (hseq : (k.giveUpWork .abort).seq = k.seq)
    (htab : ∃ i r, (k.giveUpWork .abort).tab = { k.tab with records := k.tab.records.set i r }) :
    k.skipAxle.run = (k.giveUpWork .abort).run ∧
    k.skipAxle.drv = (k.giveUpWork .abort).drv ∧ k.skipAxle.weigh = none ∧ k.skipAxle.seq.parkingOwed = false ∧
    k.skipAxle.seq.state = .exitWait ∧ (k.skipAxle.record k.tab.cursor).status = .skipped ∧
    (k.skipAxle.record k.tab.cursor).skip = some .mechanic ∧
    ∀ j, (k.skipAxle.record j).attempts = ((k.giveUpWork .abort).record j).attempts ∧
      (k.skipAxle.record j).parking = ((k.giveUpWork .abort).record j).parking := by
  have hseat : (k.giveUpWork .abort).seat = k.seat := by simp
  have hweigh : (k.giveUpWork .abort).weigh = none := rfl
  have hskip : k.skipAxle = (((k.giveUpWork .abort).setSeq { (k.giveUpWork .abort).seq with parkingOwed := false }).setStatus
      (k.giveUpWork .abort).tab.cursor .skipped (some .mechanic)).enterExitWait := rfl
  rw [hskip]
  generalize k.giveUpWork .abort = w at *
  obtain ⟨i, r, hw⟩ := htab
  have hcursor : w.tab.cursor = k.tab.cursor := by rw [hw]
  have hlen : k.tab.cursor < w.tab.records.length := by rw [hw]; simpa using hc
  set v := (w.setSeq { w.seq with parkingOwed := false }).setStatus w.tab.cursor .skipped (some .mechanic) with hv
  have hvtab : v.tab = { w.tab with records :=
      (w.tab.records.set k.tab.cursor { w.record k.tab.cursor with status := .skipped, skip := some .mechanic }) } := by
    rw [hv, State.setStatus_tab, hcursor]
    rfl
  have hvseq : v.seq = { w.seq with parkingOwed := false } := by simp [hv]
  have hvseat : v.seat = k.seat := by simp [hv, hseat]
  have hrec (j : Nat) : v.record j = if j = k.tab.cursor then { w.record k.tab.cursor with status := .skipped, skip := some .mechanic }
      else w.record j := by
    rw [State.record, hvtab]
    split
    next h => simp [h, hlen]
    next h => simp [State.record, Ne.symm h]
  rw [State.enterExitWait_of_none v (by rw [hvseat, hvseq, hseq]; exact hheld)]
  have hsame (j : Nat) : (v.enterSeq .exitWait).record j = v.record j := State.record_congr (by simp) j
  refine ⟨by simp [hv], by simp [hv], by simp [hv, hweigh], ?_, by simp, ?_, ?_, fun j => ?_⟩
  · rw [State.enterSeq_seq]
    split <;> simp [hvseq, Sequencer.entered]
  · rw [hsame, hrec, if_pos rfl]
  · rw [hsame, hrec, if_pos rfl]
  · rw [hsame, hrec]
    split
    next h => exact ⟨by rw [h], by rw [h]⟩
    next => exact ⟨rfl, rfl⟩

/-! ## PAUSE in PAUSED (R143) -/

section
variable {s k : State} (hk : KeepsAllBut [.eng, .mem, .jr, .att] s k)
include hk

theorem resumed (hq : s.seq.state = .paused) (hc : s.tab.cursor < s.tab.records.length) (hw : Memory.wf k.mem) :
    let t := publish s (frameAfter k (k.seqKey .pause))
    t.drv = s.drv ∧
      (s.seat.seated = true → t.tab = s.tab ∧ t.seq = { s.seq with
        state := .review, heldExit := .none, reviewMarks := s.seq.reviewMarks.set s.tab.cursor true, offer := s.offerNow }) ∧
      (s.seat.seated = false → s.seq.heldExit ≠ .forward → t.tab = s.tab ∧
        t.seq = { s.seq with state := .approach, heldExit := .none }) ∧
      (s.seat.seated = false → s.seq.heldExit = .forward → LeftForward s t) := by
  have hseq : k.seq = s.seq := hk .seq (by decide)
  have hseat : k.seat = s.seat := hk .seat (by decide)
  have htab : k.tab = s.tab := hk .tab (by decide)
  have hdrv : k.drv = s.drv := hk .drv (by decide)
  have hkey : k.seqKey .pause = k.resume := by simp [State.seqKey, hseq, hq, isWorkState]
  rw [hkey]
  by_cases hs : s.seat.seated = true
  · have hresume : k.resume = (k.setSeq { k.seq with heldExit := .none }).enterReview := by simp [State.resume, hseat, hs]
    have hoffer (q : Sequencer) : (k.setSeq q).offerNow = s.offerNow := State.offerNow_congr (by simp [htab])
    rw [hresume]
    refine ⟨by simp [hdrv], fun _ => ⟨by simp [htab], ?_⟩, fun h => by simp [hs] at h, fun h => by simp [hs] at h⟩
    simp [State.enterReview_seq, hoffer, hseq, htab]
  by_cases hf : s.seq.heldExit = .forward
  · have hresume : k.resume = k.exitForward := by simp [State.resume, hseat, hs, hseq, hf]
    have hleft := k.exitForward_left (by rw [htab]; exact hc) (by rw [hseq, hq]; decide) hw
    rw [hresume]
    refine ⟨by simp [hdrv], fun h => absurd h hs, fun _ h => absurd hf h, fun _ _ => hleft.congr htab.symm (hk .slots (by decide)).symm
      fun m a hb => (publish_readByte _ _ a (slotByte_not_image _ a hb)).trans (by simp)⟩
  · have hresume : k.resume = k.enterSeq .approach := by simp [State.resume, hseat, hs, hseq, hf]
    rw [hresume]
    refine ⟨by simp [hdrv], fun h => absurd h hs, fun _ _ => ⟨by simp [htab], ?_⟩, fun _ h => absurd h hf⟩
    simp [State.enterSeq_seq, hseq, hq, Sequencer.entered]

end

/-- Settles O27: the level that settles, the inputs that do nothing more, and the keys that act. -/
theorem settledChangeOfAnInput : Obligations.SettledChangeOfAnInput := by
  unfold Obligations.SettledChangeOfAnInput
  refine ⟨fun i s hlen hset => ?inputs, fun i s hlen hset hi => ?quiet, fun i s hlen hw hset hi hl hq => ?ignored,
    fun s hlen hset hl hq hheld => ?ok, fun s hlen hw hset hl hq => ?retry,
    fun i s hlen hi hset hl hwork hheld hax hc => ?work, fun s hlen hset hl hq hc _ hw => ?resume⟩
  case inputs =>
    intro partner
    have hb := s.inputSettles_behind hlen i
    have hin (j : Input) : (publish s (s.inputSettles i)).input j = (s.inputSettles i).input j := by simp [State.input]
    refine ⟨_, exec_settledChange s i hset, ?_, fun j hj => ⟨fun h => ?_, fun h => ?_⟩⟩
    · rw [hin]
      exact (hb i).1 (.inl rfl)
    · rw [hin]
      exact (hb j).1 (.inr h)
    · rw [hin]
      exact (hb j).2 fun h' => h (h'.resolve_left hj)
  case quiet =>
    rcases hi with ⟨hi, hl⟩ | ⟨hi, hp⟩
    · exact ⟨_, keyReleased s hlen i hset hi hl, s.settleLevel_kept i⟩
    · exact plateIgnored s i hset hi hp
  case ignored =>
    have hkey : (s.pressed i).seqKey i = s.pressed i := seqKey_ignored _ i hi (by
      rw [s.pressed_kept i .seq (by decide)]
      exact hq)
    refine ⟨_, exec_keyPressed s i hlen hset hi hl, ?_⟩
    rw [hkey, frameAfter_of_seq rfl]
    exact ⟨((s.pressed_logged i hlen hl).publish s).entryMade hw, (s.pressed_kept i).publish (by decide) s⟩
  case ok => exact ⟨_, exec_keyPressed s _ hlen hset (by simp) hl, reviewLeft (s.pressed_kept _) (s.pressed_logged _ hlen hl) hq hheld⟩
  case retry =>
    intro a brakes taken
    have hk := s.pressed_kept .retry
    have hseq : (s.pressed .retry).seq = s.seq := hk .seq (by decide)
    have hiff : (s.pressed .retry).retryTaken = true ↔ taken := retryTaken_iff hk
    refine ⟨_, exec_keyPressed s _ hlen hset (by simp) hl, fun hnot => ?_, fun htaken hidle => ?_⟩
    · have hkey : (s.pressed .retry).seqKey .retry = s.pressed .retry := by
        have := mt hiff.1 hnot
        simp [State.seqKey, this]
      rw [hkey, frameAfter_of_seq rfl]
      exact ⟨((s.pressed_logged _ hlen hl).publish s).entryMade hw, hk.publish (by decide) s⟩
    · have hruns : (s.planAxle s.tab.cursor).runs = ⟨a.tests.getLsbD 1, a.tests.getLsbD 2, a.tests.getLsbD 3⟩ := by
        obtain ⟨-, h1, h2, h3⟩ := (s.planAxle s.tab.cursor).wants_bits
        rw [PlanAxle.runs, h1, h2, h3]
      rw [retryArms hk hq hidle (hiff.2 htaken), hruns]
      exact retryStarts hk (by rw [s.pressed_eng]; rfl) (s.pressed_level _ hlen .estop) (s.pressed_level _ hlen .presence) _ s
  case work =>
    have hk := s.pressed_kept i
    have hseq : (s.pressed i).seq = s.seq := hk .seq (by decide)
    have htab : (s.pressed i).tab = s.tab := hk .tab (by decide)
    refine ⟨_, exec_keyPressed s i hlen hset (by rcases hi with rfl | rfl <;> simp) hl, ?_⟩
    rcases hi with rfl | rfl
    · obtain ⟨hleft, hstop, hrest, -, hwseq, -⟩ := workGivenUp hk .pause hax
      obtain ⟨h1, h2, h3, h4⟩ := hleft.results hax
      have hkey : (s.pressed .pause).seqKey .pause = (s.pressed .pause).pauseWork := by simp [State.seqKey, hseq, hwork]
      obtain ⟨erun, etab, edrv, eweigh, eowed, estate, elane⟩ := (s.pressed .pause).pauseWork_event
        (by rw [hseq]; intro h; simp [h, isWorkState] at hwork) (hwseq.trans hseq.symm)
      have hrec (j : Nat) : (publish s (frameAfter (s.pressed .pause) (s.pressed .pause).pauseWork)).record j =
          ((s.pressed .pause).giveUpWork .pause).record j := State.record_congr (by simp [etab]) j
      rw [hkey]
      generalize (s.pressed .pause).giveUpWork .pause = w at *
      refine ⟨by simp [erun, hleft.run], by simp [eweigh], by simp [eowed], fun h => (hstop h).congr rfl (by simp [edrv]),
        fun h => by simp [edrv, hrest h], fun _ => ⟨by simp [estate], by simpa using elane, fun j => ?_⟩, fun h => (by cases h),
        fun hp j => ?_, fun hp => ?_, fun hp => ?_, fun hp => ?_⟩
      · rw [hrec]
        exact hleft.statuses hax j
      · rw [hrec]
        exact h1 hp j
      · rw [hrec]
        exact h2 hp
      · rw [hrec]
        exact h3 hp
      · rw [hrec]
        exact h4 hp
    · obtain ⟨hleft, hstop, hrest, -, hwseq, -⟩ := workGivenUp hk .abort hax
      obtain ⟨h1, h2, h3, h4⟩ := hleft.results hax
      obtain ⟨r, -, hwtab⟩ := hleft.tab
      have hkey : (s.pressed .skip).seqKey .skip = (s.pressed .skip).skipAxle := by simp [State.seqKey, hseq, hwork]
      obtain ⟨erun, edrv, eweigh, eowed, estate, estatus, eskip, eresults⟩ := (s.pressed .skip).skipAxle_event (by rw [htab]; exact hc)
        (by rw [hseq, hk .seat (by decide)]; exact hheld) (hwseq.trans hseq.symm) ⟨_, r, by rw [htab]; exact hwtab⟩
      have hrec (j : Nat) : (publish s (frameAfter (s.pressed .skip) (s.pressed .skip).skipAxle)).record j =
          (s.pressed .skip).skipAxle.record j := State.record_congr (by simp) j
      rw [hkey]
      rw [htab] at estatus eskip
      generalize (s.pressed .skip).giveUpWork .abort = w at *
      refine ⟨by simp [erun, hleft.run], by simp [eweigh], by simp [eowed], fun h => (hstop h).congr rfl (by simp [edrv]),
        fun h => by simp [edrv, hrest h], fun h => (by cases h), fun _ => ⟨by simp [estate], ?_, ?_⟩, fun hp j => ?_, fun hp => ?_,
        fun hp => ?_, fun hp => ?_⟩
      · rw [hrec]
        exact estatus
      · rw [hrec]
        exact eskip
      · rw [hrec, (eresults j).1, (eresults j).2]
        exact h1 hp j
      · rw [hrec, AxleRecord.top, (eresults _).1]
        exact h2 hp
      · rw [hrec, (eresults _).2]
        exact h3 hp
      · rw [hrec, (eresults _).2]
        exact h4 hp
  case resume =>
    exact ⟨_, exec_keyPressed s _ hlen hset (by simp) hl, resumed (s.pressed_kept _) hq hc ((s.pressed_logged _ hlen hl).wf hw)⟩

end Sys2Proof.Machine

/-! PROOFS. ABORT of an ACTIVE request, kind by kind (R18, R21, R44, R147, R179, R191, R192, R201). -/

namespace Sys2Proof.Machine

set_option Elab.async false

section
variable {s : State} {mask : Word} {n : Nat} (hmask : namedSlots mask = [n])
include hmask

/-- An ABORT that names one slot, ACTIVE with a kind (R201). -/
theorem exec_abortActive {k : Kind} (h : s.held n = .active k) : exec (.abort mask) s = .next (publish s (s.abortActive n k)) := by
  rw [exec_abort, hmask, List.foldl_cons, List.foldl_nil, State.abortSlot, h]

/-! ## ZERO, CALIBRATE and COMPOSE (R18, R21, R179) -/

theorem abort_zero (hw : Memory.wf s.mem) {c : ZeroCapture} (h : s.held n = .active .zero) (hc : s.eng.capture = some c)
    (hcount : c.count < 200) : ∃ t, exec (.abort mask) s = .next t ∧ t.eng = { s.eng with capture := none } ∧
      SlotDone t n .aborted .none [] ∧ EntryMade s t evRequestDone 0 (bytePair n 4) (bytePair 0 7) ∧
      KeepsAllBut [.mem, .jr, .att, .slots, .eng] s t ∧ MemKept (takingByte s n) s t := by
  have hdue : s.captureDue = false := by simp [State.captureDue, hc, hcount]
  have habort : s.abortActive n .zero = (s.setEng { s.eng with capture := none }).complete n 4 .aborted .none [] := by
    simp only [State.abortActive, State.abortZero, hdue, Bool.false_eq_true, if_false]
    rfl
  rw [exec_abortActive hmask h, habort]
  refine ⟨_, rfl, by simp, slotDone_publish_complete _ _ _ _ _ _ _ hw, entryMade_publish_complete s _ n 4 .aborted .none [] rfl rfl hw,
    fun p hp => ?_, fun a ha => ?_⟩
  · cases p <;> simp_all [Part.same]
  · unfold takingByte at ha
    rw [publish_readByte_header _ _ (by simp) (by simp) a fun hb => ha (.inl hb)]
    exact State.complete_readByte (s.setEng { s.eng with capture := none }) n 4 _ _ _ a (fun hb => ha (.inr (.inl hb)))
      fun hb => ha (.inr (.inr hb))

theorem abort_calibrate {c : CalibrateOp} (h : s.held n = .active .calibrate) (hc : s.eng.calib = some c) :
    exec (.abort mask) s = .next (s.setEng { s.eng with calib := some { c with lateAbort := true } }) := by
  have habort : s.abortActive n .calibrate = s.setEng { s.eng with calib := some { c with lateAbort := true } } := by
    simp only [State.abortActive, State.abortCalibrate, hc, Option.map_some]
  rw [exec_abortActive hmask h, habort]
  exact congrArg Host.Outcome.next (publish_same s _ rfl rfl rfl rfl rfl)

theorem abort_compose {c : ComposeOp} (h : s.held n = .active .compose) (hc : s.comp.op = some c) :
    (c.stage = .reading → exec (.abort mask) s = .next (s.setComp { s.comp with op := some { c with aborted := true } })) ∧
    (∀ v, c.stage = .writing v → exec (.abort mask) s = .next (s.setComp { s.comp with op := some { c with lateAbort := true } })) := by
  rw [exec_abortActive hmask h]
  refine ⟨fun hs => ?_, fun v hs => ?_⟩
  · have habort : s.abortActive n .compose = s.setComp { s.comp with op := some { c with aborted := true } } := by
      simp only [State.abortActive, State.abortCompose, hc, Option.map_some, hs]
    rw [habort]
    exact congrArg Host.Outcome.next (publish_same s _ rfl rfl rfl rfl rfl)
  · have habort : s.abortActive n .compose = s.setComp { s.comp with op := some { c with lateAbort := true } } := by
      simp only [State.abortActive, State.abortCompose, hc, Option.map_some, hs]
    rw [habort]
    exact congrArg Host.Outcome.next (publish_same s _ rfl rfl rfl rfl rfl)

/-! ## PRINT (R191, R192) -/

theorem abort_printing {j : Job} (h : s.held n = .active .print) (hjobs : s.prn.jobs = [j]) (hslot : j.slot = n)
    (hstate : j.state = .printing) (hlink : s.prn.link ≠ .pausedPaper) :
    exec (.abort mask) s = .next (s.setPrn { s.prn with jobs := [{ j with cancelMark := true }] }) := by
  have habort : s.abortActive n .print = s.setPrn { s.prn with jobs := [{ j with cancelMark := true }] } := by
    simp [State.abortActive, State.cancelPrint, State.updateJob, hjobs, hslot, hstate, hlink]
  rw [exec_abortActive hmask h, habort, publish_setPrn]
  rfl

theorem abort_queued {j : Job} (hw : Memory.wf s.mem) (h : s.held n = .active .print)
    (hj : s.prn.jobs.find? (fun x => x.slot == n) = some j) (hstate : j.state = .queued ∨ s.prn.link = .pausedPaper) :
    ∃ t, exec (.abort mask) s = .next t ∧
      t.prn = { s.prn with
        jobs := s.prn.jobs.filter (fun x => x.slot != n), cancelLine := s.prn.cancelLine && j.state != .printing } ∧
      SlotDone t n .aborted .none [bytePair (codeOfClass j.cls) j.linesTaken, word (s.cert j.record).printCount] ∧
      t.jr.produced = s.jr.produced + 2 ∧
      (s.jr.blocks = false → Memory.readWords t.mem (entryBase s.jr.put.toNat) 8 = entryWords (lowWord (s.jr.produced + 1))
        evPrintState 0 s.jr.gap s.time (bytePair j.record 3) (word j.linesTaken)) ∧
      KeepsAllBut [.mem, .jr, .att, .slots, .prn] s t := by
  have hslot : j.slot = n := by simpa using List.find?_some hj
  have habort : s.abortActive n .print = s.endJob j .cancelled .aborted .none := by
    simp only [State.abortActive, State.cancelPrint, hj, hstate, if_true]
  have hlog := ((Logged.refl s).endJob s j .cancelled .aborted .none).publish s
  obtain ⟨hdone, -, hcomp⟩ := endJob_then s j .cancelled .aborted .none s (LinkAct.refl _) hw
  rw [s.printed_undone j .cancelled (by decide)] at hcomp
  rw [State.cert, hcomp] at hdone
  rw [exec_abortActive hmask h, habort]
  refine ⟨_, rfl, ?_, hslot ▸ hdone, hlog.produced, fun hb => hlog.first (by simp) hw hb, fun p hp => ?_⟩
  · rw [← hslot, ← s.endJob_prn j .cancelled .aborted .none]
    simp
  · have hkept := s.endJob_comp j .cancelled .aborted .none
    rw [s.printed_undone j .cancelled (by decide)] at hkept
    cases p <;> simp_all [Part.same]

/-! ## DRIVE_TEST (R38, R44) -/

theorem abort_test {d : DriveTest} (h : s.held n = .active .driveTest) (hd : s.dtest = some d) (ho : s.drv.owner = some .driveTest)
    (hspin : isSpinning s.drv.state = true) : ∃ t, exec (.abort mask) s = .next t ∧ Stopped s t .commanded ∧
      t.dtest = some { d with timer := none, decided := some (d.decided.getD (.aborted, .none)) } ∧
      t.slots = s.slots ∧ t.eng = s.eng ∧ t.nv = s.nv ∧ t.comp = s.comp ∧ t.prn = s.prn := by
  have habort : s.abortActive n .driveTest = (s.decideTest .aborted .none).stopEvent .commanded := if_pos hspin
  have hdrv : (s.decideTest .aborted .none).drv = s.drv := by simp
  have htest : (s.decideTest .aborted .none).dtest = some { d with
      timer := none, decided := some (d.decided.getD (.aborted, .none)) } := by
    cases hx : d.decided <;> simp [State.decideTest, hd, hx]
  have hsame : (s.decideTest .aborted .none).slots = s.slots ∧ (s.decideTest .aborted .none).eng = s.eng ∧
      (s.decideTest .aborted .none).nv = s.nv ∧ (s.decideTest .aborted .none).comp = s.comp ∧
      (s.decideTest .aborted .none).prn = s.prn := by simp
  rw [exec_abortActive hmask h, habort]
  generalize s.decideTest .aborted .none = u at *
  obtain ⟨hslots, heng, hnv, hcomp, hprn⟩ := hsame
  refine ⟨_, rfl, ((stopEvent_stopped u .commanded (hdrv ▸ hspin))).congr hdrv.symm (by simp), ?_, by simp [hslots], by simp [heng],
    by simp [hnv], by simp [hcomp], by simp [hprn]⟩
  simp [State.stopEvent_dtest u .commanded (hdrv ▸ hspin) (hdrv ▸ ho), htest, DriveTest.stopped]

/-! ## RUN_PLAN (R86, R147) -/

theorem exec_abortPlan (h : s.held n = .active .runPlan) :
    exec (.abort mask) s = .next (publish s (frameAfter s (s.abortPlan .aborted .none))) := exec_abortActive hmask h

end

theorem State.abortPlan_kept (s : State) (o : ReqOutcome) (d : Detail) :
    KeepsAllBut [.mem, .jr, .att, .slots, .drv, .tab, .weigh, .run, .plate, .seq, .disp] s (s.abortPlan o d) := by
  intro p hp
  cases p <;> simp_all [Part.same]

/-- In APPROACH, with no run and no spin, an abort is the records, the state and the slot (R147). -/
theorem State.abortPlan_waiting (s : State) (o : ReqOutcome) (d : Detail) (hq : s.seq.state = .approach) (hp : s.run.phase = .idle)
    (hspin : isSpinning s.drv.state = false) (n : Nat) (hn : s.activeSlot .runPlan = some n) :
    s.abortPlan o d = (((s.setWeigh none).abortRecords.enterSeq .aborted)).complete n 6 o d [] := by
  have hwork : s.giveUpWork .abort = s.setWeigh none := by
    simp [State.giveUpWork, State.runEnd, hp, State.haltDrive, hspin]
  have hslot : ((s.setWeigh none).abortRecords.enterSeq .aborted).activeSlot .runPlan = some n :=
    (State.activeSlot_congr (by simp) _).trans hn
  rw [State.abortPlan, if_pos (by rw [hq]; rfl), hwork, State.completePlan, hslot]
  rfl

end Sys2Proof.Machine

/-! PROOFS. ABORT of ACTIVE requests, settled, with the abort of a plan in APPROACH word by word (R47, R147, R201). -/

namespace Sys2Proof.Machine

set_option Elab.async false

/-! ## An abort in APPROACH (R47, R147) -/

section
variable (s : State)

/-- The state with the records aborted and ABORTED entered, in which the slot of the plan completes. -/
def State.waitAborted (s : State) : State := (s.setWeigh none).abortRecords.enterSeq .aborted

theorem State.waitAborted_logged (hq : s.seq.state ≠ .aborted) : ∃ e, Logged s s.waitAborted [e] := by
  obtain ⟨tail, htail, hlog⟩ := (Adds.abortRecords (s.setWeigh none)).logged ((Logged.refl s).same rfl rfl rfl)
  rw [List.length_eq_zero_iff.1 (Nat.le_zero.1 htail)] at hlog
  exact ⟨_, hlog.enterSeq .aborted (by simpa using hq)⟩

theorem State.waitAborted_records : RecordsAborted s s.waitAborted :=
  have h := (s.setWeigh none).abortRecords_aborted
  have htab : s.waitAborted.tab = (s.setWeigh none).abortRecords.tab := by simp [State.waitAborted]
  ⟨by rw [htab]; exact h.cursor, fun k => (State.record_congr htab k).trans (h.records k)⟩

/-- Lane memory outside the records' status words, the sequencer's word and the ring (R47). -/
theorem State.waitAborted_readByte (a : Nat) (ht : tableByte a)
    (h : ∀ k, k < s.tab.axleCount → (s.record k).untested = true → ¬ statusByte k a) :
    Memory.readByte s.waitAborted.mem a = Memory.readByte s.mem a := by
  unfold tableByte at ht
  refine (State.enterSeq_readByte _ .aborted a ?_ ?_).trans (State.abortRecords_readByte (s.setWeigh none) a h)
  · unfold seqByte
    omega
  · unfold ringByte
    omega

/-- A word of an axle record that the abort does not write shows what it showed (R47). -/
theorem waitAborted_word (hw : Memory.wf s.mem) {n : Nat} (hq : s.seq.state ≠ .aborted) {k i : Nat} (hk : k < 8) (hi : i < 128)
    (h : ¬ (k < s.tab.axleCount ∧ (s.record k).untested = true ∧ i < 3)) (o : ReqOutcome) (d : Detail) (x : State)
    (hxm : x.mem = (s.waitAborted.complete n 6 o d []).mem) (hxt : x.tab = s.waitAborted.tab) :
    Memory.readWord (publish s x).mem (0x0A00 + 256 * k + 2 * i) = Memory.readWord s.mem (0x0A00 + 256 * k + 2 * i) := by
  obtain ⟨e, hlog⟩ := s.waitAborted_logged hq
  have hwf : Memory.wf x.mem := hxm ▸ State.complete_wf _ _ _ _ _ _ (hlog.wf hw)
  have hsame : (tableWords s.tab)[128 + 128 * k + i]? = (tableWords x.tab)[128 + 128 * k + i]? := by
    rw [tableWords_record _ k i hk hi, tableWords_record _ k i hk hi, hxt]
    have hrec := s.waitAborted_records.records k
    rw [State.record] at hrec
    rw [hrec]
    split
    next hc => rw [recordWords_aborted _ i (by by_contra h3; exact h ⟨hc.1, hc.2, by omega⟩), State.record]
    next => rw [State.record]
  rw [List.getElem?_eq_getElem (by simp; omega), List.getElem?_eq_getElem (by simp; omega)] at hsame
  rw [show 0x0A00 + 256 * k + 2 * i = 0x0900 + 2 * (128 + 128 * k + i) by omega,
    publish_tableWord s x hwf _ (by omega), if_pos (Option.some.inj hsame), hxm]
  refine Memory.readWord_congr _ _ _ fun b h1 h2 => ?_
  have htable : tableByte b := by unfold tableByte; omega
  refine (State.complete_readByte _ n 6 o d [] b ?_ ?_).trans (s.waitAborted_readByte b htable fun j hj hun hb => ?_)
  · unfold slotByte slotBase
    omega
  · intro hb
    have := nextEntryByte_ring _ _ hb
    unfold ringByte at this
    omega
  · unfold statusByte at hb
    have hjk : j = k := by omega
    subst hjk
    exact h ⟨hj, hun, by omega⟩

end

/-- Settles O11: the abort rules of the ACTIVE requests, the abort of a plan from every state included. -/
theorem abortOfActiveRequests : Obligations.AbortOfActiveRequests := by
  unfold Obligations.AbortOfActiveRequests
  intro mask n s _ hw hmask
  refine ⟨fun c h hc hcount => abort_zero hmask hw h hc hcount, fun c h hc => abort_calibrate hmask h hc,
    fun c h hc hs => (abort_compose hmask h hc).1 hs, fun c v h hc hs => (abort_compose hmask h hc).2 v hs,
    fun j h hjobs hslot hstate hlink => abort_printing hmask h hjobs hslot hstate hlink,
    fun j h hj hstate => abort_queued hmask hw h hj hstate, fun h hact hq hax => ⟨_, exec_abortPlan hmask h, ?_, ?_⟩,
    fun d h hd ho hspin => abort_test hmask h hd ho hspin, fun h hact hq hidle hspin => ⟨_, exec_abortPlan hmask h, ?_⟩⟩
  · exact (abortPlan_aborts s .aborted .none hq hax hw).shown s s
  · exact ((s.abortPlan_kept .aborted .none).trans ((frameAfter_keepsAllBut s _).mono (by decide))).publish (by decide) s
  · have hne : s.seq.state ≠ .aborted := by rw [hq]; decide
    have hplan : s.abortPlan .aborted .none = s.waitAborted.complete n 6 .aborted .none [] :=
      s.abortPlan_waiting .aborted .none hq hidle hspin n hact
    obtain ⟨e, hlog⟩ := s.waitAborted_logged hne
    have hrecords := s.waitAborted_records
    have hlane : s.waitAborted.att.bits.getLsbD 5 = true := State.enterSeq_lane _ .aborted (by simpa using hne) rfl
    have hstate : s.waitAborted.seq.state = .aborted := by simp [State.waitAborted]
    have hweigh : s.waitAborted.weigh = none := by simp [State.waitAborted]
    have hdrv : s.waitAborted.drv = s.drv := by simp [State.waitAborted]
    have hword := fun {k i : Nat} (hk : k < 8) (hi : i < 128) h x hxm hxt =>
      waitAborted_word s hw (n := n) hne (k := k) (i := i) hk hi h .aborted .none x hxm hxt
    rw [hplan]
    generalize s.waitAborted = u at *
    have hdone := State.complete_done u n 6 .aborted .none [] (hlog.wf hw)
    refine ⟨hdone.congr (by simp) fun a hb => (publish_readByte _ _ a (slotByte_not_image _ a hb)).trans (by simp), by simp [hstate],
      by simpa using State.complete_att_mono u n 6 .aborted .none [] 5 hlane, by simp [hweigh], by simp [hdrv],
      (((hlog.complete n 6 .aborted .none []).frameAfter s).publish s).produced, fun k hk _ => ?_, fun k i hk hi h => ?_⟩
    · rw [State.record_congr (s := u) (by simp), hrecords.records]
      simp only [hk, true_and, AxleRecord.untested_iff]
      rfl
    · exact hword hk hi (by rwa [AxleRecord.untested_iff]) _ (by simp) (by simp)

end Sys2Proof.Machine

/-! PROOFS. CLEAR_FAULTS (R11, R13, R40, R211): the flags of one channel, of all, and the release of LOCKOUT. -/

namespace Sys2Proof.Machine

set_option Elab.async false

/-- A channel of the sample engine. -/
def State.channel (s : State) (i : Nat) : Channel := s.eng.chans.getD i noChannel

/-! ## The flags of one channel (R13) -/

/-- Between two states the flags of channel i became f and its values c, with the entries of the flags cleared, and nothing else of the
engine changed. -/
structure FlagsCleared (s t : State) (i : Nat) (f : FaultFlags) (c : Channel) (es : List JournalEntry) : Prop where
  faults : ∀ j, t.faultsOf j = if j = i then f else s.faultsOf j
  chans : ∀ j, t.channel j = if j = i then c else s.channel j
  len : t.eng.faults.length = s.eng.faults.length
  eng : t.eng = { s.eng with chans := t.eng.chans, faults := t.eng.faults }
  kept : KeepsAllBut [.mem, .jr, .att, .eng] s t
  logged : ∀ σ l, Logged σ s l → Logged σ t (l ++ es)

namespace FlagsCleared

variable {s t u : State} {i : Nat} {f f' : FaultFlags} {c c' : Channel} {es es' : List JournalEntry}

theorem refl (s : State) (i : Nat) : FlagsCleared s s i (s.faultsOf i) (s.channel i) [] where
  faults j := by split <;> simp_all
  chans j := by split <;> simp_all
  len := rfl
  eng := rfl
  kept := .refl _ _
  logged σ l h := by simpa using h

theorem trans (h : FlagsCleared s t i f c es) (h' : FlagsCleared t u i f' c' es') : FlagsCleared s u i f' c' (es ++ es') where
  faults j := by
    rw [h'.faults, h.faults]
    split <;> rfl
  chans j := by
    rw [h'.chans, h.chans]
    split <;> rfl
  len := h'.len.trans h.len
  eng := by rw [h'.eng, h.eng]
  kept := h.kept.trans h'.kept
  logged σ l hl := by
    rw [← List.append_assoc]
    exact h'.logged σ _ (h.logged σ l hl)

theorem of_eq (h : FlagsCleared s t i f c es) (hf : f = f') (hc : c = c') (he : es = es') : FlagsCleared s t i f' c' es' :=
  hf ▸ hc ▸ he ▸ h

/-- The flags set anew, with no entry. -/
theorem setFlags (s : State) (f : FaultFlags) (hi : i < s.eng.faults.length) :
    FlagsCleared s (s.setFaultsOf i f) i f (s.channel i) [] := by
  refine ⟨fun j => State.setFaultsOf_faultsOf _ _ _ _ hi, fun j => ?_, by simp [State.setFaultsOf], rfl, fun p hp => ?_, fun σ l h => ?_⟩
  · have hsame : (s.setFaultsOf i f).channel j = s.channel j := rfl
    rw [hsame]
    split
    next h => rw [h]
    next => rfl
  · cases p <;> simp_all [Part.same, State.setFaultsOf]
  · simpa using h.same (t := s.setFaultsOf i f) rfl rfl rfl

/-- The entry of a flag that was cleared (R13). -/
theorem entry (s : State) (i : Nat) (w : Word) :
    FlagsCleared s (s.clearedEntry i w) i (s.faultsOf i) (s.channel i) [⟨evFaultCleared, 0, word i, w⟩] := by
  have heng : (s.clearedEntry i w).eng = s.eng := by simp [State.clearedEntry]
  refine ⟨fun j => ?_, fun j => ?_, by rw [heng], by rw [heng], fun p hp => ?_, fun σ l h => h.produce evFaultCleared 0 (word i) w⟩
  · have hsame : (s.clearedEntry i w).faultsOf j = s.faultsOf j := by rw [State.faultsOf, heng]; rfl
    rw [hsame]
    split
    next h => rw [h]
    next => rfl
  · have hsame : (s.clearedEntry i w).channel j = s.channel j := by rw [State.channel, heng]; rfl
    rw [hsame]
    split
    next h => rw [h]
    next => rfl
  · cases p <;> simp_all [Part.same, State.clearedEntry]

/-- The filtered value released with OPEN (R11). -/
theorem release (s : State) (i : Nat) : FlagsCleared s (s.releaseHold i) i (s.faultsOf i)
    { s.channel i with filtered := meanOr (s.channel i).history (s.channel i).filtered } [] := by
  refine ⟨fun j => ?_, fun j => ?_, rfl, rfl, fun p hp => ?_, fun σ l h => ?_⟩
  · have hsame : (s.releaseHold i).faultsOf j = s.faultsOf j := rfl
    rw [hsame]
    split
    next h => rw [h]
    next => rfl
  · have hchan : (s.releaseHold i).channel j = (s.eng.chans.set i
        { s.channel i with filtered := meanOr (s.channel i).history (s.channel i).filtered }).getD j noChannel := rfl
    rw [hchan]
    by_cases hi : i < s.eng.chans.length
    · rw [getD_set _ _ _ _ _ hi]
      rfl
    · have hnone : s.channel i = noChannel := by simp [State.channel, List.getElem?_eq_none (Nat.le_of_not_lt hi)]
      rw [List.set_eq_of_length_le (Nat.le_of_not_lt hi)]
      split
      next h =>
        subst h
        rw [← State.channel, hnone]
        rfl
      next => rfl
  · cases p <;> simp_all [Part.same, State.releaseHold]
  · simpa using h.same (t := s.releaseHold i) rfl rfl rfl

end FlagsCleared

/-- A channel read again behind one whose flags were tested: the conditions of its own flags are what they were (R13). -/
theorem FlagsCleared.conditions {s t : State} {i : Nat} {f : FaultFlags} {c : Channel} {es : List JournalEntry}
    (h : FlagsCleared s t i f c es) (hraw : c.raw = (s.channel i).raw) (j : Nat) :
    t.overRangeGone j = s.overRangeGone j ∧ t.openGone j = s.openGone j ∧ t.noPulseGone j = s.noPulseGone j := by
  have hchan : (t.eng.chans.getD j noChannel).raw = (s.eng.chans.getD j noChannel).raw := by
    have hj := congrArg Channel.raw (h.chans j)
    rw [State.channel, State.channel] at hj
    rw [hj]
    split
    next hij => rw [hraw, hij, State.channel]
    next => rfl
  have hpd : t.eng.lastPd = s.eng.lastPd := by rw [h.eng]
  have hdrv : t.drv = s.drv := h.kept .drv (by decide)
  refine ⟨?_, ?_, ?_⟩
  · rw [State.overRangeGone, State.overRangeGone, hchan]
  · rw [State.openGone, State.openGone, hchan]
  · rw [State.noPulseGone, State.noPulseGone, hpd, hdrv]

/-- Flag k of a channel is set and its condition gone: OVER_RANGE, OPEN, NO_PULSE (R13). -/
def State.flagGone (s : State) (i k : Nat) : Bool :=
  if k = 0 then (s.faultsOf i).overRange && s.overRangeGone i
  else if k = 1 then (s.faultsOf i).openWire && s.openGone i
  else (s.faultsOf i).noPulse && s.noPulseGone i

theorem flagGone_one (s : State) (i : Nat) : s.flagGone i 1 = ((s.faultsOf i).openWire && s.openGone i) := rfl

theorem flagGone_two (s : State) (i : Nat) : s.flagGone i 2 = ((s.faultsOf i).noPulse && s.noPulseGone i) := rfl

/-- The flags of a channel that stay (R13). -/
def State.flagsKept (s : State) (i : Nat) : FaultFlags :=
  ⟨(s.faultsOf i).overRange && !s.overRangeGone i, (s.faultsOf i).openWire && !s.openGone i,
    (s.faultsOf i).noPulse && !s.noPulseGone i⟩

/-- The values of a channel behind CLEAR_FAULTS (R11). -/
def State.channelShown (s : State) (i : Nat) : Channel :=
  if s.flagGone i 1 then { s.channel i with filtered := meanOr (s.channel i).history (s.channel i).filtered } else s.channel i

/-- The entries of the flags of a channel that are cleared (R13). -/
def State.clearedEntries (s : State) (i : Nat) : List JournalEntry :=
  ((List.range 3).filter (s.flagGone i)).map fun k => ⟨evFaultCleared, 0, word i, word k⟩

theorem clearedEntries_eq (s : State) (i : Nat) : s.clearedEntries i =
    (if s.flagGone i 0 then [⟨evFaultCleared, 0, word i, word 0⟩] else []) ++
      ((if s.flagGone i 1 then [⟨evFaultCleared, 0, word i, word 1⟩] else []) ++
        (if s.flagGone i 2 then [⟨evFaultCleared, 0, word i, word 2⟩] else [])) := by
  have hrange : List.range 3 = [0, 1, 2] := rfl
  rw [State.clearedEntries, hrange]
  cases h0 : s.flagGone i 0 <;> cases h1 : s.flagGone i 1 <;> cases h2 : s.flagGone i 2 <;> simp [h0, h1, h2]

/-! ## One channel (R13) -/

section OneChannel

variable (s : State) {i : Nat}

/-- OVER_RANGE of a channel is tested (R10, R13). -/
theorem overRange_cleared (hi : i < s.eng.faults.length) :
    FlagsCleared s (if (s.faultsOf i).overRange && s.overRangeGone i
        then (s.setFaultsOf i { s.faultsOf i with overRange := false }).clearedEntry i flagOverRange else s) i
      { s.faultsOf i with overRange := (s.faultsOf i).overRange && !s.overRangeGone i } (s.channel i)
      (if s.flagGone i 0 then [⟨evFaultCleared, 0, word i, word 0⟩] else []) := by
  cases hgone : (s.faultsOf i).overRange && s.overRangeGone i
  case true =>
    have hset := FlagsCleared.setFlags s { s.faultsOf i with overRange := false } hi
    refine (hset.trans (.entry _ i flagOverRange)).of_eq ?_ ?_ ?_
    · rw [hset.faults]
      simp_all
    · rw [hset.chans, if_pos rfl]
    · rw [State.flagGone, if_pos rfl, hgone]
      rfl
  case false =>
    refine (FlagsCleared.refl s i).of_eq ?_ rfl ?_
    · generalize s.faultsOf i = flags at hgone
      obtain ⟨_, _, _⟩ := flags
      simp_all
    · rw [State.flagGone, if_pos rfl, hgone]
      rfl

/-- OPEN of a channel is tested, and with it goes the hold of the filtered value (R11, R13). -/
theorem openWire_cleared (hi : i < s.eng.faults.length) :
    FlagsCleared s (if (s.faultsOf i).openWire && s.openGone i
        then ((s.setFaultsOf i { s.faultsOf i with openWire := false }).releaseHold i).clearedEntry i flagOpen else s) i
      { s.faultsOf i with openWire := (s.faultsOf i).openWire && !s.openGone i } (s.channelShown i)
      (if s.flagGone i 1 then [⟨evFaultCleared, 0, word i, word 1⟩] else []) := by
  cases hgone : (s.faultsOf i).openWire && s.openGone i
  case true =>
    have hset := FlagsCleared.setFlags s { s.faultsOf i with openWire := false } hi
    have hreleased := hset.trans (.release _ i)
    have hflag : s.flagGone i 1 = true := hgone
    refine (hreleased.trans (.entry _ i flagOpen)).of_eq ?_ ?_ ?_
    · rw [hreleased.faults, if_pos rfl, hset.faults, if_pos rfl]
      simp_all
    · rw [hreleased.chans, if_pos rfl, hset.chans, if_pos rfl, State.channelShown, if_pos hflag]
    · rw [hflag]
      rfl
  case false =>
    have hflag : s.flagGone i 1 = false := hgone
    refine (FlagsCleared.refl s i).of_eq ?_ ?_ ?_
    · generalize s.faultsOf i = flags at hgone
      obtain ⟨_, _, _⟩ := flags
      simp_all
    · rw [State.channelShown, hflag]
      rfl
    · rw [hflag]
      rfl

/-- NO_PULSE of a channel is tested (R12, R13). -/
theorem noPulse_cleared (hi : i < s.eng.faults.length) :
    FlagsCleared s (if (s.faultsOf i).noPulse && s.noPulseGone i
        then (s.setFaultsOf i { s.faultsOf i with noPulse := false }).clearedEntry i flagNoPulse else s) i
      { s.faultsOf i with noPulse := (s.faultsOf i).noPulse && !s.noPulseGone i } (s.channel i)
      (if s.flagGone i 2 then [⟨evFaultCleared, 0, word i, word 2⟩] else []) := by
  cases hgone : (s.faultsOf i).noPulse && s.noPulseGone i
  case true =>
    have hflag : s.flagGone i 2 = true := hgone
    have hset := FlagsCleared.setFlags s { s.faultsOf i with noPulse := false } hi
    refine (hset.trans (.entry _ i flagNoPulse)).of_eq ?_ ?_ ?_
    · rw [hset.faults]
      simp_all
    · rw [hset.chans, if_pos rfl]
    · rw [hflag]
      rfl
  case false =>
    have hflag : s.flagGone i 2 = false := hgone
    refine (FlagsCleared.refl s i).of_eq ?_ rfl ?_
    · generalize s.faultsOf i = flags at hgone
      obtain ⟨_, _, _⟩ := flags
      simp_all
    · rw [hflag]
      rfl

theorem channelShown_raw (s : State) (i : Nat) : (s.channelShown i).raw = (s.channel i).raw := by
  rw [State.channelShown]
  split <;> rfl

/-- The three flags of a channel are tested in turn (R13). -/
theorem clearChannel_cleared (hi : i < s.eng.faults.length) :
    FlagsCleared s (s.clearChannel i) i (s.flagsKept i) (s.channelShown i) (s.clearedEntries i) := by
  have hover := overRange_cleared s hi
  have hopen := openWire_cleared _ (by rw [hover.len]; exact hi)
  have hpulse := noPulse_cleared _ (by rw [hopen.len, hover.len]; exact hi)
  refine (hover.trans (hopen.trans hpulse)).of_eq ?_ ?_ ?_
  all_goals
    obtain ⟨-, hopenGone, hpulseGone⟩ := hover.conditions rfl i
    obtain ⟨-, -, hpulseGone'⟩ := hopen.conditions (channelShown_raw _ _) i
    have hflags := (hover.faults i).trans (if_pos rfl)
    have hflags' := (hopen.faults i).trans (if_pos rfl)
    have hchannel := (hover.chans i).trans (if_pos rfl)
    have hchannel' := (hopen.chans i).trans (if_pos rfl)
  · rw [hpulseGone', hpulseGone, hflags', hopenGone, hflags, State.flagsKept]
  · rw [hchannel', State.channelShown, State.channelShown, flagGone_one, flagGone_one, hopenGone, hflags, hchannel]
  · rw [clearedEntries_eq, flagGone_one, flagGone_two, hpulseGone', hpulseGone, hflags', hopenGone, hflags]
    rfl

end OneChannel

end Sys2Proof.Machine

/-! PROOFS. CLEAR_FAULTS (R13, R40, R211): all flags, the words of those left, and the release of LOCKOUT. -/

namespace Sys2Proof.Machine

set_option Elab.async false

/-! ## All flags (R13) -/

/-- Between two states the flags of the first n channels were tested, and nothing else of the engine changed. -/
structure ChannelsCleared (s t : State) (n : Nat) : Prop where
  faults : ∀ j, t.faultsOf j = if j < n then s.flagsKept j else s.faultsOf j
  chans : ∀ j, t.channel j = if j < n then s.channelShown j else s.channel j
  len : t.eng.faults.length = s.eng.faults.length
  eng : t.eng = { s.eng with chans := t.eng.chans, faults := t.eng.faults }
  kept : KeepsAllBut [.mem, .jr, .att, .eng] s t
  logged : ∀ σ l, Logged σ s l → Logged σ t (l ++ (List.range n).flatMap s.clearedEntries)

namespace ChannelsCleared

variable {s t u : State} {n : Nat}

theorem refl (s : State) : ChannelsCleared s s 0 where
  faults j := by simp
  chans j := by simp
  len := rfl
  eng := rfl
  kept := .refl _ _
  logged σ l h := by simpa using h

/-- A channel that is not tested yet has its flags, its values and its conditions. -/
theorem untested (h : ChannelsCleared s t n) {j : Nat} (hj : n ≤ j) :
    t.flagsKept j = s.flagsKept j ∧ t.channelShown j = s.channelShown j ∧ t.clearedEntries j = s.clearedEntries j := by
  have hfaults : t.faultsOf j = s.faultsOf j := (h.faults j).trans (if_neg (Nat.not_lt.mpr hj))
  have hchan : t.channel j = s.channel j := (h.chans j).trans (if_neg (Nat.not_lt.mpr hj))
  have hover : t.overRangeGone j = s.overRangeGone j := congrArg (fun c : Channel => !atLimit c.raw) hchan
  have hopen : t.openGone j = s.openGone j := congrArg (fun c : Channel => decide (-1000 ≤ c.raw)) hchan
  have hpulse : t.noPulseGone j = s.noPulseGone j := by
    have hpd : t.eng.lastPd = s.eng.lastPd := by rw [h.eng]
    rw [State.noPulseGone, State.noPulseGone, hpd, h.kept .drv (by decide)]
  have hgone : t.flagGone j = s.flagGone j := by
    funext k
    rw [State.flagGone, State.flagGone, hfaults, hover, hopen, hpulse]
  refine ⟨?_, ?_, ?_⟩
  · rw [State.flagsKept, State.flagsKept, hfaults, hover, hopen, hpulse]
  · rw [State.channelShown, State.channelShown, hgone, hchan]
  · rw [State.clearedEntries, State.clearedEntries, hgone]

/-- One channel more is tested. -/
theorem step (h : ChannelsCleared s t n) (hn : n < s.eng.faults.length) : ChannelsCleared s (t.clearChannel n) (n + 1) := by
  obtain ⟨hflags, hshown, hentries⟩ := h.untested (Nat.le_refl n)
  have hone := clearChannel_cleared t (i := n) (h.len ▸ hn)
  refine ⟨fun j => ?_, fun j => ?_, hone.len.trans h.len, by rw [hone.eng, h.eng], h.kept.trans hone.kept, fun σ l hl => ?_⟩
  · rw [hone.faults, hflags, h.faults]
    split
    next hj => rw [hj, if_pos (Nat.lt_succ_self n)]
    next hj => simp only [show j < n + 1 ↔ j < n from by omega]
  · rw [hone.chans, hshown, h.chans]
    split
    next hj => rw [hj, if_pos (Nat.lt_succ_self n)]
    next hj => simp only [show j < n + 1 ↔ j < n from by omega]
  · have hmore := hone.logged σ _ (h.logged σ l hl)
    rw [hentries] at hmore
    rw [List.range_succ, List.flatMap_append, List.flatMap_singleton, ← List.append_assoc]
    exact hmore

/-- The first n channels are tested by rising channel. -/
theorem range (s : State) (hn : n ≤ s.eng.faults.length) : ChannelsCleared s ((List.range n).foldl State.clearChannel s) n := by
  induction n with
  | zero => exact .refl s
  | succ n ih =>
    rw [List.range_succ, List.foldl_append]
    exact (ih (Nat.le_of_succ_le hn)).step hn

end ChannelsCleared

theorem clearAll_cleared (s : State) (hlen : s.eng.faults.length = 11) : ChannelsCleared s s.clearAll 11 :=
  .range s (Nat.le_of_eq hlen.symm)

/-! ## The words of the flags left (R211) -/

/-- A flag of every channel, channel by channel. -/
theorem faults_map (s : State) (hlen : s.eng.faults.length = 11) (f : FaultFlags → Bool) :
    s.eng.faults.map f = (List.range 11).map fun i => f (s.faultsOf i) := by
  refine List.ext_getElem (by simp [hlen]) fun i hi hi' => ?_
  simp [State.faultsOf, List.getElem?_eq_getElem (show i < s.eng.faults.length by simpa using hi)]

theorem flagsLeft_eq (s : State) (hlen : s.eng.faults.length = 11) : s.flagsLeft =
    [flagWord ((List.range 11).map (fun i => (s.faultsOf i).overRange)),
     flagWord ((List.range 11).map (fun i => (s.faultsOf i).openWire)),
     flagWord ((List.range 11).map (fun i => (s.faultsOf i).noPulse))] := by
  rw [State.flagsLeft, faults_map s hlen, faults_map s hlen, faults_map s hlen]

/-! ## The release of LOCKOUT (R40) -/

/-- ESTOP is INACTIVE and both sides were at rest in the most recent window (R40). -/
def State.unlocks (s : State) : Prop :=
  s.level .estop = false ∧ ∃ l r, s.eng.lastPd = some (l, r) ∧ l < 2 ∧ r < 2

theorem unlocks_iff (s : State) : s.unlocks ↔ (!s.level .estop && s.restedLast) = true := by
  rw [State.unlocks, State.restedLast]
  rcases s.eng.lastPd with _ | ⟨l, r⟩ <;> cases s.level .estop <;> simp

theorem releaseLockout_stays (s : State) (h : ¬ (s.drv.state = .lockout ∧ s.unlocks)) : s.releaseLockout = s := by
  rw [State.releaseLockout, if_neg]
  rw [unlocks_iff] at h
  simpa [and_assoc] using h

theorem releaseLockout_releases (s : State) (hlock : s.drv.state = .lockout) (h : s.unlocks) :
    s.releaseLockout = s.driveOff 0xFFFF := by
  rw [State.releaseLockout, if_pos]
  rw [unlocks_iff] at h
  simpa [hlock] using h

end Sys2Proof.Machine

/-! PROOFS. CLEAR_FAULTS at its taking (R11, R13, R40, R211). -/

namespace Sys2Proof.Machine

set_option Elab.async false

/-! ## The taking -/

/-- The state behind the flags and the release, before the slot completes. -/
def State.cleared (s : State) : State := s.clearAll.releaseLockout

theorem exec_clearFaults (s : State) (n : Nat) (ht : Takes s n 1) :
    exec .clearFaults s = .next (publish s (s.cleared.complete n 1 .ok .none s.cleared.flagsLeft)) :=
  exec_takingOf_takes .clearFaults s n ht

theorem cleared_eng (s : State) : s.cleared.eng = s.clearAll.eng := by simp [State.cleared]

theorem cleared_wf (s : State) (hw : Memory.wf s.mem) : Memory.wf s.cleared.mem :=
  (State.releaseLockout_rec (State.clearAll_rec (Recorded.refl s))).wf hw

theorem cleared_faultsOf (s : State) (i : Nat) : s.cleared.faultsOf i = s.clearAll.faultsOf i := by
  rw [State.faultsOf, cleared_eng]
  rfl

/-- The release reads ESTOP and the most recent window as they were before the flags were tested (R40). -/
theorem ChannelsCleared.unlocks_iff {s t : State} {n : Nat} (h : ChannelsCleared s t n) : t.unlocks ↔ s.unlocks := by
  have hlevel : t.level .estop = s.level .estop := level_of_inputs (by rw [h.eng]) .estop
  have hpd : t.eng.lastPd = s.eng.lastPd := by rw [h.eng]
  rw [State.unlocks, State.unlocks, hlevel, hpd]

section Lockout

variable {s : State} (hlen : s.eng.faults.length = 11)
include hlen

/-- Outside LOCKOUT, and where the lockout is not released, the taking clears the flags alone (R40). -/
theorem cleared_stays (h : ¬ (s.drv.state = .lockout ∧ s.unlocks)) : s.cleared = s.clearAll := by
  have hall := clearAll_cleared s hlen
  have hdrv : s.clearAll.drv = s.drv := hall.kept .drv (by decide)
  exact releaseLockout_stays _ (by rwa [hall.unlocks_iff, hdrv])

/-- A released lockout takes the drive into OFF (R40). -/
theorem cleared_drv (hlock : s.drv.state = .lockout) (h : s.unlocks) (h1 : s.seq.state ≠ .spinup) (h2 : s.seq.state ≠ .spindown) :
    s.cleared.drv = s.drv.off := by
  have hall := clearAll_cleared s hlen
  have hdrv : s.clearAll.drv = s.drv := hall.kept .drv (by decide)
  have hseq : s.clearAll.seq = s.seq := hall.kept .seq (by decide)
  rw [State.cleared, releaseLockout_releases _ (by rw [hdrv, hlock]) (hall.unlocks_iff.mpr h), State.driveOff_eq,
    ended_event _ _ _ _ (by rwa [hseq]) (by rwa [hseq]), State.ended_drv, hdrv]

end Lockout

/-! ## The flags and the values of one channel (R11, R13) -/

/-- A value released is the mean of the history (R11). -/
theorem channelShown_released (s : State) (i : Nat) (h : s.flagGone i 1 = true) (hne : (s.channel i).history ≠ []) :
    s.channelShown i = { s.channel i with filtered := roundDiv (s.channel i).history.sum (s.channel i).history.length } := by
  rw [State.channelShown, if_pos h]
  cases hhist : (s.channel i).history with
  | nil => exact absurd hhist hne
  | cons => rfl

theorem channelShown_held (s : State) (i : Nat) (h : s.flagGone i 1 ≠ true) : s.channelShown i = s.channel i := if_neg h

/-- OPEN is released exactly where it was set and its condition is gone (R13). -/
theorem flagGone_openWire (s : State) (i : Nat) :
    s.flagGone i 1 = true ↔ (s.faultsOf i).openWire = true ∧ (s.flagsKept i).openWire = false := by
  rw [flagGone_one, State.flagsKept]
  cases (s.faultsOf i).openWire <;> simp

/-- NO_PULSE stays in RUN while the most recent window shows no pulse of its side (R12, R13). -/
theorem noPulseGone_eq (s : State) (i : Nat) : s.noPulseGone i =
    (s.drv.state != .run || s.eng.lastPd.any (fun pd => decide (0 < if i = 9 then pd.1 else pd.2))) := by
  rw [State.noPulseGone]
  cases s.eng.lastPd <;> rfl

theorem flagsKept_eq (s : State) (i : Nat) : s.flagsKept i =
    ⟨(s.faultsOf i).overRange && atLimit (s.eng.chans.getD i noChannel).raw,
     (s.faultsOf i).openWire && decide ((s.eng.chans.getD i noChannel).raw < -1000),
     (s.faultsOf i).noPulse && s.drv.state == .run
       && !(s.eng.lastPd.any (fun pd => decide (0 < if i = 9 then pd.1 else pd.2)))⟩ := by
  rw [State.flagsKept, noPulseGone_eq, State.overRangeGone, State.openGone, FaultFlags.mk.injEq]
  refine ⟨by simp, ?_, ?_⟩
  · simp only [← decide_not, Int.not_le]
  · rw [Bool.not_or, ← Bool.and_assoc, bne, Bool.not_not]

/-! ## The entries of the flags cleared (R13) -/

theorem clearedEntries_length (s : State) (i : Nat) : (s.clearedEntries i).length = (List.range 3).countP (s.flagGone i) := by
  rw [State.clearedEntries, List.length_map, List.countP_eq_length_filter]

/-- Where one of a row of lists alone has a member, it is the whole of them. -/
theorem flatMap_range_one {α : Type} (x : α) (i : Nat) : ∀ n, i < n → (List.range n).flatMap (fun j => if j = i then [x] else []) = [x]
  | n + 1, h => by
    rw [List.range_succ, List.flatMap_append, List.flatMap_singleton]
    by_cases hn : n = i
    · have hnone : (List.range n).flatMap (fun j => if j = i then [x] else []) = [] := by
        rw [List.flatMap_eq_nil_iff]
        intro j hj
        rw [if_neg (by have := List.mem_range.mp hj; omega)]
      rw [hnone, if_pos hn]
      rfl
    · rw [flatMap_range_one x i n (by omega), if_neg hn]
      rfl

/-- Where one flag of one channel alone is cleared, its entry is the only one (R13). -/
theorem clearedEntries_one (s : State) {i k : Nat} (hi : i < 11) (hk : k < 3)
    (h : ∀ j, j < 11 → ∀ m, m < 3 → (s.flagGone j m = true ↔ j = i ∧ m = k)) :
    (List.range 11).flatMap s.clearedEntries = [⟨evFaultCleared, 0, word i, word k⟩] := by
  rw [← flatMap_range_one _ i 11 hi]
  refine List.flatMap_congr fun j hj => ?_
  have hone : (List.range 3).filter (s.flagGone j) = if j = i then [k] else [] := by
    have hfilter : (List.range 3).filter (s.flagGone j) = (List.range 3).filter (fun m => decide (j = i ∧ m = k)) :=
      List.filter_congr fun m hm => by
        rw [Bool.eq_iff_iff, h j (List.mem_range.mp hj) m (List.mem_range.mp hm), decide_eq_true_iff]
    rw [hfilter]
    by_cases hji : j = i
    · rw [if_pos hji]
      simp only [hji, true_and]
      rcases (by omega : k = 0 ∨ k = 1 ∨ k = 2) with rfl | rfl | rfl <;> rfl
    · rw [if_neg hji]
      simp [hji]
  rw [State.clearedEntries, hone]
  split
  next hji => rw [hji]; rfl
  next => rfl

/-! ## O14 -/

/-- Settles O14: the flags channel by channel, then the release of LOCKOUT, and the request completes with the flags left. -/
theorem clearFaultsClearsAndReleases : Obligations.ClearFaultsClearsAndReleases := by
  unfold Obligations.ClearFaultsClearsAndReleases
  refine ⟨fun s n _ hlen hw ht => ⟨_, exec_clearFaults s n ht, ?first⟩, ?second⟩
  case first =>
    have hall := clearAll_cleared s hlen
    have hdone := slotDone_publish_complete s s.cleared n 1 .ok .none s.cleared.flagsLeft (cleared_wf s hw)
    have heng : (publish s (s.cleared.complete n 1 .ok .none s.cleared.flagsLeft)).eng = s.clearAll.eng := by
      simp [cleared_eng]
    have hdrv : (publish s (s.cleared.complete n 1 .ok .none s.cleared.flagsLeft)).drv = s.cleared.drv := by simp
    rw [flagsLeft_eq s.cleared (by rw [cleared_eng, hall.len, hlen])] at hdone heng hdrv ⊢
    simp only [cleared_faultsOf] at hdone heng hdrv ⊢
    generalize publish s _ = t at hdone heng hdrv ⊢
    have hfaults (i : Nat) : t.faultsOf i = s.clearAll.faultsOf i := by
      rw [State.faultsOf, heng]
      rfl
    have hkept (i : Nat) (hi : i < 11) : t.faultsOf i = s.flagsKept i := by rw [hfaults, hall.faults, if_pos hi]
    have hchan (i : Nat) (hi : i < 11) : t.eng.chans.getD i noChannel = s.channelShown i := by
      rw [heng]
      exact (hall.chans i).trans (if_pos hi)
    simp only [← hfaults] at hdone
    refine ⟨fun i hi => (hkept i hi).trans (flagsKept_eq s i), fun i hi => ⟨fun hrel hne => ?_, fun hrel => ?_⟩, hdone,
      fun hlock => ?_, fun hlock h1 h2 _ => ⟨fun h => ?_, fun h => ?_⟩, ?_, ?_, ?_⟩
    · rw [hkept i hi] at hrel
      rw [hchan i hi, channelShown_released s i ((flagGone_openWire s i).mpr hrel) hne]
      rfl
    · rw [hkept i hi] at hrel
      rw [hchan i hi, channelShown_held s i ((flagGone_openWire s i).not.mpr hrel)]
      rfl
    · rw [hdrv, cleared_stays hlen fun h => hlock h.1]
      exact hall.kept .drv (by decide)
    · rw [hdrv, cleared_drv hlen hlock h h1 h2]
      rfl
    · rw [hdrv, cleared_stays hlen fun h' => h h'.2]
      exact hall.kept .drv (by decide)
    all_goals rw [heng, hall.eng]
  case second =>
    intro s n _ hlen hw ht hlock gone
    refine ⟨_, exec_clearFaults s n ht, ?_⟩
    have hgone : gone = s.flagGone := by
      funext i k
      simp only [gone, State.flagGone, State.overRangeGone, State.openGone, noPulseGone_eq]
    rw [hgone]
    have hlog := ((clearAll_cleared s hlen).logged s [] (Logged.refl s)).complete n 1 .ok .none s.clearAll.flagsLeft |>.publish s
    rw [cleared_stays hlen fun h => hlock h.1]
    refine ⟨?_, fun i hi k hk hone hb => ?_⟩
    · rw [hlog.produced, List.nil_append, List.length_append, List.length_flatMap, BitVec.ofNat_add]
      simp only [clearedEntries_length]
      rw [BitVec.add_comm (BitVec.ofNat 32 _), ← BitVec.add_assoc]
      rfl
    · rw [clearedEntries_one s hi hk hone] at hlog
      exact hlog.first (by simp) hw hb

end Sys2Proof.Machine

/-! PROOFS. The display link (R151 to R161): frames that fall due, leave and wait, and what the events of the sequencer leave of the link. -/

namespace Sys2Proof.Machine

set_option Elab.async false

/-! ## The link beside the frames (R151, R161) -/

/-- Between two states no frame has fallen due: the link holds its frames and its last message, and its repeat mark lapses at most, which
it does where the sequencer has left the run states (R161). -/
structure LinkKept (s t : State) : Prop where
  sending : t.disp.sending = s.disp.sending
  waiting : t.disp.waiting = s.disp.waiting
  message : t.disp.lastMessage = s.disp.lastMessage
  mark : t.disp.repeatMark = none ∨
    t.disp.repeatMark = s.disp.repeatMark ∧ (isRunState s.seq.state = true → isRunState t.seq.state = true)

namespace LinkKept

variable {s t u : State}

theorem of_same (hd : t.disp = s.disp := by simp) (hq : t.seq.state = s.seq.state := by simp) : LinkKept s t :=
  ⟨by rw [hd], by rw [hd], by rw [hd], .inr ⟨by rw [hd], by rw [hq]; exact id⟩⟩

theorem trans (h : LinkKept s t) (h' : LinkKept t u) : LinkKept s u := by
  refine ⟨h'.sending.trans h.sending, h'.waiting.trans h.waiting, h'.message.trans h.message, ?_⟩
  rcases h'.mark with hm' | ⟨hm', hq'⟩
  · exact .inl hm'
  · rcases h.mark with hm | ⟨hm, hq⟩
    · exact .inl (hm'.trans hm)
    · exact .inr ⟨hm'.trans hm, fun hr => hq' (hq hr)⟩

/-- A repeat mark lapses as the run states are left (R161). -/
theorem lapsed (h : LinkKept s t) (hs : isRunState s.seq.state = true) (ht : isRunState t.seq.state = false) :
    t.disp.repeatMark = none := by
  rcases h.mark with hm | ⟨-, hq⟩
  · exact hm
  · rw [hq hs] at ht
    cases ht

theorem enterSeq (s : State) (n : SeqState) : LinkKept s (s.enterSeq n) := by
  have hdisp := s.enterSeq_disp n
  by_cases h : isRunState s.seq.state = true ∧ isRunState n = false
  · rw [if_pos h] at hdisp
    exact ⟨by rw [hdisp], by rw [hdisp], by rw [hdisp], .inl (by rw [hdisp])⟩
  · rw [if_neg h] at hdisp
    refine ⟨by rw [hdisp], by rw [hdisp], by rw [hdisp], .inr ⟨by rw [hdisp], fun hr => ?_⟩⟩
    rw [State.enterSeq_state]
    cases hn : isRunState n
    · exact absurd ⟨hr, hn⟩ h
    · rfl

theorem takeEndOfSpin (s : State) (owed : Bool) : LinkKept s (s.takeEndOfSpin owed) := by
  unfold State.takeEndOfSpin
  split
  · exact (of_same (t := s.setSeq { s.seq with parkingOwed := owed })).trans (enterSeq _ _)
  · split <;> exact of_same

theorem enterStopping (s : State) (r : StopReason) : LinkKept s (s.enterStopping r) := by
  have hdisp := s.enterStopping_disp r
  refine ⟨?_, ?_, ?_, .inr ⟨?_, by simp⟩⟩ <;> rw [hdisp] <;> split <;> rfl

theorem runStop (s : State) (r : StopReason) : LinkKept s (s.runStop r) := by
  by_cases hidle : s.run.phase = .idle ∨ s.run.phase = .armed
  · rcases hidle with h | h <;> simp only [State.runStop, h] <;> exact of_same
  by_cases hpark : s.run.phase = .parkOnset ∨ s.run.phase = .parkRun
  · rw [s.runStop_parking r hpark]
    split
    · exact .trans of_same (takeEndOfSpin _ _)
    · exact .trans of_same (takeEndOfSpin _ _)
  · rw [s.runStop_attempt r (by cases hp : s.run.phase <;> simp_all [inAttemptPart])]
    exact .trans of_same (takeEndOfSpin _ _)

theorem haltDrive (s : State) : LinkKept s s.haltDrive := by
  unfold State.haltDrive
  split
  · exact (enterStopping _ _).trans (runStop _ _)
  · exact of_same

theorem ownerStop (s : State) (r : StopReason) : LinkKept s (s.ownerStop r) := by
  unfold State.ownerStop
  split
  · unfold State.takeDriveStop
    split
    · exact enterSeq _ _
    · exact of_same
  · exact of_same
  · exact of_same

theorem stopDrive (s : State) (r : StopReason) : LinkKept s (s.stopDrive r) := by
  unfold State.stopDrive
  split
  · exact (enterStopping _ _).trans ((runStop _ _).trans (ownerStop _ _))
  · exact of_same

theorem giveUpWork (s : State) (e : EndReason) : LinkKept s (s.giveUpWork e) :=
  (of_same (t := s.runEnd e)).trans ((haltDrive _).trans (of_same rfl rfl))

theorem enterSeq_with (s : State) (q : Sequencer) (n : SeqState) (hq : q.state = s.seq.state) :
    LinkKept s ((s.setSeq q).enterSeq n) := (of_same (s := s) (t := s.setSeq q) rfl hq).trans (enterSeq _ _)

theorem pauseWork (s : State) : LinkKept s s.pauseWork := (giveUpWork s .pause).trans (enterSeq_with _ _ .paused rfl)

/-- A frame that falls due behind acts that made none (R156). -/
theorem fell (h : LinkKept s t) {v : State} (hv : FrameFell t v) : FrameFell s v := hv.from h.sending h.waiting h.message

/-- The sequencer has changed its state: a frame falls due, and the repeat mark is as the acts left it (R156, R161). -/
theorem frameAfter {old : State} (h : LinkKept s t) (hdiff : t.seq.state ≠ old.seq.state) :
    FrameFell s (frameAfter old t) ∧ (frameAfter old t).disp.repeatMark = t.disp.repeatMark := by
  have hdue : Machine.frameAfter old t = t.frameDue := if_pos (.inl hdiff)
  rw [hdue]
  refine ⟨h.fell t.frameDue_fell, ?_⟩
  cases hs : t.disp.sending <;> simp [State.frameDue, State.loadRefresh, hs]

end LinkKept

/-! ## A stop of the sequencer's spin (R136) -/

/-- The sequencer is in SPINDOWN behind a stop of its spin in a run state, whatever the run unit was at (R136). -/
theorem stopDrive_spindown (s : State) (r : StopReason) (hspin : isSpinning s.drv.state = true) (ho : s.drv.owner = some .sequencer)
    (hrun : isRunState s.seq.state = true) : (s.stopDrive r).seq.state = .spindown := by
  rw [s.stopDrive_eq r hspin]
  generalize s.stopCause r = c
  have hseq : (s.enterStopping c).seq = s.seq := by simp
  have howner : ((s.enterStopping c).runStop c).drv.owner = some .sequencer := by simp [State.enterStopping_drv, ho]
  generalize s.enterStopping c = v at *
  have ended (u : State) (owed : Bool) (hu : u.seq = s.seq) : (u.takeEndOfSpin owed).seq.state = .spindown := by
    rw [State.takeEndOfSpin, if_pos (by rw [hu]; exact hrun), State.enterSeq_state]
  have hstopped : (v.runStop c).seq.state = s.seq.state ∨ (v.runStop c).seq.state = .spindown := by
    by_cases hidle : v.run.phase = .idle ∨ v.run.phase = .armed
    · left
      rcases hidle with h | h <;> simp [State.runStop, h, hseq]
    right
    by_cases hpark : v.run.phase = .parkOnset ∨ v.run.phase = .parkRun
    · rw [State.runStop_parking _ c hpark]
      split <;> exact ended _ _ (by simp [hseq])
    · rw [State.runStop_attempt _ c (by cases hp : v.run.phase <;> simp_all [inAttemptPart])]
      exact ended _ _ (by simp [hseq])
  rw [State.ownerStop, howner]
  simp only [State.takeDriveStop]
  rcases hstopped with h | h
  · rw [h, if_pos (by simp [hrun]), State.enterSeq_state]
  · rw [if_neg (by simp [h, isRunState]), h]

end Sys2Proof.Machine

/-! PROOFS. The display link, settled (R151 to R161). -/

namespace Sys2Proof.Machine

set_option Elab.async false

/-! ## Frames on the line and in the header (R151, R196) -/

theorem exec_displayRefresh (s : State) (h : s.expired s.disp.refresh = true) :
    exec .displayRefresh s = .next (publish s s.frameDue) := congrArg (fun t => Host.Outcome.next (publish s t)) (if_pos h)

theorem exec_displayFrameSent (s : State) (f : Frame) (h : s.disp.sending = some f) :
    exec .displayFrameSent s = .next (publish s s.frameSent) :=
  congrArg (fun t => Host.Outcome.next (publish s t)) (if_pos (by simp [h]))

theorem exec_repeatMarkLapse (s : State) (h : s.expired s.disp.repeatMark = true) :
    exec .repeatMarkLapse s = .next (publish s (s.setDisp { s.disp with repeatMark := none })) :=
  congrArg (fun t => Host.Outcome.next (publish s t)) (if_pos h)

/-- A begun and an idle link have different words in the header. -/
theorem bytePair_ne (a b : Nat) : bytePair 0 a ≠ bytePair 1 b := by
  intro h
  have := congrArg BitVec.toNat h
  simp only [bytePair, BitVec.toNat_ofNat] at this
  omega

theorem headerWords_display (s : State) : (headerWords s)[3]'(by simp) = displayWord s := rfl

section Published

variable {s t : State} (hw : Memory.wf t.mem)
include hw

/-- A change of the link's word is written in the header (R196). -/
theorem publish_displayWord (h : displayWord s ≠ displayWord t) : Memory.readWord (publish s t).mem 0x0006 = displayWord t := by
  have hword := publish_headerWord s t hw 3 (by decide) (.inl (by decide))
  rw [headerWords_display, headerWords_display, if_neg h] at hword
  exact hword

/-- A word of the link that is written already stays (R196). -/
theorem publish_displayWord_shown (h : Memory.readWord t.mem 0x0006 = displayWord t) :
    Memory.readWord (publish s t).mem 0x0006 = displayWord t := by
  have hword := publish_headerWord s t hw 3 (by decide) (.inl (by decide))
  rw [headerWords_display, headerWords_display] at hword
  refine hword.trans ?_
  split
  · exact h
  · rfl

end Published

/-- Of lane memory an act of the display link touches the header alone (R196). -/
theorem linkMemKept {s t : State} (hk : KeepsAllBut [.disp, .mem] s t)
    (hm : ∀ a, ¬ headerByte a → Memory.readByte t.mem a = Memory.readByte s.mem a) : MemKept headerByte s (publish s t) := fun a ha => by
  have htab : t.tab = s.tab := hk .tab (by decide)
  have hcomp : t.comp = s.comp := hk .comp (by decide)
  rw [publish_readByte_header s t htab.symm (by rw [hcomp]) a ha, hm a ha]

/-- A frame begins on an IDLE link and is its word in the header (R151, R196). -/
theorem frameBegins (s : State) (h : s.disp.sending = none) : s.frameDue.disp.sending.isSome = true ∧
    s.frameDue.disp.lastMessage = messageShown s := by
  rw [← State.message_eq_shown]
  simp [State.frameDue, State.loadRefresh, h]
  rfl

/-- A frame that falls due writes the link alone, and not its repeat mark. -/
theorem frameDue_setDisp (s : State) : ∃ d, s.frameDue = s.setDisp d ∧ d.repeatMark = s.disp.repeatMark := by
  by_cases h : s.disp.sending.isSome = true
  · exact ⟨{ s.loadRefresh.disp with waiting := some s.composeFrame }, if_pos h, rfl⟩
  · exact ⟨{ s.loadRefresh.disp with sending := some s.composeFrame, lastMessage := s.composeFrame.message }, if_neg h, rfl⟩

/-- What a frame shows is what stood at the event: the link's own reload is not shown (R156). -/
theorem frameShown_frameDue (s : State) : frameShown s.frameDue = frameShown s := by
  obtain ⟨d, hd, hmark⟩ := frameDue_setDisp s
  rw [hd, frameShown_setDisp _ _ hmark]

theorem frameDue_repeatMark (s : State) : s.frameDue.disp.repeatMark = s.disp.repeatMark := by
  obtain ⟨d, hd, hmark⟩ := frameDue_setDisp s
  rw [hd, ← hmark]
  rfl

theorem frameDue_kept (s : State) : KeepsAllBut [.disp, .mem] s s.frameDue := fun p hp => by cases p <;> simp_all [Part.same]

/-! ## A frame that leaves the line (R151) -/

section Sent

variable (s : State) (hw : Memory.wf s.mem)
include hw

/-- The waiting frame begins, and its message follows in the header, an equal one included (R151, R196). -/
theorem frameSent_next (g : Frame) (h : s.disp.waiting = some g) :
    (publish s s.frameSent).disp = { s.disp with sending := some g, waiting := none, lastMessage := g.message } ∧
    Memory.readWord (publish s s.frameSent).mem 0x0006 = bytePair 1 g.message := by
  let u := s.setDisp { s.disp with sending := some g, waiting := none, lastMessage := g.message }
  have hsent : s.frameSent = u.rewriteDisplay := by simp only [State.frameSent, h, u]
  rw [hsent]
  have hmem : u.rewriteDisplay.mem = Memory.writeWord s.mem 0x0006 (bytePair 1 g.message) := rfl
  exact ⟨rfl, publish_displayWord_shown (by rw [hmem]; exact Memory.wf_writeWord _ hw _ _)
    (by rw [hmem, Memory.readWord_writeWord _ hw]; rfl)⟩

/-- Without a waiting frame the link is IDLE (R151). -/
theorem frameSent_idle (f : Frame) (hs : s.disp.sending = some f) (h : s.disp.waiting = none) :
    (publish s s.frameSent).disp = { s.disp with sending := none } ∧
    Memory.readWord (publish s s.frameSent).mem 0x0006 = bytePair 0 s.disp.lastMessage := by
  have hsent : s.frameSent = s.setDisp { s.disp with sending := none } := by simp only [State.frameSent, h]
  have hold : displayWord s = bytePair 1 s.disp.lastMessage := by simp [displayWord, hs]
  rw [hsent]
  exact ⟨rfl, publish_displayWord hw (by rw [hold]; exact (bytePair_ne _ _).symm)⟩

end Sent

theorem frameSent_readByte (s : State) (a : Nat) (ha : ¬ headerByte a) : Memory.readByte s.frameSent.mem a = Memory.readByte s.mem a := by
  unfold State.frameSent
  split
  · exact Memory.readByte_writeWord _ _ _ _ (by unfold headerByte at ha; omega)
  · rfl

theorem frameSent_kept (s : State) : KeepsAllBut [.disp, .mem] s s.frameSent := fun p hp => by cases p <;> simp_all [Part.same]

end Sys2Proof.Machine

/-! PROOFS. The display link at the events of the sequencer (R156, R157, R161), settled. -/

namespace Sys2Proof.Machine

set_option Elab.async false

/-! ## DISCARD_ATTEMPT in REVIEW (R138, R156) -/

/-- A frame reads of the request slots only whether a plan is ACTIVE (R152). -/
theorem frameShown_congr {s t : State} (hk : KeepsAllBut [.mem, .slots, .jr, .att] s t)
    (hplan : t.kindActive .runPlan = s.kindActive .runPlan) : frameShown t = frameShown s ∧ messageShown t = messageShown s := by
  have heng : t.eng = s.eng := hk .eng (by decide)
  have hdrv : t.drv = s.drv := hk .drv (by decide)
  have htab : t.tab = s.tab := hk .tab (by decide)
  have hrun : t.run = s.run := hk .run (by decide)
  have hseq : t.seq = s.seq := hk .seq (by decide)
  have hdisp : t.disp = s.disp := hk .disp (by decide)
  have hfiltered : t.filtered = s.filtered := by
    funext k
    rw [State.filtered, State.filtered, heng]
  have hlevel : t.level = s.level := by
    funext i
    exact level_of_inputs (by rw [heng]) i
  have hrecord : t.record = s.record := by
    funext k
    exact State.record_congr htab k
  have haxle : t.planAxle = s.planAxle := by
    funext k
    rw [State.planAxle, State.planAxle, htab]
  have hmessage : messageShown t = messageShown s := by
    rw [messageShown, messageShown, messageTests, messageTests, heng, hdrv, hrun, hseq, hlevel]
  have hfields (m : Nat) : fieldsShown t m = fieldsShown s m := by
    simp only [fieldsShown, htab, hfiltered, hrecord, haxle]
  exact ⟨by simp only [frameShown, hmessage, hfields, hplan, htab, hdisp, hfiltered], hmessage⟩

/-- The completion of a request that is no plan leaves the plan ACTIVE as it was (R198, R200). -/
theorem complete_planActive (s : State) (n k : Nat) (o : ReqOutcome) (d : Detail) (r : List Word) (h : s.lowestPosted = some n) :
    (s.complete n k o d r).kindActive .runPlan = s.kindActive .runPlan := by
  have hslots : (s.complete n k o d r).slots = s.slots.set n .free := by simp [State.complete, State.finishSlot, State.setHeld]
  obtain ⟨hn, hposted, -⟩ := List.findIdx?_eq_some_iff_getElem.mp h
  have hself : s.slots[n] = .posted := by simpa using hposted
  rw [State.kindActive, State.kindActive, hslots, Bool.eq_iff_iff, List.any_eq_true, List.any_eq_true]
  constructor
  · rintro ⟨x, hx, hactive⟩
    rcases List.mem_or_eq_of_mem_set hx with hx | rfl
    · exact ⟨x, hx, hactive⟩
    · simp at hactive
  · rintro ⟨x, hx, hactive⟩
    obtain ⟨i, hi, rfl⟩ := List.getElem_of_mem hx
    have hne : n ≠ i := by
      rintro rfl
      rw [hself] at hactive
      simp at hactive
    refine ⟨s.slots[i], ?_, hactive⟩
    have hget : (s.slots.set n .free)[i]'(by simpa using hi) = s.slots[i] := by rw [List.getElem_set, if_neg hne]
    exact hget ▸ List.getElem_mem _

/-- A frame that fell due before the completion of a request (R156, R200). -/
theorem FrameFell.complete {s t : State} (h : FrameFell s t) (n k : Nat) (o : ReqOutcome) (d : Detail) (r : List Word)
    (hn : t.lowestPosted = some n) : FrameFell s (t.complete n k o d r) := by
  have hk : KeepsAllBut [.mem, .slots, .jr, .att] t (t.complete n k o d r) := fun p hp => by cases p <;> simp_all [Part.same]
  obtain ⟨hframe, hmessage⟩ := frameShown_congr hk (complete_planActive t n k o d r hn)
  have hdisp : (t.complete n k o d r).disp = t.disp := hk .disp (by decide)
  have hclk : (t.complete n k o d r).clk = t.clk := hk .clk (by decide)
  have hdrv : (t.complete n k o d r).drv = t.drv := hk .drv (by decide)
  unfold FrameFell at *
  rw [hframe, hmessage, hdisp, hclk, hdrv]
  exact h

/-- The retest offer, spelled by the top attempt and the limits (R138). -/
theorem offerNow_eq (s : State) : s.offerNow = if (s.record s.tab.cursor).top.any (fun b =>
    b.imbalance.any (fun x => decide ((s.tab.limits.maxImbalance.toNat : Int) < x)) ||
      b.axleOvality.any (fun x => decide ((s.tab.limits.maxOvality.toNat : Int) < x))) = true then .offerRetest else .result := by
  rw [State.offerNow]
  cases (s.record s.tab.cursor).top with
  | none => rfl
  | some a => cases hi : a.imbalance <;> cases ho : a.axleOvality <;> simp [hi, ho]

/-- The removal of the top attempt of the axle under the cursor, in REVIEW, as the sequencer takes it (R58, R138, R156). -/
theorem popAttempt_offer (s : State) (hq : s.seq.state = .review) :
    (s.popAttempt s.tab.cursor).seq = { s.seq with offer := (s.popAttempt s.tab.cursor).offerNow } ∧
    ((s.popAttempt s.tab.cursor).seq.offer ≠ s.seq.offer → FrameFell s (s.popAttempt s.tab.cursor)) ∧
    ((s.popAttempt s.tab.cursor).seq.offer = s.seq.offer → (s.popAttempt s.tab.cursor).disp = s.disp) := by
  set r := { s.record s.tab.cursor with attempts := (s.record s.tab.cursor).attempts.dropLast } with hr
  set u := (s.setRecord s.tab.cursor r).rewriteAttempt s.tab.cursor (s.record s.tab.cursor).attempts.dropLast.length 8 with hu
  have huseq : u.seq = s.seq := by simp [hu]
  have hucursor : u.tab.cursor = s.tab.cursor := by simp [hu, State.setRecord]
  have hpop : s.popAttempt s.tab.cursor = frameAfter u u.evaluateOffer := by
    have hpop' : s.popAttempt s.tab.cursor = u.offerAgain s.tab.cursor := rfl
    rw [hpop', State.offerAgain, if_pos (by simp [huseq, hq, hucursor])]
  have hoffer : (s.popAttempt s.tab.cursor).offerNow = u.offerNow := State.offerNow_congr (by simp [hpop])
  have hseq : (s.popAttempt s.tab.cursor).seq = { s.seq with offer := u.offerNow } := by simp [hpop, State.evaluateOffer, huseq]
  have hkept : LinkKept s u.evaluateOffer := .of_same (by simp [hu]) (by simp [State.evaluateOffer, huseq])
  refine ⟨by rw [hseq, hoffer], fun hne => ?_, fun he => ?_⟩
  · rw [hseq] at hne
    have hdue : frameAfter u u.evaluateOffer = u.evaluateOffer.frameDue :=
      if_pos (.inr (.inr ⟨by simp [State.evaluateOffer, huseq, hq], by simpa [State.evaluateOffer, huseq] using hne⟩))
    rw [hpop, hdue]
    exact hkept.fell (State.frameDue_fell _)
  · rw [hseq] at he
    have hsame : frameAfter u u.evaluateOffer = u.evaluateOffer := frameAfter_of_seq (by
      rw [State.evaluateOffer, State.setSeq_seq, huseq]
      simp only at he
      rw [he])
    rw [hpop, hsame]
    simp [hu]

/-- A DISCARD_ATTEMPT of the axle under the cursor in REVIEW (R57, R58, R138, R156). -/
theorem discardInReview (s : State) (n : Nat) (ht : Takes s n 2) (a : Attempt) (hpass : s.discardRefusal n = none)
    (hcursor : (s.param n 0).toNat = s.tab.cursor + 1) (hk : s.tab.cursor < s.tab.records.length)
    (ha : (s.record s.tab.cursor).attempts.getLast? = some a) (hq : s.seq.state = .review) :
    let offer := if (s.record s.tab.cursor).attempts.dropLast.getLast?.any (fun b =>
      b.imbalance.any (fun x => decide ((s.tab.limits.maxImbalance.toNat : Int) < x)) ||
        b.axleOvality.any (fun x => decide ((s.tab.limits.maxOvality.toNat : Int) < x))) = true then .offerRetest else .result
    ∃ t, exec .discardAttempt s = .next t ∧ t.seq.state = .review ∧ t.seq.offer = offer ∧
      (t.seq.offer ≠ s.seq.offer → FrameFell s t) ∧ (t.seq.offer = s.seq.offer → t.disp = s.disp) := by
  intro offer
  obtain ⟨hseq, hfell, hquiet⟩ := popAttempt_offer s hq
  have hoffer : (s.popAttempt s.tab.cursor).offerNow = offer := by
    have hrec : (s.popAttempt s.tab.cursor).record s.tab.cursor =
        { s.record s.tab.cursor with attempts := (s.record s.tab.cursor).attempts.dropLast } := by
      simp [State.record, State.popAttempt_tab, hk]
    have hcur : (s.popAttempt s.tab.cursor).tab.cursor = s.tab.cursor := by rw [State.popAttempt_tab]
    have hlim : (s.popAttempt s.tab.cursor).tab.limits = s.tab.limits := by rw [State.popAttempt_tab]
    rw [offerNow_eq, hcur, hrec, hlim]
    rfl
  have hslots : (s.popAttempt s.tab.cursor).slots = s.slots := s.popAttempt_keepsAllBut s.tab.cursor .slots (by decide)
  have htop : (s.record s.tab.cursor).top = some a := ha
  have hrun : s.takeDiscard n = (s.popAttempt s.tab.cursor).complete n 2 .ok .none (discardResult (s.record s.tab.cursor) a) := by
    rw [State.takeDiscard_passed s n hpass, hcursor, Nat.add_sub_cancel, htop]
    exact s.discardTop_eq n s.tab.cursor a
  refine ⟨_, exec_discardAttempt_takes s n ht, ?_⟩
  rw [hrun]
  rw [hoffer] at hseq
  generalize s.popAttempt s.tab.cursor = u at *
  have hposted : u.lowestPosted = some n := by rw [State.lowestPosted, hslots]; exact ht.1
  have hend : (publish s (u.complete n 2 .ok .none (discardResult (s.record s.tab.cursor) a))).seq = u.seq := by simp
  rw [hend]
  refine ⟨by rw [hseq]; exact hq, by rw [hseq], fun hne => (FrameFell.complete (hfell hne) n _ _ _ _ hposted).publish s, fun he => ?_⟩
  have hdisp := hquiet he
  simpa using hdisp

/-! ## The stop of a DRIVE_TEST by its timer (R43, R157) -/

/-- A stop that changes no sequencer state reloads the running refresh timer and makes no frame due (R157). -/
theorem testTimerStops (s : State) (hspin : isSpinning s.drv.state = true) (ho : s.drv.owner = some .driveTest)
    (hidle : s.run.phase = .idle) :
    let t := publish s ((s.decideTest .ok .none).stopEvent .commanded)
    t.seq = s.seq ∧ Stopped s t .commanded ∧ t.disp = (if s.disp.refresh = none ∨ s.disp.period = 1000 then s.disp
      else { s.disp with refresh := some (s.clk.ms + 1000), period := 1000 }) := by
  have hdrv : (s.decideTest .ok .none).drv = s.drv := by simp
  have hseq : (s.decideTest .ok .none).seq = s.seq := by simp
  have hrun : (s.decideTest .ok .none).run = s.run := by simp
  have hdisp : (s.decideTest .ok .none).disp = s.disp := by simp
  have hclk : (s.decideTest .ok .none).clk = s.clk := by simp
  generalize s.decideTest .ok .none = u at *
  have hstop := stopEvent_stopped u .commanded (by rwa [hdrv])
  have hcause : u.stopCause .commanded = .commanded := by simp [State.stopCause]
  have hdrive : u.stopDrive .commanded = (u.enterStopping .commanded).testStop .commanded := by
    rw [u.stopDrive_eq _ (by rwa [hdrv]), hcause, State.runStop_idle _ _ (by simp [hrun, hidle])]
    simp [State.ownerStop, State.enterStopping_drv, hdrv, ho]
  have hevent : u.stopEvent .commanded = u.stopDrive .commanded := frameAfter_of_seq (by simp [hdrive])
  refine ⟨by simp [hevent, hdrive, hseq], ?_, ?_⟩
  · rw [hcause] at hstop
    exact hstop.congr hdrv.symm (by simp)
  · simp only [hevent, hdrive, publish_frame, State.testStop_frame, State.enterStopping_disp, hdisp, hclk]

/-! ## The repeat of a refused start (R135, R156) -/

theorem LinkKept.startDrive (s : State) (o : Owner) (m : DirMode) (k : Nat) : LinkKept s (s.startDrive o m k) := by
  have hdisp := s.startDrive_disp o m k
  refine ⟨?_, ?_, ?_, .inr ⟨?_, by simp⟩⟩ <;> rw [hdisp] <;> split <;> rfl

theorem LinkKept.issueStart (s : State) : LinkKept s s.issueStart := by
  unfold State.issueStart
  split
  · exact .of_same rfl rfl
  · exact .trans (.of_same (t := s.setSeq { s.seq with refusal := none }) rfl rfl) (.startDrive _ _ _ _)

/-- A repeated start makes a frame due where its refusal changes, and leaves the link alone where it does not (R156). -/
theorem repeated_link (s v : State) (hq : s.seq.state = .spinup) (hr : s.seq.refusal ≠ none) (hv : KeepsAllBut [.eng] s v) :
    (v.startRefusal ≠ s.seq.refusal → FrameFell s (frameAfter v v.repeatStart)) ∧
    (v.startRefusal = s.seq.refusal → (frameAfter v v.repeatStart).disp = s.disp) := by
  have hseq : v.seq = s.seq := hv .seq (by decide)
  have hdisp : v.disp = s.disp := hv .disp (by decide)
  rw [State.repeatStart_of_refused v (hseq ▸ hq) (hseq ▸ hr)]
  have hissued : v.issueStart.seq = { s.seq with refusal := v.startRefusal } := by rw [State.issueStart_seq, hseq]
  refine ⟨fun hne => ?_, fun he => ?_⟩
  · have hdue : frameAfter v v.issueStart = v.issueStart.frameDue :=
      if_pos (.inr (.inl ⟨by rw [hissued]; exact hq, by rw [hissued, hseq]; exact hne⟩))
    rw [hdue]
    exact ((LinkKept.of_same hdisp (by rw [hseq])).trans (.issueStart v)).fell (State.frameDue_fell _)
  · rw [frameAfter_of_seq (by rw [hissued, he, hseq]), State.issueStart_refused v (by rw [he]; exact hr)]
    exact hdisp

/-! ## O52 -/

/-- Settles O52: the link's own steps, and the events of the sequencer that make a frame due. -/
theorem displayLinkSendsFrames : Obligations.DisplayLinkSendsFrames := by
  unfold Obligations.DisplayLinkSendsFrames
  refine ⟨fun s h hw => ⟨_, exec_displayRefresh s h, ?refresh⟩, fun s f h hw => ⟨_, exec_displayFrameSent s f h, ?sent⟩,
    fun s h => (exec_repeatMarkLapse s h).trans (congrArg Host.Outcome.next (publish_same s _ rfl rfl rfl rfl rfl)),
    fun s hlen hrun => ⟨fun hset hl => ?pause, fun hset hl hspin ho => ?estop⟩,
    fun s d hd ht hspin ho hidle => ⟨_, exec_driveTestTimerExpiry s d hd ht, testTimerStops s hspin ho hidle⟩,
    fun s hlen hset hl hq hheld => ?ok, fun i s hlen hset hi hspin hq hr => ⟨_, exec_repeats s hlen i hset hi hspin, ?again⟩, ?discard⟩
  case refresh =>
    refine ⟨FrameFell.publish s.frameDue_fell s, frameShown_frameDue s, frameDue_repeatMark s, fun hidle => ?_,
      (frameDue_kept s).publish (by decide) s, linkMemKept (frameDue_kept s) fun a _ => by simp⟩
    obtain ⟨hsending, hmessage⟩ := frameBegins s hidle
    have hnew : displayWord s.frameDue = bytePair 1 (messageShown s) := by rw [displayWord, hsending, hmessage, if_pos rfl]
    have hold : displayWord s = bytePair 0 s.disp.lastMessage := by simp [displayWord, hidle]
    rw [← hnew]
    exact publish_displayWord (by simpa using hw) (by rw [hold, hnew]; exact bytePair_ne _ _)
  case sent =>
    exact ⟨fun g hg => frameSent_next s hw g hg, fun hidle => frameSent_idle s hw f h hidle,
      (frameSent_kept s).publish (by decide) s, linkMemKept (frameSent_kept s) fun a ha => frameSent_readByte s a ha⟩
  case pause =>
    have hk := s.pressed_kept .pause
    have hseq : (s.pressed .pause).seq = s.seq := hk .seq (by decide)
    have hwork : isWorkState s.seq.state = true := by cases hst : s.seq.state <;> simp_all [isRunState, isWorkState]
    have hkey : (s.pressed .pause).seqKey .pause = (s.pressed .pause).pauseWork := by simp [State.seqKey, hseq, hwork]
    have hpaused : (s.pressed .pause).pauseWork.seq.state = .paused := State.enterSeq_state _ _
    have hkept : LinkKept s (s.pressed .pause).pauseWork :=
      (LinkKept.of_same (hk .disp (by decide)) (by rw [hseq])).trans (.pauseWork _)
    obtain ⟨hfell, hmark⟩ := hkept.frameAfter (old := s.pressed .pause) (by
      rw [hpaused, hseq]
      intro h
      simp [← h, isRunState] at hrun)
    have hlapsed := hkept.lapsed hrun (by rw [hpaused]; rfl)
    refine ⟨_, exec_keyPressed s _ hlen hset (by simp) hl, ?_⟩
    rw [hkey]
    exact ⟨by simp [hpaused], hmark.trans hlapsed, hfell.publish s⟩
  case estop =>
    have hk := s.settleLevel_kept .estop
    refine ⟨_, exec_estopOn s hlen hset hl, ?_⟩
    generalize s.settleLevel .estop = v at *
    have hseq : v.seq = s.seq := hk .seq (by decide)
    have hdrv : v.drv = s.drv := hk .drv (by decide)
    have hspin' : isSpinning v.drv.state = true := by rwa [hdrv]
    have hstate := stopDrive_spindown v .estop hspin' (by rw [hdrv, ho]) (by rw [hseq, hrun])
    have hkept : LinkKept s (v.stopDrive .estop) := (LinkKept.of_same (hk .disp (by decide)) (by rw [hseq])).trans (.stopDrive _ _)
    obtain ⟨hfell, hmark⟩ := hkept.frameAfter (old := v) (by
      rw [hstate, hseq]
      intro h
      simp [← h, isRunState] at hrun)
    have hlapsed := hkept.lapsed hrun (by rw [hstate]; rfl)
    have hevent : (v.stopEvent .estop).seq.state = .spindown := by simpa [State.stopEvent] using hstate
    rw [v.estopActive_spinning hspin', State.repeatStart_of_state _ (by rw [hevent]; decide), frameAfter_of_seq rfl]
    exact ⟨hevent, hmark.trans hlapsed, hfell.publish s⟩
  case ok =>
    have hk := s.pressed_kept .ok
    have hseq : (s.pressed .ok).seq = s.seq := hk .seq (by decide)
    have hseat : (s.pressed .ok).seat = s.seat := hk .seat (by decide)
    have hkey : (s.pressed .ok).seqKey .ok = (s.pressed .ok).enterSeq .exitWait := by
      rw [← State.enterExitWait_of_none _ (by rw [hseat, hseq]; exact hheld)]
      simp [State.seqKey, hseq, hq]
    have hkept : LinkKept s ((s.pressed .ok).enterSeq .exitWait) :=
      (LinkKept.of_same (hk .disp (by decide)) (by rw [hseq])).trans (.enterSeq _ _)
    obtain ⟨hfell, -⟩ := hkept.frameAfter (old := s.pressed .ok) (by rw [State.enterSeq_state, hseq, hq]; decide)
    refine ⟨_, exec_keyPressed s _ hlen hset (by simp) hl, ?_⟩
    rw [hkey]
    exact ⟨by simp, hfell.publish s⟩
  case again =>
    obtain ⟨hseq, -, -⟩ := repeated_event s (s.settleLevel i) hq hr (s.settleLevel_kept i)
    obtain ⟨hfell, hquiet⟩ := repeated_link s (s.settleLevel i) hq hr (s.settleLevel_kept i)
    rw [hseq]
    exact ⟨hq, fun hne => (hfell hne).publish s, hquiet⟩
  case discard =>
    intro s n a _ _ ht k limits above hcursor hk8 hk hcert hcompose htest ha hq
    refine discardInReview s n ht a ?_ hcursor hk ha hq
    refine State.discardRefusal_none s n (by omega) (by omega) hcert hcompose ?_
    rw [hcursor, Nat.add_sub_cancel]
    exact htest

end Sys2Proof.Machine

/-! PROOFS. LANE_RESET in every block (R24, R31, R45, R67, R93, R126, R150, R163, R180, R193, R195, R210). -/

namespace Sys2Proof.Machine

set_option Elab.async false

/-! ## The request slots (R210) -/

theorem slotByte_ne {n m a : Nat} (hn : n < 16) (hm : m < 16) (hne : n ≠ m) (h : slotByte n a) : ¬ slotByte m a := by
  unfold slotByte slotBase at *
  omega

/-- A slot that shows DONE goes on showing it beside the completion of another. -/
theorem SlotDone.beside {s t : State} {n : Nat} {o : ReqOutcome} {d : Detail} {r : List Word} (h : SlotDone s n o d r)
    (hheld : t.held n = s.held n) (hm : ∀ a, slotByte n a → Memory.readByte t.mem a = Memory.readByte s.mem a) : SlotDone t n o d r :=
  ⟨hheld.trans h.1, (h.congr (t := s.setMem t.mem) rfl hm).2⟩

/-- The first n slots of a state are reset in another: those in use are DONE with outcome RESET, and of lane memory only their bytes
differ. -/
structure SlotsReset (s t : State) (n : Nat) : Prop where
  wf : Memory.wf t.mem
  held : ∀ j, t.held j = if j < n then .free else s.held j
  done : ∀ j, j < n → s.held j ≠ .free → SlotDone t j .reset .none []
  bytes : ∀ a, (∀ j, j < n → s.held j ≠ .free → ¬ slotByte j a) → Memory.readByte t.mem a = Memory.readByte s.mem a

namespace SlotsReset

variable {s t : State} {n : Nat}

/-- A slot in use is reset (R210). -/
theorem finish (h : SlotsReset s t n) (hn : n < 16) (huse : s.held n ≠ .free) :
    SlotsReset s (t.finishSlot n .reset .none []) (n + 1) := by
  have hself : SlotDone (t.finishSlot n .reset .none []) n .reset .none [] := State.finishSlot_done t n _ _ _ h.wf
  refine ⟨State.finishSlot_wf _ _ _ _ _ h.wf, fun j => ?_, fun j hj hused => ?_, fun a ha => ?_⟩
  · by_cases hj : j = n
    · rw [hj, if_pos (Nat.lt_succ_self n)]
      exact hself.1
    · rw [State.finishSlot_held _ _ _ _ _ _ hj, h.held]
      simp only [show j < n + 1 ↔ j < n from by omega]
  · by_cases hjn : j = n
    · rw [hjn]
      exact hself
    · exact (h.done j (by omega) hused).beside (State.finishSlot_held _ _ _ _ _ _ hjn) fun a ha =>
        State.finishSlot_readByte _ _ _ _ _ _ (slotByte_ne (by omega) hn hjn ha)
  · rw [State.finishSlot_readByte _ _ _ _ _ _ (ha n (Nat.lt_succ_self n) huse)]
    exact h.bytes a fun j hj => ha j (Nat.lt_succ_of_lt hj)

/-- A free slot stays as it is (R210). -/
theorem free (h : SlotsReset s t n) (hfree : s.held n = .free) : SlotsReset s t (n + 1) := by
  refine ⟨h.wf, fun j => ?_, fun j hj hused => h.done j ?_ hused, fun a ha => h.bytes a fun j hj => ha j (Nat.lt_succ_of_lt hj)⟩
  · rw [h.held]
    by_cases hj : j = n
    · rw [hj, if_neg (Nat.lt_irrefl n), if_pos (Nat.lt_succ_self n), hfree]
    · simp only [show j < n + 1 ↔ j < n from by omega]
  · have : j ≠ n := by
      rintro rfl
      exact hused hfree
    omega

theorem step (h : SlotsReset s t n) (hn : n < 16) : SlotsReset s (t.resetSlot n) (n + 1) := by
  have hheld : t.held n = s.held n := (h.held n).trans (if_neg (Nat.lt_irrefl n))
  cases hs : s.held n with
  | free => simpa only [State.resetSlot, hheld, hs] using h.free hs
  | posted => simpa only [State.resetSlot, hheld, hs] using h.finish hn (by simp [hs])
  | active k => simpa only [State.resetSlot, hheld, hs] using h.finish hn (by simp [hs])

theorem range (hw : Memory.wf s.mem) (hn : n ≤ 16) : SlotsReset s ((List.range n).foldl State.resetSlot s) n := by
  induction n with
  | zero => exact ⟨hw, fun j => by simp, fun j hj => absurd hj (Nat.not_lt_zero j), fun _ _ => rfl⟩
  | succ n ih =>
    rw [List.range_succ, List.foldl_append]
    exact (ih (Nat.le_of_succ_le hn)).step hn

end SlotsReset

theorem resetSlots_reset (s : State) (hw : Memory.wf s.mem) : SlotsReset s s.resetSlots 16 := .range hw (Nat.le_refl 16)

/-! ## The composer (R180) -/

theorem rewriteCert_readByte (s : State) (k a : Nat) (h : ¬ certByte k a) :
    Memory.readByte (s.rewriteCert k).mem a = Memory.readByte s.mem a := by
  unfold certByte at h
  have hbase : certBase k = 0x1A40 + 1024 * k := rfl
  rw [State.rewriteCert, State.setMem_mem, Memory.readByte_writeWords _ _ _ _ (by rw [certWords_length]; omega)]

/-- The composer and its records behind a reset: a COMPOSING record is EMPTY, the others stay (R180). -/
theorem resetCerts_comp (s : State) (hlen : s.comp.records.length = 4) (htarget : ∀ c, s.comp.op = some c → c.target < 4) :
    s.resetCerts.comp.op = none ∧ (∀ c, s.comp.op = some c → s.resetCerts.cert c.target = CertRecord.cleared .empty) ∧
    (∀ k, (∀ c, s.comp.op = some c → k ≠ c.target) → s.resetCerts.cert k = s.cert k) ∧
    (∀ a, (∀ k, k < 4 → ¬ certByte k a) → Memory.readByte s.resetCerts.mem a = Memory.readByte s.mem a) := by
  have hcert (u : State) (op : Option ComposeOp) (k : Nat) : (u.setComp { u.comp with op := op }).cert k = u.cert k := rfl
  cases hop : s.comp.op with
  | none =>
    have hreset : s.resetCerts = s.setComp { s.comp with op := none } := by simp only [State.resetCerts, hop]
    rw [hreset]
    exact ⟨rfl, nofun, fun k _ => rfl, fun a _ => rfl⟩
  | some c =>
    have hc := htarget c hop
    have hcleared (k : Nat) : (s.clearCert c.target .empty).cert k = (s.setCert c.target (CertRecord.cleared .empty)).cert k := rfl
    have hreset : s.resetCerts =
        (s.clearCert c.target .empty).setComp { (s.clearCert c.target .empty).comp with op := none } := by
      simp only [State.resetCerts, hop]
    rw [hreset]
    refine ⟨rfl, fun d hd => ?_, fun k hk => ?_, fun a ha => ?_⟩
    · obtain rfl := Option.some.inj hd
      rw [hcert, hcleared, State.cert_setCert_same _ (by rw [hlen]; exact hc)]
    · rw [hcert, hcleared, State.cert_setCert_ne _ (hk c rfl)]
    · rw [State.setComp_mem, State.clearCert, rewriteCert_readByte _ _ a (ha c.target hc), State.setCert, State.setComp_mem]

/-! ## The blocks up to the links -/

/-- The state of a lane reset before its poll and its frame. -/
def State.resetBlocks (s : State) : State :=
  let s := s.resetSlots.resetCerts
  let s := (s.setJr s.jr.afterReset).setAtt s.att.afterReset
  let s := ((s.setGauge ⟨0, 0, 0⟩).setCause .laneReset).setNv s.nv.afterReset
  let s := (s.setDrv (s.drv.afterReset (s.level .estop))).setDtest none
  let s := (s.setEng s.eng.afterReset).setSeat Seating.afterReset
  let s := ((s.setTab (AxleTable.emptied s.tab.runId)).setWeigh none).setRun RunUnit.cleared
  let s := (s.setPlate s.plate.afterReset).setSeq (Sequencer.cleared .idle)
  (s.setDisp s.disp.afterReset).setPrn Printer.afterReset

theorem laneReset_eq (s : State) : s.laneReset = s.resetBlocks.sendPoll.frameDue.rewriteTable.rewriteHeader := rfl

/-- The frame of a lane reset shows IDLE, or FAILSAFE outside the power-on load (R159, R163). -/
theorem reset_message (s : State) : messageShown s.resetBlocks.sendPoll =
    if s.eng.mode = .failsafe ∧ s.eng.loading = false then 16 else 19 := by
  have hseq : s.resetBlocks.sendPoll.seq.state = .idle := by simp [State.sendPoll, State.sendWire, State.resetBlocks, Sequencer.cleared]
  have hdrv : s.resetBlocks.sendPoll.drv.state = .stopping := by
    simp [State.sendPoll, State.sendWire, State.resetBlocks, Drive.afterReset]
  have hmode : s.resetBlocks.sendPoll.eng.mode = s.eng.mode := by
    simp [State.sendPoll, State.sendWire, State.resetBlocks, Engine.afterReset]
  have hload : s.resetBlocks.sendPoll.eng.loading = s.eng.loading := by
    simp [State.sendPoll, State.sendWire, State.resetBlocks, Engine.afterReset]
  rw [← State.message_eq_shown, State.message, hseq, hdrv, hmode, hload]
  cases s.eng.loading <;> cases s.eng.mode <;> rfl

end Sys2Proof.Machine

/-! PROOFS. LANE_RESET, settled (R24, R31, R45, R67, R93, R126, R150, R163, R180, R193, R195, R210). -/

namespace Sys2Proof.Machine

set_option Elab.async false

section

variable (s : State)

/-- The poll, the frame and the images of a lane reset leave the blocks as they are. -/
theorem laneReset_blocks : KeepsAllBut [.prn, .disp, .mem] s.resetBlocks s.laneReset := by
  intro p hp
  rw [laneReset_eq]
  cases p <;> simp_all [Part.same, State.sendPoll, State.sendWire]

theorem resetBlocks_kept : KeepsAllBut [.mem, .slots, .jr, .att, .gauge, .cause, .eng, .seat, .drv, .dtest, .tab, .weigh, .run, .plate,
    .seq, .nv, .comp, .prn, .disp] s s.resetBlocks := by
  intro p hp
  cases p <;> simp_all [Part.same, State.resetBlocks]

/-- What a lane reset leaves of each block but the links, the slots and the records. -/
theorem resetBlocks_blocks : s.resetBlocks.jr = s.jr.afterReset ∧ s.resetBlocks.att = s.att.afterReset ∧
    s.resetBlocks.gauge = ⟨0, 0, 0⟩ ∧ s.resetBlocks.cause = .laneReset ∧ s.resetBlocks.eng = s.eng.afterReset ∧
    s.resetBlocks.seat = Seating.afterReset ∧ s.resetBlocks.drv = s.drv.afterReset (s.level .estop) ∧ s.resetBlocks.dtest = none ∧
    s.resetBlocks.tab = AxleTable.emptied s.tab.runId ∧ s.resetBlocks.weigh = none ∧ s.resetBlocks.run = RunUnit.cleared ∧
    s.resetBlocks.plate = s.plate.afterReset ∧ s.resetBlocks.seq = Sequencer.cleared .idle ∧ s.resetBlocks.nv = s.nv.afterReset := by
  have hlevel : s.resetSlots.resetCerts.level .estop = s.level .estop := level_of_inputs (by simp) .estop
  refine ⟨?_, ?_, ?_, ?_, ?_, ?_, ?_, ?_, ?_, ?_, ?_, ?_, ?_, ?_⟩ <;> simp [State.resetBlocks]
  rw [← hlevel]
  exact congrArg _ (level_of_inputs (by simp) .estop)

theorem resetBlocks_comp : s.resetBlocks.comp = s.resetSlots.resetCerts.comp ∧ s.resetBlocks.slots = s.resetSlots.slots := by
  constructor <;> simp [State.resetBlocks]

/-! ## The links (R163, R193) -/

/-- The printer link starts again with a poll (R193). -/
theorem laneReset_prn : s.laneReset.prn = ⟨[], .offline, some (.poll (printerFrame 0 [])), false, [], 0, 0, 0, none, false,
    some (s.clk.ms + 2000), none⟩ := by
  have hprn : s.resetBlocks.prn = Printer.afterReset := by simp [State.resetBlocks]
  have hclk : s.resetBlocks.clk = s.clk := resetBlocks_kept s .clk (by decide)
  have hpoll : s.laneReset.prn = s.resetBlocks.sendPoll.prn := by simp [laneReset_eq]
  rw [hpoll]
  simp [State.sendPoll, State.sendWire, hprn, Printer.afterReset, State.timerIn, hclk, pollPeriod]

theorem frameShown_message (s : State) : (frameShown s).message = messageShown s := rfl

/-- The display link gives up its waiting frame and composes one of the reset (R163). -/
theorem laneReset_disp :
    let message := if s.eng.mode = .failsafe ∧ s.eng.loading = false then 16 else 19
    s.laneReset.disp.repeatMark = none ∧ s.laneReset.disp.refresh = some (s.clk.ms + 1000) ∧
    (s.disp.sending = none → s.laneReset.disp.waiting = none ∧ ∃ f, s.laneReset.disp.sending = some f ∧
      s.laneReset.disp.lastMessage = f.message ∧ f.message = message) ∧
    (∀ f, s.disp.sending = some f → s.laneReset.disp.sending = some f ∧ s.laneReset.disp.lastMessage = s.disp.lastMessage ∧
      ∃ g, s.laneReset.disp.waiting = some g ∧ g.message = message) := by
  intro message
  have hdisp : s.laneReset.disp = s.resetBlocks.sendPoll.frameDue.disp := by
    rw [laneReset_eq]
    simp
  have hlink : s.resetBlocks.sendPoll.disp = s.disp.afterReset := by simp [State.sendPoll, State.sendWire, State.resetBlocks]
  have hclk : s.resetBlocks.sendPoll.clk = s.clk := by simp [State.sendPoll, State.sendWire, State.resetBlocks]
  have hdrv : s.resetBlocks.sendPoll.drv.state = .stopping := by
    simp [State.sendPoll, State.sendWire, State.resetBlocks, Drive.afterReset]
  have hmessage : messageShown s.resetBlocks.sendPoll = message := reset_message s
  rw [hdisp]
  generalize s.resetBlocks.sendPoll = u at *
  have hshown : (frameShown u.frameDue).message = message := by rw [frameShown_frameDue, frameShown_message, hmessage]
  obtain ⟨hidle, hbusy, hrefresh⟩ := u.frameDue_fell
  rw [hlink] at hidle hbusy
  have hmark := frameDue_repeatMark u
  rw [hlink] at hmark
  refine ⟨hmark, ?_, fun hs => ?_, fun f hs => ?_⟩
  · have hclk' : u.frameDue.clk = u.clk := by simp
    have hdrv' : u.frameDue.drv = u.drv := by simp
    rw [hrefresh, hclk', hdrv', hclk, hdrv]
    rfl
  · obtain ⟨hsending, hwaiting, hlast⟩ := hidle hs
    exact ⟨hwaiting, _, hsending, hlast, hshown⟩
  · obtain ⟨hsending, hwaiting, hlast⟩ := hbusy f hs
    exact ⟨hsending, hlast, _, hwaiting, hshown⟩

/-! ## Lane memory (R196, R210) -/

/-- Of lane memory a lane reset writes the images and the slots in use (R196, R210). -/
theorem laneReset_readByte (hlen : s.comp.records.length = 4) (htarget : ∀ c, s.comp.op = some c → c.target < 4) (a : Nat)
    (himage : ¬ imageByte a) : Memory.readByte s.laneReset.mem a = Memory.readByte s.resetSlots.mem a := by
  have hheader : ¬ headerByte a := fun h => himage (.inl h)
  have htable : ¬ tableByte a := fun h => himage (.inr (.inl h))
  have hcert (k : Nat) (hk : k < 4) : ¬ certByte k a := fun h => himage (.inr (.inr ⟨k, hk, h⟩))
  have hcomp : s.resetSlots.comp = s.comp := by simp
  obtain ⟨-, -, -, hbytes⟩ := resetCerts_comp s.resetSlots (by rw [hcomp, hlen]) (by rw [hcomp]; exact htarget)
  unfold headerByte at hheader
  unfold tableByte at htable
  rw [State.laneReset_mem, Memory.readByte_writeWord _ _ _ _ (by omega),
    Memory.readByte_writeWords _ _ _ _ (by rw [headerWords_length]; omega),
    Memory.readByte_writeWords _ _ _ _ (by rw [tableWords_length]; omega)]
  exact hbytes a hcert

end

/-- Settles O24: the slots one by one, the composer's record, the blocks, and the links with their poll and their frame. -/
theorem laneResetRestartsEveryBlock : Obligations.LaneResetRestartsEveryBlock := by
  unfold Obligations.LaneResetRestartsEveryBlock
  intro s hslots hrecords htarget hw
  have hreset := resetSlots_reset s hw
  have hblocks := laneReset_blocks s
  have hcomp : s.resetSlots.comp = s.comp := by simp
  obtain ⟨hop, hcleared, hothers, -⟩ := resetCerts_comp s.resetSlots (by rw [hcomp, hrecords]) (by rw [hcomp]; exact htarget)
  rw [hcomp] at hcleared hothers
  have hcert (k : Nat) : s.resetSlots.cert k = s.cert k := by simp [State.cert]
  have hbytes (a : Nat) (ha : ¬ imageByte a) :
      Memory.readByte (publish s s.laneReset).mem a = Memory.readByte s.resetSlots.mem a :=
    (publish_readByte s s.laneReset a ha).trans (laneReset_readByte s hrecords htarget a ha)
  have hdisp := laneReset_disp s
  have hprn := laneReset_prn s
  have hpdisp : (publish s s.laneReset).disp = s.laneReset.disp := by simp
  have hpprn : (publish s s.laneReset).prn = s.laneReset.prn := by simp
  rw [← hpdisp] at hdisp
  rw [← hpprn] at hprn
  have hkeep : KeepsAllBut [.prn, .disp, .mem] s.resetBlocks (publish s s.laneReset) := hblocks.publish (by decide) s
  refine ⟨_, rfl, ?_⟩
  generalize publish s s.laneReset = t at *
  obtain ⟨hjr, hatt, hgauge, hcause, heng, hseat, hdrv, hdtest, htab, hweigh, hrun, hplate, hseq, hnv⟩ := resetBlocks_blocks s
  obtain ⟨hcomps, hslotss⟩ := resetBlocks_comp s
  have htcomp : t.comp = s.resetSlots.resetCerts.comp := (hkeep .comp (by decide)).trans hcomps
  have hheld (n : Nat) : t.held n = s.resetSlots.held n := by
    rw [State.held, State.held, hkeep .slots (by decide), hslotss]
  have htcert (k : Nat) : t.cert k = s.resetSlots.resetCerts.cert k := by rw [State.cert, State.cert, htcomp]
  have htnv : t.nv = s.nv.afterReset := (hkeep .nv (by decide)).trans hnv
  have hfree (n : Nat) (hn : ¬ n < 16) : s.held n = .free := by
    rw [State.held, List.getD_eq_default _ _ (by omega)]
  obtain ⟨hmark, hrefresh, hidle, hbusy⟩ := hdisp
  refine ⟨fun n => ?_, fun n hn huse => ?_, (hkeep .jr (by decide)).trans hjr, (hkeep .att (by decide)).trans hatt,
    (hkeep .gauge (by decide)).trans hgauge, (hkeep .time (by decide)).trans (resetBlocks_kept s .time (by decide)),
    (hkeep .cause (by decide)).trans hcause, (hkeep .eng (by decide)).trans heng, (hkeep .seat (by decide)).trans hseat,
    (hkeep .drv (by decide)).trans hdrv, (hkeep .dtest (by decide)).trans hdtest, (hkeep .tab (by decide)).trans htab,
    (hkeep .weigh (by decide)).trans hweigh, (hkeep .run (by decide)).trans hrun, (hkeep .plate (by decide)).trans hplate,
    (hkeep .seq (by decide)).trans hseq, by rw [htnv]; rfl, by rw [htnv]; rfl, fun v hv => ?_, fun ch z g hv => ?_, fun hv => ?_,
    fun k hv => ?_, by rw [htcomp]; exact hop, by rw [htcomp, State.resetCerts_lastIssued, hcomp],
    fun c hc => (htcert _).trans (hcleared c hc), fun k hk => (htcert k).trans ((hothers k hk).trans (hcert k)), hprn, hmark, hrefresh,
    hidle, hbusy, ((resetBlocks_kept s).trans (hkeep.mono (by decide))), fun a ha => ?_⟩
  · rw [hheld, hreset.held]
    split
    next => rfl
    next hn => exact hfree n hn
  · exact (hreset.done n hn huse).beside (hheld n) fun a ha => hbytes a (slotByte_not_image n a ha)
  · simp [htnv, Nv.afterReset, hv, NvOp.afterReset]
  · simp [htnv, Nv.afterReset, hv, NvOp.afterReset]
  · simp [htnv, Nv.afterReset, hv, NvOp.afterReset]
  · simp [htnv, Nv.afterReset, hv, NvOp.afterReset]
  · rw [hbytes a fun himage => ?image]
    · exact hreset.bytes a fun j hj huse hslot => ha (.inr (.inr (.inr ⟨j, hj, huse, hslot⟩)))
    case image =>
      rcases himage with h | h | h
      · exact ha (.inl h)
      · exact ha (.inr (.inl h))
      · exact ha (.inr (.inr (.inl h)))

end Sys2Proof.Machine
